-- ==== Sys2Proof/Word.lean ====
section
/-! DEFINITION. The byte and half-word types of the window, the air frame and the calibration port. -/

namespace Sys2Proof

/-- A byte of the window (R157), of an air frame (R127) or of the calibration address space (R181). -/
abbrev Byte := BitVec 8

/-- A 16-bit word of the host bus (R157) or a 16-bit register (R142, R171). -/
abbrev Word16 := BitVec 16

end Sys2Proof
end

