-- ==== Sys2Proof/Syntax.lean ====
section
/-! DEFINITION. The commands of the block: one constructor of `Instr` for each row of spec/opcode_table.json, with
the operands that the outside world supplies (log entry 2 says how each operand was chosen). -/

namespace Sys2Proof

/-- The five meter key lines (R25). -/
inductive MeterKey where
  | hire | stop | pay | clear | extra
  deriving DecidableEq, Repr

/-- A complete downlink frame after its sync word, as the receiver gathered it (R127). The kind byte is named by the
command that carries the frame and the length byte is the length of the body. -/
structure RxFrame where
  fleet    : Word16
  address  : Word16
  sequence : Byte
  body     : List Byte
  crc      : Word16
  deriving DecidableEq, Repr

/-- The commands and events of the TD440. A request command (setClock, meterKey, …) is the take of the record at
the head of the posted-order list (R164), so its parameters stand in that record and it carries no operand. -/
inductive Instr where
  /-- PULSE_EDGE -/
  | pulseEdge
  /-- METER_SECOND_EXPIRY -/
  | meterSecondExpiry
  /-- CALENDAR_SECOND_EXPIRY -/
  | calendarSecondExpiry
  /-- SET_CLOCK -/
  | setClock
  /-- TIME -/
  | time (frame : RxFrame)
  /-- KEY_PRESS: the key whose debounced press was recognised -/
  | keyPress (key : MeterKey)
  /-- METER_KEY -/
  | meterKey
  /-- ADD_EXTRA -/
  | addExtra
  /-- SELECT_TARIFF -/
  | selectTariff
  /-- PAYMENT_HOLD_EXPIRY -/
  | paymentHoldExpiry
  /-- SHIFT_OPEN -/
  | shiftOpen
  /-- SHIFT_CLOSE -/
  | shiftClose
  /-- RELEASE_TRIP -/
  | releaseTrip
  /-- STORE_WRITE_BEGIN -/
  | storeWriteBegin
  /-- METER_COMMIT_COMPLETE -/
  | meterCommitComplete
  /-- CALIBRATION_WRITE_COMPLETE -/
  | calibrationWriteComplete
  /-- TARIFF_WRITE_COMPLETE -/
  | tariffWriteComplete
  /-- SETTINGS_WRITE_COMPLETE -/
  | settingsWriteComplete
  /-- STORE_WRITE_FAILED -/
  | storeWriteFailed
  /-- POSITION_FIX_POST -/
  | positionFixPost
  /-- SET_BREAK -/
  | setBreak
  /-- SET_AVAILABLE -/
  | setAvailable
  /-- NO_SHOW -/
  | noShow
  /-- ZONE_INFO -/
  | zoneInfo (frame : RxFrame)
  /-- POLL -/
  | poll (frame : RxFrame)
  /-- OFFER -/
  | offer (frame : RxFrame)
  /-- OFFER_WINDOW_EXPIRY -/
  | offerWindowExpiry (entry : Fin 8)
  /-- ACCEPT_OFFER -/
  | acceptOffer
  /-- DECLINE_OFFER -/
  | declineOffer
  /-- RELEASE_OFFER -/
  | releaseOffer
  /-- AWARD_WAIT_EXPIRY -/
  | awardWaitExpiry (entry : Fin 8)
  /-- AWARD -/
  | award (frame : RxFrame)
  /-- WITHDRAW -/
  | withdraw (frame : RxFrame)
  /-- TEXT -/
  | text (frame : RxFrame)
  /-- SEND_TEXT -/
  | sendText
  /-- REPLY -/
  | reply
  /-- MARK_READ -/
  | markRead
  /-- DELETE_MSG -/
  | deleteMsg
  /-- ALARM_PRESS: whether the level at which the ALARM line has stood for 0.5 s is the high one. A command
  written without a level means the low one, the active level of R108's default setting (log entry 46). -/
  | alarmPress (high : Bool := false)
  /-- EMERGENCY_RAISE -/
  | emergencyRaise
  /-- EMERGENCY_CANCEL -/
  | emergencyCancel
  /-- UPDATE_TIMER_EXPIRY -/
  | updateTimerExpiry
  /-- EMERGENCY_ACK -/
  | emergencyAck (frame : RxFrame)
  /-- EMERGENCY_CLEAR -/
  | emergencyClear (frame : RxFrame)
  /-- RX_FRAME_ABANDON -/
  | rxFrameAbandon
  /-- CYCLE_FRAME: the frame and the level of MODEM_READY at its arrival -/
  | cycleFrame (frame : RxFrame) (modemReady : Bool)
  /-- SLOT_START: the slot number and the level of MODEM_READY at the slot's start -/
  | slotStart (slot : Nat) (modemReady : Bool)
  /-- TRANSMISSION_END -/
  | transmissionEnd
  /-- MODEM_READY_FALL -/
  | modemReadyFall
  /-- TXC_STALL -/
  | txcStall
  /-- FADE_EXPIRY -/
  | fadeExpiry
  /-- LOSS_EXPIRY -/
  | lossExpiry
  /-- RADIO_RESTART -/
  | radioRestart
  /-- HOST_WINDOW_WRITE: HA[13:1], HD[15:0] and the two byte-lane selects -/
  | hostWindowWrite (wordAddress : BitVec 13) (data : Word16) (low high : Bool)
  /-- REQUEST_POST -/
  | requestPost (record : Fin 16)
  /-- REQUEST_CANCEL -/
  | requestCancel (record : Fin 16)
  /-- UNKNOWN_KIND -/
  | unknownKind
  /-- PORT_RESET -/
  | portReset
  /-- ATTEND_READ -/
  | attendRead
  /-- DONE_WRITE: the word written -/
  | doneWrite (data : Word16)
  /-- CAL_RUN_START: the 7-bit address after a start or repeated start, and whether the transaction is a read -/
  | calRunStart (address : BitVec 7) (read : Bool)
  /-- CAL_POINTER_WRITE -/
  | calPointerWrite (byte : Byte)
  /-- CAL_DATA_WRITE: the byte and the level of CAL_ENABLE at its arrival -/
  | calDataWrite (byte : Byte) (calEnable : Bool)
  /-- CAL_DATA_READ: whether the tool acknowledges the byte -/
  | calDataRead (acknowledged : Bool)
  /-- CAL_STOP: the level of CAL_ENABLE at the stop -/
  | calStop (calEnable : Bool)
  /-- CAL_BUS_IDLE_TIMEOUT: the level of CAL_ENABLE at the time-out -/
  | calBusIdleTimeout (calEnable : Bool)
  /-- STORE_TARIFFS -/
  | storeTariffs
  /-- STORE_SETTINGS -/
  | storeSettings
  /-- POWER_LOSS -/
  | powerLoss
  /-- RESET_N_ASSERT -/
  | resetNAssert
  /-- START_UP -/
  | startUp
  /-- STARTUP_WINDOW -/
  | startupWindow
  /-- STARTUP_RECOVERY -/
  | startupRecovery
  /-- STARTUP_RADIO -/
  | startupRadio
  /-- STARTUP_READY -/
  | startupReady
  /-- SYNC_FOUND: the last 24 bits received, the first of them the most significant -/
  | syncFound (bits : BitVec 24)
  /-- RX_LENGTH_FORMAT_ERROR: the completed length byte -/
  | rxLengthFormatError (length : Byte)
  /-- RX_FRAME_DROPPED: the kind byte and the rest of the frame -/
  | rxFrameDropped (kind : Byte) (frame : RxFrame)
  /-- OFFER_REMAINING_REWRITE -/
  | offerRemainingRewrite (entry : Fin 8)
  deriving DecidableEq, Repr

end Sys2Proof
end

