-- ==== Sys2Proof/Machine/Bytes.lean ====
section
/-! DEFINITION. Byte-order helpers (00_scope Conventions, R124), saturating counts, clamping at use and the CRC of
R127. -/

namespace Sys2Proof.Machine

/-- The largest value of an unsigned 16-bit count. -/
def u16Max : Nat := 65535

/-- The largest value of an unsigned 32-bit count. -/
def u32Max : Nat := 4294967295

/-- A count raised by `b` that stays at its bound (R1, R3, R43, R128, R143). -/
def satAdd (bound a b : Nat) : Nat := min bound (a + b)

/-- A setting clamped at use: read as the nearest bound of its range (00_scope Conventions). -/
def clamp (lo hi x : Nat) : Nat := max lo (min x hi)

/-- The low byte of a number. -/
def byteOf (n : Nat) : Byte := BitVec.ofNat 8 n

/-- One byte of a flag field. -/
def flagByte (b : Bool) : Byte := if b then 1#8 else 0#8

/-- `n` bytes of a number, the less significant first: the order of the window (00_scope, Byte order). -/
def littleEndian : Nat → Nat → List Byte
  | 0, _ => []
  | n + 1, x => byteOf x :: littleEndian n (x / 256)

/-- The number whose bytes are given, the less significant first. -/
def fromLittleEndian : List Byte → Nat
  | [] => 0
  | b :: bs => b.toNat + 256 * fromLittleEndian bs

/-- The number whose bytes are given, the high byte first: the order of the air link (R124). -/
def fromBigEndian (bs : List Byte) : Nat := bs.foldl (fun n b => 256 * n + b.toNat) 0

/-- Two bytes of a number, the high byte first (R124). -/
def bigEndian16 (n : Nat) : List Byte := [byteOf (n / 256), byteOf n]

/-- A 32-bit two's complement number (latitude and longitude, R55) from its unsigned reading. -/
def signed32 (n : Nat) : Int := (BitVec.ofNat 32 n).toInt

/-- One bit of the CRC of R127: polynomial x^16 + x^12 + x^5 + 1, most significant bit first. -/
def crcBit (c : Word16) : Word16 := if c.msb then (c <<< 1) ^^^ 0x1021#16 else c <<< 1

/-- One byte of the CRC of R127, its bits most significant first. -/
def crcByte (c : Word16) (b : Byte) : Word16 :=
  crcBit (crcBit (crcBit (crcBit (crcBit (crcBit (crcBit (crcBit (c ^^^ (b.setWidth 16 <<< 8)))))))))

/-- The CRC of R127: initial value 0xFFFF, result not inverted. -/
def crc16 (bs : List Byte) : Word16 := bs.foldl crcByte 0xFFFF#16

end Sys2Proof.Machine
end

