-- ==== Sys2Proof/Machine/Types.lean ====
section
/-! DEFINITION. The names and records the spec gives the blocks, with the codes it gives them. -/

namespace Sys2Proof.Machine

/-- The meter state (R24). -/
inductive MeterState where
  | off | vacant | hired | stopped | payment
  deriving DecidableEq, Repr

/-- The one-byte code of R24. -/
def MeterState.code : MeterState → Nat
  | .off => 0 | .vacant => 1 | .hired => 2 | .stopped => 3 | .payment => 4

/-- A trip is open while the state is HIRED, STOPPED or PAYMENT (R24). -/
def MeterState.tripOpen : MeterState → Bool
  | .hired | .stopped | .payment => true
  | .off | .vacant => false

/-- The dispatch status (R48). -/
inductive DispatchStatus where
  | offDuty | available | onBreak | bidding | assigned | hired
  deriving DecidableEq, Repr

/-- The one-byte code of R48. -/
def DispatchStatus.code : DispatchStatus → Nat
  | .offDuty => 0 | .available => 1 | .onBreak => 2 | .bidding => 3 | .assigned => 4 | .hired => 5

/-- The held status reason (R54). -/
inductive StatusReason where
  | change | noShow | zone | startup
  deriving DecidableEq, Repr

/-- The code of R54. -/
def StatusReason.code : StatusReason → Nat
  | .change => 0 | .noShow => 1 | .zone => 2 | .startup => 3

/-- The link state (section 7.6). -/
inductive LinkState where
  | hunt | up | fading | lost
  deriving DecidableEq, Repr

/-- The one-byte code of section 7.6. -/
def LinkState.code : LinkState → Nat
  | .hunt => 0 | .up => 1 | .fading => 2 | .lost => 3

/-- The emergency state (R106). -/
inductive EmergencyState where
  | quiet | alerting | acked | cancelling
  deriving DecidableEq, Repr

/-- The code of R106. -/
def EmergencyState.code : EmergencyState → Nat
  | .quiet => 0 | .alerting => 1 | .acked => 2 | .cancelling => 3

/-- The two kinds of emergency-class frame (section 6.3). -/
inductive EmergencyKind where
  | alert | cancel
  deriving DecidableEq, Repr

/-- The send state of a trip record and the shift report state (R38, R43). -/
inductive SendState where
  | notReported | unsent | queued | sent
  deriving DecidableEq, Repr

/-- The code of R38. -/
def SendState.code : SendState → Nat
  | .notReported => 0 | .unsent => 1 | .queued => 2 | .sent => 3

/-- The receiver: not yet hunting (before start-up stage 4, R125), HUNTING or COLLECTING (section 7.2). -/
inductive ReceiverState where
  | idle | hunting | collecting
  deriving DecidableEq, Repr

/-- A calendar stamp (R158). -/
structure Stamp where
  year    : Nat
  month   : Nat
  day     : Nat
  seconds : Nat
  deriving DecidableEq, Repr, Inhabited

/-- The stamp whose bytes are all zero. -/
def Stamp.zero : Stamp := ⟨0, 0, 0, 0⟩

/-- The eight bytes of a calendar stamp (R158). -/
def Stamp.bytes (t : Stamp) : List Byte :=
  littleEndian 2 t.year ++ [byteOf t.month, byteOf t.day] ++ littleEndian 4 t.seconds

/-- A tariff as copied into the tariff in force (R6). The mode is the byte of the record: 0 SINGLE, 1 DOUBLE. -/
structure Tariff where
  number       : Nat
  flagFare     : Nat
  allowance    : Nat
  distanceRate : Nat
  timeRate     : Nat
  dropValue    : Nat
  mode         : Byte
  name         : List Byte
  deriving DecidableEq, Repr

/-- The tariff of all zeros. -/
def Tariff.zero : Tariff := ⟨0, 0, 0, 0, 0, 0, 0#8, List.replicate 8 0#8⟩

/-- What the fare computer holds for the hire in progress or the last hire (sections 1.1 and 1.3, R10). The
accumulator is a signed integer of 56 bits (R9); it is held exactly (log entry 8). -/
structure Hire where
  tariff          : Tariff
  accumulator     : Int
  dropCount       : Nat
  fare            : Nat
  hiredPulses     : Nat
  unpaidPulses    : Nat
  discardedPulses : Nat
  hiredSeconds    : Nat
  stoppedSeconds  : Nat
  switchCount     : Nat
  startingTariff  : Nat
  fareLimit       : Bool
  pulsesDiscarded : Bool
  deriving DecidableEq, Repr

/-- The values of R15 after a checkpoint without an open trip, under a given tariff. R15 names the accumulator, the drop
count, the fare and the trip counters; the switch count, the starting tariff and the two flags are 0 by the model's choice
(log entry 44). -/
def Hire.zero (t : Tariff) : Hire := ⟨t, 0, 0, 0, 0, 0, 0, 0, 0, 0, 0, false, false⟩

/-- The fare group of the directory as it was last rewritten (R16, R158). -/
structure FareGroup where
  number       : Nat
  mode         : Byte
  name         : List Byte
  fare         : Nat
  extras       : Nat
  total        : Nat
  hiredMetres  : Nat
  hiredSeconds : Nat
  deriving DecidableEq, Repr

/-- What the meter controller holds for the open trip (R29, R33). -/
structure Trip where
  extraCounts      : Vector Nat 8
  extrasSum        : Nat
  startTime        : Stamp
  endTime          : Stamp
  startZone        : Nat
  fromOffer        : Bool
  offerNumber      : Nat
  powerInterrupted : Bool
  deriving DecidableEq, Repr

/-- No trip. -/
def Trip.zero : Trip := ⟨Vector.replicate 8 0, 0, .zero, .zero, 0, false, 0, false⟩

/-- A trip record (R38). -/
structure TripRecord where
  written          : Bool
  sendState        : SendState
  powerInterrupted : Bool
  fareLimit        : Bool
  pulsesDiscarded  : Bool
  fromOffer        : Bool
  released         : Bool
  startingTariff   : Nat
  tripNumber       : Nat
  driver           : Nat
  offerNumber      : Nat
  switchCount      : Nat
  startZone        : Nat
  endZone          : Nat
  startTime        : Stamp
  endTime          : Stamp
  hiredMetres      : Nat
  unpaidMetres     : Nat
  hiredSeconds     : Nat
  stoppedSeconds   : Nat
  fare             : Nat
  extras           : Nat
  total            : Nat
  drops            : Nat
  discardedPulses  : Nat
  deriving DecidableEq, Repr

/-- An EMPTY entry: every other field is zero (R38). -/
def TripRecord.empty : TripRecord :=
  ⟨false, .notReported, false, false, false, false, false, 0, 0, 0, 0, 0, 0, 0, .zero, .zero,
   0, 0, 0, 0, 0, 0, 0, 0, 0⟩

/-- The nine totals kept for the shift, the last shift and the lifetime (R43). -/
structure Totals where
  trips              : Nat
  hiredMetres        : Nat
  unpaidMetres       : Nat
  totalMetres        : Nat
  hiredSeconds       : Nat
  fareSum            : Nat
  extrasSum          : Nat
  powerInterruptions : Nat
  tripOverwrites     : Nat
  deriving DecidableEq, Repr

/-- A part as delivered holds all totals at zero (R43). -/
def Totals.zero : Totals := ⟨0, 0, 0, 0, 0, 0, 0, 0, 0⟩

/-- The shift group, the three sets of totals and the lifetime metres base: what the totals mirror shows (R43). -/
structure TotalsGroup where
  shiftOpen     : Bool
  driver        : Nat
  openTime      : Stamp
  shift         : Totals
  reportState   : SendState
  lastDriver    : Nat
  lastOpenTime  : Stamp
  lastCloseTime : Stamp
  last          : Totals
  lifetime      : Totals
  shifts        : Nat
  metresBase    : Nat
  deriving DecidableEq, Repr

/-- The group of a store that holds no completed meter commit (R47). -/
def TotalsGroup.zero : TotalsGroup :=
  ⟨false, 0, .zero, .zero, .notReported, 0, .zero, .zero, .zero, .zero, 0, 0⟩

/-- The checkpoint (R45); its shift-open flag, driver number and shift open time stand in the totals group of the same
meter commit. -/
structure Checkpoint where
  meter          : MeterState
  hire           : Hire
  shiftPulses    : Nat
  trip           : Trip
  emergency      : EmergencyState
  emergencyCount : Nat
  deriving DecidableEq, Repr

/-- What a meter commit carries (section 2.8). -/
structure MeterCommit where
  checkpoint : Checkpoint
  totals     : TotalsGroup
  tripLog    : Vector TripRecord 24
  ageOrder   : List (Fin 24)
  deriving DecidableEq, Repr

/-- A position fix (R55). -/
structure Fix where
  latitude  : Int
  longitude : Int
  heading   : Nat
  speed     : Nat
  zone      : Nat
  time      : Stamp
  deriving DecidableEq, Repr

/-- The state of an offer entry (R62). -/
inductive OfferState where
  | empty | open | bidQueued | bidSent | awarded | lost | expired | withdrawn | declined
  deriving DecidableEq, Repr

/-- The code of R62. -/
def OfferState.code : OfferState → Nat
  | .empty => 0 | .open => 1 | .bidQueued => 2 | .bidSent => 3 | .awarded => 4
  | .lost => 5 | .expired => 6 | .withdrawn => 7 | .declined => 8

/-- BID_QUEUED or BID_SENT. -/
def OfferState.bidding : OfferState → Bool
  | .bidQueued | .bidSent => true
  | .empty | .open | .awarded | .lost | .expired | .withdrawn | .declined => false

/-- Why an entry became LOST or WITHDRAWN (R61). -/
inductive OfferReason where
  | none | noAck | noAward | link | hired | emergency | base | otherCab
  deriving DecidableEq, Repr

/-- The code of R61. -/
def OfferReason.code : OfferReason → Nat
  | .none => 0 | .noAck => 1 | .noAward => 2 | .link => 3 | .hired => 4 | .emergency => 5 | .base => 6 | .otherCab => 7

/-- Where an entry's BID frame stands (R61, section 4.4). -/
inductive BidFrame where
  | none | queued | transmitted
  deriving DecidableEq, Repr

/-- The code of R61. -/
def BidFrame.code : BidFrame → Nat
  | .none => 0 | .queued => 1 | .transmitted => 2

/-- An offer entry (R61). A first block of 0xFF stands for none. -/
structure OfferEntry where
  state           : OfferState
  reason          : OfferReason
  number          : Nat
  zone            : Nat
  targeted        : Bool
  account         : Bool
  largeVehicle    : Bool
  detailsDropped  : Bool
  windowRemaining : Nat
  awardRemaining  : Nat
  detailsLength   : Nat
  firstBlock      : Nat
  blockCount      : Nat
  timeStored      : Stamp
  bidFrame        : BidFrame
  refusePending   : Bool
  deriving DecidableEq, Repr

/-- An EMPTY entry: 0 in every field but the first block (R61). -/
def OfferEntry.empty : OfferEntry :=
  ⟨.empty, .none, 0, 0, false, false, false, false, 0, 0, 0, 255, 0, .zero, .none, false⟩

/-- The refuse reasons (R80). -/
inductive RefuseReason where
  | noOffer | hired | emergency | busy | unavailable | declined | withdrawn
  deriving DecidableEq, Repr

/-- The code of R80. -/
def RefuseReason.code : RefuseReason → Nat
  | .noOffer => 0 | .hired => 1 | .emergency => 2 | .busy => 3 | .unavailable => 4 | .declined => 5 | .withdrawn => 6

/-- The state of an inbox entry (R92). -/
inductive InboxState where
  | empty | new | read | replying | replied
  deriving DecidableEq, Repr

/-- The code of R92. -/
def InboxState.code : InboxState → Nat
  | .empty => 0 | .new => 1 | .read => 2 | .replying => 3 | .replied => 4

/-- The class of a message (R92). -/
inductive MessageClass where
  | routine | priority | emergency
  deriving DecidableEq, Repr

/-- The code of R92. -/
def MessageClass.code : MessageClass → Nat
  | .routine => 0 | .priority => 1 | .emergency => 2

/-- The part code of a TEXT frame (R93, R130). -/
inductive PartCode where
  | only | first | second
  deriving DecidableEq, Repr

/-- An inbox entry (R92). A first block of 0xFF stands for none. -/
structure InboxEntry where
  state      : InboxState
  cls        : MessageClass
  broadcast  : Bool
  truncated  : Bool
  awaiting   : Bool
  number     : Nat
  sender     : Nat
  timeStored : Stamp
  length     : Nat
  firstBlock : Nat
  blockCount : Nat
  deriving DecidableEq, Repr

/-- An EMPTY entry: 0 in every field but the first block (R92). -/
def InboxEntry.empty : InboxEntry := ⟨.empty, .routine, false, false, false, 0, 0, .zero, 0, 255, 0⟩

/-- The ten uplink kinds (R141). -/
inductive UplinkKind where
  | bid | refuse | status | pollReply | text | receipt | trip | shift | emergency | emergencyCancel
  deriving DecidableEq, Repr

/-- The uplink kind code (R141). -/
def UplinkKind.code : UplinkKind → Nat
  | .bid => 0x90 | .refuse => 0x91 | .status => 0xA0 | .pollReply => 0xA1 | .text => 0xB0 | .receipt => 0xB1
  | .trip => 0xC0 | .shift => 0xC1 | .emergency => 0xD0 | .emergencyCancel => 0xD1

/-- The urgency class (R143): 0 EMERGENCY, 1 CONTROL, 2 RECORD, 3 TEXT. -/
def UplinkKind.cls : UplinkKind → Nat
  | .emergency | .emergencyCancel => 0
  | .bid | .refuse | .status | .pollReply | .receipt => 1
  | .trip | .shift => 2
  | .text => 3

/-- The last position fix as a frame body carries it (R56). -/
structure FixReport where
  latitude  : Int
  longitude : Int
  heading   : Nat
  speed     : Nat
  time      : Stamp
  age       : Nat
  stale     : Bool
  deriving DecidableEq, Repr

/-- The body of an uplink frame, with the fields its rule lists. -/
inductive UplinkBody where
  /-- R71 -/
  | bid (offer zone : Nat) (zoneKnown : Bool) (time : Stamp)
  /-- R80 -/
  | refuse (offer : Nat) (reason : RefuseReason)
  /-- R54 -/
  | status (status : DispatchStatus) (reason : StatusReason) (zone : Nat) (zoneKnown : Bool) (queuePosition : Nat)
      (meter : MeterState) (fix : FixReport)
  /-- R60 -/
  | pollReply (reference : Byte) (status : DispatchStatus) (zone : Nat) (zoneKnown : Bool) (meter : MeterState)
      (fare extras : Nat) (fix : FixReport)
  /-- section 5.3 -/
  | text (destination reference canned : Nat) (text : List Byte)
  /-- R99 -/
  | receipt (number sender : Nat) (stored truncated : Bool)
  /-- R38, section 2.6 -/
  | trip (record : TripRecord)
  /-- R36 -/
  | shift (driver : Nat) (openTime closeTime : Stamp) (totals : Totals)
  /-- R113 -/
  | emergency (state : EmergencyState) (count presses : Nat) (duress : Bool) (fix : FixReport) (zone : Nat)
      (zoneKnown : Bool) (status : DispatchStatus) (meter : MeterState) (fare : Nat)
  /-- R113 -/
  | emergencyCancel (count : Nat) (time : Stamp) (wrongCodes : Nat)
  deriving DecidableEq, Repr

/-- How a queued frame holds its body (R143). -/
inductive FrameBody where
  | fixed (body : UplinkBody)
  | live
  | fromTripRecord
  deriving DecidableEq, Repr

/-- An origin of a queued frame (R143). An offer entry is named with the offer number of the frame, by which R76
judges the outcome. -/
inductive Origin where
  | record (r : Fin 16)
  | offer (entry : Fin 8) (number : Nat)
  | inbox (entry : Fin 24)
  | trip (entry : Fin 24)
  | lastShift
  | emergency
  | dispatch
  | receipts
  | refusals
  deriving DecidableEq, Repr

/-- An origin and whether it is detached (R147). -/
structure OriginLink where
  origin   : Origin
  detached : Bool
  deriving DecidableEq, Repr

/-- An entry of the transmit queue (R143). -/
structure Frame where
  kind         : UplinkKind
  origins      : List OriginLink
  body         : FrameBody
  sequence     : Option Nat
  attempts     : Nat
  backoff      : Nat
  sendingCycle : Nat
  inFlight     : Bool
  deriving DecidableEq, Repr

/-- The reason of a FAILED outcome (R156). -/
inductive FailReason where
  | noAck | link | displaced | queueFull | reset
  deriving DecidableEq, Repr

/-- The reason code of R170. -/
def FailReason.code : FailReason → Nat
  | .noAck => 1 | .link => 2 | .displaced => 3 | .queueFull => 4 | .reset => 5

/-- The outcome of a frame (R156). -/
inductive TxOutcome where
  | delivered
  | failed (reason : FailReason)
  deriving DecidableEq, Repr

/-- A slot assignment the air link engine holds until its slot begins (R134): the slot number, the TXC edge at which
it begins, and the frame, named by the sequence it holds (R141). -/
structure Assignment where
  slot      : Nat
  startEdge : Nat
  sequence  : Nat
  deriving DecidableEq, Repr

/-- A transmission in progress (R135, R141). -/
structure Transmission where
  fleet    : Nat
  kind     : UplinkKind
  address  : Nat
  sequence : Nat
  more     : Bool
  body     : UplinkBody
  deriving DecidableEq, Repr

/-- The faults of the fault ring (R178). -/
inductive FaultId where
  | handIllegal | writeDropped
  | pulsesDiscarded | tariffInvalid | powerInterrupted | calInvalid | calWriteDropped
  | modemNotReady | frameFailed | badAddress
  | writeFailed
  deriving DecidableEq, Repr

/-- The class byte of R178: 1 PORT, 2 METER, 3 AIR, 4 STORE. -/
def FaultId.cls : FaultId → Nat
  | .handIllegal | .writeDropped => 1
  | .pulsesDiscarded | .tariffInvalid | .powerInterrupted | .calInvalid | .calWriteDropped => 2
  | .modemNotReady | .frameFailed | .badAddress => 3
  | .writeFailed => 4

/-- The id within the class (R178). -/
def FaultId.id : FaultId → Nat
  | .handIllegal => 1 | .writeDropped => 2
  | .pulsesDiscarded => 1 | .tariffInvalid => 2 | .powerInterrupted => 3 | .calInvalid => 4 | .calWriteDropped => 5
  | .modemNotReady => 1 | .frameFailed => 2 | .badAddress => 3
  | .writeFailed => 1

/-- An entry of the fault ring (R178); `fault = none` is an empty entry. -/
structure RingEntry where
  fault   : Option FaultId
  repeats : Nat
  detail  : Nat
  seconds : Nat
  deriving DecidableEq, Repr

/-- The empty entry. -/
def RingEntry.empty : RingEntry := ⟨none, 0, 0, 0⟩

/-- The attention channels (section 10.1). -/
inductive Channel where
  | pattern | queue | fault | pool | clock | fare | link | status | trip | meter | message | request
  | messagePriority | offerNew | offerResult | emergency
  deriving DecidableEq, Repr

/-- The channel number (section 10.1). -/
def Channel.number : Channel → Nat
  | .pattern => 0 | .queue => 1 | .fault => 2 | .pool => 3 | .clock => 4 | .fare => 5 | .link => 6 | .status => 7
  | .trip => 8 | .meter => 9 | .message => 10 | .request => 11 | .messagePriority => 12 | .offerNew => 13
  | .offerResult => 14 | .emergency => 15

/-- The kinds of store write (R183). -/
inductive StoreKind where
  | meter | calibration | tariffs | settings
  deriving DecidableEq, Repr

/-- The detail of fault STORE/WRITE_FAILED (R183). -/
def StoreKind.code : StoreKind → Nat
  | .meter => 1 | .calibration => 2 | .tariffs => 3 | .settings => 4

/-- The write in progress and what it read when it began (R183). A meter commit also lists the trip records it carries for
the first time, each by its log entry or as none once the entry has been reused for another trip, and says whether a
SHIFT frame waits for it (R36, R37, R39, R45). -/
inductive StoreJob where
  | meter (commit : MeterCommit) (firstCarried : List (Option (Fin 24))) (shiftDue : Bool)
  | calibration (bank : List Byte)
  | tariffs (bytes : List Byte)
  | settings (bytes : List Byte)
  deriving DecidableEq, Repr

/-- The kind of a write in progress. -/
def StoreJob.kind : StoreJob → StoreKind
  | .meter _ _ _ => .meter
  | .calibration _ => .calibration
  | .tariffs _ => .tariffs
  | .settings _ => .settings

/-- The nonvolatile store (section 11.2): the last completed write of each kind. -/
structure Store where
  calibration : Option (List Byte)
  settings    : Option (List Byte)
  tariffs     : Option (List Byte)
  meter       : Option MeterCommit
  deriving DecidableEq, Repr

/-- The store of a part as delivered (R47, R185): no write has completed. -/
def Store.empty : Store := ⟨none, none, none, none⟩

/-- Where an I2C run stands on the calibration port (R180): the next byte is the pointer; the next bytes are data; the
port drives data; the port is addressed no more until the next start or stop. -/
inductive CalTransaction where
  | awaitPointer | writing | reading | released
  deriving DecidableEq, Repr

/-- A run of the calibration port (R182): the staging copy of 0x00–0x3D, the transaction, the lifetime totals captured
for a read (R181), and whether the serial may be written in this run (R181). -/
structure CalRun where
  staging        : List Byte
  transaction    : CalTransaction
  capturedTotals : List Byte
  serialWritable : Bool
  deriving DecidableEq, Repr

/-- How far the part has come (R185, R186): without power, held in reset, the stages that have ended, READY. -/
inductive Phase where
  | off | held | stage1 | stage2 | stage3 | stage4 | ready
  deriving DecidableEq, Repr

/-- The number of start-up stages that have ended. -/
def Phase.stagesEnded : Phase → Nat
  | .off | .held => 0
  | .stage1 => 1 | .stage2 => 2 | .stage3 => 3 | .stage4 => 4 | .ready => 5

end Sys2Proof.Machine
end

