-- ==== Sys2Proof/Config.lean ====
section
/-! DEFINITION. What the spec leaves to the part or leaves open: constants without a body, of which nothing can be
proved but that they are. -/

namespace Sys2Proof

/-- The unique part number of 8 bytes at 0x42..0x49 of the calibration address space (R181): its values belong to the
individual part (log entry 6). -/
opaque Config.partNumberByte : Nat → Byte

/-- The bytes that the codes and flags of an uplink body are packed into: its rules list the fields and give no byte layout
(log entry 7). -/
opaque Config.codeBytes : Machine.UplinkKind → List Nat → List Byte

/-- How many bytes the i-th number of an uplink body takes, where that is more than its range needs (log entry 7). -/
opaque Config.numberSize : Machine.UplinkKind → Nat → Nat

/-- The rank of the i-th piece of an uplink body, by which its pieces are put in order (log entry 7). -/
opaque Config.pieceRank : Machine.UplinkKind → Nat → Nat

/-- The number that stands for a year in an uplink body: no rule says whether it is the year or, as in a TIME body (R130),
the year less 2000 (log entry 7). -/
opaque Config.yearSent : Nat → Nat

/-- Whether, at the n-th choice, the STATUS frame of the first UP is asked for before the unsent trip records are
queued again: R54 says that the two work on the queue in either order (log entry 9). -/
opaque Config.statusFrameFirst : Nat → Bool

/-- The level of TXD after the last bit of a transmission: R135 and R136 give one after a cut-off alone (log entry 38). -/
opaque Config.txdAfter : Machine.Transmission → Bool

/-- Whether, at an update count, the rewrite of the clock group and the rewrite of the fare group that the same arrival
brings about overlap in time: R162 says what follows if they do, not whether they do (log entry 12). -/
opaque Config.rewritesOverlap : Nat → Bool

/-- The detail with which METER/POWER_INTERRUPTED is recorded: R46 names the fault and states no detail (log entry
10). -/
opaque Config.powerInterruptedDetail : Nat

/-- The heading that a body composed while there is no fix carries: R56 states its coordinates, age and stale flag alone
(log entry 43). -/
opaque Config.headingWithoutFix : Nat

/-- The speed that a body composed while there is no fix carries (R56; log entry 43). -/
opaque Config.speedWithoutFix : Nat

/-- The fix time that a body composed while there is no fix carries (R56; log entry 43). -/
opaque Config.timeWithoutFix : Machine.Stamp

end Sys2Proof
end

