-- ==== Sys2Proof/Machine/BodyOps.lean ====
section
/-! DEFINITION. An uplink body as bytes: the numbers and the codes of its fields, and the bytes they are sent as, every
number high byte first (R124). The rules that list the fields give no byte layout; what they leave open is free (log entry
7). -/

namespace Sys2Proof.Machine

/-- A number that a body holds: the fewest bytes that its range takes, and its value, of which a negative one is sent in
two's complement. -/
structure UplinkNumber where
  least : Nat
  value : Int
  deriving DecidableEq, Repr

/-- `n` bytes of a number, the high byte first (R124). -/
def bigEndian (n : Nat) (x : Int) : List Byte := (littleEndian n (x % 256 ^ n).toNat).reverse

/-- The numbers of a calendar time: the year, as the number that stands for it, and the seconds of day (R17). -/
def Stamp.numbers (t : Stamp) : List UplinkNumber := [⟨1, Config.yearSent t.year⟩, ⟨3, t.seconds⟩]

/-- The month and the day of a calendar time. -/
def Stamp.codes (t : Stamp) : List Nat := [t.month, t.day]

/-- The numbers of a position fix in a body (R55, R56). -/
def FixReport.numbers (x : FixReport) : List UplinkNumber :=
  [⟨4, x.latitude⟩, ⟨4, x.longitude⟩, ⟨2, x.heading⟩, ⟨2, x.speed⟩] ++ x.time.numbers ++ [⟨2, x.age⟩]

/-- The month and day of a position fix and its stale flag. -/
def FixReport.codes (x : FixReport) : List Nat := x.time.codes ++ [x.stale.toNat]

/-- The numbers of a set of totals, 32 bits each (R43). -/
def Totals.numbers (t : Totals) : List UplinkNumber :=
  [⟨4, t.trips⟩, ⟨4, t.hiredMetres⟩, ⟨4, t.unpaidMetres⟩, ⟨4, t.totalMetres⟩, ⟨4, t.hiredSeconds⟩, ⟨4, t.fareSum⟩,
    ⟨4, t.extrasSum⟩, ⟨4, t.powerInterruptions⟩, ⟨4, t.tripOverwrites⟩]

/-- The numbers of a trip record, metres as their low 32 bits (R38). -/
def TripRecord.numbers (r : TripRecord) : List UplinkNumber :=
  [⟨4, r.tripNumber⟩, ⟨2, r.driver⟩, ⟨1, r.switchCount⟩] ++ r.startTime.numbers ++ r.endTime.numbers ++
    [⟨4, r.hiredMetres % 2 ^ 32⟩, ⟨4, r.unpaidMetres % 2 ^ 32⟩, ⟨4, r.hiredSeconds⟩, ⟨4, r.stoppedSeconds⟩, ⟨3, r.fare⟩,
      ⟨3, r.extras⟩, ⟨3, r.total⟩, ⟨3, r.drops⟩, ⟨4, r.discardedPulses⟩, ⟨2, r.offerNumber⟩, ⟨1, r.startZone⟩,
      ⟨1, r.endZone⟩]

/-- The codes and flags of a trip record (R38). -/
def TripRecord.codes (r : TripRecord) : List Nat :=
  [r.written.toNat, r.sendState.code, r.startingTariff, r.powerInterrupted.toNat, r.fareLimit.toNat,
    r.pulsesDiscarded.toNat, r.fromOffer.toNat, r.released.toNat] ++ r.startTime.codes ++ r.endTime.codes

/-- The numbers of a body, in the order in which its rule lists them. -/
def UplinkBody.numbers : UplinkBody → List UplinkNumber
  | .bid offer zone _ time => [⟨2, offer⟩, ⟨1, zone⟩] ++ time.numbers
  | .refuse offer _ => [⟨2, offer⟩]
  | .status _ _ zone _ position _ fix => [⟨1, zone⟩, ⟨1, position⟩] ++ fix.numbers
  | .pollReply reference _ zone _ _ fare extras fix =>
    [⟨1, reference.toNat⟩, ⟨1, zone⟩, ⟨3, fare⟩, ⟨3, extras⟩] ++ fix.numbers
  | .text destination reference _ _ => [⟨2, destination⟩, ⟨2, reference⟩]
  | .receipt number sender _ _ => [⟨2, number⟩, ⟨2, sender⟩]
  | .trip record => record.numbers
  | .shift driver openTime closeTime totals =>
    [⟨2, driver⟩] ++ openTime.numbers ++ closeTime.numbers ++ totals.numbers
  | .emergency _ count presses _ fix zone _ _ _ fare =>
    [⟨2, count⟩, ⟨1, presses⟩] ++ fix.numbers ++ [⟨1, zone⟩, ⟨3, fare⟩]
  | .emergencyCancel count time _ => [⟨2, count⟩] ++ time.numbers

/-- The codes and flags of a body, in the order in which its rule lists them: states and reasons by the codes of R24, R48,
R54, R80 and R106, a flag as 0 or 1. None fills a byte, and how they share bytes no rule says. -/
def UplinkBody.codes : UplinkBody → List Nat
  | .bid _ _ zoneKnown time => [zoneKnown.toNat] ++ time.codes
  | .refuse _ reason => [reason.code]
  | .status dispatch reason _ zoneKnown _ meter fix =>
    [dispatch.code, reason.code, zoneKnown.toNat, meter.code] ++ fix.codes
  | .pollReply _ dispatch _ zoneKnown meter _ _ fix => [dispatch.code, zoneKnown.toNat, meter.code] ++ fix.codes
  | .text _ _ canned _ => [canned]
  | .receipt _ _ stored truncated => [stored.toNat, truncated.toNat]
  | .trip record => record.codes
  | .shift _ openTime closeTime _ => openTime.codes ++ closeTime.codes
  | .emergency state _ _ duress fix _ zoneKnown dispatch meter _ =>
    [state.code, duress.toNat] ++ fix.codes ++ [zoneKnown.toNat, dispatch.code, meter.code]
  | .emergencyCancel _ time wrongCodes => time.codes ++ [wrongCodes]

/-- The characters of a TEXT body (section 5.3); the other bodies hold none. -/
def UplinkBody.characters : UplinkBody → List Byte
  | .text _ _ _ characters => characters
  | .bid .. | .refuse .. | .status .. | .pollReply .. | .receipt .. | .trip .. | .shift .. | .emergency ..
  | .emergencyCancel .. => []

/-- The uplink kind whose frames hold the body (R143). -/
def UplinkBody.kind : UplinkBody → UplinkKind
  | .bid .. => .bid
  | .refuse .. => .refuse
  | .status .. => .status
  | .pollReply .. => .pollReply
  | .text .. => .text
  | .receipt .. => .receipt
  | .trip .. => .trip
  | .shift .. => .shift
  | .emergency .. => .emergency
  | .emergencyCancel .. => .emergencyCancel

/-- The bytes a body may have beside its text: with the text at most 60 (R127), and a TEXT body with 48 characters at most
53 (section 5.3). -/
def UplinkKind.room : UplinkKind → Nat
  | .text => 5
  | .bid | .refuse | .status | .pollReply | .receipt | .trip | .shift | .emergency | .emergencyCancel => 60

/-- How many bytes each number of a body takes: the fewest or, within the body's room, more. -/
def UplinkBody.sizes (b : UplinkBody) : List Nat :=
  let sizes := b.numbers.mapIdx fun i n => max n.least (Config.numberSize b.kind i)
  if sizes.sum ≤ b.kind.room then sizes else b.numbers.map UplinkNumber.least

/-- The numbers of a body as bytes, each high byte first (R124). -/
def UplinkBody.numberBytes (b : UplinkBody) : List (List Byte) :=
  List.zipWith (fun size n => bigEndian size n.value) b.sizes b.numbers

/-- The pieces that no order of a body's fields parts: each number, each byte of codes and flags, and the text. -/
def UplinkBody.pieces (b : UplinkBody) : List (List Byte) :=
  let codes := (Config.codeBytes b.kind b.codes).take (b.kind.room - b.sizes.sum)
  b.numberBytes ++ codes.map (fun x => [x]) ++ [b.characters]

/-- The bytes of a body: its pieces in the order in which its kind's layout, which no rule gives, sends them. -/
def UplinkBody.bytes (b : UplinkBody) : List Byte :=
  let ranked := b.pieces.mapIdx fun i p => (Config.pieceRank b.kind i, p)
  ((ranked.insertionSort fun x y => x.1 ≤ y.1).map Prod.snd).flatten

end Sys2Proof.Machine
end

