-- ==== Sys2Proof/Machine/Calendar.lean ====
section
/-! DEFINITION. The calendar of R17: dates of 2000..2099, day of the week, the advance of a second, the age of R56. -/

namespace Sys2Proof.Machine

/-- A year with a February of 29 days: every year divisible by 4 (R17). -/
def leapYear (y : Nat) : Bool := y % 4 == 0

/-- The length of a month (R17); 0 for a number that is no month. -/
def monthLength (y m : Nat) : Nat :=
  match m with
  | 1 | 3 | 5 | 7 | 8 | 10 | 12 => 31
  | 4 | 6 | 9 | 11 => 30
  | 2 => if leapYear y then 29 else 28
  | _ => 0

/-- A date and seconds of day within the ranges of R17. -/
def Stamp.valid (t : Stamp) : Bool :=
  decide (2000 ≤ t.year) && decide (t.year ≤ 2099) && decide (1 ≤ t.month) && decide (t.month ≤ 12) &&
  decide (1 ≤ t.day) && decide (t.day ≤ monthLength t.year t.month) && decide (t.seconds ≤ 86399)

/-- Days of a year before a month. -/
def daysBeforeMonth (y : Nat) : Nat → Nat
  | 0 => 0
  | m + 1 => daysBeforeMonth y m + monthLength y m

/-- Days from 1 January 2000 to a date. -/
def Stamp.dayNumber (t : Stamp) : Nat :=
  365 * (t.year - 2000) + (t.year - 2000 + 3) / 4 + daysBeforeMonth t.year t.month + (t.day - 1)

/-- The day of the week, 1 Monday to 7 Sunday, with 1 January 2000 a Saturday (R17, R158). -/
def Stamp.dayOfWeek (t : Stamp) : Nat := (t.dayNumber + 5) % 7 + 1

/-- The next date (R17): month lengths, leap years, and from 31 December 2099 to 1 January 2000. -/
def Stamp.nextDay (t : Stamp) : Stamp :=
  if t.day < monthLength t.year t.month then { t with day := t.day + 1 }
  else if t.month < 12 then { t with month := t.month + 1, day := 1 }
  else if t.year < 2099 then { t with year := t.year + 1, month := 1, day := 1 }
  else { t with year := 2000, month := 1, day := 1 }

/-- One calendar second later (R17). -/
def Stamp.nextSecond (t : Stamp) : Stamp :=
  if t.seconds < 86399 then { t with seconds := t.seconds + 1 } else { t.nextDay with seconds := 0 }

/-- The minute of the day (R20). -/
def Stamp.minute (t : Stamp) : Nat := t.seconds / 60

/-- The seconds from a fix time to the present, 0 if the fix time is later (R56). -/
def ageSeconds (now fixTime : Stamp) : Nat :=
  (now.dayNumber * 86400 + now.seconds) - (fixTime.dayNumber * 86400 + fixTime.seconds)

end Sys2Proof.Machine
end

