-- ==== Sys2Proof/Machine/Memory.lean ====
section
/-! DEFINITION. The dual-port memory of the shared window (R157) as a canonical list of bytes: the regions whose bytes
are held as bytes (position fix slot, request records, text pool, tariff bank, fleet settings). The other regions are
mirrors of block state and are computed from it (Machine/WindowOps.lean). -/

namespace Sys2Proof.Machine

/-- Window memory: addresses strictly rising, no entry equal to `Memory.unlisted`. -/
abbrev Memory := List Host.Cell

/-- What a byte of window memory that nothing has written reads as. R185 clears the window's regions at start-up, and
before READY every host read returns 0 (log entry 5). -/
def Memory.unlisted : Byte := 0#8

/-- Read one byte. -/
def Memory.read : Memory → Nat → Byte
  | [], _ => Memory.unlisted
  | (k, x) :: rest, a => if a < k then Memory.unlisted else if a = k then x else Memory.read rest a

/-- Write one byte, keeping the canonical form. -/
def Memory.write : Memory → Nat → Byte → Memory
  | [], a, v => if v = Memory.unlisted then [] else [(a, v)]
  | (k, x) :: rest, a, v =>
    if a < k then (if v = Memory.unlisted then (k, x) :: rest else (a, v) :: (k, x) :: rest)
    else if a = k then (if v = Memory.unlisted then rest else (a, v) :: rest)
    else (k, x) :: Memory.write rest a v

/-- The canonical form: addresses strictly rising and no listed byte equal to what an unlisted address reads as. -/
abbrev Memory.Wf (m : Memory) : Prop :=
  m.Pairwise (fun c d => c.1 < d.1) ∧ ∀ c ∈ m, c.2 ≠ Memory.unlisted

/-- Write bytes at rising addresses. -/
def Memory.writeBytes : Memory → Nat → List Byte → Memory
  | m, _, [] => m
  | m, a, b :: bs => Memory.writeBytes (m.write a b) (a + 1) bs

/-- Read `n` bytes at rising addresses. -/
def Memory.readBytes (m : Memory) : Nat → Nat → List Byte
  | _, 0 => []
  | a, n + 1 => m.read a :: Memory.readBytes m (a + 1) n

/-- The little-endian number of `n` bytes (00_scope, Byte order). -/
def Memory.readNat (m : Memory) (a n : Nat) : Nat := fromLittleEndian (m.readBytes a n)

end Sys2Proof.Machine
end

