-- ==== Sys2Proof/Machine/Blocks.lean ====
section
/-! DEFINITION. The state of each block and its value at reset, before start-up stage 1 (R185). INVENTORY.md lists every
piece with the rule that names it. -/

namespace Sys2Proof.Machine

/-- Fare computer (FRC): sections 1.1, 1.3 to 1.5. -/
structure Frc where
  pulseCounter       : Nat
  meterTimerRunning  : Bool
  hire               : Hire
  shiftPulses        : Nat
  scheduled          : Nat
  override           : Option Nat
  clock              : Stamp
  clockSet           : Bool
  clockTimerRunning  : Bool
  fareGroup          : FareGroup
  deriving DecidableEq, Repr

/-- Meter controller (MTC): chapter 2. `uncommitted` names the log entries whose record no completed commit has carried
yet, `shiftFrameDue` says that a closed shift waits for its commit (R36, R37, R45); `windowLog` and `windowTotals` are
the window's copies, rewritten when a commit completes (R44, R45). The hold timer holds the hold length while it runs. -/
structure Mtc where
  meter         : MeterState
  trip          : Trip
  holdTimer     : Option Nat
  holdEnded     : Bool
  totals        : TotalsGroup
  tripLog       : Vector TripRecord 24
  ageOrder      : List (Fin 24)
  uncommitted   : List (Fin 24)
  shiftFrameDue : Bool
  windowLog     : Vector TripRecord 24
  windowTotals  : TotalsGroup
  deriving DecidableEq, Repr

/-- Dispatch status controller (DSC): chapter 3. `upSeen` is whether the link has changed to UP since start-up (R54). -/
structure Dsc where
  status        : DispatchStatus
  heldReason    : StatusReason
  queuePosition : Nat
  zone          : Nat
  zoneKnown     : Bool
  lastFix       : Option Fix
  fixRejected   : Nat
  pollReference : Byte
  upSeen        : Bool
  deriving DecidableEq, Repr

/-- Offer table (OFT): chapter 4. -/
structure Oft where
  entries    : Vector OfferEntry 8
  assignment : Option (Fin 8)
  missed     : Nat
  deriving DecidableEq, Repr

/-- Message store (MST): chapter 5. The blocks of the pool stand in window memory. -/
structure Mst where
  inbox      : Vector InboxEntry 24
  storeOrder : List (Fin 24)
  freeHead   : Nat
  freeCount  : Nat
  refused    : Nat
  lostUnread : Nat
  deriving DecidableEq, Repr

/-- Emergency controller (EMC): R106. The update timer holds the seconds remaining while it runs. `alarmReleased` says that
the ALARM line has been out of its active level for 0.5 s since the last press of the line was recognised (R108). -/
structure Emc where
  state         : EmergencyState
  count         : Nat
  presses       : Nat
  wrongCodes    : Nat
  duress        : Bool
  code          : Nat
  updateTimer   : Option Nat
  owed          : Option EmergencyKind
  alarmReleased : Bool
  deriving DecidableEq, Repr

/-- Air link engine (ALE): chapter 7. The fade and loss expiries are held as tenths of a second after the CYCLE that
scheduled them (R138). -/
structure Ale where
  receiver     : ReceiverState
  window       : Option (BitVec 24)
  link         : LinkState
  fadeExpiry   : Option Nat
  lossExpiry   : Option Nat
  lastCycle    : Nat
  cycleHeard   : Bool
  crcErrors    : Nat
  formatErrors : Nat
  rng          : Word16
  sequence     : Nat
  assignments  : List Assignment
  transmission : Option Transmission
  deriving DecidableEq, Repr

/-- Transmit queue (TXQ): R143. -/
structure Txq where
  frames : List Frame
  stray  : Nat
  deriving DecidableEq, Repr

/-- Window port (WPT): the posted-order list and the port's own counts, of which `rewriting` is the number of group
rewrites in progress (R157, R162, R164). -/
structure Wpt where
  posted        : List (Fin 16)
  updateCount   : Nat
  rewriting     : Nat
  droppedWrites : Nat
  illegalHands  : Nat
  deriving DecidableEq, Repr

/-- Attention controller (ATC): chapter 10. -/
structure Atc where
  pending   : Word16
  inService : Word16
  matchA    : Bool
  matchB    : Bool
  ring      : Vector RingEntry 8
  newest    : Option (Fin 8)
  deriving DecidableEq, Repr

/-- Calibration port and store (CPS): chapter 11. `bank` is the calibration bank in use (0x00–0x3F of R181), `failed`
whether it failed its check at start-up. `tariffRecord` and `settingsRecord` are the records whose store requests are in
work (R184). -/
structure Cps where
  bank           : List Byte
  failed         : Bool
  pointer        : Nat
  run            : Option CalRun
  store          : Store
  queue          : List StoreKind
  writing        : Option StoreJob
  lastWasCommit  : Bool
  tariffRecord   : Option (Fin 16)
  settingsRecord : Option (Fin 16)
  deriving DecidableEq, Repr

/-- The pins and bus values a command leaves behind: NOTE_A and NOTE_B asserted (driven low), KEY high, the level TXD is
left at when no transmission is in progress (one in progress sends `Transmission.bits`), the last word a host read of
ATTEND returned, the calibration port's last acknowledge and last byte driven, and the levels of MODEM_READY, CAL_ENABLE
and ALARM at their last sampling. -/
structure Pins where
  noteA      : Bool
  noteB      : Bool
  key        : Bool
  txd        : Bool
  hostData   : Word16
  calAck     : Bool
  calData    : Byte
  modemReady : Bool
  calEnable  : Bool
  alarm      : Bool
  deriving DecidableEq, Repr

/-- 1 January 2000, seconds of day 0: the clock at start-up (R17). -/
def Stamp.atStart : Stamp := ⟨2000, 1, 1, 0⟩

/-- The fare group that shows nothing. -/
def FareGroup.zero : FareGroup := ⟨0, 0#8, List.replicate 8 0#8, 0, 0, 0, 0, 0⟩

/-- FRC at reset. -/
def Frc.atReset : Frc :=
  { pulseCounter := 0, meterTimerRunning := false, hire := Hire.zero Tariff.zero, shiftPulses := 0, scheduled := 0,
    override := none, clock := Stamp.atStart, clockSet := false, clockTimerRunning := false,
    fareGroup := FareGroup.zero }

/-- MTC at reset; the hold-ended flag, to which R31 gives a value for a recovered PAYMENT alone, is clear (log entry 4). -/
def Mtc.atReset : Mtc :=
  { meter := .off, trip := Trip.zero, holdTimer := none, holdEnded := false, totals := TotalsGroup.zero,
    tripLog := Vector.replicate 24 TripRecord.empty, ageOrder := [], uncommitted := [], shiftFrameDue := false,
    windowLog := Vector.replicate 24 TripRecord.empty, windowTotals := TotalsGroup.zero }

/-- DSC at reset. -/
def Dsc.atReset : Dsc :=
  { status := .offDuty, heldReason := .change, queuePosition := 0, zone := 0, zoneKnown := false, lastFix := none,
    fixRejected := 0, pollReference := 0#8, upSeen := false }

/-- OFT at reset (R86). -/
def Oft.atReset : Oft :=
  { entries := Vector.replicate 8 OfferEntry.empty, assignment := none, missed := 0 }

/-- MST at reset: no block is on the free chain until stage 2 frees the pool (R87). -/
def Mst.atReset : Mst :=
  { inbox := Vector.replicate 24 InboxEntry.empty, storeOrder := [], freeHead := 255, freeCount := 0, refused := 0,
    lostUnread := 0 }

/-- EMC at reset (R106). The ALARM line counts as released, so that one held active as its sampling begins gives a press
(R108). -/
def Emc.atReset : Emc :=
  { state := .quiet, count := 0, presses := 0, wrongCodes := 0, duress := false, code := 0, updateTimer := none,
    owed := none, alarmReleased := true }

/-- ALE at reset. -/
def Ale.atReset : Ale :=
  { receiver := .idle, window := none, link := .hunt, fadeExpiry := none, lossExpiry := none, lastCycle := 0,
    cycleHeard := false, crcErrors := 0, formatErrors := 0, rng := 1#16, sequence := 0, assignments := [],
    transmission := none }

/-- TXQ at reset (R143). -/
def Txq.atReset : Txq := { frames := [], stray := 0 }

/-- WPT at reset (R157, R162, R164). -/
def Wpt.atReset : Wpt :=
  { posted := [], updateCount := 0, rewriting := 0, droppedWrites := 0, illegalHands := 0 }

/-- ATC at reset (R179). -/
def Atc.atReset : Atc :=
  { pending := 0#16, inService := 0#16, matchA := false, matchB := false,
    ring := Vector.replicate 8 RingEntry.empty, newest := none }

/-- CPS at reset, with a given store: what the store holds outlives a reset (R183). -/
def Cps.atReset (store : Store) : Cps :=
  { bank := List.replicate 64 0#8, failed := false, pointer := 0, run := none, store := store, queue := [],
    writing := none, lastWasCommit := false, tariffRecord := none, settingsRecord := none }

/-- The pins at reset: lines released, KEY low, TXD low as RESET_N leaves it when it cuts a transmission off (R136). -/
def Pins.atReset : Pins :=
  { noteA := false, noteB := false, key := false, txd := false, hostData := 0#16, calAck := false, calData := 0#8,
    modemReady := false, calEnable := false, alarm := false }

end Sys2Proof.Machine
end

