-- ==== Sys2Proof/Machine/State.lean ====
section
/-! DEFINITION. The state of the part, its reset value, and the reasons a step can stop. INVENTORY.md lists every piece
with the rule that names it. -/

namespace Sys2Proof.Machine

/-- The whole part, with the queue of commands that wait (first in, first out) and `choices`, the model's own count of
the free choices made so far (log entry 9). -/
structure State where
  phase   : Phase
  mem     : Memory
  frc     : Frc
  mtc     : Mtc
  dsc     : Dsc
  oft     : Oft
  mst     : Mst
  emc     : Emc
  ale     : Ale
  txq     : Txq
  wpt     : Wpt
  atc     : Atc
  cps     : Cps
  pins    : Pins
  choices : Nat
  pending : List Instr
  deriving DecidableEq, Repr

/-- The reasons the machine could stop with a fault. There are none: no command of the part stops it, and every address
the host can form belongs to a region (R157). -/
inductive Fault where
  deriving DecidableEq, Repr

/-- The reasons a command could be refused. -/
inductive Refusal where
  /-- A command without a meaning; raised by `exec` only, and safe. No arm of `exec` raises it. -/
  | notModelled (mnemonic : String)
  deriving DecidableEq, Repr

/-- The part as delivered at the moment power comes on, before start-up stage 1 (R185; log entry 3). -/
def State.reset : State :=
  { phase := .off, mem := [], frc := Frc.atReset, mtc := Mtc.atReset, dsc := Dsc.atReset, oft := Oft.atReset,
    mst := Mst.atReset, emc := Emc.atReset, ale := Ale.atReset, txq := Txq.atReset, wpt := Wpt.atReset,
    atc := Atc.atReset, cps := Cps.atReset Store.empty, pins := Pins.atReset, choices := 0, pending := [] }

/-- Change frc alone. -/
def State.modFrc (s : State) (f : Frc → Frc) : State := { s with frc := f s.frc }

/-- Change mtc alone. -/
def State.modMtc (s : State) (f : Mtc → Mtc) : State := { s with mtc := f s.mtc }

/-- Change dsc alone. -/
def State.modDsc (s : State) (f : Dsc → Dsc) : State := { s with dsc := f s.dsc }

/-- Change oft alone. -/
def State.modOft (s : State) (f : Oft → Oft) : State := { s with oft := f s.oft }

/-- Change mst alone. -/
def State.modMst (s : State) (f : Mst → Mst) : State := { s with mst := f s.mst }

/-- Change emc alone. -/
def State.modEmc (s : State) (f : Emc → Emc) : State := { s with emc := f s.emc }

/-- Change ale alone. -/
def State.modAle (s : State) (f : Ale → Ale) : State := { s with ale := f s.ale }

/-- Change txq alone. -/
def State.modTxq (s : State) (f : Txq → Txq) : State := { s with txq := f s.txq }

/-- Change wpt alone. -/
def State.modWpt (s : State) (f : Wpt → Wpt) : State := { s with wpt := f s.wpt }

/-- Change atc alone. -/
def State.modAtc (s : State) (f : Atc → Atc) : State := { s with atc := f s.atc }

/-- Change cps alone. -/
def State.modCps (s : State) (f : Cps → Cps) : State := { s with cps := f s.cps }

/-- Change pins alone. -/
def State.modPins (s : State) (f : Pins → Pins) : State := { s with pins := f s.pins }

/-- Change mem alone. -/
def State.modMem (s : State) (f : Memory → Memory) : State := { s with mem := f s.mem }

end Sys2Proof.Machine
end

