-- ==== Sys2Proof/Machine/Settings.lean ====
section
/-! DEFINITION. The fleet settings (R159), the calibrated settings of the bank in use (R181), the tariff bank's records
(R6, R20, R33), each clamped at use where its rule says so. -/

namespace Sys2Proof.Machine

/-- The one-byte fleet setting at an offset (R159). -/
def setting (s : State) (offset : Nat) : Nat := (s.mem.read (0x2E00 + offset)).toNat

/-- The two-byte fleet setting at an offset (R159). -/
def setting16 (s : State) (offset : Nat) : Nat := s.mem.readNat (0x2E00 + offset) 2

/-- The one-byte flag at an offset: any value other than 0 is set (R159). -/
def settingFlag (s : State) (offset : Nat) : Bool := setting s offset != 0

/-- Fleet id (R129). -/
def fleetId (s : State) : Nat := setting16 s 0x00

/-- Cab address (R129, R131). -/
def cabAddress (s : State) : Nat := setting16 s 0x02

/-- The cab address is good when it lies in 0x0001..0xFDFF (R131). -/
def addressGood (s : State) : Bool := decide (1 ≤ cabAddress s) && decide (cabAddress s ≤ 0xFDFF)

/-- Cancel code, clamped at use to 0..9,999 (R110, R118). -/
def cancelCode (s : State) : Nat := clamp 0 9999 (setting16 s 0x04)

/-- Routine mark, clamped at use to 0..224 (R89). -/
def routineMark (s : State) : Nat := clamp 0 224 (setting s 0x06)

/-- Offer mark, clamped at use, and read as the routine mark when above it (R89). -/
def offerMark (s : State) : Nat := min (clamp 0 224 (setting s 0x07)) (routineMark s)

/-- Row span, clamped at use to 0..3 (R58). -/
def rowSpan (s : State) : Nat := clamp 0 3 (setting s 0x08)

/-- Column span, clamped at use to 0..3 (R58). -/
def columnSpan (s : State) : Nat := clamp 0 3 (setting s 0x09)

/-- Award wait in seconds, clamped at use to 5..120 (R75). -/
def awardWait (s : State) : Nat := clamp 5 120 (setting s 0x0A)

/-- Cycle period in tenths of a second, clamped at use to 5..50 (R138). -/
def cyclePeriod (s : State) : Nat := clamp 5 50 (setting s 0x0B)

/-- Emergency update interval in seconds, clamped at use to 10..300 (R117). -/
def updateInterval (s : State) : Nat := clamp 10 300 (setting16 s 0x0C)

/-- Slot length in bit periods, clamped at use to 900..2400 (R134). -/
def slotLength (s : State) : Nat := clamp 900 2400 (setting16 s 0x0E)

/-- Attempt limit, clamped at use to 1..15 (R152). -/
def attemptLimit (s : State) : Nat := clamp 1 15 (setting s 0x10)

/-- Sync tolerance, clamped at use to 0..1 (R125). -/
def syncTolerance (s : State) : Nat := clamp 0 1 (setting s 0x11)

/-- The alarm active level is HIGH: 0 is LOW, any other value HIGH (R108, R159). -/
def alarmActiveHigh (s : State) : Bool := settingFlag s 0x12

/-- Accept base time (R19). -/
def acceptBaseTime (s : State) : Bool := settingFlag s 0x13

/-- Trip reporting (R41). -/
def tripReporting (s : State) : Bool := settingFlag s 0x14

/-- Service tracking (R173). -/
def serviceTracking (s : State) : Bool := settingFlag s 0x15

/-- Channel enables, bit n for channel n (R173). -/
def channelEnables (s : State) : Nat := setting16 s 0x16

/-- Channel masks, bit n set when channel n is unmasked (R173). -/
def channelMasks (s : State) : Nat := setting16 s 0x18

/-- Channel routes, bit n clear for NOTE_A and set for NOTE_B (R173). -/
def channelRoutes (s : State) : Nat := setting16 s 0x1A

/-- The default bytes of the fleet settings region (R159). -/
def defaultSettings : List Byte :=
  [0, 0, 0, 0, 0, 0, 48, 12, 0, 0, 30, 20] ++ littleEndian 2 30 ++ littleEndian 2 1200 ++
  [6, 1, 0, 0, 0, 1] ++ List.replicate 234 0

/-- A two-byte field of the calibration bank in use (R181). -/
def bank16 (s : State) (address : Nat) : Nat := fromLittleEndian ((s.cps.bank.drop address).take 2)

/-- A one-byte field of the calibration bank in use (R181). -/
def bank8 (s : State) (address : Nat) : Nat := (s.cps.bank.getD address 0#8).toNat

/-- K, pulses per kilometre, clamped at use (R2). -/
def pulsesPerKm (s : State) : Nat := clamp 400 60000 (bank16 s 0x00)

/-- V, the speed ceiling in km/h, clamped at use (R2). -/
def speedCeiling (s : State) : Nat := clamp 60 300 (bank16 s 0x02)

/-- Tariff lock: any value other than 0 is on (R181). -/
def tariffLock (s : State) : Bool := bank8 s 0x04 != 0

/-- Host meter control: any value other than 0 is set (R26). -/
def hostMeterControl (s : State) : Bool := bank8 s 0x05 != 0

/-- Auto-switch: any value other than 0 is set (section 1.6). -/
def autoSwitch (s : State) : Bool := bank8 s 0x06 != 0

/-- Payment hold in seconds, clamped at use to 0..30 (R31). -/
def paymentHold (s : State) : Nat := clamp 0 30 (bank8 s 0x07)

/-- S = 3600 × K, the scale of section 1.3. -/
def scale (s : State) : Nat := 3600 * pulsesPerKm s

/-- Metres from a pulse count: floor(pulses × 1000 / K) (R5). -/
def metres (s : State) (pulses : Nat) : Nat := pulses * 1000 / pulsesPerKm s

/-- Tariff `t` of the window's tariff bank (R6). -/
def windowTariff (s : State) (t : Nat) : Tariff :=
  let a := 0x2B00 + 64 * t
  { number := t, flagFare := s.mem.readNat a 4, allowance := s.mem.readNat (a + 4) 4,
    distanceRate := s.mem.readNat (a + 8) 4, timeRate := s.mem.readNat (a + 12) 4,
    dropValue := s.mem.readNat (a + 16) 2, mode := s.mem.read (a + 18), name := s.mem.readBytes (a + 19) 8 }

/-- Validity of a tariff record (R7). -/
def Tariff.valid (t : Tariff) : Bool :=
  decide (t.flagFare ≤ 99999) && decide (t.allowance ≤ 99999) && decide (t.distanceRate ≤ 99999) &&
  decide (t.timeRate ≤ 999999) && decide (1 ≤ t.dropValue) && decide (t.dropValue ≤ 1000) &&
  (t.mode == 0#8 || t.mode == 1#8) && decide (0 < t.distanceRate + t.timeRate)

/-- A schedule entry of the window's tariff bank (R20). -/
structure ScheduleEntry where
  days   : Byte
  used   : Bool
  minute : Nat
  tariff : Nat
  deriving DecidableEq, Repr

/-- Schedule entry `i`, its start minute and tariff number clamped at use (R20). -/
def scheduleEntry (s : State) (i : Nat) : ScheduleEntry :=
  let a := 0x2C00 + 8 * i
  { days := s.mem.read a, used := s.mem.read (a + 1) != 0#8, minute := clamp 0 1439 (s.mem.readNat (a + 2) 2),
    tariff := clamp 0 3 (s.mem.read (a + 4)).toNat }

/-- The value of extras item `i`, clamped at use to 0..9,999 (R33). -/
def extraValue (s : State) (i : Nat) : Nat := clamp 0 9999 (s.mem.readNat (0x2C80 + 16 * i) 2)

/-- The per-trip limit of extras item `i`, clamped at use to 0..15 (R33). -/
def extraLimit (s : State) (i : Nat) : Nat := clamp 0 15 (s.mem.read (0x2C80 + 16 * i + 2)).toNat

end Sys2Proof.Machine
end

