-- ==== Sys2Proof/Machine/Flags.lean ====
section
/-! DEFINITION. The condition flags, the line matches, the gates and which channel is presentable (sections 10.1, 10.2). -/

namespace Sys2Proof.Machine

/-- Some offer entry is OPEN (R62). -/
def offerOpen (s : State) : Bool := s.oft.entries.toList.any fun e => e.state == .open

/-- Some inbox entry is NEW (R92). -/
def unread (s : State) : Bool := s.mst.inbox.toList.any fun e => e.state == .new

/-- The free count is below the routine mark as clamped (R90). -/
def poolLow (s : State) : Bool := decide (s.mst.freeCount < routineMark s)

/-- One bit of the flags byte. -/
def flagBit (position : Nat) (b : Bool) : Byte := if b then 1#8 <<< position else 0#8

/-- The condition flags byte of R158: SHIFT_OPEN, AVAILABLE, HIRED, EMERGENCY, LINK_UP, OFFER_OPEN, UNREAD, POOL_LOW. -/
def conditionFlags (s : State) : Byte :=
  flagBit 0 (s.mtc.meter != .off) ||| flagBit 1 (s.dsc.status == .available) ||| flagBit 2 (s.dsc.status == .hired) |||
  flagBit 3 (s.emc.state != .quiet) ||| flagBit 4 (s.ale.link == .up) ||| flagBit 5 (offerOpen s) |||
  flagBit 6 (unread s) ||| flagBit 7 (poolLow s)

/-- A line matches when every flag of its select set is true (R176). -/
def selectMatches (select flags : Byte) : Bool := flags &&& select == select

/-- The match of NOTE_A by the state as it stands (R159, R176). -/
def matchNowA (s : State) : Bool := selectMatches (s.mem.read 0x2E1D) (conditionFlags s)

/-- The match of NOTE_B by the state as it stands (R159, R176). -/
def matchNowB (s : State) : Bool := selectMatches (s.mem.read 0x2E20) (conditionFlags s)

/-- The gate of a line: ALWAYS, NEVER, WHILE_MATCH, WHILE_NO_MATCH; any other mode is read as NEVER (R159, R176). -/
def gateOpen (mode : Nat) (isMatch : Bool) : Bool :=
  match mode with
  | 0 => true
  | 2 => isMatch
  | 3 => !isMatch
  | _ => false

/-- Some channel above `n`, or `n` itself, is in service. -/
def inServiceFrom (s : State) (n : Nat) : Bool :=
  (List.range 16).any fun c => decide (n ≤ c) && s.atc.inService.getLsbD c

/-- A channel is presentable when it is pending and unmasked and, with service tracking on, higher than every channel
in service (R174). -/
def presentable (s : State) (n : Nat) : Bool :=
  s.atc.pending.getLsbD n && (channelMasks s).testBit n && (!serviceTracking s || !inServiceFrom s n)

/-- The highest presentable channel (R174). -/
def highestPresentable (s : State) : Option Nat := ((List.range 16).reverse).find? fun n => presentable s n

/-- A line is asserted while its gate is open and a presentable channel is routed to it; until READY both lines are
released (R176). -/
def lineAsserted (s : State) (lineB : Bool) : Bool :=
  s.phase == .ready &&
  gateOpen (setting s (if lineB then 0x1F else 0x1C)) (if lineB then s.atc.matchB else s.atc.matchA) &&
  (List.range 16).any fun n => presentable s n && ((channelRoutes s).testBit n == lineB)

end Sys2Proof.Machine
end

