-- ==== Sys2Proof/Machine/Ops.lean ====
section
/-! DEFINITION. The operations every block shares: setting a channel, judging the line matches, recording a fault, asking
a write of the store, and writing an answer into a request record. -/

namespace Sys2Proof.Machine

/-- A block sets a channel: it becomes pending if its enable is set (R173). -/
def setChannel (c : Channel) (s : State) : State :=
  if (channelEnables s).testBit c.number then
    s.modAtc fun a => { a with pending := a.pending ||| (1#16 <<< c.number) }
  else s

/-- The match results taken as they stand. -/
def takeMatches (s : State) : State :=
  s.modAtc fun a => { a with matchA := matchNowA s, matchB := matchNowB s }

/-- Some line's match has changed while its change report is on (R177). -/
def matchChangeReported (s : State) : Bool :=
  (matchNowA s != s.atc.matchA && settingFlag s 0x1E) || (matchNowB s != s.atc.matchB && settingFlag s 0x21)

/-- Judge the matches after a change of a condition flag or a setting; a reported change sets channel PATTERN (0)
(R176, R177). Changes before READY set none. -/
def rejudge (s : State) : State :=
  if s.phase = .ready then
    if matchChangeReported s then setChannel .pattern (takeMatches s) else takeMatches s
  else s

/-- The lines as they are driven at the end of an arrival (R176). -/
def driveLines (s : State) : State :=
  s.modPins fun p => { p with noteA := lineAsserted s false, noteB := lineAsserted s true }

/-- The index after the newest entry of the fault ring: 0 when the ring is empty and 0 after 7 (R178). -/
def nextRingIndex (newest : Option (Fin 8)) : Fin 8 :=
  match newest with
  | none => 0
  | some n => n + 1

/-- The newest entry holds this fault, so the fault collapses into it (R178). -/
def ringRepeats (a : Atc) (f : FaultId) : Option (Fin 8) :=
  match a.newest with
  | none => none
  | some n => if (a.ring.get n).fault = some f then some n else none

/-- The entry of a fault (R178): its detail saturates at 65,535. -/
def ringEntry (f : FaultId) (repeats detail seconds : Nat) : RingEntry :=
  { fault := some f, repeats := repeats, detail := min u16Max detail, seconds := seconds }

/-- The ring after a fault (R178). -/
def ringAfter (a : Atc) (f : FaultId) (detail seconds : Nat) : Atc :=
  match ringRepeats a f with
  | some n =>
    let entry := ringEntry f (satAdd 255 (a.ring.get n).repeats 1) detail seconds
    { a with ring := a.ring.set n.val entry n.isLt }
  | none =>
    let n := nextRingIndex a.newest
    { a with ring := a.ring.set n.val (ringEntry f 1 detail seconds) n.isLt, newest := some n }

/-- A block records a fault; every recorded fault sets channel FAULT (2) (R178). -/
def recordFault (f : FaultId) (detail : Nat) (s : State) : State :=
  setChannel .fault (s.modAtc fun a => ringAfter a f detail s.frc.clock.seconds)

/-- A write is asked of the store; one asked for while one of its kind waits is taken up by the waiting one (R183). -/
def requestWrite (k : StoreKind) (s : State) : State :=
  s.modCps fun c => { c with queue := if k ∈ c.queue then c.queue else c.queue ++ [k] }

/-- A meter commit is requested (R45). -/
def requestCommit (s : State) : State := requestWrite .meter s

/-- A write of a kind is being written. -/
def beingWritten (s : State) (k : StoreKind) : Bool :=
  match s.cps.writing with
  | some j => j.kind == k
  | none => false

/-- The update count rises by one, from 65,535 to 0 (R162). -/
def Wpt.countUpdate (w : Wpt) : Wpt := { w with updateCount := (w.updateCount + 1) % 65536 }

/-- A group rewrite begins: the first in progress makes the update count odd (R162). -/
def beginRewrite (s : State) : State :=
  s.modWpt fun w => { if w.rewriting = 0 then w.countUpdate else w with rewriting := w.rewriting + 1 }

/-- A group rewrite ends: the last in progress makes the update count even (R162). -/
def endRewrite (s : State) : State :=
  s.modWpt fun w => { if w.rewriting = 1 then w.countUpdate else w with rewriting := w.rewriting - 1 }

/-- A group is rewritten by a change; a rewrite within the change shares its odd period (R162; log entry 12). -/
def groupRewrite (change : State → State) (s : State) : State := endRewrite (change (beginRewrite s))

/-- The window offset of record `r` (R157). -/
def recordBase (r : Fin 16) : Nat := 0x0100 + 64 * r.val

/-- The hand field of a record (R163): 0 FREE, 1 POSTED, 2 TAKEN, 3 CANCEL_ASKED, 4 ANSWERED. -/
def handField (s : State) (r : Fin 16) : Byte := s.mem.read (recordBase r)

/-- The kind byte of a record (R168). -/
def kindByte (s : State) (r : Fin 16) : Byte := s.mem.read (recordBase r + 1)

/-- Write a hand field. -/
def setHand (r : Fin 16) (v : Byte) (s : State) : State := s.modMem fun m => m.write (recordBase r) v

/-- The result codes (R170). -/
inductive Result where
  | done | delivered | cancelled | failed | refusedState | refusedLocked | refusedRange | refusedTariffLock
  | tooLate | busy | unknownKind | wrongCode | tooEarly | notPermitted | linkDown | storeFailed
  deriving DecidableEq, Repr

/-- The code of R170. -/
def Result.code : Result → Byte
  | .done => 0 | .delivered => 1 | .cancelled => 2 | .failed => 3 | .refusedState => 4 | .refusedLocked => 5
  | .refusedRange => 6 | .refusedTariffLock => 7 | .tooLate => 8 | .busy => 9 | .unknownKind => 10
  | .wrongCode => 11 | .tooEarly => 12 | .notPermitted => 13 | .linkDown => 14 | .storeFailed => 15

/-- The bytes of an answer from byte 4 on: result, detail, answer word (R168). -/
def answerBytes (result : Result) (detail : Byte) (word : Nat) : List Byte :=
  [result.code, detail] ++ littleEndian 2 word

/-- An answer is written: result, detail and answer word, then the hand field ANSWERED; channel REQUEST (11) is set
(R165). -/
def writeAnswer (r : Fin 16) (result : Result) (detail : Byte) (word : Nat) (s : State) : State :=
  setChannel .request
    (setHand r 4#8 (s.modMem fun m => m.writeBytes (recordBase r + 4) (answerBytes result detail word)))

/-- The answer of a prompt request, with detail 0 (R165, R170). -/
def answer (r : Fin 16) (result : Result) (word : Nat) (s : State) : State := writeAnswer r result 0#8 word s

/-- The answer that ends the work of a lasting request (R166): from TAKEN or CANCEL_ASKED, with the CANCEL_LATE mark in
the second case (R167, R170); nothing is written when a port reset has freed the record. -/
def answerWork (r : Fin 16) (result : Result) (reason : Nat) (word : Nat) (s : State) : State :=
  if handField s r = 2#8 then writeAnswer r result (byteOf reason) word s
  else if handField s r = 3#8 then writeAnswer r result (byteOf reason ||| 0x80#8) word s
  else s

end Sys2Proof.Machine
end

