-- ==== Sys2Proof/Machine/Queue.lean ====
section
/-! DEFINITION. The transmit queue: order, joining, displacement, the requests of origin blocks, and the routing of
outcomes that ask for no new frame (chapter 8). Emergency-class outcomes, which may ask for frames, are routed in
Machine/EmergencyOps.lean. -/

namespace Sys2Proof.Machine

/-- Change one offer entry; the condition flag OFFER_OPEN is judged with it (R61, R62). -/
def updateOffer (e : Fin 8) (f : OfferEntry → OfferEntry) (s : State) : State :=
  rejudge (s.modOft fun o => { o with entries := o.entries.set e.val (f (o.entries.get e)) e.isLt })

/-- Change one inbox entry; the condition flag UNREAD is judged with it (R92). -/
def updateInbox (i : Fin 24) (f : InboxEntry → InboxEntry) (s : State) : State :=
  rejudge (s.modMst fun m => { m with inbox := m.inbox.set i.val (f (m.inbox.get i)) i.isLt })

/-- Change one trip record. -/
def updateTripRecord (t : Fin 24) (f : TripRecord → TripRecord) (s : State) : State :=
  s.modMtc fun m => { m with tripLog := m.tripLog.set t.val (f (m.tripLog.get t)) t.isLt }

/-- The bidding has ended: the status becomes AVAILABLE if it is BIDDING (R51). The move out of BIDDING queues no
STATUS frame, sets no channel and needs nothing of the offer table (R49, R83). -/
def leaveBidding (s : State) : State :=
  if s.dsc.status = .bidding then rejudge (s.modDsc fun d => { d with status := .available }) else s

/-- A frame that joins: WAITING, attempts 0, backoff 0, no sequence, and the sending cycle 0, to which R143 gives no value
before a hand-over (log entry 36). -/
def newFrame (kind : UplinkKind) (origins : List Origin) (body : FrameBody) : Frame :=
  { kind := kind, origins := origins.map fun o => { origin := o, detached := false }, body := body,
    sequence := none, attempts := 0, backoff := 0, sendingCycle := 0, inFlight := false }

/-- The urgency class of a frame (R143). -/
def Frame.cls (f : Frame) : Nat := f.kind.cls

/-- The frame has this origin, not detached. -/
def Frame.hasOrigin (f : Frame) (o : Origin) : Bool := f.origins.any fun l => l.origin == o && !l.detached

/-- Every origin of the frame is detached (R147). -/
def Frame.orphaned (f : Frame) : Bool := f.origins.all fun l => l.detached

/-- A frame joins after every frame of its own class and before every frame of a less urgent class (R144). -/
def insertFrame (frames : List Frame) (f : Frame) : List Frame :=
  frames.takeWhile (fun g => decide (g.cls ≤ f.cls)) ++ f :: frames.dropWhile (fun g => decide (g.cls ≤ f.cls))

/-- The newest frame of a kind wanted, by the order of the queue. -/
def newestFrame (frames : List Frame) (wanted : Frame → Bool) : Option Frame := frames.reverse.find? wanted

/-- The frames without the newest frame of a kind wanted. -/
def withoutNewest (frames : List Frame) (wanted : Frame → Bool) : List Frame := (frames.reverse.eraseP wanted).reverse

/-- The least urgent class among the WAITING frames (R146). -/
def leastUrgentWaiting (frames : List Frame) : Nat :=
  (frames.filter fun f => !f.inFlight).foldl (fun c f => max c f.cls) 0

/-- The frames R146 may displace for a frame of class `c`: WAITING, of the least urgent class among the WAITING frames,
and of a less urgent class than the new frame. -/
def displaceable (frames : List Frame) (c : Nat) (f : Frame) : Bool :=
  !f.inFlight && f.cls == leastUrgentWaiting frames && decide (c < f.cls)

/-- The reason of a lost bid (R76). -/
def FailReason.bidLoss : FailReason → OfferReason
  | .noAck | .queueFull | .displaced => .noAck
  | .link | .reset => .link

/-- The outcome of a BID or REFUSE frame returns to its offer entry, which acts if it still holds the number (R76). -/
def routeToOffer (kind : UplinkKind) (outcome : TxOutcome) (e : Fin 8) (number : Nat) (s : State) : State :=
  let entry := s.oft.entries.get e
  if entry.state = .empty ∨ entry.number ≠ number then s
  else if kind = .refuse then updateOffer e (fun x => { x with refusePending := false }) s
  else
    match outcome with
    | .delivered => updateOffer e (fun x => { x with bidFrame := .none }) s
    | .failed reason =>
      if entry.state.bidding then
        setChannel .offerResult (leaveBidding (updateOffer e (fun x =>
          { x with bidFrame := .none, state := .lost, reason := reason.bidLoss, awardRemaining := 0 }) s))
      else updateOffer e (fun x => { x with bidFrame := .none }) s

/-- The state of a reply's inbox entry after the outcome (R103). -/
def TxOutcome.inboxState : TxOutcome → InboxState
  | .delivered => .replied
  | .failed _ => .read

/-- The send state of a trip record, or the shift report state, after the outcome (R41, R42). -/
def TxOutcome.sendState : TxOutcome → SendState
  | .delivered => .sent
  | .failed _ => .unsent

/-- The answer word of a text request's answer: for a REPLY the state code of its inbox entry, for a SEND_TEXT 0 (R100,
R103). -/
def textAnswerWord (s : State) (r : Fin 16) : Nat :=
  if kindByte s r = 0x31#8 then
    if h : (s.mem.read (recordBase r + 8)).toNat < 24 then (s.mst.inbox.get ⟨_, h⟩).state.code else 0
  else 0

/-- The outcome of a text frame answers its request (R101, R103). -/
def routeToRecord (outcome : TxOutcome) (r : Fin 16) (s : State) : State :=
  match outcome with
  | .delivered => answerWork r .delivered 0 (textAnswerWord s r) s
  | .failed reason => answerWork r .failed reason.code (textAnswerWord s r) s

/-- One origin of a frame hears its outcome (R156). An emergency-class outcome is not routed here. -/
def routeToOrigin (f : Frame) (outcome : TxOutcome) (o : Origin) (s : State) : State :=
  match o with
  | .record r => routeToRecord outcome r s
  | .inbox i => updateInbox i (fun x => { x with state := outcome.inboxState }) s
  | .offer e number => routeToOffer f.kind outcome e number s
  | .trip t => requestCommit (updateTripRecord t (fun x => { x with sendState := outcome.sendState }) s)
  | .lastShift => s.modMtc fun m => { m with totals := { m.totals with reportState := outcome.sendState } }
  | .emergency => s
  | .dispatch | .receipts | .refusals =>
    match outcome with
    | .delivered => s
    | .failed _ => setChannel .queue (recordFault .frameFailed f.kind.code s)

/-- A frame's outcome is routed to every origin that is not detached, in the order in which the frame names them (R156). -/
def routeOutcome (f : Frame) (outcome : TxOutcome) (s : State) : State :=
  f.origins.foldl (fun t l => if l.detached then t else routeToOrigin f outcome l.origin t) s

/-- Change the queue's frames. -/
def modFrames (g : List Frame → List Frame) (s : State) : State := s.modTxq fun q => { q with frames := g q.frames }

/-- A frame asked for joins the queue; with 16 frames held, R146 displaces the newest WAITING frame of the least urgent
class for it, or fails it QUEUE_FULL (R145, R146). -/
def joinQueue (f : Frame) (s : State) : State :=
  if s.txq.frames.length < 16 then modFrames (fun fs => insertFrame fs f) s
  else
    match newestFrame s.txq.frames (displaceable s.txq.frames f.cls) with
    | some v =>
      modFrames (fun fs => insertFrame fs f)
        (routeOutcome v (.failed .displaced)
          (modFrames (fun fs => withoutNewest fs (displaceable fs f.cls)) s))
    | none => routeOutcome f (.failed .queueFull) s

/-- A frame of this kind is WAITING. -/
def kindWaiting (s : State) (k : UplinkKind) : Bool := s.txq.frames.any fun f => f.kind == k && !f.inFlight

/-- STATUS and POLL_REPLY are live and coalesce with a WAITING frame of their kind (R145). -/
def askLive (k : UplinkKind) (s : State) : State :=
  if kindWaiting s k then s else joinQueue (newFrame k [.dispatch] .live) s

/-- A STATUS frame is asked of the queue with a held reason (R54). -/
def askStatusFrame (reason : StatusReason) (s : State) : State :=
  askLive .status (s.modDsc fun d => { d with heldReason := reason })

/-- How the queue answers a request to remove a frame (R147). -/
inductive Removal where
  | removed | inFlight | notFound
  deriving DecidableEq, Repr

/-- The queue's answer to a request to remove the newest frame wanted (R147). Which frame R74 and R78 mean when the queue
holds two BID frames of one entry and offer number, the spec leaves open: the model takes the newest (log entry 40). -/
def removalOf (frames : List Frame) (wanted : Frame → Bool) : Removal :=
  match newestFrame frames wanted with
  | none => .notFound
  | some f => if f.inFlight then .inFlight else .removed

/-- Remove the newest frame wanted if it is WAITING; no outcome is routed (R147; that it is the newest, log entry 40). -/
def removeWaiting (wanted : Frame → Bool) (s : State) : State :=
  if removalOf s.txq.frames wanted = .removed then modFrames (fun fs => withoutNewest fs wanted) s else s

/-- Mark one origin of a frame detached. -/
def Frame.detach (o : Origin) (f : Frame) : Frame :=
  { f with origins := f.origins.map fun l => if l.origin = o then { l with detached := true } else l }

/-- Detach an origin from its frames; a WAITING frame left without an origin leaves the queue at once (R147). -/
def detachOrigin (o : Origin) (s : State) : State :=
  modFrames (fun fs => (fs.map (Frame.detach o)).filter fun f => f.inFlight || !f.orphaned) s

end Sys2Proof.Machine
end

