-- ==== Sys2Proof/Machine/OfferOps.lean ====
section
/-! DEFINITION. The offer table's shared moves and the dispatch status changes they are tied to (R49 to R51, R74, R80,
R83 to R85). -/

namespace Sys2Proof.Machine

/-- The entry numbers of the offer table. -/
def offerIndices : List (Fin 8) := [0, 1, 2, 3, 4, 5, 6, 7]

/-- The entry that holds an offer number (R66, R78). -/
def offerWithNumber (s : State) (number : Nat) : Option (Fin 8) :=
  offerIndices.find? fun e => (s.oft.entries.get e).state != .empty && (s.oft.entries.get e).number == number

/-- The entry that is BID_QUEUED or BID_SENT (R63). -/
def biddingEntry (s : State) : Option (Fin 8) :=
  offerIndices.find? fun e => (s.oft.entries.get e).state.bidding

/-- A REFUSE frame with its entry as origin is queued unless one is PENDING (R80). -/
def queueRefuse (e : Fin 8) (reason : RefuseReason) (s : State) : State :=
  let entry := s.oft.entries.get e
  if entry.refusePending then s
  else
    joinQueue (newFrame .refuse [.offer e entry.number] (.fixed (.refuse entry.number reason)))
      (updateOffer e (fun x => { x with refusePending := true }) s)

/-- A REFUSE of an offer that no entry holds is queued as an internal frame (R80). -/
def queueRefuseUnknown (number : Nat) (reason : RefuseReason) (s : State) : State :=
  joinQueue (newFrame .refuse [.refusals] (.fixed (.refuse number reason))) s

/-- The BID frame of an entry. -/
def isBidOf (e : Fin 8) (number : Nat) (f : Frame) : Bool := f.kind == .bid && f.hasOrigin (.offer e number)

/-- Where the entry's BID frame stands after steps 2 and 3 of R74, by the queue's answer. -/
def bidFrameAfter (bf : BidFrame) (answer : Removal) : BidFrame :=
  match bf, answer with
  | .none, _ => .none
  | _, .removed => .none
  | _, .inFlight => .transmitted
  | b, .notFound => b

/-- The BID frame was TRANSMITTED at step 3 of R74, or became so at step 2. -/
def bidWasTransmitted (bf : BidFrame) (answer : Removal) : Bool :=
  bf == .transmitted || (bf == .queued && answer == .inFlight)

/-- A bid that ends early is settled (R74); `cause` is the refuse reason of a cause on the cab's side. -/
def settleBid (e : Fin 8) (cause : Option RefuseReason) (s : State) : State :=
  let entry := s.oft.entries.get e
  let wanted := isBidOf e entry.number
  let reply := removalOf s.txq.frames wanted
  let s₁ := updateOffer e (fun x => { x with awardRemaining := 0, bidFrame := bidFrameAfter entry.bidFrame reply }) s
  let s₂ := if entry.bidFrame = .none then s₁ else removeWaiting wanted s₁
  match cause with
  | some reason => if bidWasTransmitted entry.bidFrame reply then queueRefuse e reason s₂ else s₂
  | none => s₂

/-- An entry moves to a terminal state; both its timers stop and show 0 (R61, R62, R69). -/
def endOffer (e : Fin 8) (state : OfferState) (reason : OfferReason) (s : State) : State :=
  updateOffer e (fun x => { x with state := state, reason := reason, windowRemaining := 0, awardRemaining := 0 }) s

/-- A bidding entry ends in a state, and its bid is settled (R74). -/
def endBid (e : Fin 8) (state : OfferState) (reason : OfferReason) (cause : Option RefuseReason) (s : State) : State :=
  settleBid e cause (endOffer e state reason s)

/-- The change from BIDDING to HIRED: the bidding entry becomes WITHDRAWN (HIRED), with a REFUSE if its BID frame was
transmitted (R83). -/
def streetHire (s : State) : State :=
  match biddingEntry s with
  | some e => setChannel .offerResult (endBid e .withdrawn .hired (some .hired) s)
  | none => s

/-- What the offer table does with a change of the dispatch status (R83). -/
def reportStatus (old new : DispatchStatus) (s : State) : State :=
  let s₁ := if old = .assigned then s.modOft fun o => { o with assignment := none } else s
  if old = .bidding ∧ new = .hired then streetHire s₁ else s₁

/-- A change of the dispatch status with all its effects; a value already held is no change (R49). -/
def setStatus (new : DispatchStatus) (reason : StatusReason) (s : State) : State :=
  let old := s.dsc.status
  if new = old then s
  else
    let s₁ := rejudge (s.modDsc fun d =>
      { d with status := new, queuePosition := if old = .available then 0 else d.queuePosition })
    let s₂ := if old ≠ .bidding ∧ new ≠ .bidding then setChannel .status (askStatusFrame reason s₁) else s₁
    reportStatus old new s₂

/-- A status change the offer table asks for, applied from the statuses of R51 only. -/
def requestStatus (new : DispatchStatus) (applicable : List DispatchStatus) (s : State) : State :=
  if s.dsc.status ∈ applicable then setStatus new .change s else s

/-- The meter report moves the dispatch status (R50). -/
def reportMeter (old new : MeterState) (s : State) : State :=
  match old, new with
  | .off, .vacant => setStatus .available .change s
  | .vacant, .off => setStatus .offDuty .change s
  | .vacant, .hired => setStatus .hired .change s
  | .payment, .vacant => setStatus .available .change s
  | _, _ => s

/-- The entry into ALERTING withdraws every OPEN entry and the bidding entry (R84). -/
def withdrawForEmergency (s : State) : State :=
  let s₁ := offerIndices.foldl (fun t e =>
    if (t.oft.entries.get e).state = .open then setChannel .offerResult (endOffer e .withdrawn .emergency t) else t) s
  match biddingEntry s₁ with
  | some e => requestStatus .available [.bidding]
      (setChannel .offerResult (endBid e .withdrawn .emergency (some .emergency) s₁))
  | none => s₁

/-- The link has changed to LOST: the bidding entry becomes LOST (LINK) (R85). -/
def loseBidToLink (s : State) : State :=
  match biddingEntry s with
  | some e => setChannel .offerResult (requestStatus .available [.bidding] (endBid e .lost .link none s))
  | none => s

end Sys2Proof.Machine
end

