-- ==== Sys2Proof/Machine/EmergencyOps.lean ====
section
/-! DEFINITION. The emergency controller's shared moves (chapter 6) and the routing of every outcome (R156). -/

namespace Sys2Proof.Machine

/-- A change of the emergency state with the effects of R107. -/
def setEmergency (new : EmergencyState) (s : State) : State :=
  requestCommit (setChannel .emergency (rejudge (s.modEmc fun e => { e with state := new })))

/-- The uplink kind of an emergency-class frame. -/
def EmergencyKind.uplink : EmergencyKind → UplinkKind
  | .alert => .emergency
  | .cancel => .emergencyCancel

/-- The frame an ask of R112 queues: EMERGENCY live, EMERGENCY_CANCEL with a body fixed now, when it is queued (R113); one
that was owed or is asked again carries the clock of that moment and not of the request (log entry 42). -/
def emergencyFrame (k : EmergencyKind) (s : State) : Frame :=
  match k with
  | .alert => newFrame .emergency [.emergency] .live
  | .cancel => newFrame .emergencyCancel [.emergency]
      (.fixed (.emergencyCancel s.emc.count s.frc.clock s.emc.wrongCodes))

/-- An emergency-class frame is asked for, by where the class 0 frame stands in the queue (R112). -/
def askEmergency (k : EmergencyKind) (s : State) : State :=
  match s.txq.frames.find? (fun f => f.cls == 0) with
  | none => joinQueue (emergencyFrame k s) s
  | some g =>
    if g.inFlight then s.modEmc fun e => { e with owed := some k }
    else if g.kind = k.uplink then s
    else modFrames (fun fs => insertFrame (fs.eraseP fun f => f.cls == 0) (emergencyFrame k s)) s

/-- Start or restart the update timer with its full interval (R117). -/
def startUpdateTimer (s : State) : State := s.modEmc fun e => { e with updateTimer := some (updateInterval s) }

/-- Stop the update timer (R117). -/
def stopUpdateTimer (s : State) : State := s.modEmc fun e => { e with updateTimer := none }

/-- A return to QUIET (R121). -/
def returnToQuiet (s : State) : State :=
  let s₁ := setEmergency .quiet s
  let s₂ := s₁.modEmc fun e => { e with updateTimer := none, owed := none }
  let s₃ := removeWaiting (fun f => f.cls == 0) s₂
  s₃.modEmc fun e => { e with wrongCodes := 0, duress := false }

/-- What the outcome of an emergency-class frame does by its kind and the state (R115). -/
def emergencyOutcome (kind : UplinkKind) (outcome : TxOutcome) (s : State) : State :=
  match kind, outcome, s.emc.state with
  | .emergency, .delivered, .alerting => startUpdateTimer s
  | .emergency, .failed _, .alerting => askEmergency .alert s
  | .emergencyCancel, .delivered, .cancelling => returnToQuiet s
  | .emergencyCancel, .failed _, .cancelling => askEmergency .cancel s
  | _, _, _ => s

/-- A frame owed is queued and the frame owed becomes NONE (R112). -/
def queueOwed (s : State) : State :=
  match s.emc.owed with
  | some k => askEmergency k (s.modEmc fun e => { e with owed := none })
  | none => s

/-- The outcome of a frame that has left the queue reaches its origins (R156). -/
def deliverOutcome (f : Frame) (outcome : TxOutcome) (s : State) : State :=
  if f.hasOrigin .emergency then queueOwed (emergencyOutcome f.kind outcome s) else routeOutcome f outcome s

/-- The entry into ALERTING from QUIET (R110). -/
def raiseCall (s : State) : State :=
  let s₁ := s.modEmc fun e => { e with count := satAdd u16Max e.count 1, presses := 1, code := cancelCode s }
  let s₂ := setEmergency .alerting s₁
  withdrawForEmergency (askEmergency .alert s₂)

/-- One more press in a call (R111). -/
def countPress (s : State) : State := s.modEmc fun e => { e with presses := satAdd 255 e.presses 1 }

/-- A press acts by the emergency state at its arrival (R110, R111). The entry into ALERTING from CANCELLING is reported
to the offer table too (R107). -/
def pressAlarm (s : State) : State :=
  match s.emc.state with
  | .quiet => raiseCall s
  | .alerting => stopUpdateTimer (askEmergency .alert (countPress s))
  | .acked => startUpdateTimer (askEmergency .alert (countPress s))
  | .cancelling => withdrawForEmergency (askEmergency .alert (setEmergency .alerting (countPress s)))

/-- The ALARM line has stood at its level for 0.5 s, judged against the alarm active level as it stands (R108). The active
level is a press where the line has been released since the last one, and nothing more where it has not; the other level
releases the line. -/
def judgeAlarm (s : State) : State :=
  if s.pins.alarm = alarmActiveHigh s then
    if s.emc.alarmReleased then pressAlarm (s.modEmc fun e => { e with alarmReleased := false }) else s
  else s.modEmc fun e => { e with alarmReleased := true }

end Sys2Proof.Machine
end

