-- ==== Sys2Proof/Machine/FareOps.lean ====
section
/-! DEFINITION. The fare computer: pulses, the accumulator and its drops, the fare group, the schedule, the clock
(chapter 1). -/

namespace Sys2Proof.Machine

/-- Change the hire's values. -/
def modHire (g : Hire → Hire) (s : State) : State := s.modFrc fun f => { f with hire := g f.hire }

/-- P_max, the per-second ceiling of pulses (R2). -/
def pulseCeiling (s : State) : Nat := pulsesPerKm s * speedCeiling s / 3600 + 1

/-- The pulses of the counter that are used: at most the ceiling, and none while the meter is OFF (R2, R3). -/
def usedPulses (s : State) : Nat :=
  if s.mtc.meter = .off then 0 else min s.frc.pulseCounter (pulseCeiling s)

/-- The pulses above the ceiling; none are judged while the meter is OFF (R2). -/
def excessPulses (s : State) : Nat :=
  if s.mtc.meter = .off then 0 else s.frc.pulseCounter - pulseCeiling s

/-- The excess is discarded: fault METER/PULSES_DISCARDED, and the open trip's count and flag (R2). -/
def discardExcess (s : State) : State :=
  let excess := excessPulses s
  if excess = 0 then s
  else
    let s₁ := recordFault .pulsesDiscarded excess s
    if s.mtc.meter.tripOpen then
      modHire (fun h => { h with discardedPulses := satAdd u32Max h.discardedPulses excess, pulsesDiscarded := true }) s₁
    else s₁

/-- Used pulses are assigned by the meter state (R3). -/
def assignPulses (used : Nat) (s : State) : State :=
  match s.mtc.meter with
  | .off => s
  | .vacant | .payment => s.modFrc fun f => { f with shiftPulses := satAdd u32Max f.shiftPulses used }
  | .hired => modHire (fun h => { h with hiredPulses := satAdd u32Max h.hiredPulses used })
      (s.modFrc fun f => { f with shiftPulses := satAdd u32Max f.shiftPulses used })
  | .stopped => modHire (fun h => { h with unpaidPulses := satAdd u32Max h.unpaidPulses used })
      (s.modFrc fun f => { f with shiftPulses := satAdd u32Max f.shiftPulses used })

/-- The seconds counter that an expiry raises (R3). -/
def countSecond (s : State) : State :=
  match s.mtc.meter with
  | .hired => modHire (fun h => { h with hiredSeconds := satAdd u32Max h.hiredSeconds 1 }) s
  | .stopped => modHire (fun h => { h with stoppedSeconds := satAdd u32Max h.stoppedSeconds 1 }) s
  | .off | .vacant | .payment => s

/-- The meter second ends: its pulses are checked and assigned, and a fresh second begins with the counter at zero (R1 to
R4). -/
def closePulses (s : State) : State :=
  (assignPulses (usedPulses s) (discardExcess s)).modFrc fun f => { f with pulseCounter := 0 }

/-- The extras sum of the open trip. -/
def extrasSum (s : State) : Nat := s.mtc.trip.extrasSum

/-- The tariff number that the directory shows (R8). -/
def shownTariff (s : State) : Nat :=
  if s.mtc.meter.tripOpen then s.frc.hire.tariff.number else s.frc.override.getD s.frc.scheduled

/-- The fare group by the state as it stands (R5, R8, R16). -/
def fareGroupNow (s : State) : FareGroup :=
  { number := shownTariff s, mode := s.frc.hire.tariff.mode, name := s.frc.hire.tariff.name, fare := s.frc.hire.fare,
    extras := extrasSum s, total := s.frc.hire.fare + extrasSum s, hiredMetres := metres s s.frc.hire.hiredPulses,
    hiredSeconds := s.frc.hire.hiredSeconds }

/-- The fare group is rewritten under the update count (R16, R162). -/
def rewriteFareGroup (s : State) : State :=
  groupRewrite (fun t => t.modFrc fun f => { f with fareGroup := fareGroupNow t }) s

/-- T = Q × S of the tariff in force (R12). -/
def dropThreshold (s : State) : Nat := s.frc.hire.tariff.dropValue * scale s

/-- The charge of one second in HIRED (R11). -/
def secondCharge (s : State) (used : Nat) : Nat :=
  let t := s.frc.hire.tariff
  let d := used * t.distanceRate * 3600
  let time := t.timeRate * pulsesPerKm s
  if t.mode = 1#8 then d + time else max d time

/-- The fare limit (00_scope Money, R13). -/
def fareLimit : Nat := 999999

/-- The headroom H (R13). -/
def headroom (s : State) : Nat := fareLimit - s.frc.hire.fare - extrasSum s

/-- The drops due against T, 0 while A is below T (R12). -/
def dropsDue (s : State) : Nat := (s.frc.hire.accumulator / (dropThreshold s : Int)).toNat

/-- `n` drops are taken: the drop count, the fare, and A set to a value (R12, R13). -/
def takeDrops (n : Nat) (a : Int) (s : State) : State :=
  modHire (fun h => { h with dropCount := h.dropCount + n, fare := h.fare + n * h.tariff.dropValue, accumulator := a }) s

/-- The settlement of the accumulator against T (R12), within the headroom (R13). A settlement that takes a drop sets
channel FARE (5) and requests a commit; it, and the fare limit, rewrite the fare group (R16, R45). -/
def settle (s : State) : State :=
  let t := dropThreshold s
  let n := dropsDue s
  if s.frc.hire.accumulator < t ∨ n = 0 then s
  else if n * s.frc.hire.tariff.dropValue ≤ headroom s then
    rewriteFareGroup (requestCommit (setChannel .fare (takeDrops n (s.frc.hire.accumulator - n * t) s)))
  else
    let n' := headroom s / s.frc.hire.tariff.dropValue
    let s₁ := modHire (fun h => { h with fareLimit := true }) (takeDrops n' (t - 1) s)
    let s₂ := setChannel .fare s₁
    rewriteFareGroup (if n' = 0 then s₂ else requestCommit s₂)

/-- The second just ended is charged and settled; with FARE_LIMIT set the charge is discarded (R11). -/
def chargeSecond (used : Nat) (s : State) : State :=
  if s.frc.hire.fareLimit then s
  else settle (modHire (fun h => { h with accumulator := h.accumulator + secondCharge s used }) s)

/-- A better schedule entry than the best so far: a later start minute; of equal minutes the lower number stands (R20). -/
def laterEntry (best : Option ScheduleEntry) (x : ScheduleEntry) : Option ScheduleEntry :=
  match best with
  | none => some x
  | some b => if b.minute < x.minute then some x else some b

/-- An entry qualifies when it is used, its day mask includes the day and its start minute is not after now (R20). -/
def ScheduleEntry.qualifies (x : ScheduleEntry) (now : Stamp) : Bool :=
  x.used && x.days.getLsbD (now.dayOfWeek - 1) && decide (x.minute ≤ now.minute)

/-- The qualifying entry with the latest start minute (R20). -/
def qualifyingEntry (s : State) : Option ScheduleEntry :=
  (List.range 16).foldl (fun best i =>
    if (scheduleEntry s i).qualifies s.frc.clock then laterEntry best (scheduleEntry s i) else best) none

/-- The result of an evaluation: tariff 0 while the clock-set flag is clear or when no entry qualifies (R20). -/
def scheduledNow (s : State) : Nat :=
  if s.frc.clockSet then
    match qualifyingEntry s with
    | some x => x.tariff
    | none => 0
  else 0

/-- The rates of a new tariff replace those in force; F0 and V0 stay (R22, step 1). -/
def replaceRates (t : Tariff) (s : State) : State :=
  modHire (fun h => { h with tariff := { t with flagFare := h.tariff.flagFare, allowance := h.tariff.allowance } }) s

/-- The settlement at a switch: against the new T, or A = T − 1 with FARE_LIMIT set (R22 step 2, R23). -/
def settleSwitch (s : State) : State :=
  if s.frc.hire.fareLimit then modHire (fun h => { h with accumulator := (dropThreshold s : Int) - 1 }) s else settle s

/-- A tariff switch of a hire in HIRED or STOPPED with auto-switch set (R22, R23). -/
def switchTariff (n : Nat) (s : State) : State :=
  if s.frc.hire.tariff.number = n then s
  else if (windowTariff s n).valid then
    let s₁ := settleSwitch (replaceRates (windowTariff s n) s)
    let s₂ := modHire (fun h => { h with switchCount := satAdd 255 h.switchCount 1 }) s₁
    requestCommit (rewriteFareGroup (setChannel .clock s₂))
  else recordFault .tariffInvalid n s

/-- A new scheduled tariff replaces the old one and acts by R22 and R23. -/
def changeSchedule (n : Nat) (s : State) : State :=
  let s₁ := s.modFrc fun f => { f with scheduled := n }
  match s.mtc.meter with
  | .hired | .stopped => if autoSwitch s then switchTariff n s₁ else s₁
  | .off | .vacant => if s.frc.override = none then rewriteFareGroup s₁ else s₁
  | .payment => s₁

/-- An evaluation of the schedule: a result that differs from the scheduled tariff replaces it (R20). -/
def evaluateSchedule (s : State) : State :=
  if scheduledNow s = s.frc.scheduled then s else changeSchedule (scheduledNow s) s

/-- The clock group is rewritten and the schedule is evaluated. Where the evaluation changes the scheduled tariff, its
rewrite of the fare group may begin before the clock group's has ended: a free choice (R162; log entry 12). -/
def rewriteClockAndEvaluate (change : Frc → Frc) (s : State) : State :=
  let begun := (beginRewrite s).modFrc change
  if scheduledNow begun ≠ begun.frc.scheduled ∧ Config.rewritesOverlap s.wpt.updateCount = true then
    endRewrite (evaluateSchedule begun)
  else evaluateSchedule (endRewrite begun)

/-- The clock is set by SET_CLOCK or TIME: date, seconds, clock-set flag, a fresh calendar second, one evaluation (R18,
R19). -/
def setClockTo (t : Stamp) (s : State) : State :=
  rewriteClockAndEvaluate (fun f => { f with clock := t, clockSet := true }) s

/-- The tariff a HIRE chooses, after the evaluation it makes when no override is set (R10). -/
def chooseTariff (s : State) : State × Nat :=
  match s.frc.override with
  | some n => (s, n)
  | none => (evaluateSchedule s, (evaluateSchedule s).frc.scheduled)

/-- The hire starts at the fare computer (R10, steps 1 to 4). -/
def startHire (n : Nat) (s : State) : State :=
  let t := windowTariff s n
  s.modFrc fun f =>
    { f with override := none,
             hire := { Hire.zero t with fare := t.flagFare, accumulator := -((t.allowance * scale s : Nat) : Int),
                                        startingTariff := n } }

end Sys2Proof.Machine
end

