-- ==== Sys2Proof/Machine/MeterOps.lean ====
section
/-! DEFINITION. The meter controller: state changes, trips, extras, the payment hold, the trip log, totals and the meter
commit (chapter 2). -/

namespace Sys2Proof.Machine

/-- Change the totals group. -/
def modTotals (g : TotalsGroup → TotalsGroup) (s : State) : State := s.modMtc fun m => { m with totals := g m.totals }

/-- Change the open trip. -/
def modTrip (g : Trip → Trip) (s : State) : State := s.modMtc fun m => { m with trip := g m.trip }

/-- A change of the meter state with the effects of R28; the second in progress is closed in the old state (R4). -/
def meterChange (new : MeterState) (s : State) : State :=
  let old := s.mtc.meter
  let s₁ := closePulses s
  let s₂ := rejudge (s₁.modMtc fun m => { m with meter := new })
  let s₃ := reportMeter old new (rewriteFareGroup s₂)
  setChannel .meter (requestCommit s₃)

/-- The shift and lifetime total metres are refreshed from the shift pulses (R44). -/
def refreshMetres (s : State) : State :=
  let m := min u32Max (metres s s.frc.shiftPulses)
  modTotals (fun g =>
    { g with shift := { g.shift with totalMetres := m },
             lifetime := { g.lifetime with totalMetres := satAdd u32Max g.metresBase m } }) s

/-- The entry numbers of the trip log. -/
def tripIndices : List (Fin 24) :=
  [0, 1, 2, 3, 4, 5, 6, 7, 8, 9, 10, 11, 12, 13, 14, 15, 16, 17, 18, 19, 20, 21, 22, 23]

/-- The record's report is SENT or NOT_REPORTED (R39). -/
def TripRecord.settled (t : TripRecord) : Bool := t.sendState == .sent || t.sendState == .notReported

/-- Ways 1 to 3 of R39. -/
def logEntryWithoutLoss (m : Mtc) : Option (Fin 24) :=
  (tripIndices.find? fun t => !(m.tripLog.get t).written).or
    ((m.ageOrder.find? fun t => (m.tripLog.get t).released && (m.tripLog.get t).settled).or
      (m.ageOrder.find? fun t => (m.tripLog.get t).settled))

/-- The entry for a new trip record: ways 1 to 3, otherwise the oldest entry of all (R39). -/
def chooseLogEntry (m : Mtc) : Fin 24 := (logEntryWithoutLoss m).getD (m.ageOrder.headD 0)

/-- Way 4 loses a trip: both overwrite counts rise, and a QUEUED frame is withdrawn from the queue (R39). -/
def loseTrip (t : Fin 24) (s : State) : State :=
  let s₁ := modTotals (fun g =>
    { g with shift := { g.shift with tripOverwrites := satAdd u32Max g.shift.tripOverwrites 1 },
             lifetime := { g.lifetime with tripOverwrites := satAdd u32Max g.lifetime.tripOverwrites 1 } }) s
  if (s.mtc.tripLog.get t).sendState = .queued then detachOrigin (.trip t) s₁ else s₁

/-- The figures of a trip are added to a set of totals (R43). -/
def Totals.addTrip (g : Totals) (r : TripRecord) : Totals :=
  { g with hiredMetres := satAdd u32Max g.hiredMetres r.hiredMetres,
           unpaidMetres := satAdd u32Max g.unpaidMetres r.unpaidMetres,
           hiredSeconds := satAdd u32Max g.hiredSeconds r.hiredSeconds,
           fareSum := satAdd u32Max g.fareSum r.fare, extrasSum := satAdd u32Max g.extrasSum r.extras }

/-- The trip record written at a close (R37, R38, R41). -/
def tripRecordNow (s : State) : TripRecord :=
  let h := s.frc.hire
  let t := s.mtc.trip
  { written := true, sendState := if tripReporting s then .queued else .notReported,
    powerInterrupted := t.powerInterrupted, fareLimit := h.fareLimit, pulsesDiscarded := h.pulsesDiscarded,
    fromOffer := t.fromOffer, released := false, startingTariff := h.startingTariff,
    tripNumber := s.mtc.totals.lifetime.trips, driver := s.mtc.totals.driver,
    offerNumber := if t.fromOffer then t.offerNumber else 0, switchCount := h.switchCount, startZone := t.startZone,
    endZone := s.dsc.zone, startTime := t.startTime, endTime := t.endTime, hiredMetres := metres s h.hiredPulses,
    unpaidMetres := metres s h.unpaidPulses, hiredSeconds := h.hiredSeconds, stoppedSeconds := h.stoppedSeconds,
    fare := h.fare, extras := t.extrasSum, total := h.fare + t.extrasSum, drops := h.dropCount,
    discardedPulses := h.discardedPulses }

/-- The record that the write in progress carries for a log entry chosen for another trip is in no entry any more (R39, R45),
and the write does not answer for the new record (DEDUCED, log entry 28). -/
def StoreJob.forgetTrip (t : Fin 24) : StoreJob → StoreJob
  | .meter c first due => .meter c (first.map fun x => if x = some t then none else x) due
  | j => j

/-- The write in progress no longer answers for a closed shift whose group is replaced (R36; DEDUCED, log entry 28). -/
def StoreJob.forgetShift : StoreJob → StoreJob
  | .meter c first _ => .meter c first false
  | j => j

/-- A record is written into a log entry, which becomes the most recently written (R37, step 3). -/
def writeTripRecord (t : Fin 24) (r : TripRecord) (s : State) : State :=
  let s₁ := s.modMtc fun m =>
    { m with tripLog := m.tripLog.set t.val r t.isLt,
             ageOrder := (m.ageOrder.filter fun x => x != t) ++ [t],
             uncommitted := (m.uncommitted.filter fun x => x != t) ++ [t] }
  s₁.modCps fun c => { c with writing := c.writing.map (StoreJob.forgetTrip t) }

/-- The trip counts rise (R37, step 1). -/
def countTrip (s : State) : State :=
  modTotals (fun g =>
    { g with shift := { g.shift with trips := satAdd u32Max g.shift.trips 1 },
             lifetime := { g.lifetime with trips := satAdd u32Max g.lifetime.trips 1 } }) s

/-- A trip is closed (R37). -/
def closeTrip (s : State) : State :=
  let s₁ := countTrip s
  let r := tripRecordNow s₁
  let t := chooseLogEntry s₁.mtc
  let s₂ := if logEntryWithoutLoss s₁.mtc = none then loseTrip t s₁ else s₁
  let s₃ := writeTripRecord t r s₂
  let s₄ := modTotals (fun g => { g with shift := g.shift.addTrip r, lifetime := g.lifetime.addTrip r }) s₃
  requestCommit (refreshMetres s₄)

/-- The meter controller opens a new trip (R29, steps 1 to 5). -/
def openTrip (s : State) : State :=
  modTrip (fun _ =>
    { Trip.zero with
      startTime := s.frc.clock, startZone := s.dsc.zone, fromOffer := s.oft.assignment.isSome,
      offerNumber := match s.oft.assignment with
        | some e => (s.oft.entries.get e).number
        | none => 0 }) s

/-- The payment hold begins, with the length read now (R31). -/
def startHold (s : State) : State :=
  s.modMtc fun m =>
    { m with holdEnded := paymentHold s == 0, holdTimer := if paymentHold s = 0 then none else some (paymentHold s) }

/-- The hold timer stops when the meter leaves PAYMENT (R31). -/
def stopHold (s : State) : State := s.modMtc fun m => { m with holdTimer := none }

/-- A HIRE (R10, R27, R29, R32); `request` is whether a METER_KEY request asks it, for which no fault is recorded. -/
def pressHire (request : Bool) (s : State) : Result × State :=
  match s.mtc.meter with
  | .vacant | .payment =>
    let s₁ := (chooseTariff s).1
    let n := (chooseTariff s).2
    if (windowTariff s₁ n).valid then
      let s₂ := if s.mtc.meter = .payment then stopHold (closeTrip s₁) else s₁
      (.done, meterChange .hired (openTrip (startHire n s₂)))
    else (.refusedRange, if request then s₁ else recordFault .tariffInvalid n s₁)
  | .off | .hired | .stopped => (.refusedState, s)

/-- A STOP (R27, R30). -/
def pressStop (s : State) : Result × State :=
  match s.mtc.meter with
  | .hired => (.done, meterChange .stopped s)
  | .stopped => (.done, meterChange .hired s)
  | .off | .vacant | .payment => (.refusedState, s)

/-- A PAY (R27, R30, R31). -/
def pressPay (s : State) : Result × State :=
  match s.mtc.meter with
  | .hired | .stopped =>
    (.done, startHold (meterChange .payment (modTrip (fun t => { t with endTime := s.frc.clock }) s)))
  | .off | .vacant | .payment => (.refusedState, s)

/-- A CLEAR (R27, R31). -/
def pressClear (s : State) : Result × State :=
  match s.mtc.meter with
  | .payment => if s.mtc.holdEnded then (.done, meterChange .vacant (stopHold (closeTrip s))) else (.tooEarly, s)
  | .off | .vacant | .hired | .stopped => (.refusedState, s)

/-- An extra is refused by its limit or by the fare limit (R33). -/
def extraRefused (i : Fin 8) (s : State) : Bool :=
  decide (extraLimit s i.val ≤ s.mtc.trip.extraCounts.get i) ||
  decide (fareLimit < s.frc.hire.fare + extrasSum s + extraValue s i.val)

/-- An extra that is taken (R33). -/
def takeExtra (i : Fin 8) (s : State) : State :=
  let s₁ := modTrip (fun t =>
    { t with extraCounts := t.extraCounts.set i.val (t.extraCounts.get i + 1) i.isLt,
             extrasSum := t.extrasSum + extraValue s i.val }) s
  requestCommit (rewriteFareGroup (setChannel .fare s₁))

/-- An extra of an item (R27, R33). -/
def pressExtra (i : Fin 8) (s : State) : Result × State :=
  if s.mtc.meter.tripOpen then
    if extraRefused i s then (.refusedRange, s) else (.done, takeExtra i s)
  else (.refusedState, s)

/-- A press of a key, judged by the table of R27; the key EXTRA names item 0. -/
def pressKey (k : MeterKey) (request : Bool) (s : State) : Result × State :=
  match k with
  | .hire => pressHire request s
  | .stop => pressStop s
  | .pay => pressPay s
  | .clear => pressClear s
  | .extra => pressExtra 0 s

/-- A TRIP frame is queued; its body is read from the record of its entry (section 2.6). -/
def queueTripFrame (t : Fin 24) (s : State) : State := joinQueue (newFrame .trip [.trip t] .fromTripRecord) s

/-- The SHIFT frame's body, fixed when it is queued (R36). -/
def shiftBody (g : TotalsGroup) : UplinkBody := .shift g.lastDriver g.lastOpenTime g.lastCloseTime g.last

/-- The SHIFT frame is queued and the shift report state becomes QUEUED (R36, R42). -/
def queueShiftFrame (s : State) : State :=
  joinQueue (newFrame .shift [.lastShift] (.fixed (shiftBody s.mtc.totals)))
    (modTotals (fun g => { g with reportState := .queued }) s)

/-- An UNSENT trip entry is queued again while the queue holds fewer than 16 frames (R42). -/
def requeueTrip (t : Fin 24) (s : State) : State :=
  if (s.mtc.tripLog.get t).sendState = .unsent ∧ s.txq.frames.length < 16 then
    queueTripFrame t (requestCommit (updateTripRecord t (fun r => { r with sendState := .queued }) s))
  else s

/-- At a change of the link to UP the trips that still wait are queued again while trip reporting is set, oldest first,
and then an UNSENT last-shift group (R42). -/
def requeueReports (s : State) : State :=
  let s₁ := if tripReporting s then s.mtc.ageOrder.foldl (fun t e => requeueTrip e t) s else s
  if s₁.mtc.totals.reportState = .unsent ∧ s₁.txq.frames.length < 16 then queueShiftFrame s₁ else s₁

/-- What a meter commit reads when it begins (section 2.8, R45). -/
def meterCommitNow (s : State) : MeterCommit :=
  { checkpoint :=
      { meter := s.mtc.meter, hire := s.frc.hire, shiftPulses := s.frc.shiftPulses, trip := s.mtc.trip,
        emergency := s.emc.state, emergencyCount := s.emc.count },
    totals := s.mtc.totals, tripLog := s.mtc.tripLog, ageOrder := s.mtc.ageOrder }

end Sys2Proof.Machine
end

