-- ==== Sys2Proof/Machine/Operands.lean ====
section
/-! DEFINITION. Every operand form: the parameters of a request record (R168) and the fields of a downlink body (R130,
R132), with the checks of R128 and the addressing of R129. -/

namespace Sys2Proof.Machine

/-- A one-byte parameter of record `r` (R168). -/
def param8 (s : State) (r : Fin 16) (offset : Nat) : Nat := (s.mem.read (0x0100 + 64 * r.val + offset)).toNat

/-- A parameter of `n` bytes of record `r` (R168). -/
def paramN (s : State) (r : Fin 16) (offset n : Nat) : Nat := s.mem.readNat (0x0100 + 64 * r.val + offset) n

/-- The first `n` bytes of the text field of record `r` (R168). -/
def paramText (s : State) (r : Fin 16) (n : Nat) : List Byte := s.mem.readBytes (0x0100 + 64 * r.val + 16) n

/-- The date and seconds of a SET_CLOCK (R168). -/
def paramClock (s : State) (r : Fin 16) : Stamp :=
  { year := paramN s r 8 2, month := param8 s r 10, day := param8 s r 11, seconds := paramN s r 12 4 }

/-- A calendar stamp in window memory (R158). -/
def stampAt (m : Memory) (a : Nat) : Stamp :=
  { year := m.readNat a 2, month := (m.read (a + 2)).toNat, day := (m.read (a + 3)).toNat,
    seconds := m.readNat (a + 4) 4 }

/-- The fix fields of the position fix slot (R55, R158). -/
def slotFix (m : Memory) : Fix :=
  { zone := (m.read 0x51).toNat, heading := m.readNat 0x52 2, latitude := signed32 (m.readNat 0x54 4),
    longitude := signed32 (m.readNat 0x58 4), speed := m.readNat 0x5C 2, time := stampAt m 0x5E }

/-- How a frame was addressed (R129). -/
inductive Addressing where
  | individual | all | zoneGroup
  deriving DecidableEq, Repr

/-- The address filter (R129); while the cab address is bad no frame passes as INDIVIDUAL (R131). -/
def addressing (s : State) (address : Nat) : Option Addressing :=
  if address = cabAddress s ∧ addressGood s then some .individual
  else if address = 0xFFFF then some .all
  else if s.dsc.zoneKnown ∧ address = 0xFE00 + s.dsc.zone then some .zoneGroup
  else none

/-- A two-byte field of a body, high byte first (R124). -/
def bodyWord (body : List Byte) (offset : Nat) : Nat := fromBigEndian ((body.drop offset).take 2)

/-- A one-byte field of a body. -/
def bodyByte (body : List Byte) (offset : Nat) : Byte := body.getD offset 0#8

/-- The fields of a CYCLE body (R132). -/
structure Cycle where
  number     : Nat
  contention : Nat
  priority   : Bool
  reserved   : List Nat
  acks       : List (Nat × Nat)
  deriving DecidableEq, Repr

/-- Read a CYCLE body (R132). -/
def parseCycle (body : List Byte) : Cycle :=
  let r := (bodyByte body 3).toNat
  let a := (bodyByte body 4).toNat
  { number := (bodyByte body 0).toNat, contention := (bodyByte body 1).toNat, priority := bodyByte body 2 != 0#8,
    reserved := (List.range r).map fun i => bodyWord body (5 + 2 * i),
    acks := (List.range a).map fun i =>
      (bodyWord body (5 + 2 * r + 3 * i), (bodyByte body (5 + 2 * r + 3 * i + 2)).toNat) }

/-- The body of a CYCLE is valid (R132). -/
def cycleValid (body : List Byte) : Bool :=
  let r := (bodyByte body 3).toNat
  let a := (bodyByte body 4).toNat
  decide (5 ≤ body.length) && decide ((bodyByte body 1).toNat ≤ 12) && decide (r ≤ 4) && decide (a ≤ 10) &&
  body.length == 5 + 2 * r + 3 * a

/-- The length of the fixed body fields of a downlink kind; `none` for a code that is no downlink kind (R130). -/
def fixedFields (kind : Nat) : Option Nat :=
  match kind with
  | 0x01 => some 5
  | 0x10 => some 5
  | 0x11 => some 4
  | 0x12 => some 2
  | 0x20 => some 5
  | 0x30 => some 1
  | 0x31 => some 2
  | 0x32 => some 6
  | 0x40 => some 0
  | 0x41 => some 0
  | _ => none

/-- Check 5 of R128: the body is as long as its kind requires, and a CYCLE meets R132. -/
def bodyPasses (kind : Nat) (body : List Byte) : Bool :=
  match fixedFields kind with
  | some n => if kind = 0x01 then cycleValid body else decide (n ≤ body.length)
  | none => false

/-- The bytes over which the CRC runs (R127). -/
def frameBytes (kind : Nat) (f : RxFrame) : List Byte :=
  bigEndian16 f.fleet.toNat ++ [byteOf kind] ++ bigEndian16 f.address.toNat ++
  [f.sequence, byteOf f.body.length] ++ f.body

/-- The fate of a frame (R126, R128). -/
inductive Fate where
  | crcError | formatError | silent | accepted (how : Addressing)
  deriving DecidableEq, Repr

/-- The judgement of a frame: the length byte (R126), then the five checks in order (R128). -/
def judgeFrame (s : State) (kind : Nat) (f : RxFrame) : Fate :=
  if 120 < f.body.length then .formatError
  else if crc16 (frameBytes kind f) ≠ f.crc then .crcError
  else if f.fleet.toNat ≠ fleetId s then .silent
  else if fixedFields kind = none then .formatError
  else
    match addressing s f.address.toNat with
    | none => .silent
    | some how => if bodyPasses kind f.body then .accepted how else .formatError

/-- The fields of an OFFER body (R64, R130). -/
structure OfferFields where
  number       : Nat
  zone         : Nat
  window       : Nat
  account      : Bool
  largeVehicle : Bool
  details      : List Byte
  deriving DecidableEq, Repr

/-- Read an OFFER body; details longer than 90 bytes are cut (R64). -/
def parseOffer (body : List Byte) : OfferFields :=
  { number := bodyWord body 0, zone := (bodyByte body 2).toNat, window := (bodyByte body 3).toNat,
    account := (bodyByte body 4).getLsbD 0, largeVehicle := (bodyByte body 4).getLsbD 1,
    details := (body.drop 5).take 90 }

/-- The fields of a TEXT body (R93, R130); the class and the part are absent when their code is not valid. -/
structure TextFields where
  number : Nat
  sender : Nat
  cls    : Option MessageClass
  part   : Option PartCode
  text   : List Byte
  deriving DecidableEq, Repr

/-- The class of a code (R92). -/
def messageClassOf (code : Nat) : Option MessageClass :=
  match code with
  | 0 => some .routine
  | 1 => some .priority
  | 2 => some .emergency
  | _ => none

/-- The part of a code: 0 ONLY, 1 FIRST, 2 SECOND (R130). -/
def partOf (code : Nat) : Option PartCode :=
  match code with
  | 0 => some .only
  | 1 => some .first
  | 2 => some .second
  | _ => none

/-- Read a TEXT body: the class code is the low four bits and the part code the high four (R130). -/
def parseText (body : List Byte) : TextFields :=
  { number := bodyWord body 0, sender := bodyWord body 2, cls := messageClassOf ((bodyByte body 4).toNat % 16),
    part := partOf ((bodyByte body 4).toNat / 16), text := body.drop 5 }

/-- Read a TIME body: a year byte over 99 stands for a year out of the range of R17 (R130). -/
def parseTime (body : List Byte) : Stamp :=
  { year := 2000 + (bodyByte body 0).toNat, month := (bodyByte body 1).toNat, day := (bodyByte body 2).toNat,
    seconds := fromBigEndian ((body.drop 3).take 3) }

end Sys2Proof.Machine
end

