-- ==== Sys2Proof/Machine/MessageOps.lean ====
section
/-! DEFINITION. The text pool and the inbox (chapter 5), with the storing of offer details (R68). -/

namespace Sys2Proof.Machine

/-- The window offset of text block `b` (R157). -/
def blockBase (b : Nat) : Nat := 0x0900 + 32 * b

/-- The first `n` blocks of a chain, by the next block index at byte 0 of each block (R87). -/
def chainBlocks (m : Memory) (first : Nat) : Nat → List Nat
  | 0 => []
  | n + 1 => first :: chainBlocks m (m.read (blockBase first)).toNat n

/-- Link the last block of a chain to a block index (R87). -/
def linkBlock (last next : Nat) (m : Memory) : Memory := m.write (blockBase last) (byteOf next)

/-- Fill blocks with text: 30 bytes to each block and the rest in the last, used counts set (R88). -/
def fillBlocks : List Nat → List Byte → Memory → Memory
  | [], _, m => m
  | b :: bs, text, m =>
    fillBlocks bs (text.drop 30)
      ((m.write (blockBase b + 1) (byteOf (text.take 30).length)).writeBytes (blockBase b + 2) (text.take 30))

/-- Set the used count of each block to 0 (R88). -/
def clearUsed (blocks : List Nat) (m : Memory) : Memory := blocks.foldl (fun t b => t.write (blockBase b + 1) 0#8) m

/-- The blocks a grant of `n` takes: the first n of the free chain (R88). -/
def grantedBlocks (s : State) (n : Nat) : List Nat := chainBlocks s.mem s.mst.freeHead n

/-- A grant of `n` blocks (R88); channel POOL (3) is set when it takes the free count from the routine mark or above to
below it, and POOL_LOW is judged afresh (R90). -/
def grantBlocks (n : Nat) (s : State) : State :=
  if n = 0 then s
  else
    let last := (grantedBlocks s n).getLastD 0
    let s₁ := s.modMst fun m =>
      { m with freeHead := (s.mem.read (blockBase last)).toNat, freeCount := m.freeCount - n }
    let s₂ := rejudge (s₁.modMem (linkBlock last 255))
    if routineMark s ≤ s.mst.freeCount ∧ s.mst.freeCount - n < routineMark s then setChannel .pool s₂ else s₂

/-- A whole chain is pushed onto the head of the free chain in its own order (R88). -/
def freeChain (first count : Nat) (s : State) : State :=
  if count = 0 then s
  else
    let blocks := chainBlocks s.mem first count
    let s₁ := s.modMem fun m => linkBlock (blocks.getLastD 0) s.mst.freeHead (clearUsed blocks m)
    rejudge (s₁.modMst fun m => { m with freeHead := first, freeCount := m.freeCount + count })

/-- The classes of a request for blocks (R89). -/
inductive GrantClass where
  | routine | offer | urgent
  deriving DecidableEq, Repr

/-- The class under which a message asks for blocks (R89). -/
def MessageClass.grantClass : MessageClass → GrantClass
  | .routine => .routine
  | .priority | .emergency => .urgent

/-- The blocks granted of `n` asked with `free` counted as free; `none` is a refusal (R88, R89). -/
def judgeGrant (s : State) (c : GrantClass) (n free : Nat) : Option Nat :=
  if n = 0 then some 0
  else
    match c with
    | .routine => if n + routineMark s ≤ free then some n else none
    | .offer => if n + offerMark s ≤ free then some n else none
    | .urgent => if n ≤ free then some n else if free = 0 then none else some free

/-- The blocks a text or details of some length asks for: the length divided by 30, rounded up (R68, R96). -/
def blocksFor (length : Nat) : Nat := (length + 29) / 30

/-- The entry numbers of the inbox. -/
def inboxIndices : List (Fin 24) := tripIndices

/-- The non-EMPTY entry with a message number and sender code (R94). -/
def matchingMessage (s : State) (number sender : Nat) : Option (Fin 24) :=
  inboxIndices.find? fun i =>
    (s.mst.inbox.get i).state != .empty && (s.mst.inbox.get i).number == number &&
    (s.mst.inbox.get i).sender == sender

/-- A RECEIPT frame is queued (R99). -/
def queueReceipt (number sender : Nat) (stored truncated : Bool) (s : State) : State :=
  joinQueue (newFrame .receipt [.receipts] (.fixed (.receipt number sender stored truncated))) s

/-- A RECEIPT with outcome STORED goes out for an individually addressed frame (R94, R96, R97). -/
def receiptStored (how : Addressing) (number sender : Nat) (truncated : Bool) (s : State) : State :=
  if how = .individual then queueReceipt number sender true truncated s else s

/-- A TEXT frame is refused (R98). -/
def refuseText (how : Addressing) (f : TextFields) (s : State) : State :=
  let s₁ := s.modMst fun m => { m with refused := satAdd u16Max m.refused 1 }
  if how = .individual then queueReceipt f.number f.sender false false s₁ else s₁

/-- READ or REPLIED. -/
def InboxEntry.answered (e : InboxEntry) : Bool := e.state == .read || e.state == .replied

/-- The victim a new message of a class may replace (R95). -/
def victimFor (m : Mst) (c : MessageClass) : Option (Fin 24) :=
  match c with
  | .routine => m.storeOrder.find? fun i => (m.inbox.get i).answered && (m.inbox.get i).cls == .routine
  | .priority | .emergency =>
    (m.storeOrder.find? fun i => (m.inbox.get i).answered).or
      (m.storeOrder.find? fun i => (m.inbox.get i).state == .new && (m.inbox.get i).cls == .routine)

/-- The lowest-numbered EMPTY entry (R95). -/
def emptyInbox (m : Mst) : Option (Fin 24) := inboxIndices.find? fun i => (m.inbox.get i).state == .empty

/-- The channel of a message class (R96). -/
def MessageClass.channel : MessageClass → Channel
  | .routine => .message
  | .priority | .emergency => .messagePriority

/-- The victim is replaced: its chain is freed, it leaves the store order, and a NEW one raises the lost-unread count
(R96, step 1). It keeps its state until step 5 overwrites it, so UNREAD does not fall in between (log entry 41). -/
def replaceVictim (i : Fin 24) (s : State) : State :=
  let v := s.mst.inbox.get i
  let s₁ := freeChain v.firstBlock v.blockCount s
  s₁.modMst fun m =>
    { m with storeOrder := m.storeOrder.filter fun x => x != i,
             lostUnread := if v.state = .new then satAdd u16Max m.lostUnread 1 else m.lostUnread }

/-- The first block index of a chain, 0xFF when it has none (R61, R92). -/
def firstBlockOf (blocks : List Nat) : Nat := blocks.headD 255

/-- The inbox entry of a new message granted `granted` of `asked` blocks (R96, steps 2 to 5). -/
def newMessageEntry (s : State) (how : Addressing) (f : TextFields) (c : MessageClass) (p : PartCode)
    (granted asked : Nat) : InboxEntry :=
  { state := .new, cls := c, broadcast := how != .individual, truncated := decide (granted < asked),
    awaiting := p == .first && decide (asked ≤ granted), number := f.number, sender := f.sender,
    timeStored := s.frc.clock, length := (f.text.take (30 * granted)).length,
    firstBlock := firstBlockOf (grantedBlocks s granted), blockCount := granted }

/-- A new message is stored in entry `i` (R96); `victim` is whether that entry's message is replaced. -/
def storeMessage (i : Fin 24) (victim : Bool) (granted asked : Nat) (how : Addressing) (f : TextFields)
    (c : MessageClass) (p : PartCode) (s : State) : State :=
  let s₁ := if victim then replaceVictim i s else s
  let entry := newMessageEntry s₁ how f c p granted asked
  let s₂ := (grantBlocks granted s₁).modMem (fillBlocks (grantedBlocks s₁ granted) (f.text.take (30 * granted)))
  let s₃ := updateInbox i (fun _ => entry) (s₂.modMst fun m => { m with storeOrder := m.storeOrder ++ [i] })
  let s₄ := setChannel c.channel s₃
  if entry.awaiting then s₄ else receiptStored how f.number f.sender entry.truncated s₄

/-- A new message is judged for an entry and for its blocks (R95, R96). -/
def takeNewMessage (how : Addressing) (f : TextFields) (c : MessageClass) (p : PartCode) (s : State) : State :=
  match (emptyInbox s.mst).or (victimFor s.mst c) with
  | none => refuseText how f s
  | some i =>
    let victim := (emptyInbox s.mst).isNone
    let asked := blocksFor f.text.length
    let free := s.mst.freeCount + if victim then (s.mst.inbox.get i).blockCount else 0
    match judgeGrant s c.grantClass asked free with
    | none => refuseText how f s
    | some granted => storeMessage i victim granted asked how f c p s

/-- Link a granted chain after the last block of an entry's chain (R97, step 1). -/
def linkAfter (entry : InboxEntry) (blocks : List Nat) (m : Memory) : Memory :=
  if entry.blockCount = 0 ∨ blocks = [] then m
  else linkBlock ((chainBlocks m entry.firstBlock entry.blockCount).getLastD 0) (blocks.headD 0) m

/-- The entry after its second part (R97, steps 1 to 4). -/
def InboxEntry.appended (e : InboxEntry) (blocks : List Nat) (stored granted asked : Nat) : InboxEntry :=
  { e with firstBlock := if e.blockCount = 0 then firstBlockOf blocks else e.firstBlock,
           length := e.length + stored, blockCount := e.blockCount + granted,
           truncated := e.truncated || decide (granted < asked), awaiting := false,
           state := if e.state = .read then .new else e.state }

/-- A second part is appended to its entry (R97). -/
def appendSecond (i : Fin 24) (how : Addressing) (f : TextFields) (s : State) : State :=
  let e := s.mst.inbox.get i
  let asked := blocksFor f.text.length
  match judgeGrant s e.cls.grantClass asked s.mst.freeCount with
  | none => refuseText how f s
  | some granted =>
    let blocks := grantedBlocks s granted
    let text := f.text.take (30 * granted)
    let after := e.appended blocks text.length granted asked
    let s₁ := (grantBlocks granted s).modMem fun m => linkAfter e blocks (fillBlocks blocks text m)
    receiptStored how f.number f.sender after.truncated
      (setChannel e.cls.channel (updateInbox i (fun _ => after) s₁))

/-- A frame's field that its receiver cannot use raises the format error count (R128). -/
def countFormatError (s : State) : State := s.modAle fun a => { a with formatErrors := satAdd u16Max a.formatErrors 1 }

/-- A TEXT frame is judged (R93, R94). -/
def takeText (how : Addressing) (f : TextFields) (s : State) : State :=
  match f.cls, f.part with
  | some c, some p =>
    if f.number = 0 then countFormatError s
    else
      match matchingMessage s f.number f.sender with
      | none => if p = .second then refuseText how f s else takeNewMessage how f c p s
      | some i =>
        if (s.mst.inbox.get i).awaiting then
          if p = .second then appendSecond i how f s else s
        else receiptStored how f.number f.sender (s.mst.inbox.get i).truncated s
  | _, _ => countFormatError s

/-- The details of an offer go into text blocks under the offer mark, or are dropped (R68). -/
def storeDetails (e : Fin 8) (details : List Byte) (s : State) : State :=
  let n := blocksFor details.length
  match judgeGrant s .offer n s.mst.freeCount with
  | none => updateOffer e (fun x => { x with detailsDropped := true }) s
  | some _ =>
    let blocks := grantedBlocks s n
    updateOffer e
      (fun x => { x with detailsLength := details.length, firstBlock := firstBlockOf blocks, blockCount := n })
      ((grantBlocks n s).modMem (fillBlocks blocks details))

/-- The whole pool is freed at start-up: block i links to block i + 1, block 223 ends the chain, every used count is 0
(R87). The cells are those of a canonical memory: block 0 to 222 hold a next index that is not 0. -/
def freedPool : List Host.Cell :=
  (List.range 224).map fun b => (blockBase b, byteOf (if b = 223 then 255 else b + 1))

end Sys2Proof.Machine
end

