-- ==== Sys2Proof/Machine/AirOps.lean ====
section
/-! DEFINITION. The air link engine and the transmit queue's cycle: reception, link states, acknowledgements, failures,
slots, hand-over and transmission (chapters 7 and 8). -/

namespace Sys2Proof.Machine

/-- The receiver returns to HUNTING with an empty window (R125, R126). -/
def resumeHunting (s : State) : State := s.modAle fun a => { a with receiver := .hunting, window := none }

/-- A CRC error is counted (R128). -/
def countCrcError (s : State) : State := s.modAle fun a => { a with crcErrors := satAdd u16Max a.crcErrors 1 }

/-- What a frame that fails a check leaves behind (R128). -/
def dropFrame (fate : Fate) (s : State) : State :=
  match fate with
  | .crcError => countCrcError s
  | .formatError => countFormatError s
  | .silent | .accepted _ => s

/-- A complete frame of a kind: judged by R128, the receiver returns to HUNTING, and an accepted frame is delivered with
its addressing (R126, R130). Bytes are gathered in COLLECTING alone, so without a sync found nothing is heard (R125,
R126; log entry 14). -/
def receiveFrame (kind : Nat) (f : RxFrame) (deliver : Addressing → State → State) (s : State) : State :=
  if s.ale.receiver = .collecting then
    match judgeFrame s kind f with
    | .accepted how => deliver how (resumeHunting s)
    | fate => dropFrame fate (resumeHunting s)
  else s

/-- One step of the random generator (R142). -/
def stepRng (r : Word16) : Word16 :=
  let bit := r.getLsbD 0 ^^ r.getLsbD 2 ^^ r.getLsbD 3 ^^ r.getLsbD 5
  (r >>> 1) ||| (if bit then 0x8000#16 else 0#16)

/-- A random value in 0..m: the register modulo m + 1 (R142). -/
def randomUpTo (s : State) (m : Nat) : Nat := s.ale.rng.toNat % (m + 1)

/-- The cycle watch starts: the fade expiry 3 × P and the loss expiry 10 × P later (R138). -/
def startWatch (s : State) : State :=
  s.modAle fun a => { a with fadeExpiry := some (3 * cyclePeriod s), lossExpiry := some (10 * cyclePeriod s) }

/-- Every slot assignment whose slot has not begun is dropped (R136). -/
def dropAssignments (s : State) : State := s.modAle fun a => { a with assignments := [] }

/-- The first change to UP after start-up sets the held reason to STARTUP, and a STATUS frame is asked for unless
OFF_DUTY (R54). -/
def reportFirstUp (s : State) : State :=
  if s.dsc.upSeen then s
  else
    let s₁ := s.modDsc fun d => { d with upSeen := true, heldReason := .startup }
    if s.dsc.status = .offDuty then s₁ else askLive .status s₁

/-- How many reports the change to UP would queue again (R42). -/
def reportsWaiting (s : State) : Nat :=
  (if tripReporting s then (s.mtc.ageOrder.filter fun t => (s.mtc.tripLog.get t).sendState == .unsent).length else 0) +
  (if s.mtc.totals.reportState = .unsent then 1 else 0)

/-- The STATUS frame and the reports cannot all join, so the order of the two reports shows (R54). -/
def upOrderShows (s : State) : Bool :=
  !s.dsc.upSeen && s.dsc.status != .offDuty && !kindWaiting s .status &&
  decide (s.txq.frames.length < 16) && decide (16 < s.txq.frames.length + reportsWaiting s + 1) &&
  decide (0 < reportsWaiting s)

/-- The reports of a change to UP: the meter controller's and the dispatch status controller's work on the queue in
either order (R54); where the order shows, it is a free choice (log entry 9). -/
def reportUp (s : State) : State :=
  if upOrderShows s then
    let s₁ : State := { s with choices := s.choices + 1 }
    if Config.statusFrameFirst s.choices then requeueReports (reportFirstUp s₁) else reportFirstUp (requeueReports s₁)
  else reportFirstUp (requeueReports s)

/-- The frames that are purged at a change to LOST (R153). -/
def isStale (f : Frame) : Bool := !f.inFlight && (f.kind == .bid || f.kind == .refuse || f.kind == .pollReply)

/-- Frames leave together with one outcome, which is routed in queue order (R153, R154, R156). -/
def failFrames (gone : Frame → Bool) (reason : FailReason) (s : State) : State :=
  (s.txq.frames.filter gone).foldl (fun t f => deliverOutcome f (.failed reason) t)
    (modFrames (fun fs => fs.filter fun f => !gone f) s)

/-- A change of the link state with the effects of R139. -/
def linkChange (new : LinkState) (s : State) : State :=
  if s.ale.link = new then s
  else
    let s₁ := setChannel .link (rejudge (s.modAle fun a => { a with link := new }))
    match new with
    | .up => reportUp s₁
    | .lost => failFrames isStale .link (loseBidToLink s₁)
    | .fading | .hunt => dropAssignments s₁

/-- The acknowledgement window of a frame IN_FLIGHT is open at cycle `n` (R151). -/
def windowOpen (n : Nat) (f : Frame) : Bool :=
  f.inFlight && ((n + 256 - f.sendingCycle) % 256 == 1 || (n + 256 - f.sendingCycle) % 256 == 2)

/-- One ack entry: the frame with that sequence and an open window is DELIVERED, otherwise the entry is stray (R151). -/
def takeAck (n q : Nat) (s : State) : State :=
  match s.txq.frames.find? (fun f => f.sequence == some q && windowOpen n f) with
  | some f =>
    deliverOutcome f .delivered (modFrames (fun fs => fs.eraseP fun g => g.sequence == some q && windowOpen n g) s)
  | none => s.modTxq fun t => { t with stray := satAdd u16Max t.stray 1 }

/-- Change the first element that meets a test. -/
def modifyFirst (p : Frame → Bool) (g : Frame → Frame) : List Frame → List Frame
  | [] => []
  | f :: fs => if p f then g f :: fs else f :: modifyFirst p g fs

/-- The bound of the backoff after `a` failed attempts: min(2^a − 1, 15) (R152). -/
def backoffBound (a : Nat) : Nat := min (2 ^ a - 1) 15

/-- The frame IN_FLIGHT with a sequence. -/
def inFlightWith (q : Option Nat) (f : Frame) : Bool := f.inFlight && f.sequence == q

/-- A failed attempt of the frame IN_FLIGHT with sequence `q` (R152); a frame without an origin leaves the queue instead
of waiting for a retry (R147). -/
def failAttempt (q : Option Nat) (s : State) : State :=
  match s.txq.frames.find? (inFlightWith q) with
  | none => s
  | some f =>
    let a := satAdd 255 f.attempts 1
    let gone := modFrames (fun fs => fs.eraseP (inFlightWith q)) s
    let retry (backoff : Nat) : State :=
      modFrames (modifyFirst (inFlightWith q) fun g => { g with attempts := a, backoff := backoff, inFlight := false }) s
    if f.kind = .emergency ∧ s.emc.state = .alerting then retry 0
    else if f.orphaned then gone
    else if attemptLimit s ≤ a then deliverOutcome f (.failed .noAck) gone
    else if (f.kind = .status ∨ f.kind = .pollReply) ∧ kindWaiting s f.kind then gone
    else retry (randomUpTo s (backoffBound a))

/-- The backoff of each WAITING frame is lowered by one (R151). -/
def countBackoff (f : Frame) : Frame := if f.inFlight then f else { f with backoff := f.backoff - 1 }

/-- The acknowledgements and closed windows of a CYCLE (R151): the ack entries in list order, then the failed attempts
in queue order. The countdown leaves out the frames failed at this arrival; it is taken before the failures, when those
frames are still IN_FLIGHT, and no failure reads the backoff of another frame. -/
def takeCycleAcks (n : Nat) (acks : List Nat) (s : State) : State :=
  let s₁ := acks.foldl (fun t q => takeAck n q t) s
  let failing := (s₁.txq.frames.filter fun f => f.inFlight && !windowOpen n f).map fun f => f.sequence
  let s₂ := modFrames (fun fs => fs.map countBackoff) s₁
  failing.foldl (fun t q => failAttempt q t) s₂

/-- The slot map offered to the transmit queue (R134). -/
structure SlotMap where
  number     : Nat
  priority   : Option Nat
  reserved   : Option Nat
  contention : List Nat
  deriving DecidableEq, Repr

/-- The slots of a cycle are numbered: the priority slot, the reserved slots, the contention slots (R134). -/
def layOutSlots (c : Cycle) (address : Nat) : SlotMap :=
  let base := if c.priority then 1 else 0
  { number := c.number, priority := if c.priority then some 0 else none,
    reserved := (c.reserved.findIdx? fun a => a == address).map fun i => base + i,
    contention := (List.range c.contention).map fun i => base + c.reserved.length + i }

/-- The contention slot drawn: slot number (random value in 0..C − 1) in map order (R148, R149). -/
def drawSlot (s : State) (m : SlotMap) : Option Nat := m.contention[s.ale.rng.toNat % m.contention.length]?

/-- No backoff keeps the class 0 frame out of the contention slots: it has run out, or the frame is the EMERGENCY frame of
a call in ALERTING, which has none (R114, R148; log entry 18). -/
def backoffOver (s : State) (f : Frame) : Bool :=
  f.backoff == 0 || (f.kind == .emergency && s.emc.state == .alerting)

/-- The slot of the class 0 frame, and whether it uses the one send of the other classes (R148). -/
def classZeroSlot (s : State) (m : SlotMap) (f : Frame) : Option (Nat × Bool) :=
  match m.priority with
  | some p => some (p, false)
  | none =>
    if backoffOver s f = true ∧ m.contention ≠ [] then (drawSlot s m).map fun k => (k, true)
    else m.reserved.map fun k => (k, true)

/-- The slot of the head of the queue outside class 0 (R149). -/
def headSlot (s : State) (m : SlotMap) (f : Frame) : Option Nat :=
  match m.reserved with
  | some k => some k
  | none => if f.backoff = 0 ∧ m.contention ≠ [] then drawSlot s m else none

/-- A class 0 frame WAITING. -/
def waitingClassZero (f : Frame) : Bool := f.cls == 0 && !f.inFlight

/-- A WAITING frame of classes 1 to 3. -/
def waitingOther (f : Frame) : Bool := f.cls != 0 && !f.inFlight

/-- The sequence a frame takes at its first hand-over: the counter's value, or the first value after it that no frame of
the queue holds (R141). -/
def freeSequence (s : State) : Nat :=
  (((List.range 16).map fun i => (s.ale.sequence + i) % 16).find? fun q =>
    !(s.txq.frames.any fun f => f.sequence == some q)).getD s.ale.sequence

/-- The first hand-over of a BID frame is reported to its entry (R75). -/
def reportFirstTransmission (f : Frame) (s : State) : State :=
  f.origins.foldl (fun t l =>
    match l.origin with
    | .offer e number =>
      if (t.oft.entries.get e).state = .bidQueued ∧ (t.oft.entries.get e).number = number then
        updateOffer e (fun x =>
          { x with state := .bidSent, bidFrame := .transmitted, awardRemaining := awardWait t }) t
      else t
    | .record _ | .inbox _ | .trip _ | .lastShift | .emergency | .dispatch | .receipts | .refusals => t) s

/-- A frame named in a slot assignment is handed over (R141, R150). -/
def handOver (wanted : Frame → Bool) (slot : Nat) (m : SlotMap) (s : State) : State :=
  match s.txq.frames.find? wanted with
  | none => s
  | some f =>
    let q := f.sequence.getD (freeSequence s)
    let s₁ := modFrames (modifyFirst wanted fun g =>
      { g with inFlight := true, sendingCycle := m.number, sequence := some q }) s
    let s₂ := s₁.modAle fun a =>
      { a with assignments := a.assignments ++ [⟨slot, slot * slotLength s, q⟩],
               sequence := if f.sequence = none then (q + 1) % 16 else a.sequence }
    if f.sequence = none ∧ f.kind = .bid then reportFirstTransmission f s₂ else s₂

/-- The class 0 frame claims its slot; the answer says whether the one send of the other classes is used (R148). -/
def sendClassZero (m : SlotMap) (s : State) : State × Bool :=
  match s.txq.frames.find? waitingClassZero with
  | none => (s, false)
  | some f =>
    match classZeroSlot s m f with
    | none => (s, false)
    | some (slot, used) => (handOver waitingClassZero slot m s, used)

/-- The head of the queue outside class 0 is sent when no frame of classes 1 to 3 is IN_FLIGHT (R149). -/
def sendHead (m : SlotMap) (s : State) : State :=
  if s.txq.frames.any fun f => f.cls != 0 && f.inFlight then s
  else
    match s.txq.frames.find? waitingOther with
    | none => s
    | some f =>
      match headSlot s m f with
      | none => s
      | some slot => handOver waitingOther slot m s

/-- The queue answers a slot map with at most two assignments (R148, R149). -/
def offerSlots (m : SlotMap) (s : State) : State :=
  if (sendClassZero m s).2 then (sendClassZero m s).1 else sendHead m (sendClassZero m s).1

/-- A valid CYCLE arrives (R133). -/
def takeCycle (c : Cycle) (modemReady : Bool) (s : State) : State :=
  let s₁ := s.modAle fun a => { a with rng := stepRng a.rng }
  let s₂ := linkChange .up (startWatch s₁)
  let s₃ := s₂.modAle fun a => { a with lastCycle := c.number, cycleHeard := true, assignments := [] }
  let acks := (c.acks.filter fun x => x.1 == cabAddress s₃).map fun x => x.2 % 16
  let s₄ := if addressGood s₃ then takeCycleAcks c.number acks s₃ else s₃
  let s₅ := s₄.modPins fun p => { p with modemReady := modemReady }
  if modemReady then
    if addressGood s₅ then offerSlots (layOutSlots c (cabAddress s₅)) s₅ else s₅
  else recordFault .modemNotReady 0 s₅

/-- The last position fix as a body carries it (R56). While there is none, the heading, the speed and the fix time are
free values (log entry 43). -/
def fixReport (s : State) : FixReport :=
  match s.dsc.lastFix with
  | some x =>
    let age := ageSeconds s.frc.clock x.time
    { latitude := x.latitude, longitude := x.longitude, heading := x.heading, speed := x.speed, time := x.time,
      age := min u16Max age, stale := decide (60 < age) }
  | none =>
    { latitude := 0, longitude := 0, heading := Config.headingWithoutFix, speed := Config.speedWithoutFix,
      time := Config.timeWithoutFix, age := 0, stale := true }

/-- The live bodies of STATUS (R54), POLL_REPLY (R60) and EMERGENCY (R113), composed from the state as it stands. -/
def liveBody (k : UplinkKind) (s : State) : Option UplinkBody :=
  match k with
  | .status => some (.status s.dsc.status s.dsc.heldReason s.dsc.zone s.dsc.zoneKnown s.dsc.queuePosition s.mtc.meter
      (fixReport s))
  | .pollReply => some (.pollReply s.dsc.pollReference s.dsc.status s.dsc.zone s.dsc.zoneKnown s.mtc.meter
      s.frc.fareGroup.fare s.frc.fareGroup.extras (fixReport s))
  | .emergency => some (.emergency s.emc.state s.emc.count s.emc.presses s.emc.duress (fixReport s) s.dsc.zone
      s.dsc.zoneKnown s.dsc.status s.mtc.meter s.frc.fareGroup.fare)
  | .bid | .refuse | .text | .receipt | .trip | .shift | .emergencyCancel => none

/-- The record of a TRIP frame's entry, while the entry is not detached (R147). -/
def tripBody (f : Frame) (s : State) : Option UplinkBody :=
  f.origins.findSome? fun l =>
    match l.origin, l.detached with
    | .trip t, false => some (.trip (s.mtc.tripLog.get t))
    | _, _ => none

/-- The body the queue supplies at the slot start (R150). -/
def frameBodyNow (f : Frame) (s : State) : Option UplinkBody :=
  match f.body with
  | .fixed b => some b
  | .live => liveBody f.kind s
  | .fromTripRecord => tripBody f s

/-- The "more" flag: a frame other than this one is WAITING (R150). This one is IN_FLIGHT. -/
def moreFlag (s : State) : Bool := s.txq.frames.any fun g => !g.inFlight

/-- The bytes of a transmission from the fleet id to the CRC (R127, R141). -/
def Transmission.bytes (t : Transmission) : List Byte :=
  let body := t.body.bytes
  let head := bigEndian16 t.fleet ++ [byteOf t.kind.code] ++ bigEndian16 t.address ++
    [byteOf (t.sequence + if t.more then 128 else 0), byteOf body.length] ++ body
  head ++ bigEndian16 (crc16 head).toNat

/-- The bits of a byte, the most significant first (R124). -/
def byteBits (b : Byte) : List Bool := (List.range 8).map fun i => b.getMsbD i

/-- The bits sent on TXD: a preamble of 16 bits, the sync word, the frame (R125, R135). -/
def Transmission.bits (t : Transmission) : List Bool :=
  ([0xAA#8, 0xAA#8, 0xB4#8, 0xE6#8, 0x1D#8] ++ t.bytes).flatMap byteBits

/-- The engine transmits a frame (R135, R141). -/
def transmit (f : Frame) (q : Nat) (body : UplinkBody) (s : State) : State :=
  let t : Transmission :=
    { fleet := fleetId s, kind := f.kind, address := cabAddress s, sequence := q, more := moreFlag s, body := body }
  (s.modAle fun a => { a with transmission := some t }).modPins fun p => { p with key := true }

/-- A slot with an assignment begins (R135, R136). Until READY KEY is low, so the assignment is dropped (R185; log entry
37). -/
def beginSlot (a : Assignment) (s : State) : State :=
  match s.txq.frames.find? (inFlightWith (some a.sequence)) with
  | none => s
  | some f =>
    if s.pins.modemReady = false then recordFault .modemNotReady 3 s
    else if s.phase ≠ .ready ∨ addressGood s = false ∨ s.ale.transmission ≠ none then s
    else
      match frameBodyNow f s with
      | none => s
      | some b => transmit f a.sequence b s

/-- No transmission is in progress: KEY is low, and TXD is left at a level (R135, R136). -/
def endTransmission (txd : Bool) (s : State) : State :=
  (s.modAle fun a => { a with transmission := none }).modPins fun p => { p with key := false, txd := txd }

/-- The level TXD is left at when a transmission, if one is in progress, is cut off: low (R136). -/
def txdAfterCut (s : State) : Bool := s.ale.transmission == none && s.pins.txd

/-- A transmission in progress is cut off with fault AIR/MODEM_NOT_READY (R136, R137). -/
def cutOff (detail : Nat) (s : State) : State :=
  if s.ale.transmission = none then s else recordFault .modemNotReady detail (endTransmission false s)

/-- The air link engine's part of RADIO_RESTART (R140). -/
def restartEngine (s : State) : State :=
  let s₁ := endTransmission (txdAfterCut s) (dropAssignments s)
  let s₂ := s₁.modAle fun a =>
    { a with receiver := .hunting, window := none, fadeExpiry := none, lossExpiry := none, cycleHeard := false,
             sequence := 0 }
  linkChange .hunt s₂

end Sys2Proof.Machine
end

