-- ==== Sys2Proof/Machine/WindowOps.lean ====
section
/-! DEFINITION. The window map as the host reads it (R157, R158), the calibration address space (R181), the judgement of
host writes (R160), the hand fields (R55, R163), the position fix (R55, R57), cancels (R167) and port reset (R172). -/

namespace Sys2Proof.Machine

/-- The bytes of the nine totals in the order of R181. -/
def Totals.bytes (g : Totals) : List Byte :=
  [g.trips, g.hiredMetres, g.unpaidMetres, g.totalMetres, g.hiredSeconds, g.fareSum, g.extrasSum,
   g.powerInterruptions, g.tripOverwrites].flatMap (littleEndian 4)

/-- The lifetime totals: the nine and the shifts (R181). -/
def TotalsGroup.lifetimeBytes (g : TotalsGroup) : List Byte := g.lifetime.bytes ++ littleEndian 4 g.shifts

/-- The totals mirror (R43). -/
def TotalsGroup.bytes (g : TotalsGroup) : List Byte :=
  [flagByte g.shiftOpen, 0] ++ littleEndian 2 g.driver ++ g.openTime.bytes ++ g.shift.bytes ++
  [byteOf g.reportState.code, 0] ++ littleEndian 2 g.lastDriver ++ g.lastOpenTime.bytes ++ g.lastCloseTime.bytes ++
  g.last.bytes ++ g.lifetimeBytes ++ littleEndian 4 g.metresBase ++ List.replicate 108 0

/-- The flags byte of a trip record (R38). -/
def TripRecord.flagsByte (t : TripRecord) : Byte :=
  flagBit 0 t.powerInterrupted ||| flagBit 1 t.fareLimit ||| flagBit 2 t.pulsesDiscarded ||| flagBit 3 t.fromOffer |||
  flagBit 4 t.released

/-- A trip record in the window (R38). -/
def TripRecord.bytes (t : TripRecord) : List Byte :=
  [flagByte t.written, byteOf t.sendState.code, t.flagsByte, byteOf t.startingTariff] ++ littleEndian 4 t.tripNumber ++
  littleEndian 2 t.driver ++ littleEndian 2 t.offerNumber ++
  [byteOf t.switchCount, byteOf t.startZone, byteOf t.endZone, 0] ++ t.startTime.bytes ++ t.endTime.bytes ++
  littleEndian 4 t.hiredMetres ++ littleEndian 4 t.unpaidMetres ++ littleEndian 4 t.hiredSeconds ++
  littleEndian 4 t.stoppedSeconds ++ littleEndian 3 t.fare ++ littleEndian 3 t.extras ++ littleEndian 3 t.total ++
  littleEndian 3 t.drops ++ littleEndian 4 t.discardedPulses

/-- The flags byte of an offer entry (R61). -/
def OfferEntry.flagsByte (e : OfferEntry) : Byte :=
  flagBit 0 e.targeted ||| flagBit 1 e.account ||| flagBit 2 e.largeVehicle ||| flagBit 3 e.detailsDropped

/-- An offer entry in the window (R61). -/
def OfferEntry.bytes (e : OfferEntry) : List Byte :=
  [byteOf e.state.code, byteOf e.reason.code] ++ littleEndian 2 e.number ++
  [byteOf e.zone, e.flagsByte, byteOf e.windowRemaining, byteOf e.awardRemaining, byteOf e.detailsLength,
   byteOf e.firstBlock, byteOf e.blockCount, byteOf e.bidFrame.code, flagByte e.refusePending, 0, 0, 0] ++
  e.timeStored.bytes ++ List.replicate 8 0

/-- An inbox entry in the window (R92). -/
def InboxEntry.bytes (e : InboxEntry) : List Byte :=
  [byteOf e.state.code, byteOf e.cls.code, flagBit 0 e.broadcast ||| flagBit 1 e.truncated, flagByte e.awaiting] ++
  littleEndian 2 e.number ++ littleEndian 2 e.sender ++ e.timeStored.bytes ++
  [byteOf e.length, byteOf e.firstBlock, byteOf e.blockCount] ++ List.replicate 13 0

/-- A fault ring entry (R178). -/
def RingEntry.bytes (x : RingEntry) : List Byte :=
  match x.fault with
  | none => List.replicate 8 0
  | some f => [byteOf f.cls, byteOf f.id, byteOf x.repeats] ++ littleEndian 2 x.detail ++ littleEndian 3 x.seconds

/-- The index of the newest ring entry, 0xFF while the ring is empty (R178). -/
def newestByte (a : Atc) : Byte :=
  match a.newest with
  | none => 255#8
  | some n => byteOf n.val

/-- The line state byte (R158). -/
def lineStateByte (s : State) : Byte :=
  flagBit 0 (lineAsserted s false) ||| flagBit 1 (lineAsserted s true) ||| flagBit 2 s.atc.matchA |||
  flagBit 3 s.atc.matchB

/-- Directory bytes 0x00 to 0x4F (R158). -/
def directoryHead (s : State) : List Byte :=
  let g := s.frc.fareGroup
  [byteOf (if s.cps.failed then 2 else 1), flagByte (s.phase == .ready)] ++ littleEndian 2 s.wpt.updateCount ++
  [byteOf s.dsc.status.code, byteOf s.mtc.meter.code, byteOf s.ale.link.code, byteOf s.emc.state.code,
   byteOf g.number, g.mode] ++ g.name.take 8 ++
  littleEndian 4 g.fare ++ littleEndian 4 g.extras ++ littleEndian 4 g.total ++ littleEndian 4 g.hiredMetres ++
  littleEndian 4 g.hiredSeconds ++
  [byteOf s.dsc.zone, flagByte s.dsc.zoneKnown, byteOf s.dsc.queuePosition, flagByte s.frc.clockSet] ++
  s.frc.clock.bytes ++
  [byteOf s.frc.clock.dayOfWeek, byteOf s.ale.lastCycle, flagByte s.ale.cycleHeard, byteOf s.txq.frames.length] ++
  littleEndian 2 s.emc.count ++ [byteOf s.emc.presses, byteOf s.emc.wrongCodes] ++
  littleEndian 2 s.mst.freeCount ++ [byteOf s.mst.freeHead, newestByte s.atc] ++
  [s.ale.crcErrors, s.ale.formatErrors, s.txq.stray, s.oft.missed, s.mst.refused, s.mst.lostUnread, s.dsc.fixRejected,
   s.wpt.droppedWrites, s.wpt.illegalHands].flatMap (littleEndian 2)

/-- Directory bytes 0x66 to 0xFF (R158). -/
def directoryTail (s : State) : List Byte :=
  littleEndian 2 s.atc.pending.toNat ++ littleEndian 2 s.atc.inService.toNat ++
  [conditionFlags s, lineStateByte s] ++ List.replicate 20 0 ++ s.atc.ring.toList.flatMap RingEntry.bytes ++
  List.replicate 64 0

/-- The identity bytes 0x40 to 0x7F of the calibration address space (R181). -/
def identityBytes : List Byte :=
  littleEndian 2 0x0441 ++ (List.range 8).map Config.partNumberByte ++ List.replicate 54 0

/-- The calibration address space with given lifetime totals (R181). -/
def calibrationSpace (s : State) (totals : List Byte) : List Byte :=
  s.cps.bank.take 64 ++ identityBytes ++ totals ++ List.replicate 88 0

/-- What a read of ATTEND would return (R174). -/
def attendValue (s : State) : Nat := (highestPresentable s).getD 0xFF

/-- The registers and the range after them (R171); IDENT reads 0x0441. -/
def registerByte (s : State) (offset : Nat) : Byte :=
  match offset with
  | 0x3000 => 0x41#8
  | 0x3001 => 0x04#8
  | 0x3002 => flagByte (s.phase == .ready)
  | 0x3004 => byteOf (attendValue s)
  | _ => 0#8

/-- The byte a location of the window holds (R157, R158). -/
def windowByte (s : State) (offset : Nat) : Byte :=
  if offset < 0x50 then (directoryHead s).getD offset 0
  else if offset < 0x66 then s.mem.read offset
  else if offset < 0x100 then (directoryTail s).getD (offset - 0x66) 0
  else if offset < 0x500 then s.mem.read offset
  else if offset < 0x600 then (s.oft.entries.toList.flatMap OfferEntry.bytes).getD (offset - 0x500) 0
  else if offset < 0x900 then (s.mst.inbox.toList.flatMap InboxEntry.bytes).getD (offset - 0x600) 0
  else if offset < 0x2500 then s.mem.read offset
  else if offset < 0x2B00 then (s.mtc.windowLog.toList.flatMap TripRecord.bytes).getD (offset - 0x2500) 0
  else if offset < 0x2D00 then s.mem.read offset
  else if offset < 0x2E00 then (calibrationSpace s s.mtc.windowTotals.lifetimeBytes).getD (offset - 0x2D00) 0
  else if offset < 0x2F00 then s.mem.read offset
  else if offset < 0x3000 then s.mtc.windowTotals.bytes.getD (offset - 0x2F00) 0
  else registerByte s offset

/-- What a host read of a location returns: 0 before READY and for the cancel code, otherwise what it holds (R157). The
effects of a read of ATTEND are the command attendRead. -/
def hostReadByte (s : State) (offset : Nat) : Byte :=
  if s.phase ≠ .ready then 0#8
  else if offset = 0x2E04 ∨ offset = 0x2E05 then 0#8
  else windowByte s offset

/-- What becomes of one byte of a host write (R160, R163, R55, R171). -/
inductive Verdict where
  | store
  | drop
  | hand (record : Fin 16)
  | slotHand
  | control
  | doneRegister
  | ignored
  deriving DecidableEq, Repr

/-- The host may write bytes 1 to 63 of a record while it is FREE or ANSWERED (R163). -/
def recordWritable (s : State) (r : Fin 16) : Bool := handField s r == 0#8 || handField s r == 4#8

/-- The host may write the tariff bank while the tariff lock is off and the meter is OFF or VACANT (R160). -/
def tariffBankWritable (s : State) : Bool := !tariffLock s && (s.mtc.meter == .off || s.mtc.meter == .vacant)

/-- The record an offset of 0x0100 to 0x04FF belongs to (R157). -/
def recordOf (offset : Nat) : Fin 16 := ⟨(offset - 0x100) / 64 % 16, Nat.mod_lt _ (by decide)⟩

/-- One byte of a host write is judged against its region's permission (R160). -/
def judgeByte (s : State) (offset : Nat) : Verdict :=
  if offset = 0x50 then .slotHand
  else if offset < 0x50 then .drop
  else if offset < 0x66 then (if s.mem.read 0x50 = 0#8 then .store else .drop)
  else if offset < 0x100 then .drop
  else if offset < 0x500 then
    if (offset - 0x100) % 64 = 0 then .hand (recordOf offset)
    else if recordWritable s (recordOf offset) then .store else .drop
  else if offset < 0x2B00 then .drop
  else if offset < 0x2D00 then (if tariffBankWritable s then .store else .drop)
  else if offset < 0x2E00 then .drop
  else if offset < 0x2F00 then .store
  else if offset < 0x3002 then .drop
  else if offset = 0x3002 then .control
  else if offset = 0x3003 then .ignored
  else if offset < 0x3006 then .drop
  else if offset = 0x3006 then .doneRegister
  else if offset = 0x3007 then .ignored
  else .drop

/-- A dropped byte that differs from the value held is counted and recorded with its page (R160). -/
def dropByte (offset : Nat) (b : Byte) (s : State) : State :=
  if windowByte s offset = b then s
  else recordFault .writeDropped (offset / 256)
    (s.modWpt fun w => { w with droppedWrites := satAdd u16Max w.droppedWrites 1 })

/-- An illegal hand-field write is dropped, counted and recorded (R55, R163). -/
def illegalHand (detail : Nat) (s : State) : State :=
  recordFault .handIllegal detail (s.modWpt fun w => { w with illegalHands := satAdd u16Max w.illegalHands 1 })

/-- A fix that brings a new zone: the zone change of R57. -/
def zoneChange (zone : Nat) (s : State) : State :=
  let s₁ := s.modDsc fun d => { d with zone := zone, zoneKnown := true, queuePosition := 0 }
  if s.dsc.status = .available then
    askStatusFrame (if kindWaiting s .status then s.dsc.heldReason else .zone) s₁
  else s₁

/-- The ranges of the fix fields (R55). -/
def Fix.valid (x : Fix) : Bool :=
  decide (-90000000 ≤ x.latitude) && decide (x.latitude ≤ 90000000) && decide (-180000000 ≤ x.longitude) &&
  decide (x.longitude ≤ 180000000) && decide (x.heading ≤ 359) && decide (x.speed ≤ 300) && x.time.valid

/-- The fix fields are judged, copied or rejected, the slot returns to FREE, and the zone is taken (R55, R57). -/
def takeFix (s : State) : State :=
  let x := slotFix s.mem
  let s₁ := s.modMem fun m => m.write 0x50 0#8
  if x.valid then
    let s₂ := s₁.modDsc fun d => { d with lastFix := some x }
    if s.dsc.zoneKnown = false ∨ x.zone ≠ s.dsc.zone then zoneChange x.zone s₂ else s₂
  else s₁.modDsc fun d => { d with fixRejected := satAdd u16Max d.fixRejected 1 }

/-- A host write to the hand field of the position fix slot (R55). -/
def writeSlotHand (b : Byte) (s : State) : State :=
  if s.mem.read 0x50 = 0#8 ∧ b = 1#8 then takeFix s else illegalHand 0x50 s

/-- A cancel arrival for a text request: a WAITING frame is removed and the request answered CANCELLED; a frame in
flight goes on (R101, R103, R167). -/
def cancelText (r : Fin 16) (s : State) : State :=
  let wanted := fun f : Frame => f.hasOrigin (.record r)
  match newestFrame s.txq.frames wanted with
  | none => s
  | some f =>
    if f.inFlight then s
    else
      let s₁ := removeWaiting wanted s
      let s₂ := f.origins.foldl (fun t l =>
        match l.origin with
        | .inbox i => updateInbox i (fun x => { x with state := .read }) t
        | .record _ | .offer _ _ | .trip _ | .lastShift | .emergency | .dispatch | .receipts | .refusals => t) s₁
      writeAnswer r .cancelled 0#8 (textAnswerWord s₂ r) s₂

/-- A waiting write is removed from the store's queue (R184). -/
def removeWrite (k : StoreKind) (s : State) : State := s.modCps fun c => { c with queue := c.queue.filter fun x => x != k }

/-- A cancel arrival for a store request: a waiting write is removed and the request answered CANCELLED; once the write
has begun the cancel is too late (R184). -/
def cancelStore (r : Fin 16) (s : State) : State :=
  if s.cps.tariffRecord = some r ∧ StoreKind.tariffs ∈ s.cps.queue ∧ beingWritten s .tariffs = false then
    writeAnswer r .cancelled 0#8 0 ((removeWrite .tariffs s).modCps fun c => { c with tariffRecord := none })
  else if s.cps.settingsRecord = some r ∧ StoreKind.settings ∈ s.cps.queue ∧ beingWritten s .settings = false then
    writeAnswer r .cancelled 0#8 0 ((removeWrite .settings s).modCps fun c => { c with settingsRecord := none })
  else s

/-- A cancel arrival is handed to the owner block of the record's kind (R167). -/
def cancelArrival (r : Fin 16) (s : State) : State :=
  if kindByte s r = 0x30#8 ∨ kindByte s r = 0x31#8 then cancelText r s
  else if kindByte s r = 0x60#8 ∨ kindByte s r = 0x61#8 then cancelStore r s
  else s

/-- A host write to the hand field of a record, judged against the value it finds (R163, R164). -/
def writeHand (r : Fin 16) (b : Byte) (s : State) : State :=
  let found := handField s r
  if found = 0#8 ∧ b = 1#8 then (setHand r 1#8 s).modWpt fun w => { w with posted := w.posted ++ [r] }
  else if found = 2#8 ∧ b = 3#8 then cancelArrival r (setHand r 3#8 s)
  else if found = 4#8 ∧ b = 0#8 then setHand r 0#8 s
  else if found = 4#8 ∧ b = 3#8 then s
  else illegalHand r.val s

/-- Every request record becomes 64 bytes of 0 (R172): the cells of 0x0100 to 0x04FF leave the memory. -/
def clearRecords (m : Memory) : Memory := m.filter fun c => decide (c.1 < 0x100) || decide (0x500 ≤ c.1)

/-- The frame's origin is a request record, detached by an earlier port reset or not (R155; log entry 39). -/
def recordLink (l : OriginLink) : Bool :=
  match l.origin with
  | .record _ => true
  | .offer _ _ | .inbox _ | .trip _ | .lastShift | .emergency | .dispatch | .receipts | .refusals => false

/-- Detach the request record origins of a frame. -/
def Frame.detachRecords (f : Frame) : Frame :=
  { f with origins := f.origins.map fun l => if recordLink l then { l with detached := true } else l }

/-- The queue's part of a port reset (R155): WAITING text frames of a request leave, and a reply's inbox entry becomes
READ; the record origin of those IN_FLIGHT is detached. -/
def portResetQueue (s : State) : State :=
  let leaving := fun f : Frame => !f.inFlight && f.origins.any recordLink
  let s₁ := modFrames (fun fs => (fs.filter fun f => !leaving f).map Frame.detachRecords) s
  (s.txq.frames.filter leaving).foldl (fun t f =>
    f.origins.foldl (fun u l =>
      match l.origin with
      | .inbox i => updateInbox i (fun x => { x with state := .read }) u
      | .record _ | .offer _ _ | .trip _ | .lastShift | .emergency | .dispatch | .receipts | .refusals => u) t) s₁

/-- Some inbox entry of a class chosen is NEW. -/
def newMessageOf (s : State) (wanted : MessageClass → Bool) : Bool :=
  s.mst.inbox.toList.any fun e => e.state == .new && wanted e.cls

/-- The attention controller's part of a port reset: every flag is cleared, and four channels are derived from their
owners (R179). -/
def deriveAttention (s : State) : State :=
  let s₀ := s.modAtc fun a => { a with pending := 0#16, inService := 0#16 }
  let s₁ := if offerOpen s then setChannel .offerNew s₀ else s₀
  let s₂ := if newMessageOf s (· == .routine) then setChannel .message s₁ else s₁
  let s₃ := if newMessageOf s (· != .routine) then setChannel .messagePriority s₂ else s₂
  if s.emc.state ≠ .quiet then setChannel .emergency s₃ else s₃

/-- A port reset (R172). The store requests in work lose their records, so that no answer is written later (R166, R184). -/
def resetPort (s : State) : State :=
  let s₁ := s.modWpt fun w => { w with posted := [] }
  let s₂ := s₁.modMem fun m => (clearRecords m).write 0x50 0#8
  let s₃ := s₂.modCps fun c => { c with tariffRecord := none, settingsRecord := none }
  deriveAttention (portResetQueue s₃)

/-- A host write to DONE clears the in-service flag of the channel named (R175). -/
def writeDone (b : Byte) (s : State) : State :=
  if b.toNat < 16 then s.modAtc fun a => { a with inService := a.inService &&& ~~~(1#16 <<< b.toNat) } else s

/-- What a host write of the fleet settings brings about at once: a cleared enable clears its pending flag (R173), a good
cab address that turns bad is recorded (R131), and the matches are judged afresh (R90, R176). Where one word write of
0x2E20 and 0x2E21 changes NOTE_B's select set and its change report together, R177 does not say which report governs: the
model takes the one after the write (DESIGN CHOICE, log entry 45). -/
def settingsWritten (before s : State) : State :=
  let cleared := BitVec.ofNat 16 (channelEnables before) &&& ~~~(BitVec.ofNat 16 (channelEnables s))
  let s₁ := s.modAtc fun a => { a with pending := a.pending &&& ~~~cleared }
  let s₂ := if addressGood before && !addressGood s then recordFault .badAddress (cabAddress s) s₁ else s₁
  rejudge s₂

/-- The offset lies in the fleet settings region (R157). -/
def inSettings (offset : Nat) : Bool := decide (0x2E00 ≤ offset) && decide (offset < 0x2F00)

/-- Store the bytes of a write that are taken. -/
def storeBytes (bytes : List (Nat × Byte)) (verdicts : Nat → Verdict) (s : State) : State :=
  bytes.foldl (fun t x => if verdicts x.1 = .store then t.modMem fun m => m.write x.1 x.2 else t) s

/-- What one byte of a write does besides being stored. -/
def byteEffect (verdict : Verdict) (offset : Nat) (b : Byte) (s : State) : State :=
  match verdict with
  | .store | .ignored => s
  | .drop => dropByte offset b s
  | .hand r => writeHand r b s
  | .slotHand => writeSlotHand b s
  | .control => if b.getLsbD 1 then resetPort s else s
  | .doneRegister => writeDone b s

/-- A host write of one or two bytes (R160): both bytes are judged as the write arrives, those taken are stored, and then
each other byte has its effect, the lower offset first. Before READY the write is dropped without a trace (R171). -/
def hostWrite (bytes : List (Nat × Byte)) (s : State) : State :=
  if s.phase ≠ .ready then s
  else
    let s₁ := storeBytes bytes (judgeByte s) s
    let s₂ := if bytes.any fun x => inSettings x.1 then settingsWritten s s₁ else s₁
    bytes.foldl (fun t x => byteEffect (judgeByte s x.1) x.1 x.2 t) s₂

end Sys2Proof.Machine
end

