-- ==== Sys2Proof/Machine/StoreOps.lean ====
section
/-! DEFINITION. The nonvolatile store: which write begins, what it carries, its completion and its failure (section 2.8,
R45, R183, R184), and the calibration port's runs (R180 to R182). -/

namespace Sys2Proof.Machine

/-- The waiting writes that are not the meter commit, earliest asked first (R183). -/
def otherWrites (s : State) : List StoreKind := s.cps.queue.filter fun k => k != .meter

/-- The write the free store takes next (R183). -/
def nextWrite (s : State) : Option StoreKind :=
  if s.cps.lastWasCommit ∧ otherWrites s ≠ [] then (otherWrites s).head?
  else if StoreKind.meter ∈ s.cps.queue then some .meter
  else (otherWrites s).head?

/-- What a write of a kind reads from the part as it begins (R183, section 2.8). -/
def storeJobNow (k : StoreKind) (s : State) : StoreJob :=
  match k with
  | .meter => .meter (meterCommitNow s) (s.mtc.uncommitted.map some) s.mtc.shiftFrameDue
  | .calibration => .calibration s.cps.bank
  | .tariffs => .tariffs (s.mem.readBytes 0x2B00 512)
  | .settings => .settings (s.mem.readBytes 0x2E00 256)

/-- A write is taken from the queue and begins (R183). -/
def beginWrite (k : StoreKind) (s : State) : State :=
  let job := storeJobNow k s
  (removeWrite k s).modCps fun c => { c with writing := some job }

/-- The store is served from start-up stage 3 on (R186). -/
def storeServed (s : State) : Bool := decide (3 ≤ s.phase.stagesEnded)

/-- The free store takes the next write, if one waits (R183). -/
def beginNextWrite (s : State) : State :=
  if storeServed s ∧ s.cps.writing = none then
    match nextWrite s with
    | some k => beginWrite k s
    | none => s
  else s

/-- A write ends: the store changes by what completed, and is free again (R183). -/
def endWrite (k : StoreKind) (change : Store → Store) (s : State) : State :=
  s.modCps fun c => { c with writing := none, lastWasCommit := k == .meter, store := change c.store }

/-- The window's trip log and totals mirror are rewritten from a completed commit in one group rewrite (R45, R162). -/
def rewriteMirrors (c : MeterCommit) (s : State) : State :=
  groupRewrite (fun t => t.modMtc fun m => { m with windowLog := c.tripLog, windowTotals := c.totals }) s

/-- A log entry whose record a completed commit has carried: its TRIP frame is queued if its send state is QUEUED (R37,
R41). -/
def sendCarriedTrip (t : Fin 24) (s : State) : State :=
  let s₁ := s.modMtc fun m => { m with uncommitted := m.uncommitted.filter fun x => x != t }
  if (s.mtc.tripLog.get t).sendState = .queued then queueTripFrame t s₁ else s₁

/-- A trip record carried for the first time sets channel TRIP (8), and its report is sent unless its entry has since been
reused for another trip (R37, R39, R45). -/
def reportCarriedTrip (carried : Option (Fin 24)) (s : State) : State :=
  match carried with
  | some t => setChannel .trip (sendCarriedTrip t s)
  | none => setChannel .trip s

/-- The SHIFT frame of a closed shift that the commit carried is queued (R36). -/
def reportCarriedShift (s : State) : State :=
  queueShiftFrame (s.modMtc fun m => { m with shiftFrameDue := false })

/-- A meter commit completes (R45). -/
def completeMeterCommit (c : MeterCommit) (first : List (Option (Fin 24))) (due : Bool) (s : State) : State :=
  let s₁ := rewriteMirrors c (endWrite .meter (fun st => { st with meter := some c }) s)
  let s₂ := first.foldl (fun t e => reportCarriedTrip e t) s₁
  if due then reportCarriedShift s₂ else s₂

/-- The answer of a tariff write's request, if a record still waits for it (R166, R184). -/
def answerTariffs (result : Result) (s : State) : State :=
  match s.cps.tariffRecord with
  | some r => answerWork r result 0 0 (s.modCps fun c => { c with tariffRecord := none })
  | none => s

/-- The answer of a settings write's request, if a record still waits for it (R166, R184). -/
def answerSettings (result : Result) (s : State) : State :=
  match s.cps.settingsRecord with
  | some r => answerWork r result 0 0 (s.modCps fun c => { c with settingsRecord := none })
  | none => s

/-- What a failed write of a kind leads to (R45, R183, R184). -/
def afterFailure (k : StoreKind) (s : State) : State :=
  match k with
  | .meter => requestCommit s
  | .calibration => requestWrite .calibration s
  | .tariffs => answerTariffs .storeFailed s
  | .settings => answerSettings .storeFailed s

/-- A write fails: the store keeps what it held, and fault STORE/WRITE_FAILED names the kind (R183). -/
def failWrite (k : StoreKind) (s : State) : State :=
  afterFailure k (recordFault .writeFailed k.code (endWrite k id s))

/-- The index of the first tariff of the window's bank that is invalid (R184). -/
def firstInvalidTariff (s : State) : Option Nat := [0, 1, 2, 3].find? fun t => !(windowTariff s t).valid

/-- A write of a kind is waiting or being written (R35, R184). -/
def writeOutstanding (s : State) (k : StoreKind) : Bool := s.cps.queue.contains k || beingWritten s k

/-- The serial of the bank in use is all zero (R181). -/
def serialBlank (s : State) : Bool := ((s.cps.bank.drop 8).take 8).all fun b => b == 0#8

/-- The calibrated settings 0x00–0x3D of the bank in use (R182). -/
def bankSettings (s : State) : List Byte := s.cps.bank.take 62

/-- The run as a start addressed to the port begins it: a staging copy filled from the bank in use (R182). -/
def newRun (s : State) : CalRun :=
  { staging := bankSettings s, transaction := .released, capturedTotals := s.mtc.windowTotals.lifetimeBytes,
    serialWritable := serialBlank s }

/-- The transaction an address byte begins (R180). -/
def transactionOf (read : Bool) : CalTransaction := if read then .reading else .awaitPointer

/-- A transaction addressed to the port begins; a repeated start keeps the run, and each read transaction captures the
lifetime totals afresh (R180 to R182). -/
def CalRun.begin (run : CalRun) (read : Bool) (totals : List Byte) : CalRun :=
  { run with transaction := transactionOf read, capturedTotals := if read then totals else run.capturedTotals }

/-- Set the acknowledge the port gives. -/
def calAcknowledge (b : Bool) (s : State) : State := s.modPins fun p => { p with calAck := b }

/-- A start or repeated start with its address byte (R180, R182). -/
def startRun (address : BitVec 7) (read : Bool) (s : State) : State :=
  if s.phase = .ready ∧ address = 0x5A#7 then
    let run := (s.cps.run.getD (newRun s)).begin read s.mtc.windowTotals.lifetimeBytes
    calAcknowledge true (s.modCps fun c => { c with run := some run })
  else
    calAcknowledge false
      (s.modCps fun c => { c with run := c.run.map fun run => { run with transaction := .released } })

/-- The pointer one further, from 0xFF to 0x00 (R180). -/
def nextPointer (p : Nat) : Nat := (p + 1) % 256

/-- The tool may write an address in a run (R181). -/
def CalRun.mayWrite (run : CalRun) (address : Nat) : Bool :=
  if address < 0x08 then true else if address < 0x10 then run.serialWritable else decide (address < 0x3E)

/-- A byte of a write transaction is judged at the pointer (R182). -/
def writeStaging (run : CalRun) (byte : Byte) (calEnable : Bool) (s : State) : State :=
  if run.mayWrite s.cps.pointer then
    if calEnable ∧ s.mtc.meter = .off then
      s.modCps fun c => { c with run := some { run with staging := run.staging.set s.cps.pointer byte } }
    else recordFault .calWriteDropped s.cps.pointer s
  else s

/-- The level of CAL_ENABLE at its sampling. -/
def sampleCalEnable (b : Bool) (s : State) : State := s.modPins fun p => { p with calEnable := b }

/-- The bank that staged settings make, with its check value (R181, R182). -/
def bankOf (staging : List Byte) : List Byte := staging ++ bigEndian16 (crc16 staging).toNat

/-- The end of a run, at a stop or after 25 ms of idle bus (R180, R182). -/
def endRun (calEnable : Bool) (s : State) : State :=
  match s.cps.run with
  | none => s
  | some run =>
    let s₁ := sampleCalEnable calEnable (s.modCps fun c => { c with run := none })
    if run.staging = bankSettings s then s₁
    else if calEnable ∧ s.mtc.meter = .off then
      requestWrite .calibration (s₁.modCps fun c => { c with bank := bankOf run.staging })
    else recordFault .calWriteDropped 0x3E s₁

end Sys2Proof.Machine
end

