-- ==== Sys2Proof/Machine/Requests.lean ====
section
/-! DEFINITION. The take of the record at the head of the posted-order list (R164) and the request lock (R122). -/

namespace Sys2Proof.Machine

/-- The kind codes of R169. -/
inductive RequestKind where
  | shiftOpen | shiftClose | meterKey | addExtra | selectTariff | releaseTrip | setClock | setBreak | setAvailable
  | noShow | acceptOffer | declineOffer | releaseOffer | sendText | reply | markRead | deleteMsg | emergencyRaise
  | emergencyCancel | radioRestart | storeTariffs | storeSettings
  deriving DecidableEq, Repr

/-- The kind a kind byte names (R169). -/
def requestKindOf (code : Nat) : Option RequestKind :=
  match code with
  | 0x01 => some .shiftOpen
  | 0x02 => some .shiftClose
  | 0x03 => some .meterKey
  | 0x04 => some .addExtra
  | 0x05 => some .selectTariff
  | 0x06 => some .releaseTrip
  | 0x07 => some .setClock
  | 0x10 => some .setBreak
  | 0x11 => some .setAvailable
  | 0x12 => some .noShow
  | 0x20 => some .acceptOffer
  | 0x21 => some .declineOffer
  | 0x22 => some .releaseOffer
  | 0x30 => some .sendText
  | 0x31 => some .reply
  | 0x32 => some .markRead
  | 0x33 => some .deleteMsg
  | 0x40 => some .emergencyRaise
  | 0x41 => some .emergencyCancel
  | 0x50 => some .radioRestart
  | 0x60 => some .storeTariffs
  | 0x61 => some .storeSettings
  | _ => none

/-- The kinds that R122 locks while the emergency state is not QUIET. -/
def RequestKind.locked : RequestKind → Bool
  | .shiftOpen | .shiftClose | .selectTariff | .setBreak | .setAvailable | .noShow | .acceptOffer | .storeTariffs
  | .storeSettings => true
  | .meterKey | .addExtra | .releaseTrip | .setClock | .declineOffer | .releaseOffer | .sendText | .reply | .markRead
  | .deleteMsg | .emergencyRaise | .emergencyCancel | .radioRestart => false

/-- The record leaves the posted-order list (R164, step 1). -/
def leaveList (rest : List (Fin 16)) (s : State) : State := s.modWpt fun w => { w with posted := rest }

/-- The lock, then the owner block (R164, steps 3 and 4; R122). -/
def serveRequest (k : RequestKind) (r : Fin 16) (owner : Fin 16 → State → State) (s : State) : State :=
  if k.locked ∧ s.emc.state ≠ .quiet then answer r .refusedLocked 0 s else owner r s

/-- The window port takes the record at the head of the posted-order list when its kind is this one (R164); with another
kind at the head, or an empty list, this arrival does not occur and nothing changes (log entry 11). -/
def takeRequest (k : RequestKind) (owner : Fin 16 → State → State) (s : State) : State :=
  match s.wpt.posted with
  | [] => s
  | r :: rest =>
    if requestKindOf (kindByte s r).toNat = some k then serveRequest k r owner (leaveList rest s) else s

/-- A record taken with a kind that is not in the table of R169 is answered UNKNOWN_KIND (R164, step 2). -/
def takeUnknown (s : State) : State :=
  match s.wpt.posted with
  | [] => s
  | r :: rest =>
    if requestKindOf (kindByte s r).toNat = none then answer r .unknownKind 0 (leaveList rest s) else s

/-- A lasting request is taken into work: its hand field becomes TAKEN (R166). -/
def takeIntoWork (r : Fin 16) (s : State) : State := setHand r 2#8 s

/-- UNKNOWN_KIND (R164). -/
def execUnknownKind (s : State) : Host.Outcome State Fault Refusal := .next (driveLines (takeUnknown s))

end Sys2Proof.Machine
end

