-- ==== Sys2Proof/Machine/Air.lean ====
section
/-! DEFINITION. SYNC_FOUND, RX_LENGTH_FORMAT_ERROR, RX_FRAME_DROPPED, RX_FRAME_ABANDON, CYCLE_FRAME, SLOT_START,
TRANSMISSION_END, MODEM_READY_FALL, TXC_STALL, FADE_EXPIRY, LOSS_EXPIRY and RADIO_RESTART (chapters 7 and 8). -/

namespace Sys2Proof.Machine

/-- The sync word (R125). -/
def syncWord : BitVec 24 := 0xB4E61D#24

/-- The number of differing bits of a window and the sync word (R125). -/
def syncDistance (bits : BitVec 24) : Nat :=
  (List.range 24).countP fun i => (bits ^^^ syncWord).getLsbD i

/-- The last 24 bits are compared with the sync word in HUNTING (R125). -/
def judgeSync (bits : BitVec 24) (s : State) : State :=
  if s.ale.receiver = .hunting then
    if syncDistance bits ≤ syncTolerance s then
      s.modAle fun a => { a with receiver := .collecting, window := none }
    else s.modAle fun a => { a with window := some bits }
  else s

/-- A completed length byte over 120, in COLLECTING (R126). -/
def takeBadLength (length : Byte) (s : State) : State :=
  if s.ale.receiver = .collecting ∧ 120 < length.toNat then countFormatError (resumeHunting s) else s

/-- A frame gathered in COLLECTING that fails a check (R126, R128); a frame that passes all five is no dropped frame, and
nothing happens. -/
def takeDropped (kind : Nat) (f : RxFrame) (s : State) : State :=
  if s.ale.receiver = .collecting then
    match judgeFrame s kind f with
    | .accepted _ => s
    | fate => dropFrame fate (resumeHunting s)
  else s

/-- A frame is abandoned while COLLECTING (R126). -/
def abandonFrame (s : State) : State := if s.ale.receiver = .collecting then resumeHunting s else s

/-- A slot begins: its assignment, if any, leads to a transmission or is dropped (R135, R136). -/
def startSlot (slot : Nat) (modemReady : Bool) (s : State) : State :=
  match s.ale.assignments.find? (fun a => a.slot == slot) with
  | none => s
  | some a =>
    let s₁ := s.modAle fun x => { x with assignments := x.assignments.filter fun b => b.slot != slot }
    beginSlot a (s₁.modPins fun p => { p with modemReady := modemReady })

/-- The last CRC bit has been sent: KEY goes low (R135), and TXD is left at a level no rule gives (log entry 38). -/
def finishTransmission (s : State) : State :=
  match s.ale.transmission with
  | none => s
  | some x => endTransmission (Config.txdAfter x) s

/-- MODEM_READY goes low (R136). -/
def fallModemReady (s : State) : State := cutOff 1 (s.modPins fun p => { p with modemReady := false })

/-- The fade expiry (R138). -/
def fade (s : State) : State :=
  if s.ale.fadeExpiry = none then s
  else
    let s₁ := s.modAle fun a => { a with fadeExpiry := none }
    if s.ale.link = .up then linkChange .fading s₁ else s₁

/-- The loss expiry (R138). -/
def loseLink (s : State) : State :=
  if s.ale.lossExpiry = none then s
  else
    let s₁ := s.modAle fun a => { a with lossExpiry := none }
    if s.ale.link = .fading then linkChange .lost s₁ else s₁

/-- RADIO_RESTART at the transmit queue (R154). -/
def ownRadioRestart (r : Fin 16) (s : State) : State :=
  let n := s.txq.frames.length
  answer r .done n (restartEngine (failFrames (fun _ => true) .reset s))

/-- SYNC_FOUND (R125). -/
def execSyncFound (bits : BitVec 24) (s : State) : Host.Outcome State Fault Refusal :=
  .next (driveLines (judgeSync bits s))

/-- RX_LENGTH_FORMAT_ERROR (R126). -/
def execRxLengthFormatError (length : Byte) (s : State) : Host.Outcome State Fault Refusal :=
  .next (driveLines (takeBadLength length s))

/-- RX_FRAME_DROPPED (R128). -/
def execRxFrameDropped (kind : Byte) (f : RxFrame) (s : State) : Host.Outcome State Fault Refusal :=
  .next (driveLines (takeDropped kind.toNat f s))

/-- RX_FRAME_ABANDON (R126). -/
def execRxFrameAbandon (s : State) : Host.Outcome State Fault Refusal := .next (driveLines (abandonFrame s))

/-- CYCLE_FRAME (R133). -/
def execCycleFrame (f : RxFrame) (modemReady : Bool) (s : State) : Host.Outcome State Fault Refusal :=
  .next (driveLines (receiveFrame 0x01 f (fun _ t => takeCycle (parseCycle f.body) modemReady t) s))

/-- SLOT_START (R135). -/
def execSlotStart (slot : Nat) (modemReady : Bool) (s : State) : Host.Outcome State Fault Refusal :=
  .next (driveLines (startSlot slot modemReady s))

/-- TRANSMISSION_END (R135). -/
def execTransmissionEnd (s : State) : Host.Outcome State Fault Refusal := .next (driveLines (finishTransmission s))

/-- MODEM_READY_FALL (R136). -/
def execModemReadyFall (s : State) : Host.Outcome State Fault Refusal := .next (driveLines (fallModemReady s))

/-- TXC_STALL (R136). -/
def execTxcStall (s : State) : Host.Outcome State Fault Refusal := .next (driveLines (cutOff 2 s))

/-- FADE_EXPIRY (R138). -/
def execFadeExpiry (s : State) : Host.Outcome State Fault Refusal := .next (driveLines (fade s))

/-- LOSS_EXPIRY (R138). -/
def execLossExpiry (s : State) : Host.Outcome State Fault Refusal := .next (driveLines (loseLink s))

/-- RADIO_RESTART (R154). -/
def execRadioRestart (s : State) : Host.Outcome State Fault Refusal :=
  .next (driveLines (takeRequest .radioRestart ownRadioRestart s))

end Sys2Proof.Machine
end

