-- ==== Sys2Proof/Machine/Calibration.lean ====
section
/-! DEFINITION. The calibration port's commands and the store's: CAL_RUN_START to CAL_BUS_IDLE_TIMEOUT, STORE_TARIFFS,
STORE_SETTINGS, STORE_WRITE_BEGIN, the completions and STORE_WRITE_FAILED (chapter 11, R45). -/

namespace Sys2Proof.Machine

/-- The first data byte of a write transaction sets the pointer (R180). -/
def setPointer (byte : Byte) (s : State) : State :=
  match s.cps.run with
  | some run =>
    if run.transaction = .awaitPointer then
      calAcknowledge true
        (s.modCps fun c => { c with pointer := byte.toNat, run := some { run with transaction := .writing } })
    else s
  | none => s

/-- The pointer rises by one (R180). -/
def raisePointer (s : State) : State := s.modCps fun c => { c with pointer := nextPointer c.pointer }

/-- A later data byte of a write transaction: judged at the pointer, acknowledged, and the pointer rises (R180, R182). -/
def takeDataByte (byte : Byte) (calEnable : Bool) (s : State) : State :=
  match s.cps.run with
  | some run =>
    if run.transaction = .writing then
      calAcknowledge true (raisePointer (writeStaging run byte calEnable (sampleCalEnable calEnable s)))
    else s
  | none => s

/-- The byte a read returns at the pointer (R180, R181). -/
def readAtPointer (run : CalRun) (s : State) : Byte :=
  (calibrationSpace s run.capturedTotals).getD s.cps.pointer 0#8

/-- The run after a read byte: without an acknowledge the read ends (R180). -/
def CalRun.afterRead (run : CalRun) (acknowledged : Bool) : CalRun :=
  if acknowledged then run else { run with transaction := .released }

/-- A byte of a read transaction (R180). -/
def readDataByte (acknowledged : Bool) (s : State) : State :=
  match s.cps.run with
  | some run =>
    if run.transaction = .reading then
      let s₁ := s.modPins fun p => { p with calData := readAtPointer run s }
      raisePointer (s₁.modCps fun c => { c with run := some (run.afterRead acknowledged) })
    else s
  | none => s

/-- STORE_TARIFFS at the calibration port and store (R184). -/
def ownStoreTariffs (r : Fin 16) (s : State) : State :=
  if tariffLock s then answer r .refusedTariffLock 0 s
  else if s.mtc.meter ≠ .off ∧ s.mtc.meter ≠ .vacant then answer r .refusedState 0 s
  else if writeOutstanding s .tariffs then answer r .busy 0 s
  else
    match firstInvalidTariff s with
    | some t => answer r .refusedRange t s
    | none => requestWrite .tariffs (takeIntoWork r (s.modCps fun c => { c with tariffRecord := some r }))

/-- STORE_SETTINGS at the calibration port and store (R184). -/
def ownStoreSettings (r : Fin 16) (s : State) : State :=
  if writeOutstanding s .settings then answer r .busy 0 s
  else requestWrite .settings (takeIntoWork r (s.modCps fun c => { c with settingsRecord := some r }))

/-- The meter commit in progress completes (R45). -/
def finishMeterCommit (s : State) : State :=
  match s.cps.writing with
  | some (.meter c first due) => completeMeterCommit c first due s
  | _ => s

/-- The calibration write in progress completes (R183). -/
def finishCalibrationWrite (s : State) : State :=
  match s.cps.writing with
  | some (.calibration bank) => endWrite .calibration (fun st => { st with calibration := some bank }) s
  | _ => s

/-- The tariff write in progress completes and its request is answered DONE (R184). -/
def finishTariffWrite (s : State) : State :=
  match s.cps.writing with
  | some (.tariffs bytes) => answerTariffs .done (endWrite .tariffs (fun st => { st with tariffs := some bytes }) s)
  | _ => s

/-- The settings write in progress completes and its request is answered DONE (R184). -/
def finishSettingsWrite (s : State) : State :=
  match s.cps.writing with
  | some (.settings bytes) =>
    answerSettings .done (endWrite .settings (fun st => { st with settings := some bytes }) s)
  | _ => s

/-- The write in progress fails (R183). -/
def failCurrentWrite (s : State) : State :=
  match s.cps.writing with
  | some job => failWrite job.kind s
  | none => s

/-- CAL_RUN_START (R182). -/
def execCalRunStart (address : BitVec 7) (read : Bool) (s : State) : Host.Outcome State Fault Refusal :=
  .next (driveLines (startRun address read s))

/-- CAL_POINTER_WRITE (R180). -/
def execCalPointerWrite (byte : Byte) (s : State) : Host.Outcome State Fault Refusal :=
  .next (driveLines (setPointer byte s))

/-- CAL_DATA_WRITE (R182). -/
def execCalDataWrite (byte : Byte) (calEnable : Bool) (s : State) : Host.Outcome State Fault Refusal :=
  .next (driveLines (takeDataByte byte calEnable s))

/-- CAL_DATA_READ (R180). -/
def execCalDataRead (acknowledged : Bool) (s : State) : Host.Outcome State Fault Refusal :=
  .next (driveLines (readDataByte acknowledged s))

/-- CAL_STOP (R182). -/
def execCalStop (calEnable : Bool) (s : State) : Host.Outcome State Fault Refusal :=
  .next (driveLines (endRun calEnable s))

/-- CAL_BUS_IDLE_TIMEOUT (R180): the run ends as at a stop. -/
def execCalBusIdleTimeout (calEnable : Bool) (s : State) : Host.Outcome State Fault Refusal :=
  .next (driveLines (endRun calEnable s))

/-- STORE_TARIFFS (R184). -/
def execStoreTariffs (s : State) : Host.Outcome State Fault Refusal :=
  .next (driveLines (takeRequest .storeTariffs ownStoreTariffs s))

/-- STORE_SETTINGS (R184). -/
def execStoreSettings (s : State) : Host.Outcome State Fault Refusal :=
  .next (driveLines (takeRequest .storeSettings ownStoreSettings s))

/-- STORE_WRITE_BEGIN (R183). -/
def execStoreWriteBegin (s : State) : Host.Outcome State Fault Refusal := .next (driveLines (beginNextWrite s))

/-- METER_COMMIT_COMPLETE (R45). -/
def execMeterCommitComplete (s : State) : Host.Outcome State Fault Refusal := .next (driveLines (finishMeterCommit s))

/-- CALIBRATION_WRITE_COMPLETE (R183). -/
def execCalibrationWriteComplete (s : State) : Host.Outcome State Fault Refusal :=
  .next (driveLines (finishCalibrationWrite s))

/-- TARIFF_WRITE_COMPLETE (R184). -/
def execTariffWriteComplete (s : State) : Host.Outcome State Fault Refusal := .next (driveLines (finishTariffWrite s))

/-- SETTINGS_WRITE_COMPLETE (R184). -/
def execSettingsWriteComplete (s : State) : Host.Outcome State Fault Refusal :=
  .next (driveLines (finishSettingsWrite s))

/-- STORE_WRITE_FAILED (R183). -/
def execStoreWriteFailed (s : State) : Host.Outcome State Fault Refusal := .next (driveLines (failCurrentWrite s))

end Sys2Proof.Machine
end

