-- ==== Sys2Proof/Machine/Meter.lean ====
section
/-! DEFINITION. KEY_PRESS, METER_KEY, ADD_EXTRA, SELECT_TARIFF, PAYMENT_HOLD_EXPIRY, SHIFT_OPEN, SHIFT_CLOSE and
RELEASE_TRIP (chapter 2). -/

namespace Sys2Proof.Machine

/-- Keys and the alarm line are watched from the end of start-up stage 3 (R25, R108). -/
def inputsWatched (s : State) : Bool := decide (3 ≤ s.phase.stagesEnded)

/-- The key a METER_KEY names (R26). -/
def keyOfCode (code : Nat) : Option MeterKey :=
  match code with
  | 0 => some .hire
  | 1 => some .stop
  | 2 => some .pay
  | 3 => some .clear
  | _ => none

/-- The answer to a METER_KEY: the meter state's code when DONE, else 0 (R26). -/
def answerKey (r : Fin 16) (x : Result × State) : State :=
  answer r x.1 (if x.1 = .done then x.2.mtc.meter.code else 0) x.2

/-- METER_KEY at the meter controller (R26, R27). -/
def ownMeterKey (r : Fin 16) (s : State) : State :=
  if hostMeterControl s then
    match keyOfCode (param8 s r 8) with
    | some k => answerKey r (pressKey k true s)
    | none => answer r .refusedRange 0 s
  else answer r .notPermitted 0 s

/-- The answer to an ADD_EXTRA: the item's count when DONE, else 0 (R26). -/
def answerExtra (r : Fin 16) (i : Fin 8) (x : Result × State) : State :=
  answer r x.1 (if x.1 = .done then x.2.mtc.trip.extraCounts.get i else 0) x.2

/-- ADD_EXTRA at the meter controller (R26, R33). -/
def ownAddExtra (r : Fin 16) (s : State) : State :=
  if hostMeterControl s then
    if h : param8 s r 8 < 8 then answerExtra r ⟨_, h⟩ (pressExtra ⟨_, h⟩ s) else answer r .refusedRange 0 s
  else answer r .notPermitted 0 s

/-- The override is set, and the fare group follows a change of the number shown (R8, R16, R21). -/
def setOverride (n : Nat) (s : State) : State :=
  let s₁ := s.modFrc fun f => { f with override := some n }
  if shownTariff s₁ = shownTariff s then s₁ else rewriteFareGroup s₁

/-- SELECT_TARIFF at the meter controller (R26, R34). -/
def ownSelectTariff (r : Fin 16) (s : State) : State :=
  if hostMeterControl s then
    if 3 < param8 s r 8 then answer r .refusedRange 0 s
    else if s.mtc.meter = .vacant then answer r .done (param8 s r 8) (setOverride (param8 s r 8) s)
    else answer r .refusedState 0 s
  else answer r .notPermitted 0 s

/-- The hold expiry (R31). -/
def endHold (s : State) : State :=
  if s.mtc.holdTimer = none then s else s.modMtc fun m => { m with holdTimer := none, holdEnded := true }

/-- The totals group of a shift just opened (R35, steps 1 to 3). -/
def TotalsGroup.opened (g : TotalsGroup) (driver : Nat) (now : Stamp) : TotalsGroup :=
  { g with shiftOpen := true, driver := driver, openTime := now, shift := Totals.zero,
           shifts := satAdd u32Max g.shifts 1, metresBase := g.lifetime.totalMetres }

/-- A shift is opened (R35). -/
def openShift (driver : Nat) (s : State) : State :=
  let s₁ := s.modFrc fun f => { f with shiftPulses := 0 }
  meterChange .vacant (modTotals (fun g => g.opened driver s.frc.clock) s₁)

/-- SHIFT_OPEN at the meter controller (R35). -/
def ownShiftOpen (r : Fin 16) (s : State) : State :=
  if paramN s r 8 2 = 0 then answer r .refusedRange 0 s
  else if s.mtc.meter ≠ .off ∨ s.cps.failed then answer r .refusedState 0 s
  else if writeOutstanding s .calibration then answer r .busy 0 s
  else answer r .done 0 (openShift (paramN s r 8 2) s)

/-- The totals group of a shift just closed (R36, steps 2 and 3). -/
def TotalsGroup.closed (g : TotalsGroup) (now : Stamp) : TotalsGroup :=
  { g with shiftOpen := false, reportState := .unsent, lastDriver := g.driver, lastOpenTime := g.openTime,
           lastCloseTime := now, last := g.shift }

/-- The last-shift group is detached from a SHIFT frame still queued (R36, step 2). -/
def detachLastShift (s : State) : State :=
  if s.mtc.totals.reportState = .queued then detachOrigin .lastShift s else s

/-- A shift is closed (R36). A commit begun before does not carry it. -/
def closeShift (s : State) : State :=
  let s₁ := detachLastShift (refreshMetres s)
  let s₂ := modTotals (fun g => g.closed s₁.frc.clock) s₁
  let s₃ := s₂.modMtc fun m => { m with shiftFrameDue := true }
  let s₄ := s₃.modCps fun c => { c with writing := c.writing.map StoreJob.forgetShift }
  meterChange .off (s₄.modFrc fun f => { f with override := none })

/-- SHIFT_CLOSE may be taken in VACANT with the status AVAILABLE or BREAK (R36). -/
def mayCloseShift (s : State) : Bool :=
  s.mtc.meter == .vacant && (s.dsc.status == .available || s.dsc.status == .onBreak)

/-- SHIFT_CLOSE at the meter controller (R36). -/
def ownShiftClose (r : Fin 16) (s : State) : State :=
  if mayCloseShift s then answer r .done 0 (closeShift s) else answer r .refusedState 0 s

/-- RELEASE_TRIP at the meter controller (R40). -/
def ownReleaseTrip (r : Fin 16) (s : State) : State :=
  if h : param8 s r 8 < 24 then
    if (s.mtc.tripLog.get ⟨_, h⟩).written then
      answer r .done 0 (requestCommit (updateTripRecord ⟨_, h⟩ (fun t => { t with released := true }) s))
    else answer r .refusedState 0 s
  else answer r .refusedRange 0 s

/-- KEY_PRESS (R25). -/
def execKeyPress (k : MeterKey) (s : State) : Host.Outcome State Fault Refusal :=
  .next (driveLines (if inputsWatched s then (pressKey k false s).2 else s))

/-- METER_KEY (R26). -/
def execMeterKey (s : State) : Host.Outcome State Fault Refusal :=
  .next (driveLines (takeRequest .meterKey ownMeterKey s))

/-- ADD_EXTRA (R33). -/
def execAddExtra (s : State) : Host.Outcome State Fault Refusal :=
  .next (driveLines (takeRequest .addExtra ownAddExtra s))

/-- SELECT_TARIFF (R34). -/
def execSelectTariff (s : State) : Host.Outcome State Fault Refusal :=
  .next (driveLines (takeRequest .selectTariff ownSelectTariff s))

/-- PAYMENT_HOLD_EXPIRY (R31). -/
def execPaymentHoldExpiry (s : State) : Host.Outcome State Fault Refusal := .next (driveLines (endHold s))

/-- SHIFT_OPEN (R35). -/
def execShiftOpen (s : State) : Host.Outcome State Fault Refusal :=
  .next (driveLines (takeRequest .shiftOpen ownShiftOpen s))

/-- SHIFT_CLOSE (R36). -/
def execShiftClose (s : State) : Host.Outcome State Fault Refusal :=
  .next (driveLines (takeRequest .shiftClose ownShiftClose s))

/-- RELEASE_TRIP (R40). -/
def execReleaseTrip (s : State) : Host.Outcome State Fault Refusal :=
  .next (driveLines (takeRequest .releaseTrip ownReleaseTrip s))

end Sys2Proof.Machine
end

