-- ==== Sys2Proof/Machine/Emergency.lean ====
section
/-! DEFINITION. ALARM_PRESS, EMERGENCY_RAISE, EMERGENCY_CANCEL, UPDATE_TIMER_EXPIRY, EMERGENCY_ACK and EMERGENCY_CLEAR
(chapter 6). -/

namespace Sys2Proof.Machine

/-- EMERGENCY_RAISE at the emergency controller (R109). -/
def ownEmergencyRaise (r : Fin 16) (s : State) : State :=
  let t := pressAlarm s
  answer r .done t.emc.state.code t

/-- A correct code cancels the call (R119). -/
def cancelCall (s : State) : State := askEmergency .cancel (stopUpdateTimer (setEmergency .cancelling s))

/-- A wrong code is counted; the third sets the duress flag and asks for an EMERGENCY frame (R120). -/
def countWrongCode (s : State) : State :=
  let s₁ := s.modEmc fun e => { e with wrongCodes := e.wrongCodes + 1 }
  if s₁.emc.wrongCodes = 3 then askEmergency .alert (s₁.modEmc fun e => { e with duress := true }) else s₁

/-- The call can be cancelled: ALERTING or ACKED (R118). -/
def cancellable (s : State) : Bool := s.emc.state == .alerting || s.emc.state == .acked

/-- EMERGENCY_CANCEL at the emergency controller (R118). -/
def ownEmergencyCancel (r : Fin 16) (s : State) : State :=
  if cancellable s then
    if 3 ≤ s.emc.wrongCodes then answer r .refusedLocked s.emc.wrongCodes s
    else if paramN s r 8 2 = s.emc.code then answer r .done s.emc.wrongCodes (cancelCall s)
    else answer r .wrongCode (s.emc.wrongCodes + 1) (countWrongCode s)
  else answer r .refusedState 0 s

/-- An expiry of the update timer (R117). -/
def expireUpdateTimer (s : State) : State :=
  if s.emc.updateTimer = none then s else startUpdateTimer (askEmergency .alert s)

/-- An EMERGENCY frame WAITING. -/
def waitingAlert (f : Frame) : Bool := f.kind == .emergency && !f.inFlight

/-- A first acknowledgement of the call (R116). -/
def acknowledgeCall (s : State) : State :=
  let s₁ := removeWaiting waitingAlert (setEmergency .acked s)
  startUpdateTimer (s₁.modEmc fun e => { e with owed := none })

/-- An EMERGENCY_ACK frame at the emergency controller (R116). -/
def takeEmergencyAck (how : Addressing) (s : State) : State :=
  if how = .individual ∧ s.emc.state = .alerting then acknowledgeCall s else s

/-- An EMERGENCY_CLEAR frame at the emergency controller (R116, R121). -/
def takeEmergencyClear (how : Addressing) (s : State) : State :=
  if how = .individual ∧ s.emc.state ≠ .quiet then returnToQuiet s else s

/-- ALARM_PRESS (R108): the line is watched from the end of start-up stage 3 (log entry 46). -/
def execAlarmPress (s : State) (high : Bool := false) : Host.Outcome State Fault Refusal :=
  .next (driveLines (if inputsWatched s then judgeAlarm (s.modPins fun p => { p with alarm := high }) else s))

/-- EMERGENCY_RAISE (R109). -/
def execEmergencyRaise (s : State) : Host.Outcome State Fault Refusal :=
  .next (driveLines (takeRequest .emergencyRaise ownEmergencyRaise s))

/-- EMERGENCY_CANCEL (R118). -/
def execEmergencyCancel (s : State) : Host.Outcome State Fault Refusal :=
  .next (driveLines (takeRequest .emergencyCancel ownEmergencyCancel s))

/-- UPDATE_TIMER_EXPIRY (R117). -/
def execUpdateTimerExpiry (s : State) : Host.Outcome State Fault Refusal := .next (driveLines (expireUpdateTimer s))

/-- EMERGENCY_ACK (R116). -/
def execEmergencyAck (f : RxFrame) (s : State) : Host.Outcome State Fault Refusal :=
  .next (driveLines (receiveFrame 0x40 f takeEmergencyAck s))

/-- EMERGENCY_CLEAR (R121). -/
def execEmergencyClear (f : RxFrame) (s : State) : Host.Outcome State Fault Refusal :=
  .next (driveLines (receiveFrame 0x41 f takeEmergencyClear s))

end Sys2Proof.Machine
end

