-- ==== Sys2Proof/Machine/Fare.lean ====
section
/-! DEFINITION. PULSE_EDGE, METER_SECOND_EXPIRY, CALENDAR_SECOND_EXPIRY, SET_CLOCK and TIME (chapter 1). -/

namespace Sys2Proof.Machine

/-- A rising edge of PULSE is counted (R1). -/
def countPulse (s : State) : State :=
  if s.frc.meterTimerRunning then s.modFrc fun f => { f with pulseCounter := satAdd u16Max f.pulseCounter 1 } else s

/-- The hired seconds of a hire in HIRED have reached a multiple of 60 (R45). -/
def hiredMinute (s : State) : Bool := s.mtc.meter == .hired && s.frc.hire.hiredSeconds % 60 == 0

/-- The charge of an expiry, in HIRED alone (R3, R11). -/
def chargeExpiry (used : Nat) (s : State) : State := if s.mtc.meter = .hired then chargeSecond used s else s

/-- The meter second ends: ceiling, assignment, seconds counter, charge and settlement, a commit at each full minute of
a hire, and the fare group while a trip is open (R1 to R3, R11, R16, R45). -/
def endMeterSecond (s : State) : State :=
  let used := usedPulses s
  let s₁ := countSecond (closePulses s)
  let s₂ := if hiredMinute s₁ then requestCommit s₁ else s₁
  let s₃ := chargeExpiry used s₂
  if s₃.mtc.meter.tripOpen then rewriteFareGroup s₃ else s₃

/-- The clock advances by a second (R17). -/
def Frc.tick (f : Frc) : Frc := { f with clock := f.clock.nextSecond }

/-- The calendar second ends and the clock group is rewritten (R17). At a minute boundary the schedule is evaluated (R20)
and, while the shift is open, the total metres are refreshed and a commit is requested (R44, R45). -/
def endCalendarSecond (s : State) : State :=
  if s.frc.clock.nextSecond.seconds % 60 = 0 then
    let s₁ := rewriteClockAndEvaluate Frc.tick s
    if s₁.mtc.totals.shiftOpen then requestCommit (refreshMetres s₁) else s₁
  else groupRewrite (fun t => t.modFrc Frc.tick) s

/-- SET_CLOCK at the fare computer (R18). -/
def ownSetClock (r : Fin 16) (s : State) : State :=
  if (paramClock s r).valid then answer r .done 0 (setClockTo (paramClock s r) s) else answer r .refusedRange 0 s

/-- A TIME frame at the fare computer (R19). -/
def takeTime (t : Stamp) (s : State) : State :=
  if acceptBaseTime s then
    if t.valid then setChannel .clock (setClockTo t s) else countFormatError s
  else s

/-- PULSE_EDGE (R1). -/
def execPulseEdge (s : State) : Host.Outcome State Fault Refusal := .next (driveLines (countPulse s))

/-- METER_SECOND_EXPIRY (R2). -/
def execMeterSecondExpiry (s : State) : Host.Outcome State Fault Refusal :=
  .next (driveLines (if s.frc.meterTimerRunning then endMeterSecond s else s))

/-- CALENDAR_SECOND_EXPIRY (R17). -/
def execCalendarSecondExpiry (s : State) : Host.Outcome State Fault Refusal :=
  .next (driveLines (if s.frc.clockTimerRunning then endCalendarSecond s else s))

/-- SET_CLOCK (R18). -/
def execSetClock (s : State) : Host.Outcome State Fault Refusal :=
  .next (driveLines (takeRequest .setClock ownSetClock s))

/-- TIME (R19). -/
def execTime (f : RxFrame) (s : State) : Host.Outcome State Fault Refusal :=
  .next (driveLines (receiveFrame 0x32 f (fun _ t => takeTime (parseTime f.body) t) s))

end Sys2Proof.Machine
end

