-- ==== Sys2Proof/Machine/Message.lean ====
section
/-! DEFINITION. TEXT, SEND_TEXT, REPLY, MARK_READ and DELETE_MSG (chapter 5). -/

namespace Sys2Proof.Machine

/-- The canned code of SEND_TEXT and REPLY (R168). -/
def cannedCode (s : State) (r : Fin 16) : Nat := param8 s r 10

/-- The text length of SEND_TEXT and REPLY (R168). -/
def textLength (s : State) (r : Fin 16) : Nat := param8 s r 11

/-- The canned code and the text length are in their ranges (R100, R102). -/
def textParamsGood (s : State) (r : Fin 16) : Bool := decide (cannedCode s r ≤ 63) && decide (textLength s r ≤ 48)

/-- A TEXT frame, its body fixed now (section 5.3). -/
def textFrame (origins : List Origin) (destination reference : Nat) (r : Fin 16) (s : State) : Frame :=
  newFrame .text origins
    (.fixed (.text destination reference (cannedCode s r) (paramText s r (textLength s r))))

/-- SEND_TEXT at the message store (R100). -/
def ownSendText (r : Fin 16) (s : State) : State :=
  if paramN s r 8 2 ≠ 0 ∧ textParamsGood s r then
    joinQueue (textFrame [.record r] (paramN s r 8 2) 0 r s) (takeIntoWork r s)
  else answer r .refusedRange 0 s

/-- NEW or READ: the entry may be answered (R102). -/
def InboxEntry.unanswered (e : InboxEntry) : Bool := e.state == .new || e.state == .read

/-- REPLY of an entry (R102, case 3). The inbox entry is the first origin, so that the answer word holds its state after
the outcome (R103). -/
def startReply (r : Fin 16) (i : Fin 24) (s : State) : State :=
  let e := s.mst.inbox.get i
  joinQueue (textFrame [.inbox i, .record r] e.sender e.number r s)
    (takeIntoWork r (updateInbox i (fun x => { x with state := .replying }) s))

/-- REPLY at the message store (R102). -/
def ownReply (r : Fin 16) (s : State) : State :=
  if h : param8 s r 8 < 24 then
    if textParamsGood s r then
      if (s.mst.inbox.get ⟨_, h⟩).unanswered then startReply r ⟨_, h⟩ s else answer r .refusedState 0 s
    else answer r .refusedRange 0 s
  else answer r .refusedRange 0 s

/-- MARK_READ at the message store (R104). -/
def ownMarkRead (r : Fin 16) (s : State) : State :=
  if h : param8 s r 8 < 24 then
    if (s.mst.inbox.get ⟨_, h⟩).state = .new then
      answer r .done InboxState.read.code (updateInbox ⟨_, h⟩ (fun x => { x with state := .read }) s)
    else answer r .refusedState (s.mst.inbox.get ⟨_, h⟩).state.code s
  else answer r .refusedRange 0 s

/-- An entry is deleted (R105). -/
def deleteEntry (i : Fin 24) (s : State) : State :=
  let e := s.mst.inbox.get i
  let s₁ := freeChain e.firstBlock e.blockCount s
  updateInbox i (fun _ => InboxEntry.empty)
    (s₁.modMst fun m => { m with storeOrder := m.storeOrder.filter fun x => x != i })

/-- DELETE_MSG at the message store (R105). -/
def ownDeleteMsg (r : Fin 16) (s : State) : State :=
  if h : param8 s r 8 < 24 then
    match (s.mst.inbox.get ⟨_, h⟩).state with
    | .empty => answer r .refusedState InboxState.empty.code s
    | .replying => answer r .busy InboxState.replying.code s
    | .new | .read | .replied => answer r .done InboxState.empty.code (deleteEntry ⟨_, h⟩ s)
  else answer r .refusedRange 0 s

/-- TEXT (R94). -/
def execText (f : RxFrame) (s : State) : Host.Outcome State Fault Refusal :=
  .next (driveLines (receiveFrame 0x20 f (fun how t => takeText how (parseText f.body) t) s))

/-- SEND_TEXT (R100). -/
def execSendText (s : State) : Host.Outcome State Fault Refusal :=
  .next (driveLines (takeRequest .sendText ownSendText s))

/-- REPLY (R102). -/
def execReply (s : State) : Host.Outcome State Fault Refusal :=
  .next (driveLines (takeRequest .reply ownReply s))

/-- MARK_READ (R104). -/
def execMarkRead (s : State) : Host.Outcome State Fault Refusal :=
  .next (driveLines (takeRequest .markRead ownMarkRead s))

/-- DELETE_MSG (R105). -/
def execDeleteMsg (s : State) : Host.Outcome State Fault Refusal :=
  .next (driveLines (takeRequest .deleteMsg ownDeleteMsg s))

end Sys2Proof.Machine
end

