-- ==== Sys2Proof/Machine/Offer.lean ====
section
/-! DEFINITION. OFFER, OFFER_WINDOW_EXPIRY, ACCEPT_OFFER, DECLINE_OFFER, RELEASE_OFFER, AWARD_WAIT_EXPIRY, AWARD, WITHDRAW
and OFFER_REMAINING_REWRITE (chapter 4, R58). -/

namespace Sys2Proof.Machine

/-- Two rows or columns lie within a span (R58). -/
def withinSpan (span a b : Nat) : Bool := decide (a ≤ b + span) && decide (b ≤ a + span)

/-- The zone lies in the reach window (R58). -/
def inReach (s : State) (zone : Nat) : Bool :=
  s.dsc.zoneKnown && withinSpan (rowSpan s) (zone / 16) (s.dsc.zone / 16) &&
  withinSpan (columnSpan s) (zone % 16) (s.dsc.zone % 16)

/-- An OFFER frame is taken into consideration (R65). -/
def offerConsidered (s : State) (how : Addressing) (zone : Nat) : Bool :=
  s.emc.state == .quiet && (s.dsc.status == .available || s.dsc.status == .bidding) &&
  (how == .individual || inReach s zone)

/-- The window of a frame, clamped to 5..60 seconds (R66, R67). -/
def offerWindow (w : Nat) : Nat := clamp 5 60 w

/-- A duplicate of an OPEN entry restarts its window; any other is ignored (R66). -/
def repeatOffer (e : Fin 8) (window : Nat) (s : State) : State :=
  if (s.oft.entries.get e).state = .open then
    updateOffer e (fun x => { x with windowRemaining := offerWindow window }) s
  else s

/-- The lowest-numbered EMPTY entry (R67). -/
def emptyOffer (s : State) : Option (Fin 8) := offerIndices.find? fun e => (s.oft.entries.get e).state == .empty

/-- The entry of a stored offer before its details and its opening (R67, steps 1 and 2). -/
def newOfferEntry (s : State) (how : Addressing) (o : OfferFields) : OfferEntry :=
  { OfferEntry.empty with
    number := o.number, zone := o.zone, account := o.account, largeVehicle := o.largeVehicle,
    targeted := how == .individual, timeStored := s.frc.clock }

/-- An offer is stored in an EMPTY entry (R67). -/
def storeOffer (e : Fin 8) (how : Addressing) (o : OfferFields) (s : State) : State :=
  let s₁ := storeDetails e o.details (updateOffer e (fun _ => newOfferEntry s how o) s)
  setChannel .offerNew
    (updateOffer e (fun x => { x with state := .open, windowRemaining := offerWindow o.window }) s₁)

/-- An OFFER frame at the offer table (R64 to R67). -/
def takeOffer (how : Addressing) (o : OfferFields) (s : State) : State :=
  if o.number = 0 then countFormatError s
  else if offerConsidered s how o.zone then
    match offerWithNumber s o.number with
    | some e => repeatOffer e o.window s
    | none =>
      match emptyOffer s with
      | some e => storeOffer e how o s
      | none => s.modOft fun t => { t with missed := satAdd u16Max t.missed 1 }
  else s

/-- A window expiry (R69). -/
def expireOffer (e : Fin 8) (s : State) : State :=
  if (s.oft.entries.get e).state = .open then setChannel .offerResult (endOffer e .expired .none s) else s

/-- The judgement of an ACCEPT_OFFER for an entry (R70, cases 3 to 7); `none` is no refusal. -/
def acceptRefusal (e : Fin 8) (s : State) : Option Result :=
  let state := (s.oft.entries.get e).state
  if state = .expired then some .tooLate
  else if state ≠ .open then some .refusedState
  else if biddingEntry s ≠ none then some .busy
  else if s.dsc.status ≠ .available then some .refusedState
  else if s.ale.link = .lost then some .linkDown
  else none

/-- The BID frame of an entry, its body fixed now (R71). -/
def bidFrame (e : Fin 8) (s : State) : Frame :=
  let number := (s.oft.entries.get e).number
  newFrame .bid [.offer e number] (.fixed (.bid number s.dsc.zone s.dsc.zoneKnown s.frc.clock))

/-- A bid starts (R71, steps 1 to 4). -/
def startBid (e : Fin 8) (s : State) : State :=
  let s₁ := updateOffer e (fun x => { x with state := .bidQueued, bidFrame := .queued, windowRemaining := 0 }) s
  let s₂ := requestStatus .bidding [.available] s₁
  joinQueue (bidFrame e s₂) s₂

/-- ACCEPT_OFFER at the offer table (R70, R71). -/
def ownAcceptOffer (r : Fin 16) (s : State) : State :=
  if h : param8 s r 8 < 8 then
    match acceptRefusal ⟨_, h⟩ s with
    | some refusal => answer r refusal (s.oft.entries.get ⟨_, h⟩).state.code s
    | none =>
      let t := startBid ⟨_, h⟩ s
      answer r .done (t.oft.entries.get ⟨_, h⟩).state.code t
  else answer r .refusedRange 0 s

/-- DECLINE_OFFER of an entry (R72). -/
def declineEntry (r : Fin 16) (e : Fin 8) (s : State) : State :=
  match (s.oft.entries.get e).state with
  | .open => answer r .done OfferState.declined.code (endOffer e .declined .none s)
  | .expired => answer r .tooLate OfferState.expired.code s
  | .empty | .bidQueued | .bidSent | .awarded | .lost | .withdrawn | .declined =>
    answer r .refusedState (s.oft.entries.get e).state.code s

/-- DECLINE_OFFER at the offer table (R72). -/
def ownDeclineOffer (r : Fin 16) (s : State) : State :=
  if h : param8 s r 8 < 8 then declineEntry r ⟨_, h⟩ s else answer r .refusedRange 0 s

/-- An entry may be released (R73). -/
def releasable (e : Fin 8) (s : State) : Bool :=
  match (s.oft.entries.get e).state with
  | .empty | .open | .bidQueued | .bidSent => false
  | .awarded => s.oft.assignment != some e
  | .lost | .expired | .withdrawn | .declined => true

/-- An entry is emptied and its blocks go back to the message store (R73). -/
def releaseEntry (e : Fin 8) (s : State) : State :=
  let entry := s.oft.entries.get e
  updateOffer e (fun _ => OfferEntry.empty) (freeChain entry.firstBlock entry.blockCount s)

/-- RELEASE_OFFER at the offer table (R73). -/
def ownReleaseOffer (r : Fin 16) (s : State) : State :=
  if h : param8 s r 8 < 8 then
    if releasable ⟨_, h⟩ s then answer r .done 0 (releaseEntry ⟨_, h⟩ s) else answer r .refusedState 0 s
  else answer r .refusedRange 0 s

/-- An award wait expiry (R77). -/
def expireAwardWait (e : Fin 8) (s : State) : State :=
  if (s.oft.entries.get e).state = .bidSent then
    setChannel .offerResult (requestStatus .available [.bidding] (endBid e .lost .noAward none s))
  else s

/-- Every other OPEN entry becomes WITHDRAWN (BASE) (R78, step 5). -/
def withdrawOthers (e : Fin 8) (s : State) : State :=
  offerIndices.foldl (fun t i =>
    if i ≠ e ∧ (t.oft.entries.get i).state = .open then endOffer i .withdrawn .base t else t) s

/-- The assignment becomes an entry (R63). -/
def assign (e : Fin 8) (s : State) : State := s.modOft fun o => { o with assignment := some e }

/-- The BID frame ends as acknowledged: it leaves the queue in either state, without an outcome (R78, R147). Of two BID
frames of the entry and number the newest ends (log entry 40). -/
def endBidFrame (e : Fin 8) (s : State) : State :=
  let number := (s.oft.entries.get e).number
  updateOffer e (fun x => { x with bidFrame := .none })
    (modFrames (fun fs => withoutNewest fs (isBidOf e number)) s)

/-- An award for this cab that ends its bid (R78). -/
def awardBid (e : Fin 8) (s : State) : State :=
  let s₁ := assign e (endBidFrame e (endOffer e .awarded .none s))
  setChannel .offerResult (withdrawOthers e (requestStatus .assigned [.bidding, .available] s₁))

/-- A late or unasked award is honoured (R79). -/
def honourAward (e : Fin 8) (s : State) : State :=
  let s₁ := assign e (endOffer e .awarded .none s)
  requestStatus .assigned [.bidding, .available] (setChannel .offerResult (withdrawOthers e s₁))

/-- The reason of a REFUSE that R79 queues: the first that applies (R80). -/
def refuseReason (s : State) (entry : Option OfferState) : RefuseReason :=
  if s.emc.state ≠ .quiet then .emergency
  else
    match entry with
    | none => .noOffer
    | some state =>
      match s.dsc.status with
      | .hired => .hired
      | .bidding | .assigned => .busy
      | .onBreak | .offDuty => .unavailable
      | .available => if state = .declined then .declined else .withdrawn

/-- An award for this cab is refused (R79, R80). -/
def refuseAward (e : Fin 8) (s : State) : State :=
  queueRefuse e (refuseReason s (some (s.oft.entries.get e).state)) s

/-- A late or unasked award may be honoured (R79). -/
def mayHonour (s : State) : Bool := s.dsc.status == .available && s.emc.state == .quiet

/-- An award for this cab, by the state of the entry it finds (R78, R79). -/
def takeOwnAward (e : Fin 8) (s : State) : State :=
  match (s.oft.entries.get e).state with
  | .bidQueued | .bidSent => awardBid e s
  | .awarded | .empty => s
  | .open | .lost | .expired => if mayHonour s then honourAward e s else refuseAward e s
  | .withdrawn | .declined => refuseAward e s

/-- A bid ends for a cause on the base's side (R81, R82). -/
def endBidByBase (e : Fin 8) (state : OfferState) (reason : OfferReason) (s : State) : State :=
  setChannel .offerResult (requestStatus .available [.bidding] (endBid e state reason none s))

/-- An award for another cab, by the state of the entry it finds (R81). -/
def takeOtherAward (e : Fin 8) (s : State) : State :=
  match (s.oft.entries.get e).state with
  | .open => setChannel .offerResult (endOffer e .lost .otherCab s)
  | .bidQueued | .bidSent => endBidByBase e .lost .otherCab s
  | .empty | .awarded | .lost | .expired | .withdrawn | .declined => s

/-- An AWARD frame at the offer table (R78 to R81). -/
def takeAward (number address : Nat) (s : State) : State :=
  match offerWithNumber s number with
  | some e => if address = cabAddress s then takeOwnAward e s else takeOtherAward e s
  | none => if address = cabAddress s then queueRefuseUnknown number (refuseReason s none) s else s

/-- An awarded entry is withdrawn (R82). -/
def withdrawAwarded (e : Fin 8) (s : State) : State :=
  let named := s.oft.assignment = some e
  let s₁ := endOffer e .withdrawn .base s
  setChannel .offerResult (if named then requestStatus .available [.assigned] s₁ else s₁)

/-- A WITHDRAW frame at the offer table (R82). -/
def takeWithdraw (number : Nat) (s : State) : State :=
  match offerWithNumber s number with
  | none => s
  | some e =>
    match (s.oft.entries.get e).state with
    | .open => setChannel .offerResult (endOffer e .withdrawn .base s)
    | .bidQueued | .bidSent => endBidByBase e .withdrawn .base s
    | .awarded => withdrawAwarded e s
    | .empty | .lost | .expired | .withdrawn | .declined => s

/-- The seconds shown on a running timer step down by one (R61); the step to 0 is the expiry. -/
def stepRemaining (e : Fin 8) (s : State) : State :=
  let entry := s.oft.entries.get e
  if entry.state = .open ∧ 1 < entry.windowRemaining then
    updateOffer e (fun x => { x with windowRemaining := x.windowRemaining - 1 }) s
  else if entry.state = .bidSent ∧ 1 < entry.awardRemaining then
    updateOffer e (fun x => { x with awardRemaining := x.awardRemaining - 1 }) s
  else s

/-- OFFER (R67). -/
def execOffer (f : RxFrame) (s : State) : Host.Outcome State Fault Refusal :=
  .next (driveLines (receiveFrame 0x10 f (fun how t => takeOffer how (parseOffer f.body) t) s))

/-- OFFER_WINDOW_EXPIRY (R69). -/
def execOfferWindowExpiry (e : Fin 8) (s : State) : Host.Outcome State Fault Refusal :=
  .next (driveLines (expireOffer e s))

/-- ACCEPT_OFFER (R70). -/
def execAcceptOffer (s : State) : Host.Outcome State Fault Refusal :=
  .next (driveLines (takeRequest .acceptOffer ownAcceptOffer s))

/-- DECLINE_OFFER (R72). -/
def execDeclineOffer (s : State) : Host.Outcome State Fault Refusal :=
  .next (driveLines (takeRequest .declineOffer ownDeclineOffer s))

/-- RELEASE_OFFER (R73). -/
def execReleaseOffer (s : State) : Host.Outcome State Fault Refusal :=
  .next (driveLines (takeRequest .releaseOffer ownReleaseOffer s))

/-- AWARD_WAIT_EXPIRY (R77). -/
def execAwardWaitExpiry (e : Fin 8) (s : State) : Host.Outcome State Fault Refusal :=
  .next (driveLines (expireAwardWait e s))

/-- AWARD (R78). -/
def execAward (f : RxFrame) (s : State) : Host.Outcome State Fault Refusal :=
  .next (driveLines (receiveFrame 0x11 f (fun _ t => takeAward (bodyWord f.body 0) (bodyWord f.body 2) t) s))

/-- WITHDRAW (R82). -/
def execWithdraw (f : RxFrame) (s : State) : Host.Outcome State Fault Refusal :=
  .next (driveLines (receiveFrame 0x12 f (fun _ t => takeWithdraw (bodyWord f.body 0) t) s))

/-- OFFER_REMAINING_REWRITE (R61). -/
def execOfferRemainingRewrite (e : Fin 8) (s : State) : Host.Outcome State Fault Refusal :=
  .next (driveLines (stepRemaining e s))

end Sys2Proof.Machine
end

