-- ==== Sys2Proof/Machine/Port.lean ====
section
/-! DEFINITION. HOST_WINDOW_WRITE, REQUEST_POST, REQUEST_CANCEL, PORT_RESET, ATTEND_READ and DONE_WRITE (chapters 9 and
10). -/

namespace Sys2Proof.Machine

/-- The bytes a bus write carries: the word address is HA[13:1], the low byte stands at the even offset (R157). -/
def busBytes (wordAddress : BitVec 13) (data : Word16) (low high : Bool) : List (Nat × Byte) :=
  let a := 2 * wordAddress.toNat
  (if low then [(a, data.setWidth 8)] else []) ++ (if high then [(a + 1, (data >>> 8).setWidth 8)] else [])

/-- The channel is taken through ATTEND: its pending flag is cleared, and with tracking on it is in service (R174). -/
def takeChannel (n : Nat) (s : State) : State :=
  s.modAtc fun a =>
    { a with pending := a.pending &&& ~~~(1#16 <<< n),
             inService := if serviceTracking s then a.inService ||| (1#16 <<< n) else a.inService }

/-- The word a host read returns. -/
def returnWord (v : Word16) (s : State) : State := s.modPins fun p => { p with hostData := v }

/-- A host read of ATTEND (R174); before READY it returns 0 and is no arrival (R171). -/
def readAttend (s : State) : State :=
  if s.phase = .ready then
    match highestPresentable s with
    | some n => takeChannel n (returnWord (BitVec.ofNat 16 n) s)
    | none => returnWord 0x00FF#16 s
  else returnWord 0#16 s

/-- HOST_WINDOW_WRITE (R160). -/
def execHostWindowWrite (wordAddress : BitVec 13) (data : Word16) (low high : Bool) (s : State) :
    Host.Outcome State Fault Refusal :=
  .next (driveLines (hostWrite (busBytes wordAddress data low high) s))

/-- REQUEST_POST (R164): a host write of POSTED to the record's hand field; before READY it is dropped (R171). -/
def execRequestPost (r : Fin 16) (s : State) : Host.Outcome State Fault Refusal :=
  .next (driveLines (if s.phase = .ready then writeHand r 1#8 s else s))

/-- REQUEST_CANCEL (R167): a host write of CANCEL_ASKED to the record's hand field; before READY it is dropped (R171). -/
def execRequestCancel (r : Fin 16) (s : State) : Host.Outcome State Fault Refusal :=
  .next (driveLines (if s.phase = .ready then writeHand r 3#8 s else s))

/-- PORT_RESET (R172); before READY the write is dropped (R171). -/
def execPortReset (s : State) : Host.Outcome State Fault Refusal :=
  .next (driveLines (if s.phase = .ready then resetPort s else s))

/-- ATTEND_READ (R174). -/
def execAttendRead (s : State) : Host.Outcome State Fault Refusal := .next (driveLines (readAttend s))

/-- DONE_WRITE (R175): the low byte of the word names the channel; before READY the write is dropped (R171). -/
def execDoneWrite (data : Word16) (s : State) : Host.Outcome State Fault Refusal :=
  .next (driveLines (if s.phase = .ready then writeDone (data.setWidth 8) s else s))

end Sys2Proof.Machine
end

