-- ==== Sys2Proof/Machine/StartUp.lean ====
section
/-! DEFINITION. POWER_LOSS, RESET_N_ASSERT, START_UP and the start-up stages (R15, R46 to R48, R86, R87, R92, R123,
R185, R186). -/

namespace Sys2Proof.Machine

/-- The part without its volatile state: what the store holds outlives power loss and RESET_N (R183); the queue of
commands and the count of choices are the model's own. -/
def volatileCleared (phase : Phase) (s : State) : State :=
  { State.reset with phase := phase, cps := Cps.atReset s.cps.store, choices := s.choices, pending := s.pending }

/-- The bank that stage 1 reads: all zero when the store holds none (R185). -/
def storedBank (st : Store) : List Byte := st.calibration.getD (List.replicate 64 0#8)

/-- A bank's recomputed check value equals the one stored in it (R181, R185). -/
def bankChecks (bank : List Byte) : Bool := bank.drop 62 == bigEndian16 (crc16 (bank.take 62)).toNat

/-- Stage 1 fails: the store holds no bank, or the check value does not match (R185). -/
def stage1Fails (st : Store) : Bool := st.calibration.isNone || !bankChecks (storedBank st)

/-- Stage 1 of start-up (R185). -/
def stage1 (s : State) : State :=
  let s₁ := volatileCleared .stage1 s
  s₁.modCps fun c => { c with bank := storedBank c.store, failed := stage1Fails c.store }

/-- The window memory that stage 2 makes: the freed pool, the stored tariff bank, the stored or default settings, and 0
everywhere else (R87, R159, R185). -/
def startMemory (st : Store) : Memory :=
  (Memory.writeBytes freedPool 0x2B00 (st.tariffs.getD [])).writeBytes 0x2E00 (st.settings.getD defaultSettings)

/-- The message store at stage 2 (R87, R92). -/
def Mst.atStage2 : Mst := { Mst.atReset with freeHead := 0, freeCount := 224 }

/-- The trip log of a commit, or EMPTY entries (R46, R47). -/
def storedLog (st : Store) : Vector TripRecord 24 :=
  match st.meter with
  | some c => c.tripLog
  | none => Vector.replicate 24 TripRecord.empty

/-- The totals of a commit, or zero (R46, R47). -/
def storedTotals (st : Store) : TotalsGroup :=
  match st.meter with
  | some c => c.totals
  | none => TotalsGroup.zero

/-- The age order of a commit (section 2.5). -/
def storedOrder (st : Store) : List (Fin 24) :=
  match st.meter with
  | some c => c.ageOrder
  | none => []

/-- The fault of a failed stage 1: detail 0 when the store held no bank and 1 for a mismatch (R185). -/
def recordCalInvalid (s : State) : State :=
  if s.cps.failed then recordFault .calInvalid (if s.cps.store.calibration = none then 0 else 1) s else s

/-- Stage 2 of start-up (R185). -/
def stage2 (s : State) : State :=
  let s₁ : State :=
    { s with phase := .stage2, mem := startMemory s.cps.store, oft := Oft.atReset, mst := Mst.atStage2,
             wpt := Wpt.atReset, atc := Atc.atReset }
  let s₂ := s₁.modFrc fun f => { f with clock := Stamp.atStart, clockSet := false, clockTimerRunning := true }
  recordCalInvalid (s₂.modMtc fun m =>
    { m with windowLog := storedLog s.cps.store, windowTotals := storedTotals s.cps.store })

/-- A send state of the store: QUEUED is taken as UNSENT, because the transmit queue starts empty (R42). -/
def SendState.recovered : SendState → SendState
  | .queued => .unsent
  | .notReported => .notReported
  | .unsent => .unsent
  | .sent => .sent

/-- A trip log entry as it is taken from the store (R42). -/
def TripRecord.recovered (t : TripRecord) : TripRecord := { t with sendState := t.sendState.recovered }

/-- The totals group as it is taken from the store (R42). -/
def TotalsGroup.recovered (g : TotalsGroup) : TotalsGroup := { g with reportState := g.reportState.recovered }

/-- The meter state a checkpoint resumes as (R46). -/
def MeterState.resumed : MeterState → MeterState
  | .off => .off
  | .vacant => .vacant
  | .hired => .stopped
  | .stopped => .stopped
  | .payment => .payment

/-- The meter state after recovery: OFF without a checkpoint or with a failed bank (R46, R47). -/
def recoveredMeter (s : State) : MeterState :=
  match s.cps.store.meter with
  | some c => if s.cps.failed then .off else c.checkpoint.meter.resumed
  | none => .off

/-- The checkpoint, if it shows an open trip. -/
def openTripCheckpoint (s : State) : Option Checkpoint :=
  match s.cps.store.meter with
  | some c => if c.checkpoint.meter.tripOpen then some c.checkpoint else none
  | none => none

/-- The totals after recovery: an interruption of an open trip raises the shift and lifetime totals; with a failed bank
the shift is ended and the lifetime total alone rises (R46, R47). -/
def recoveredTotals (s : State) : TotalsGroup :=
  let g := (storedTotals s.cps.store).recovered
  let raise : Totals → Totals := fun t => { t with powerInterruptions := satAdd u32Max t.powerInterruptions 1 }
  match s.cps.failed, openTripCheckpoint s with
  | false, none => g
  | false, some _ => { g with shift := raise g.shift, lifetime := raise g.lifetime }
  | true, none => { g with shiftOpen := false }
  | true, some _ => { g with shiftOpen := false, lifetime := raise g.lifetime }

/-- The hire's values after recovery: those of the checkpoint when a trip is open, otherwise zero under tariff 0 (R15; the
switch count, starting tariff and flags 0 by the model's choice, log entry 44). -/
def recoveredHire (s : State) : Hire :=
  match s.cps.failed, openTripCheckpoint s with
  | false, some c => c.hire
  | _, _ => Hire.zero (windowTariff s 0)

/-- The shift pulses after recovery, taken back in every case (R15). -/
def recoveredShiftPulses (s : State) : Nat :=
  match s.cps.store.meter with
  | some c => c.checkpoint.shiftPulses
  | none => 0

/-- The trip after recovery, marked POWER_INTERRUPTED (R46); without an open trip its fields are 0 (the model's choice, log
entry 44). -/
def recoveredTrip (s : State) : Trip :=
  match s.cps.failed, openTripCheckpoint s with
  | false, some c => { c.trip with powerInterrupted := true }
  | _, _ => Trip.zero

/-- The recovery of an open trip is reported; with a failed bank only a commit is requested (R46, R47). -/
def reportRecovery (s : State) : State :=
  match s.cps.failed, openTripCheckpoint s with
  | false, some _ =>
    requestCommit (setChannel .meter (recordFault .powerInterrupted Config.powerInterruptedDetail s))
  | true, some _ => requestCommit s
  | _, none => s

/-- The meter controller resumes (R46, R47). The hold-ended flag is clear whatever the state resumed; R31 says so for
PAYMENT alone (log entry 4). -/
def recoverMeter (s : State) : State :=
  let s₁ := s.modMtc fun m =>
    { m with meter := recoveredMeter s, trip := recoveredTrip s, totals := recoveredTotals s,
             tripLog := (storedLog s.cps.store).map TripRecord.recovered, ageOrder := storedOrder s.cps.store,
             uncommitted := [], shiftFrameDue := false, holdTimer := none, holdEnded := false }
  reportRecovery (s₁.modFrc fun f =>
    { f with hire := recoveredHire s, shiftPulses := recoveredShiftPulses s, scheduled := 0, override := none })

/-- The emergency state a checkpoint resumes as (R123). -/
def EmergencyState.resumed : EmergencyState → EmergencyState
  | .quiet => .quiet
  | .alerting => .alerting
  | .acked => .alerting
  | .cancelling => .alerting

/-- The emergency state and count of the store (R47, R123). -/
def storedEmergency (st : Store) : EmergencyState × Nat :=
  match st.meter with
  | some c => (c.checkpoint.emergency, c.checkpoint.emergencyCount)
  | none => (.quiet, 0)

/-- The emergency controller resumes (R123). -/
def recoverEmergency (s : State) : State :=
  let stored := storedEmergency s.cps.store
  let s₁ := s.modEmc fun _ =>
    { Emc.atReset with state := stored.1.resumed, count := stored.2, code := cancelCode s }
  let s₂ := if stored.1.resumed = .quiet then s₁ else setChannel .emergency s₁
  if stored.1.resumed = stored.1 then s₂ else requestCommit s₂

/-- The dispatch status derived from the meter state (R48). -/
def derivedStatus (m : MeterState) : DispatchStatus :=
  match m with
  | .off => .offDuty
  | .vacant => .available
  | .hired | .stopped | .payment => .hired

/-- Stage 3 of start-up (R186): recovery, then the meter-second timer starts with the counter at zero (R1), and a
recovered PAYMENT begins its hold afresh (R31). -/
def stage3 (s : State) : State :=
  let s₁ := recoverEmergency (recoverMeter s)
  let s₂ := s₁.modDsc fun _ => { Dsc.atReset with status := derivedStatus s₁.mtc.meter }
  let s₃ := s₂.modFrc fun f => { f with fareGroup := fareGroupNow s₂, pulseCounter := 0, meterTimerRunning := true }
  let s₄ := if s₃.mtc.meter = .payment then startHold s₃ else s₃
  { s₄ with phase := .stage3 }

/-- The seed of the random generator (R142). -/
def radioSeed (s : State) : Word16 :=
  let x := BitVec.ofNat 16 (cabAddress s) ^^^ BitVec.ofNat 16 s.frc.clock.seconds
  if x = 0#16 then 1#16 else x

/-- The cab address is judged at the end of stage 4 (R131). -/
def judgeAddressAtStart (s : State) : State :=
  if addressGood s then s else recordFault .badAddress (cabAddress s) s

/-- Stage 4 of start-up (R186). The queue is emptied without any outcome (R143), a frame that joined since stage 3 with the
rest; a trip record's send state follows outcomes alone (R41). -/
def stage4 (s : State) : State :=
  let s₁ := (s.modTxq fun _ => Txq.atReset).modAle fun _ =>
    { Ale.atReset with receiver := .hunting, rng := radioSeed s }
  let s₂ := judgeAddressAtStart s₁
  let s₃ := if s.emc.state = .alerting then askEmergency .alert s₂ else s₂
  { s₃ with phase := .stage4 }

/-- Stage 5 of start-up (R186): the update count is 0 and the match results are taken as they stand (R157, R177). -/
def stage5 (s : State) : State :=
  takeMatches ({ s with phase := .ready }.modWpt fun w => { w with updateCount := 0 })

/-- POWER_LOSS (R183): the store keeps its last completed writes, and nothing else stays. -/
def execPowerLoss (s : State) : Host.Outcome State Fault Refusal := .next (driveLines (volatileCleared .off s))

/-- RESET_N_ASSERT (R185): any transmission and store write end, and the part is held. -/
def execResetNAssert (s : State) : Host.Outcome State Fault Refusal :=
  .next (driveLines (if s.phase = .off then s else volatileCleared .held s))

/-- START_UP (R185): power comes on or RESET_N is released, and stage 1 begins and ends. -/
def execStartUp (s : State) : Host.Outcome State Fault Refusal :=
  .next (driveLines (if s.phase = .off ∨ s.phase = .held then stage1 s else s))

/-- STARTUP_WINDOW (R185). -/
def execStartupWindow (s : State) : Host.Outcome State Fault Refusal :=
  .next (driveLines (if s.phase = .stage1 then stage2 s else s))

/-- STARTUP_RECOVERY (R186). -/
def execStartupRecovery (s : State) : Host.Outcome State Fault Refusal :=
  .next (driveLines (if s.phase = .stage2 then stage3 s else s))

/-- STARTUP_RADIO (R186). -/
def execStartupRadio (s : State) : Host.Outcome State Fault Refusal :=
  .next (driveLines (if s.phase = .stage3 then stage4 s else s))

/-- STARTUP_READY (R186). -/
def execStartupReady (s : State) : Host.Outcome State Fault Refusal :=
  .next (driveLines (if s.phase = .stage4 then stage5 s else s))

end Sys2Proof.Machine
end

