-- ==== Sys2Proof/Machine/Status.lean ====
section
/-! DEFINITION. POSITION_FIX_POST, SET_BREAK, SET_AVAILABLE, NO_SHOW, ZONE_INFO and POLL (chapter 3). -/

namespace Sys2Proof.Machine

/-- A request on the status: DONE with the code of the new status from one status, else REFUSED_STATE with the code of
the status at the arrival (section 3.2, R52, R53). -/
def moveStatus (r : Fin 16) (old new : DispatchStatus) (reason : StatusReason) (s : State) : State :=
  if s.dsc.status = old then answer r .done new.code (setStatus new reason s)
  else answer r .refusedState s.dsc.status.code s

/-- SET_BREAK at the dispatch status controller (R52). -/
def ownSetBreak (r : Fin 16) (s : State) : State := moveStatus r .available .onBreak .change s

/-- SET_AVAILABLE at the dispatch status controller (R52). -/
def ownSetAvailable (r : Fin 16) (s : State) : State := moveStatus r .onBreak .available .change s

/-- NO_SHOW at the dispatch status controller (R53). -/
def ownNoShow (r : Fin 16) (s : State) : State := moveStatus r .assigned .available .noShow s

/-- A ZONE_INFO frame is applied (R59). -/
def zoneInfoApplies (zone : Nat) (s : State) : Bool :=
  s.dsc.status == .available && s.dsc.zoneKnown && zone == s.dsc.zone

/-- A ZONE_INFO frame at the dispatch status controller (R59). R60 ends by saying that POLL and ZONE_INFO set no attention
channel at their arrival, where R59 and the ZONE_INFO row of section 3.7 set channel STATUS at a change of the queue position:
the model follows R59 (DEDUCED, log entry 47). -/
def takeZoneInfo (zone position : Nat) (s : State) : State :=
  if zoneInfoApplies zone s ∧ position ≠ s.dsc.queuePosition then
    setChannel .status (s.modDsc fun d => { d with queuePosition := position })
  else s

/-- A POLL frame at the dispatch status controller (R60). -/
def takePoll (reference : Byte) (s : State) : State :=
  askLive .pollReply (s.modDsc fun d => { d with pollReference := reference })

/-- POSITION_FIX_POST (R55): a host write of POSTED to the slot's hand field; before READY it is dropped (R171). -/
def execPositionFixPost (s : State) : Host.Outcome State Fault Refusal :=
  .next (driveLines (if s.phase = .ready then writeSlotHand 1#8 s else s))

/-- SET_BREAK (R52). -/
def execSetBreak (s : State) : Host.Outcome State Fault Refusal :=
  .next (driveLines (takeRequest .setBreak ownSetBreak s))

/-- SET_AVAILABLE (R52). -/
def execSetAvailable (s : State) : Host.Outcome State Fault Refusal :=
  .next (driveLines (takeRequest .setAvailable ownSetAvailable s))

/-- NO_SHOW (R53). -/
def execNoShow (s : State) : Host.Outcome State Fault Refusal :=
  .next (driveLines (takeRequest .noShow ownNoShow s))

/-- ZONE_INFO (R59). -/
def execZoneInfo (f : RxFrame) (s : State) : Host.Outcome State Fault Refusal :=
  .next (driveLines (receiveFrame 0x31 f
    (fun _ t => takeZoneInfo (bodyByte f.body 0).toNat (bodyByte f.body 1).toNat t) s))

/-- POLL (R60). -/
def execPoll (f : RxFrame) (s : State) : Host.Outcome State Fault Refusal :=
  .next (driveLines (receiveFrame 0x30 f (fun _ t => takePoll (bodyByte f.body 0) t) s))

end Sys2Proof.Machine
end

