-- ==== Sys2Proof/Machine/Dispatch.lean ====
section
/-! DEFINITION. The dispatch of a command to its meaning, one arm for each row of spec/opcode_table.json. -/

namespace Sys2Proof.Machine

/-- The effect of a command on everything but the queue of commands. -/
def exec (i : Instr) (s : State) : Host.Outcome State Fault Refusal :=
  match i with
  | .pulseEdge => Sys2Proof.Machine.execPulseEdge s
  | .meterSecondExpiry => Sys2Proof.Machine.execMeterSecondExpiry s
  | .calendarSecondExpiry => Sys2Proof.Machine.execCalendarSecondExpiry s
  | .setClock => Sys2Proof.Machine.execSetClock s
  | .time frame => Sys2Proof.Machine.execTime frame s
  | .keyPress key => Sys2Proof.Machine.execKeyPress key s
  | .meterKey => Sys2Proof.Machine.execMeterKey s
  | .addExtra => Sys2Proof.Machine.execAddExtra s
  | .selectTariff => Sys2Proof.Machine.execSelectTariff s
  | .paymentHoldExpiry => Sys2Proof.Machine.execPaymentHoldExpiry s
  | .shiftOpen => Sys2Proof.Machine.execShiftOpen s
  | .shiftClose => Sys2Proof.Machine.execShiftClose s
  | .releaseTrip => Sys2Proof.Machine.execReleaseTrip s
  | .storeWriteBegin => Sys2Proof.Machine.execStoreWriteBegin s
  | .meterCommitComplete => Sys2Proof.Machine.execMeterCommitComplete s
  | .calibrationWriteComplete => Sys2Proof.Machine.execCalibrationWriteComplete s
  | .tariffWriteComplete => Sys2Proof.Machine.execTariffWriteComplete s
  | .settingsWriteComplete => Sys2Proof.Machine.execSettingsWriteComplete s
  | .storeWriteFailed => Sys2Proof.Machine.execStoreWriteFailed s
  | .positionFixPost => Sys2Proof.Machine.execPositionFixPost s
  | .setBreak => Sys2Proof.Machine.execSetBreak s
  | .setAvailable => Sys2Proof.Machine.execSetAvailable s
  | .noShow => Sys2Proof.Machine.execNoShow s
  | .zoneInfo frame => Sys2Proof.Machine.execZoneInfo frame s
  | .poll frame => Sys2Proof.Machine.execPoll frame s
  | .offer frame => Sys2Proof.Machine.execOffer frame s
  | .offerWindowExpiry entry => Sys2Proof.Machine.execOfferWindowExpiry entry s
  | .acceptOffer => Sys2Proof.Machine.execAcceptOffer s
  | .declineOffer => Sys2Proof.Machine.execDeclineOffer s
  | .releaseOffer => Sys2Proof.Machine.execReleaseOffer s
  | .awardWaitExpiry entry => Sys2Proof.Machine.execAwardWaitExpiry entry s
  | .award frame => Sys2Proof.Machine.execAward frame s
  | .withdraw frame => Sys2Proof.Machine.execWithdraw frame s
  | .text frame => Sys2Proof.Machine.execText frame s
  | .sendText => Sys2Proof.Machine.execSendText s
  | .reply => Sys2Proof.Machine.execReply s
  | .markRead => Sys2Proof.Machine.execMarkRead s
  | .deleteMsg => Sys2Proof.Machine.execDeleteMsg s
  | .alarmPress high => Sys2Proof.Machine.execAlarmPress s high
  | .emergencyRaise => Sys2Proof.Machine.execEmergencyRaise s
  | .emergencyCancel => Sys2Proof.Machine.execEmergencyCancel s
  | .updateTimerExpiry => Sys2Proof.Machine.execUpdateTimerExpiry s
  | .emergencyAck frame => Sys2Proof.Machine.execEmergencyAck frame s
  | .emergencyClear frame => Sys2Proof.Machine.execEmergencyClear frame s
  | .rxFrameAbandon => Sys2Proof.Machine.execRxFrameAbandon s
  | .cycleFrame frame modemReady => Sys2Proof.Machine.execCycleFrame frame modemReady s
  | .slotStart slot modemReady => Sys2Proof.Machine.execSlotStart slot modemReady s
  | .transmissionEnd => Sys2Proof.Machine.execTransmissionEnd s
  | .modemReadyFall => Sys2Proof.Machine.execModemReadyFall s
  | .txcStall => Sys2Proof.Machine.execTxcStall s
  | .fadeExpiry => Sys2Proof.Machine.execFadeExpiry s
  | .lossExpiry => Sys2Proof.Machine.execLossExpiry s
  | .radioRestart => Sys2Proof.Machine.execRadioRestart s
  | .hostWindowWrite wordAddress data low high => Sys2Proof.Machine.execHostWindowWrite wordAddress data low high s
  | .requestPost record => Sys2Proof.Machine.execRequestPost record s
  | .requestCancel record => Sys2Proof.Machine.execRequestCancel record s
  | .unknownKind => Sys2Proof.Machine.execUnknownKind s
  | .portReset => Sys2Proof.Machine.execPortReset s
  | .attendRead => Sys2Proof.Machine.execAttendRead s
  | .doneWrite data => Sys2Proof.Machine.execDoneWrite data s
  | .calRunStart address read => Sys2Proof.Machine.execCalRunStart address read s
  | .calPointerWrite byte => Sys2Proof.Machine.execCalPointerWrite byte s
  | .calDataWrite byte calEnable => Sys2Proof.Machine.execCalDataWrite byte calEnable s
  | .calDataRead acknowledged => Sys2Proof.Machine.execCalDataRead acknowledged s
  | .calStop calEnable => Sys2Proof.Machine.execCalStop calEnable s
  | .calBusIdleTimeout calEnable => Sys2Proof.Machine.execCalBusIdleTimeout calEnable s
  | .storeTariffs => Sys2Proof.Machine.execStoreTariffs s
  | .storeSettings => Sys2Proof.Machine.execStoreSettings s
  | .powerLoss => Sys2Proof.Machine.execPowerLoss s
  | .resetNAssert => Sys2Proof.Machine.execResetNAssert s
  | .startUp => Sys2Proof.Machine.execStartUp s
  | .startupWindow => Sys2Proof.Machine.execStartupWindow s
  | .startupRecovery => Sys2Proof.Machine.execStartupRecovery s
  | .startupRadio => Sys2Proof.Machine.execStartupRadio s
  | .startupReady => Sys2Proof.Machine.execStartupReady s
  | .syncFound bits => Sys2Proof.Machine.execSyncFound bits s
  | .rxLengthFormatError length => Sys2Proof.Machine.execRxLengthFormatError length s
  | .rxFrameDropped kind frame => Sys2Proof.Machine.execRxFrameDropped kind frame s
  | .offerRemainingRewrite entry => Sys2Proof.Machine.execOfferRemainingRewrite entry s

end Sys2Proof.Machine
end

