-- ==== Sys2Proof/Safety.lean ====
section
/-! DEFINITION. The terms in which claims are made: what a command leaves as it was, what it raises, how a request is
answered, and the laws of the part that every command keeps. -/

namespace Sys2Proof.Machine

/-- The parts of the state, one for each field of `State`. -/
inductive Part where
  | phase | mem | frc | mtc | dsc | oft | mst | emc | ale | txq | wpt | atc | cps | pins | choices | pending
  deriving DecidableEq, Repr

/-- A part has the same value in two states. -/
def Part.Same (p : Part) (s t : State) : Prop :=
  match p with
  | .phase => t.phase = s.phase
  | .mem => t.mem = s.mem
  | .frc => t.frc = s.frc
  | .mtc => t.mtc = s.mtc
  | .dsc => t.dsc = s.dsc
  | .oft => t.oft = s.oft
  | .mst => t.mst = s.mst
  | .emc => t.emc = s.emc
  | .ale => t.ale = s.ale
  | .txq => t.txq = s.txq
  | .wpt => t.wpt = s.wpt
  | .atc => t.atc = s.atc
  | .cps => t.cps = s.cps
  | .pins => t.pins = s.pins
  | .choices => t.choices = s.choices
  | .pending => t.pending = s.pending

/-- Every part but those named is as it was. -/
def Keeps (changed : List Part) (s t : State) : Prop := ∀ p, p ∉ changed → p.Same s t

/-- The command completes in a state of which a property holds. -/
def Completes (c : Instr) (s : State) (post : State → Prop) : Prop := ∃ t, exec c s = .next t ∧ post t

/-! Pins and attention. -/

/-- Of the pins, the notification lines alone may differ; they are as R176 gives for the state after. -/
def OnlyLines (s t : State) : Prop :=
  t.pins = { s.pins with noteA := lineAsserted t false, noteB := lineAsserted t true }

/-- As `OnlyLines`, for a command that samples the ALARM line at a level. -/
def SamplesAlarm (high : Bool) (s t : State) : Prop :=
  t.pins = { s.pins with alarm := high, noteA := lineAsserted t false, noteB := lineAsserted t true }

/-- A channel is pending. -/
def IsPending (s : State) (c : Channel) : Prop := s.atc.pending.getLsbD c.number = true

/-- A channel is enabled (R173). -/
def IsEnabled (s : State) (c : Channel) : Prop := (channelEnables s).testBit c.number = true

/-- The attention state changes by these channels being set and by nothing else (R173). -/
def Raises (cs : List Channel) (s t : State) : Prop :=
  t.atc = { s.atc with pending := t.atc.pending } ∧ ∀ c, IsPending t c ↔ IsPending s c ∨ (c ∈ cs ∧ IsEnabled s c)

/-- A change report is on for some line (R177). -/
def ChangeReported (s : State) : Prop := settingFlag s 0x1E = true ∨ settingFlag s 0x21 = true

/-- A line's match result has changed while its change report is on (R177). Where one write changes a report and a match
together, the report is the one after the write (the model's choice, log entry 45). -/
def MatchReported (s t : State) : Prop :=
  (t.atc.matchA ≠ s.atc.matchA ∧ settingFlag t 0x1E = true) ∨ (t.atc.matchB ≠ s.atc.matchB ∧ settingFlag t 0x21 = true)

/-- As `Raises`, for a command that changes condition flags, with the fault ring as `after` holds it: once READY the match
results are those of the state after (R176); channel PATTERN is set where a match result has changed with its change
report on, and is not set while no change report is on (R177; a match that changed and was restored within the command
sets it too). -/
def RaisesBeside (after : Atc) (cs : List Channel) (s t : State) : Prop :=
  t.atc = { after with pending := t.atc.pending, matchA := t.atc.matchA, matchB := t.atc.matchB } ∧
  (∀ c, c ≠ .pattern → (IsPending t c ↔ IsPending s c ∨ (c ∈ cs ∧ IsEnabled s c))) ∧
  (IsPending s .pattern → IsPending t .pattern) ∧
  (IsPending t .pattern → IsPending s .pattern ∨ (IsEnabled s .pattern ∧ ChangeReported s ∧ s.phase = .ready)) ∧
  (s.phase = .ready → IsEnabled s .pattern → MatchReported s t → IsPending t .pattern) ∧
  (s.phase = .ready → t.atc.matchA = matchNowA t ∧ t.atc.matchB = matchNowB t) ∧
  (s.phase ≠ .ready → t.atc.matchA = s.atc.matchA ∧ t.atc.matchB = s.atc.matchB)

/-- As `RaisesBeside`, with no fault recorded. -/
def RaisesJudged (cs : List Channel) (s t : State) : Prop := RaisesBeside s.atc cs s t

/-- A fault of a given detail and time is the newest of the ring, and channel FAULT is set beside these channels (R178). -/
def RecordsAt (seconds : Nat) (f : FaultId) (detail : Nat) (cs : List Channel) (s t : State) : Prop :=
  t.atc = { ringAfter s.atc f detail seconds with pending := t.atc.pending } ∧
  ∀ c, IsPending t c ↔ IsPending s c ∨ (c ∈ Channel.fault :: cs ∧ IsEnabled s c)

/-- As `RecordsAt`, at the time the calendar clock shows before the command (R178). -/
def Records (f : FaultId) (detail : Nat) (cs : List Channel) (s t : State) : Prop :=
  RecordsAt s.frc.clock.seconds f detail cs s t

/-! Requests. -/

/-- Record `r` stands at the head of the posted-order list, with a kind of R169 (R164). -/
def HeadIs (k : RequestKind) (r : Fin 16) (rest : List (Fin 16)) (s : State) : Prop :=
  s.wpt.posted = r :: rest ∧ requestKindOf (kindByte s r).toNat = some k

/-- The answer that a record holds (R165, R168). -/
def Answered (r : Fin 16) (result : Result) (detail : Byte) (word : Nat) (t : State) : Prop :=
  handField t r = 4#8 ∧ t.mem.read (recordBase r + 4) = result.code ∧ t.mem.read (recordBase r + 5) = detail ∧
  t.mem.readBytes (recordBase r + 6) 2 = littleEndian 2 word

/-- A byte of a record that the part writes: the hand field, the result, the detail and the answer word (R165). -/
def IsAnswerByte (r : Fin 16) (a : Nat) : Prop := a = recordBase r ∨ (recordBase r + 4 ≤ a ∧ a < recordBase r + 8)

/-- No byte of window memory differs but those of an answer in record `r`. -/
def OnlyAnswerBytes (r : Fin 16) (s t : State) : Prop := ∀ a, ¬IsAnswerByte r a → t.mem.read a = s.mem.read a

/-- A prompt request has left the list and been answered with detail 0, and its record alone was written (R164, R165). -/
def AnsweredPromptly (r : Fin 16) (rest : List (Fin 16)) (result : Result) (word : Nat) (s t : State) : Prop :=
  Answered r result 0#8 word t ∧ OnlyAnswerBytes r s t ∧ t.wpt.posted = rest

/-- Of the window port, the posted-order list alone differs. -/
def OnlyList (s t : State) : Prop := t.wpt = { s.wpt with posted := t.wpt.posted }

/-- Of the window port, the posted-order list and the update count alone differ; as many group rewrites are in progress as
before, and the update count stays even when it was (R162; that a rewrite ends within its command is the model's, log
entry 12). -/
def ListAndUpdates (s t : State) : Prop :=
  t.wpt = { s.wpt with posted := t.wpt.posted, updateCount := t.wpt.updateCount } ∧
  (s.wpt.updateCount % 2 = 0 → t.wpt.updateCount % 2 = 0)

/-- Exactly one group rewrite has been made: outside any other, the update count has risen by two, from 65,535 on to 0
(R162; that the rewrite ends within its command is the model's, log entry 12). -/
def RewritesOnce (s t : State) : Prop :=
  s.wpt.rewriting = 0 → t.wpt.updateCount = (s.wpt.updateCount + 2) % 65536

/-! The queue and the store. -/

/-- A meter commit is asked of the store, and of CPS nothing else differs (R45, R183). -/
def AsksCommit (s t : State) : Prop :=
  t.cps = { s.cps with queue := if StoreKind.meter ∈ s.cps.queue then s.cps.queue else s.cps.queue ++ [.meter] }

/-- A frame has joined the queue, and of TXQ nothing else differs (R143, R144). -/
def Joined (f : Frame) (s t : State) : Prop := t.txq = { s.txq with frames := insertFrame s.txq.frames f }

/-- The queue with an origin detached: a WAITING frame left with none that is not leaves (R147). -/
def withoutOrigin (o : Origin) (s : State) : Txq :=
  let detached := fun f : Frame =>
    { f with origins := f.origins.map fun l => if l.origin = o then { l with detached := true } else l }
  { s.txq with
    frames := (s.txq.frames.map detached).filter fun f => f.inFlight || !(f.origins.all fun l => l.detached) }

/-- A live frame is asked of the queue (R145). -/
def JoinedLive (k : UplinkKind) (s t : State) : Prop :=
  if kindWaiting s k then t.txq = s.txq else Joined (newFrame k [.dispatch] .live) s t

/-- The queue has room for a frame. -/
def HasRoom (s : State) : Prop := s.txq.frames.length < 16

/-- Of the offer table, one entry alone differs. -/
def OnlyOffer (e : Fin 8) (s t : State) : Prop :=
  t.oft = { s.oft with entries := t.oft.entries } ∧ ∀ x, x ≠ e → t.oft.entries.get x = s.oft.entries.get x

/-- Of the message store, one inbox entry alone differs. -/
def OnlyInbox (i : Fin 24) (s t : State) : Prop :=
  t.mst = { s.mst with inbox := t.mst.inbox } ∧ ∀ x, x ≠ i → t.mst.inbox.get x = s.mst.inbox.get x

/-- A downlink frame whose bytes the receiver has gathered in COLLECTING passes every check of R128 and is accepted with
an addressing (R126, R129; that the command stands for those bytes is the model's, log entry 14). -/
def Accepted (kind : Nat) (f : RxFrame) (how : Addressing) (s : State) : Prop :=
  s.ale.receiver = .collecting ∧ judgeFrame s kind f = .accepted how

/-- After a complete frame the receiver hunts with an empty window, and of ALE nothing else differs (R126). -/
def OnlyHunting (s t : State) : Prop := t.ale = { s.ale with receiver := .hunting, window := none }

/-! The fare computer and the meter controller. -/

/-- The per-second ceiling of pulses (R2). -/
def ceilingOf (s : State) : Nat := pulsesPerKm s * speedCeiling s / 3600 + 1

/-- The pulses of the second in progress that are used (R2, R3). -/
def pulsesUsed (s : State) : Nat := if s.mtc.meter = .off then 0 else min s.frc.pulseCounter (ceilingOf s)

/-- The pulses of the second in progress that are discarded (R2). -/
def pulsesOver (s : State) : Nat := if s.mtc.meter = .off then 0 else s.frc.pulseCounter - ceilingOf s

/-- As `RaisesJudged`, at a meter state change: pulses over the ceiling are recorded as METER/PULSES_DISCARDED with their
number (R2, R4). -/
def RaisesAtChange (cs : List Channel) (s t : State) : Prop :=
  RaisesBeside
    (if pulsesOver s = 0 then s.atc else ringAfter s.atc .pulsesDiscarded (pulsesOver s) s.frc.clock.seconds)
    (if pulsesOver s = 0 then cs else .fault :: cs) s t

/-- The hire with the second's pulses added by the meter state (R3), and `seconds` more of its seconds counter. -/
def hireAfterSecond (s : State) (seconds : Nat) : Hire :=
  let h := s.frc.hire
  { h with
    hiredPulses := if s.mtc.meter = .hired then min 4294967295 (h.hiredPulses + pulsesUsed s) else h.hiredPulses,
    unpaidPulses := if s.mtc.meter = .stopped then min 4294967295 (h.unpaidPulses + pulsesUsed s) else h.unpaidPulses,
    hiredSeconds :=
      if s.mtc.meter = .hired ∧ 0 < seconds then min 4294967295 (h.hiredSeconds + seconds) else h.hiredSeconds,
    stoppedSeconds :=
      if s.mtc.meter = .stopped ∧ 0 < seconds then min 4294967295 (h.stoppedSeconds + seconds) else h.stoppedSeconds,
    discardedPulses :=
      if s.mtc.meter.tripOpen = true ∧ 0 < pulsesOver s then min 4294967295 (h.discardedPulses + pulsesOver s)
      else h.discardedPulses,
    pulsesDiscarded := h.pulsesDiscarded || (s.mtc.meter.tripOpen && decide (0 < pulsesOver s)) }

/-- The shift pulses with the second's pulses added (R3). -/
def shiftPulsesAfter (s : State) : Nat :=
  if s.mtc.meter = .off then s.frc.shiftPulses else min 4294967295 (s.frc.shiftPulses + pulsesUsed s)

/-- The partial second is closed at a meter state change, its pulses over the ceiling discarded and, in a trip, counted
(R2, R4), and the fare group is rewritten (R28): of FRC nothing else differs. -/
def ClosesSecond (s t : State) : Prop :=
  t.frc = { s.frc with
    pulseCounter := 0, shiftPulses := shiftPulsesAfter s, hire := hireAfterSecond s 0, fareGroup := fareGroupNow t }

/-- The update count alone differs at the window port, and stays even when it was (R162; log entry 12). -/
def OnlyUpdates (s t : State) : Prop := ListAndUpdates s t ∧ t.wpt.posted = s.wpt.posted

/-- The status has a new value, with the held reason its cause gives and the queue position cleared out of AVAILABLE
(R49, R54). -/
def StatusBecomes (new : DispatchStatus) (reason : StatusReason) (s t : State) : Prop :=
  t.dsc = { s.dsc with
    status := new, heldReason := reason,
    queuePosition := if s.dsc.status = .available then 0 else s.dsc.queuePosition }

/-- The assignment becomes none out of ASSIGNED, and of the offer table nothing else differs (R83). -/
def EndsAssignment (s t : State) : Prop :=
  t.oft = { s.oft with assignment := if s.dsc.status = .assigned then none else s.oft.assignment }

/-- A hire under tariff `n` has begun at the fare computer (R10). In PAYMENT the pulses that the second in progress had
over the ceiling count as the new hire's (a reading, log entry 20). -/
def HireStarted (n : Nat) (s t : State) : Prop :=
  let tariff := windowTariff s n
  t.frc = { s.frc with
    pulseCounter := 0, shiftPulses := shiftPulsesAfter s, override := none,
    scheduled := if s.frc.override = none then scheduledNow s else s.frc.scheduled,
    fareGroup := fareGroupNow t,
    hire := { Hire.zero tariff with
      fare := tariff.flagFare, accumulator := -((tariff.allowance * (3600 * pulsesPerKm s) : Nat) : Int),
      startingTariff := n,
      discardedPulses := if s.mtc.meter.tripOpen = true then min 4294967295 (pulsesOver s) else 0,
      pulsesDiscarded := s.mtc.meter.tripOpen && decide (0 < pulsesOver s) } }

/-- The trip a HIRE opens (R29). -/
def openedTrip (s : State) : Trip :=
  { Trip.zero with
    startTime := s.frc.clock, startZone := s.dsc.zone, fromOffer := s.oft.assignment.isSome,
    offerNumber := (s.oft.assignment.map fun e => (s.oft.entries.get e).number).getD 0 }

/-- A hire under tariff `n` has begun and a new trip is open (R10, R29, R50). -/
def TripStarted (n : Nat) (s t : State) : Prop :=
  HireStarted n s t ∧ t.mtc = { s.mtc with meter := .hired, trip := openedTrip s } ∧
  StatusBecomes .hired .change s t ∧ EndsAssignment s t ∧ JoinedLive .status s t ∧ AsksCommit s t

/-- The hire after a switch to tariff `n` (R22, R23): the rates are replaced but for F0 and V0, the accumulator is settled
against the new T within the headroom, or with FARE_LIMIT set is put to T − 1, and the switch is counted (at the fare
limit, the reading of log entry 26). -/
def hireAfterSwitch (s : State) (n : Nat) : Hire :=
  let h := s.frc.hire
  let tariff := windowTariff s n
  let threshold : Int := ((tariff.dropValue * (3600 * pulsesPerKm s) : Nat) : Int)
  let due := (h.accumulator / threshold).toNat
  let room := 999999 - h.fare - s.mtc.trip.extrasSum
  let limited := h.fareLimit || (decide (threshold ≤ h.accumulator) && decide (room < due * tariff.dropValue))
  let taken := if h.fareLimit ∨ h.accumulator < threshold then 0
    else if due * tariff.dropValue ≤ room then due else room / tariff.dropValue
  { h with
    tariff := { tariff with flagFare := h.tariff.flagFare, allowance := h.tariff.allowance },
    accumulator := if limited then threshold - 1 else h.accumulator - taken * threshold,
    fare := h.fare + taken * tariff.dropValue, dropCount := h.dropCount + taken, fareLimit := limited,
    switchCount := min 255 (h.switchCount + 1) }

/-- An evaluation in HIRED or STOPPED calls for a switch: the scheduled tariff changes, auto-switch is set, and the tariff
in force has another number (R22). -/
def SwitchDue (s t : State) : Prop :=
  scheduledNow t ≠ s.frc.scheduled ∧ autoSwitch s = true ∧ s.frc.hire.tariff.number ≠ scheduledNow t

/-- A switch that is due is made where the new tariff is valid (R22, R23). -/
def Switched (s t : State) : Prop := SwitchDue s t ∧ (windowTariff s (scheduledNow t)).valid = true

/-- The clock has been set or has advanced and the schedule has been evaluated in HIRED or STOPPED, with `cs` the channels
that the command sets besides (R20, R22, R23). That validity is judged before the fare limit, and that a switch at the
limit has R22's other effects, is a reading (log entry 26). -/
def TariffEvaluated (cs : List Channel) (s t : State) : Prop :=
  let n := scheduledNow t
  let kept := { s.frc with clock := t.frc.clock, clockSet := t.frc.clockSet, scheduled := n }
  let drops := s.frc.hire.fareLimit = false ∧
    (((windowTariff s n).dropValue * (3600 * pulsesPerKm s) : Nat) : Int) ≤ s.frc.hire.accumulator
  (¬SwitchDue s t → t.frc = kept ∧ Raises cs s t) ∧
  (SwitchDue s t → ¬Switched s t → t.frc = kept ∧ RecordsAt t.frc.clock.seconds .tariffInvalid n cs s t) ∧
  (Switched s t →
    t.frc = { kept with hire := hireAfterSwitch s n, fareGroup := fareGroupNow t } ∧
    (drops → Raises (.fare :: .clock :: cs) s t) ∧ (¬drops → Raises (.clock :: cs) s t))

/-- The meter has moved within an open trip by a STOP or a PAY (R30, R31). -/
def TripMoved (k : MeterKey) (new : MeterState) (s t : State) : Prop :=
  ClosesSecond s t ∧
  t.mtc = { s.mtc with
    meter := new,
    trip := if k = .pay then { s.mtc.trip with endTime := s.frc.clock } else s.mtc.trip,
    holdTimer :=
      if k = .pay then (if paymentHold s = 0 then none else some (paymentHold s)) else s.mtc.holdTimer,
    holdEnded := if k = .pay then paymentHold s == 0 else s.mtc.holdEnded } ∧
  AsksCommit s t

/-- An extra of item `i` has been added to the open trip (R33). -/
def ExtraAdded (i : Fin 8) (s t : State) : Prop :=
  t.mtc = { s.mtc with trip := { s.mtc.trip with
    extraCounts := s.mtc.trip.extraCounts.set i.val (s.mtc.trip.extraCounts.get i + 1) i.isLt,
    extrasSum := s.mtc.trip.extrasSum + extraValue s i.val } } ∧
  t.frc = { s.frc with fareGroup := fareGroupNow t } ∧ AsksCommit s t

/-- The record of a trip closed now, for which trip number and send state follow R37 and R41 (R38). -/
def recordOfTrip (s : State) : TripRecord :=
  { written := true, sendState := if tripReporting s then .queued else .notReported,
    powerInterrupted := s.mtc.trip.powerInterrupted, fareLimit := s.frc.hire.fareLimit,
    pulsesDiscarded := s.frc.hire.pulsesDiscarded, fromOffer := s.mtc.trip.fromOffer, released := false,
    startingTariff := s.frc.hire.startingTariff, tripNumber := min 4294967295 (s.mtc.totals.lifetime.trips + 1),
    driver := s.mtc.totals.driver, offerNumber := if s.mtc.trip.fromOffer then s.mtc.trip.offerNumber else 0,
    switchCount := s.frc.hire.switchCount, startZone := s.mtc.trip.startZone, endZone := s.dsc.zone,
    startTime := s.mtc.trip.startTime, endTime := s.mtc.trip.endTime,
    hiredMetres := s.frc.hire.hiredPulses * 1000 / pulsesPerKm s,
    unpaidMetres := s.frc.hire.unpaidPulses * 1000 / pulsesPerKm s, hiredSeconds := s.frc.hire.hiredSeconds,
    stoppedSeconds := s.frc.hire.stoppedSeconds, fare := s.frc.hire.fare, extras := s.mtc.trip.extrasSum,
    total := s.frc.hire.fare + s.mtc.trip.extrasSum, drops := s.frc.hire.dropCount,
    discardedPulses := s.frc.hire.discardedPulses }

/-- A set of totals after a trip close, with its total metres refreshed; `lost` is whether the record overwrites one whose
report is not settled (R39, R43, R44). -/
def totalsAfterTrip (g : Totals) (r : TripRecord) (lost : Bool) (metres : Nat) : Totals :=
  { g with
    trips := min 4294967295 (g.trips + 1), hiredMetres := min 4294967295 (g.hiredMetres + r.hiredMetres),
    unpaidMetres := min 4294967295 (g.unpaidMetres + r.unpaidMetres), totalMetres := metres,
    hiredSeconds := min 4294967295 (g.hiredSeconds + r.hiredSeconds),
    fareSum := min 4294967295 (g.fareSum + r.fare), extrasSum := min 4294967295 (g.extrasSum + r.extras),
    tripOverwrites := if lost then min 4294967295 (g.tripOverwrites + 1) else g.tripOverwrites }

/-- The shift's total metres (R44). -/
def shiftMetres (s : State) : Nat := min 4294967295 (s.frc.shiftPulses * 1000 / pulsesPerKm s)

/-- The totals with the shift's and the lifetime's total metres refreshed (R44). -/
def refreshedTotals (s : State) : TotalsGroup :=
  { s.mtc.totals with
    shift := { s.mtc.totals.shift with totalMetres := shiftMetres s },
    lifetime := { s.mtc.totals.lifetime with
      totalMetres := min 4294967295 (s.mtc.totals.metresBase + shiftMetres s) } }

/-- The log entry a trip record goes into, and whether a record is lost by it (R39): the lowest-numbered EMPTY entry; else
the oldest that is released and settled; else the oldest that is settled; else the oldest of all, whose record is lost. A
report is settled when it is SENT or NOT_REPORTED. -/
def TripEntryIs (e : Fin 24) (lost : Bool) (s : State) : Prop :=
  let settled := fun x : Fin 24 =>
    (s.mtc.tripLog.get x).sendState == .sent || (s.mtc.tripLog.get x).sendState == .notReported
  let free := fun x : Fin 24 => (s.mtc.tripLog.get x).released && settled x
  ((s.mtc.tripLog.get e).written = false ∧ (∀ x, x < e → (s.mtc.tripLog.get x).written = true) ∧ lost = false) ∨
  ((∀ x, (s.mtc.tripLog.get x).written = true) ∧
    ((s.mtc.ageOrder.find? free = some e ∧ lost = false) ∨
      (s.mtc.ageOrder.find? free = none ∧ s.mtc.ageOrder.find? settled = some e ∧ lost = false) ∨
      (s.mtc.ageOrder.find? settled = none ∧ s.mtc.ageOrder.head? = some e ∧ lost = true)))

/-- The meter controller after the open trip's record has gone into entry `e` (R37 to R39, R43, R44). -/
def mtcAfterTrip (s : State) (e : Fin 24) (lost : Bool) : Mtc :=
  let r := recordOfTrip s
  { s.mtc with
    tripLog := s.mtc.tripLog.set e.val r e.isLt,
    ageOrder := (s.mtc.ageOrder.filter fun x => x != e) ++ [e],
    uncommitted := (s.mtc.uncommitted.filter fun x => x != e) ++ [e],
    totals := { s.mtc.totals with
      shift := totalsAfterTrip s.mtc.totals.shift r lost (shiftMetres s),
      lifetime := totalsAfterTrip s.mtc.totals.lifetime r lost
        (min 4294967295 (s.mtc.totals.metresBase + shiftMetres s)) } }

/-- The queue with the TRIP frame of a lost QUEUED record withdrawn (R39). -/
def withoutTripFrame (e : Fin 24) (lost : Bool) (s : State) : Txq :=
  if lost = true ∧ (s.mtc.tripLog.get e).sendState = .queued then withoutOrigin (.trip e) s else s.txq

/-- A write in progress once log entry `e` has been chosen for another trip: the record it carries for the entry is in no
entry any more, and it does not answer for the new one (a reading of R39 and R45, DEDUCED, log entry 28). -/
def writeWithoutEntry (e : Fin 24) (j : StoreJob) : StoreJob :=
  match j with
  | .meter c first due => .meter c (first.map fun x => if x = some e then none else x) due
  | j => j

/-- A write in progress once the last-shift group has been replaced: no SHIFT frame waits for it any more (a reading of R36,
DEDUCED, log entry 28). -/
def writeWithoutShift (j : StoreJob) : StoreJob :=
  match j with
  | .meter c first _ => .meter c first false
  | j => j

/-- A meter commit is asked of the store (R45), while the write in progress answers for less (a reading, DEDUCED, log
entry 28). -/
def AsksCommitBeside (lessOf : StoreJob → StoreJob) (s t : State) : Prop :=
  t.cps = { s.cps with
    queue := if StoreKind.meter ∈ s.cps.queue then s.cps.queue else s.cps.queue ++ [.meter],
    writing := s.cps.writing.map lessOf }

/-! The offer table, the message store and the emergency controller. -/

/-- An entry that has ended: both its timers stop and show 0 (R61, R62). -/
def OfferEntry.ended (x : OfferEntry) (state : OfferState) (reason : OfferReason) : OfferEntry :=
  { x with state := state, reason := reason, windowRemaining := 0, awardRemaining := 0 }

/-- The bidding entry `e` has ended for a cause on the base's side: its bid is settled by R74 without a REFUSE, and the
status goes from BIDDING to AVAILABLE without a STATUS frame (R49, R51). Of two BID frames of the entry and number the
newest is removed (the model's choice, log entry 40). -/
def BidEnded (e : Fin 8) (state : OfferState) (reason : OfferReason) (s t : State) : Prop :=
  let entry := s.oft.entries.get e
  let own := fun f : Frame => f.kind == .bid && f.hasOrigin (.offer e entry.number)
  OnlyOffer e s t ∧ t.dsc = { s.dsc with status := .available } ∧
  (entry.bidFrame = .none → t.oft.entries.get e = entry.ended state reason ∧ t.txq = s.txq) ∧
  (entry.bidFrame ≠ .none → ∀ f, newestFrame s.txq.frames own = some f →
    if f.inFlight = true then
      t.oft.entries.get e = { entry.ended state reason with bidFrame := .transmitted } ∧ t.txq = s.txq
    else
      t.oft.entries.get e = { entry.ended state reason with bidFrame := .none } ∧
      t.txq = { s.txq with frames := withoutNewest s.txq.frames own })

/-- The bidding entry `e` has been WITHDRAWN for a cause on the cab's side: its bid is settled by R74, with a REFUSE if its
BID frame was transmitted and none is PENDING (R74, R80). Of two BID frames of the entry and number the newest is removed
(the model's choice, log entry 40), and an acknowledged bid sends no REFUSE (a reading, log entry 21). -/
def BidGivenUp (e : Fin 8) (reason : OfferReason) (refusal : RefuseReason) (s t : State) : Prop :=
  let entry := s.oft.entries.get e
  let own := fun f : Frame => f.kind == .bid && f.hasOrigin (.offer e entry.number)
  let refuse := newFrame .refuse [.offer e entry.number] (.fixed (.refuse entry.number refusal))
  OnlyOffer e s t ∧
  (entry.bidFrame = .none → t.oft.entries.get e = entry.ended .withdrawn reason ∧ t.txq = s.txq) ∧
  (entry.bidFrame ≠ .none → ∀ f, newestFrame s.txq.frames own = some f →
    let left := if f.inFlight = true then s.txq.frames else withoutNewest s.txq.frames own
    let after := { entry.ended .withdrawn reason with
      bidFrame := if f.inFlight = true then BidFrame.transmitted else .none }
    if (entry.bidFrame = .transmitted ∨ f.inFlight = true) ∧ entry.refusePending = false then
      t.oft.entries.get e = { after with refusePending := true } ∧
      t.txq = { s.txq with frames := insertFrame left refuse }
    else t.oft.entries.get e = after ∧ t.txq = { s.txq with frames := left })

/-- After an award for this cab: entry `e` is AWARDED and is the assignment, and every other OPEN entry is WITHDRAWN (BASE)
(R78). -/
def AwardTaken (e : Fin 8) (bf : BidFrame) (s t : State) : Prop :=
  t.oft = { s.oft with entries := t.oft.entries, assignment := some e } ∧
  t.oft.entries.get e = { (s.oft.entries.get e).ended .awarded .none with bidFrame := bf } ∧
  ∀ x, x ≠ e → t.oft.entries.get x =
    if (s.oft.entries.get x).state = .open then (s.oft.entries.get x).ended .withdrawn .base
    else s.oft.entries.get x

/-- The offer entries once every OPEN one has been WITHDRAWN (EMERGENCY) (R84). -/
def openWithdrawn (s : State) : Vector OfferEntry 8 :=
  s.oft.entries.map fun x => if x.state = .open then x.ended .withdrawn .emergency else x

/-- The byte of window memory at an address once the chain of `count` blocks from `first` has been freed: the last block's
next index is the old head, each block's used count is 0, and every other byte is as it was (R88). -/
def freedByte (s : State) (first count a : Nat) : Byte :=
  let blocks := chainBlocks s.mem first count
  if 0 < count ∧ a = blockBase (blocks.getLastD 0) then byteOf s.mst.freeHead
  else if a ∈ blocks.map fun b => blockBase b + 1 then 0#8
  else s.mem.read a

/-- The head of the free chain once a chain has been freed (R88). -/
def freedHead (s : State) (first count : Nat) : Nat := if count = 0 then s.mst.freeHead else first

/-- The first `n` blocks of a chain, with the next index of each at its first byte (R87). -/
def chainFrom (byte : Nat → Byte) (first : Nat) : Nat → List Nat
  | 0 => []
  | n + 1 => first :: chainFrom byte (byte (blockBase first)).toNat n

/-- The byte that a block with a part of a text holds at an address; the last block ends its chain (R87, R88). -/
def textByte (b : Nat) (last : Bool) (part : List Byte) (a : Nat) : Option Byte :=
  if a = blockBase b then (if last then some 255#8 else none)
  else if a = blockBase b + 1 then some (byteOf part.length)
  else if blockBase b + 2 ≤ a ∧ a < blockBase b + 2 + part.length then part[a - (blockBase b + 2)]?
  else none

/-- A text stands in blocks, 30 bytes to a block and the rest in the last, and every other byte of window memory is as
`before` gives (R88). -/
def ChainFilled (blocks : List Nat) (text : List Byte) (before : Nat → Byte) (t : State) : Prop :=
  ∀ a, t.mem.read a = ((blocks.zipIdx.findSome? fun x =>
    textByte x.1 (x.2 + 1 == blocks.length) ((text.drop (30 * x.2)).take 30) a).getD (before a))

/-- The head of the free chain after a grant of the blocks: what followed the last of them (R88). -/
def headAfter (blocks : List Nat) (byte : Nat → Byte) (head : Nat) : Nat :=
  match blocks.getLast? with
  | some b => (byte (blockBase b)).toNat
  | none => head

/-- Of `n` blocks asked for a message of a class with `free` blocks free, `granted` are granted (R89, R96). -/
def GrantIs (c : MessageClass) (n free granted : Nat) (s : State) : Prop :=
  (n = 0 ∧ granted = 0) ∨
  (1 ≤ n ∧ c = .routine ∧ n + routineMark s ≤ free ∧ granted = n) ∨
  (1 ≤ n ∧ c ≠ .routine ∧ 1 ≤ free ∧ granted = min n free)

/-- The blocks asked for a message are refused (R89). -/
def GrantRefused (c : MessageClass) (n free : Nat) (s : State) : Prop :=
  1 ≤ n ∧ ((c = .routine ∧ free < n + routineMark s) ∨ (c ≠ .routine ∧ free = 0))

/-- The channels of a grant with `free` blocks free: POOL when it crosses the routine mark (R90). -/
def grantChannels (s : State) (free granted : Nat) : List Channel :=
  if routineMark s ≤ free ∧ free - granted < routineMark s then [.pool] else []

/-- Entry `i` is the one a new message takes: the lowest-numbered EMPTY entry (R95). -/
def IsLowestEmpty (i : Fin 24) (s : State) : Prop :=
  (s.mst.inbox.get i).state = .empty ∧ ∀ x, x < i → (s.mst.inbox.get x).state ≠ .empty

/-- Entry `i` is the victim a new message of a class replaces (R95): with no entry EMPTY, the oldest that is READ or REPLIED,
for a ROUTINE message of class ROUTINE only; for another class, with none such, the oldest that is NEW and ROUTINE. -/
def IsVictim (c : MessageClass) (i : Fin 24) (s : State) : Prop :=
  let done := fun x : Fin 24 =>
    ((s.mst.inbox.get x).state == .read || (s.mst.inbox.get x).state == .replied) &&
    (c != .routine || (s.mst.inbox.get x).cls == .routine)
  let fresh := fun x : Fin 24 => (s.mst.inbox.get x).state == .new && (s.mst.inbox.get x).cls == .routine
  (∀ x, (s.mst.inbox.get x).state ≠ .empty) ∧
  (s.mst.storeOrder.find? done = some i ∨
    (c ≠ .routine ∧ s.mst.storeOrder.find? done = none ∧ s.mst.storeOrder.find? fresh = some i))

/-- No entry can take a new message of a class (R95). -/
def NoEntryFor (c : MessageClass) (s : State) : Prop :=
  (∀ x, (s.mst.inbox.get x).state ≠ .empty) ∧
  ∀ x ∈ s.mst.storeOrder,
    ((s.mst.inbox.get x).state = .read ∨ (s.mst.inbox.get x).state = .replied →
      c = .routine ∧ (s.mst.inbox.get x).cls ≠ .routine) ∧
    ((s.mst.inbox.get x).state = .new → (s.mst.inbox.get x).cls = .routine → c = .routine)

/-- A RECEIPT is queued for an individually addressed frame and for no other (R96 to R99). -/
def ReceiptSent (how : Addressing) (number sender : Nat) (stored truncated : Bool) (s t : State) : Prop :=
  if how = .individual then
    Joined (newFrame .receipt [.receipts] (.fixed (.receipt number sender stored truncated))) s t
  else t.txq = s.txq

/-- No emergency-class frame stands in the queue. -/
def NoEmergencyFrame (s : State) : Prop := ∀ f ∈ s.txq.frames, f.cls ≠ 0

/-- The frame that an ask of the emergency controller queues (R113). -/
def askedFrame (k : EmergencyKind) (s : State) : Frame :=
  match k with
  | .alert => newFrame .emergency [.emergency] .live
  | .cancel =>
    newFrame .emergencyCancel [.emergency] (.fixed (.emergencyCancel s.emc.count s.frc.clock s.emc.wrongCodes))

/-- The queue's frames once an emergency-class frame has been asked for (R112): with none there the frame joins; one
WAITING of the other kind makes place for it; one of its own kind WAITING, or one IN_FLIGHT, leaves them as they were. -/
def framesAfterAsk (k : EmergencyKind) (s : State) : List Frame :=
  match s.txq.frames.find? fun f => f.cls == 0 with
  | none => insertFrame s.txq.frames (askedFrame k s)
  | some g =>
    if g.inFlight = true ∨ g.kind = k.uplink then s.txq.frames
    else insertFrame (s.txq.frames.eraseP fun f => f.cls == 0) (askedFrame k s)

/-- What the emergency controller is owed once a frame has been asked for: the kind asked, where one is IN_FLIGHT
(R112). -/
def owedAfterAsk (k : EmergencyKind) (s : State) : Option EmergencyKind :=
  match s.txq.frames.find? fun f => f.cls == 0 with
  | none => s.emc.owed
  | some g => if g.inFlight = true then some k else s.emc.owed

/-! The air link. -/

/-- A value of the random register and the value one step later (R142). -/
def RandomNext (x y : Word16) : Prop :=
  y.getLsbD 15 = (x.getLsbD 0 ^^ x.getLsbD 2 ^^ x.getLsbD 3 ^^ x.getLsbD 5) ∧
  ∀ i, i < 15 → y.getLsbD i = x.getLsbD (i + 1)

/-- A step of the random register (R142). -/
def RandomStepped (s t : State) : Prop := RandomNext s.ale.rng t.ale.rng

/-- What a valid CYCLE does at the air link engine where no frame is handed over: the watch starts afresh, the link is UP,
the cycle number is stored, and the assignments are dropped (R133, R138). -/
def CycleTaken (c : Cycle) (s t : State) : Prop :=
  t.ale = { s.ale with
    receiver := .hunting, window := none, link := .up, rng := t.ale.rng,
    fadeExpiry := some (3 * cyclePeriod s), lossExpiry := some (10 * cyclePeriod s), lastCycle := c.number,
    cycleHeard := true, assignments := [] } ∧ RandomStepped s t

/-- How many ack entries of a cycle are for this cab (R133). -/
def acksFor (c : Cycle) (s : State) : Nat := c.acks.countP fun x => x.1 == cabAddress s

/-- The pins after a command that leaves KEY, TXD and MODEM_READY at these levels. -/
def PinsAre (key txd modemReady : Bool) (s t : State) : Prop :=
  t.pins = { s.pins with
    key := key, txd := txd, modemReady := modemReady, noteA := lineAsserted t false, noteB := lineAsserted t true }

/-- The map of a cycle holds no slot for this cab: no priority slot, no contention slot, and no reserved slot of its own
(R134). -/
def NoSlot (c : Cycle) (s : State) : Prop :=
  c.priority = false ∧ c.contention = 0 ∧ c.reserved.findIdx? (fun a => a == cabAddress s) = none

/-- This cab's reserved slot, counted from the priority slot on (R134). -/
def reservedSlot (c : Cycle) (s : State) : Option Nat :=
  (c.reserved.findIdx? fun a => a == cabAddress s).map fun i => (if c.priority = true then 1 else 0) + i

/-- The contention slot drawn with a register value (R148, R149). -/
def drawnSlot (c : Cycle) (rng : Word16) : Nat :=
  (if c.priority = true then 1 else 0) + c.reserved.length + rng.toNat % c.contention

/-- The slot of the class 0 frame `f`, its backoff counted down (R148): the priority slot; else, with no backoff left, or
none at all as in ALERTING (a reading, log entry 18), a contention slot; else the reserved slot. -/
def firstSlot (c : Cycle) (s : State) (f : Frame) (rng : Word16) : Option Nat :=
  if c.priority = true then some 0
  else if (f.backoff = 0 ∨ (f.kind = .emergency ∧ s.emc.state = .alerting)) ∧ c.contention ≠ 0 then some (drawnSlot c rng)
  else reservedSlot c s

/-- The slot of the head of the queue outside class 0, its backoff counted down (R149): the reserved slot; else, with no
backoff left, a contention slot. -/
def otherSlot (c : Cycle) (s : State) (f : Frame) (rng : Word16) : Option Nat :=
  (reservedSlot c s).or (if f.backoff = 0 ∧ c.contention ≠ 0 then some (drawnSlot c rng) else none)

/-- A WAITING frame offered a slot: with one it has been handed over with sequence `q` (R150). -/
def handed (c : Cycle) (slot : Option Nat) (q : Nat) (f : Frame) : Frame :=
  if slot = none then f else { f with inFlight := true, sendingCycle := c.number, sequence := some q }

/-- The sequence with which a frame goes out: its own, or at its first hand-over the first value from the counter's on,
after 15 from 0, that no frame of the queue holds (R141). -/
def sequenceTaken (frames : List Frame) (counter : Nat) (f : Frame) : Nat :=
  f.sequence.getD
    ((((List.range 16).map fun i => (counter + i) % 16).find? fun q => frames.all fun g => g.sequence != some q).getD counter)

/-- The assignment of a frame to its slot, if it has one (R134). -/
def assigned (s : State) (slot : Option Nat) (q : Nat) : List Assignment :=
  slot.toList.map fun k => ⟨k, k * slotLength s, q⟩

/-- A frame that a cycle neither settles nor sends: one that is WAITING has its backoff lowered by one (R151). -/
def passedOver (f : Frame) : Frame := if f.inFlight = true then f else { f with backoff := f.backoff - 1 }

/-- The head of the other classes waits behind a frame of theirs that is IN_FLIGHT (R149). -/
def headHeldBack (frames : List Frame) : Bool := frames.any fun f => f.inFlight && f.cls != 0

/-- The sequences that a cycle acknowledges to this cab: the low four bits of each ack entry with its address, in list order;
the entries of other cabs are none of them (R133). -/
def ownAcks (c : Cycle) (s : State) : List Nat := (c.acks.filter fun a => a.1 == cabAddress s).map fun a => a.2 % 16

/-- The stray count after a cycle of which `heard` ack entries each acknowledged a frame: every other entry for this cab is
stray (R151). -/
def straysAfter (c : Cycle) (s : State) (heard : Nat) : Nat :=
  min 65535 (s.txq.stray + ((ownAcks c s).length - heard))

/-- How a cycle finds a frame IN_FLIGHT (R151, R152). -/
inductive AttemptFate where
  /-- Its window is open and no entry acknowledges it. -/
  | unanswered
  /-- Its window is open and an entry acknowledges it. -/
  | acknowledged
  /-- Its window is closed, and its attempts stay below the limit. -/
  | failed
  /-- Its window is closed, and its attempts reach the limit. -/
  | spent
  deriving DecidableEq, Repr

/-- The fate of a frame IN_FLIGHT at a cycle: its acknowledgement window is open one and two cycles after the one it was
sent in (R151), and the failed attempt counts against the limit (R152). -/
def attemptFate (c : Cycle) (s : State) (f : Frame) : AttemptFate :=
  if (c.number + 256 - f.sendingCycle) % 256 ∈ [1, 2] then
    if (f.sequence.any fun q => (ownAcks c s).contains q) = true then .acknowledged else .unanswered
  else if attemptLimit s ≤ min 255 (f.attempts + 1) then .spent else .failed

/-- A frame whose attempt has failed waits for a retry, with a backoff from the random register (R152). -/
def Frame.retried (f : Frame) (rng : Word16) : Frame :=
  let a := min 255 (f.attempts + 1)
  { f with attempts := a, inFlight := false, backoff := rng.toNat % (min (2 ^ a - 1) 15 + 1) }

/-- A frame names the origins that R156 gives its kind: one, or a REPLY's inbox entry and record, in the order that log
entry 25 gives. -/
def Frame.HasItsOrigins (x : Frame) : Prop :=
  match x.kind, x.origins with
  | .bid, [⟨.offer _ _, _⟩] => True
  | .refuse, [⟨.offer _ _, _⟩] => True
  | .refuse, [⟨.refusals, _⟩] => True
  | .status, [⟨.dispatch, _⟩] => True
  | .pollReply, [⟨.dispatch, _⟩] => True
  | .text, [⟨.record _, _⟩] => True
  | .text, [⟨.inbox _, false⟩, ⟨.record _, _⟩] => True
  | .receipt, [⟨.receipts, _⟩] => True
  | .trip, [⟨.trip _, _⟩] => True
  | .shift, [⟨.lastShift, _⟩] => True
  | _, _ => False

/-- Some origin of the frame is not detached. -/
def Frame.hasHearer (x : Frame) : Bool := x.origins.any fun l => !l.detached

/-- The parts of the state in which a frame's origins hear its outcome (R156). -/
def Frame.heardIn (x : Frame) : List Part :=
  x.origins.flatMap fun l => if l.detached = true then [] else
    match l.origin with
    | .record _ => [.mem, .atc]
    | .inbox _ => [.mst, .atc]
    | .offer _ _ => [.oft, .dsc, .atc]
    | .trip _ => [.mtc, .cps]
    | .lastShift => [.mtc]
    | .emergency => []
    | .dispatch | .receipts | .refusals => [.atc]

/-- A text request in work has been answered with the outcome of its frame: DELIVERED, or FAILED with the reason as
detail, beside the CANCEL_LATE mark where a cancel was asked (R101, R103, R167, R170). -/
def TextAnswered (r : Fin 16) (outcome : TxOutcome) (word : Nat) (s t : State) : Prop :=
  let mark := if handField s r = 3#8 then 0x80#8 else 0#8
  OnlyAnswerBytes r s t ∧
  match outcome with
  | .delivered => Answered r .delivered mark word t
  | .failed reason => Answered r .failed (BitVec.ofNat 8 reason.code ||| mark) word t

/-- A text request in work: its record is well in its form, TAKEN or CANCEL_ASKED, and of a kind (R163, R168). -/
def TextInWork (r : Fin 16) (kind : Byte) (s : State) : Prop :=
  s.mem.Wf ∧ kindByte s r = kind ∧ (handField s r = 2#8 ∨ handField s r = 3#8)

/-- An outcome has set these channels, over the fault ring `ring` and with the matches judged or not. Where the command
has done more beside it, it has set those channels too and the matches have been judged (R173, R176, R177). -/
def HeardAs (beside : Option (List Channel)) (judged : Bool) (ring : Atc) (cs : List Channel) (s t : State) : Prop :=
  match beside, judged with
  | none, false =>
    t.atc = { ring with pending := t.atc.pending } ∧
    ∀ c, IsPending t c ↔ IsPending s c ∨ (c ∈ cs ∧ IsEnabled s c)
  | _, _ => RaisesBeside ring (cs ++ beside.getD []) s t

/-- The outcome of a frame outside class 0 has reached the origins of it that are not detached (R156): a TEXT's request
(R101) and a reply's inbox entry (R103), with the request's answer word as log entry 25 reads it; the offer entry of a BID
or REFUSE, while it holds the frame's number (R76); a trip record (R41); the last shift's report state, without a commit
(R42; a reading, log entry 19); or, for an internal origin, AIR/FRAME_FAILED where it failed. A frame whose every origin is
detached is heard by none. `beside` says what else the command has done at the attention controller (HeardAs). -/
def OutcomeHeard (beside : Option (List Channel)) (x : Frame) (outcome : TxOutcome) (s t : State) : Prop :=
  let settled := if outcome = .delivered then SendState.sent else .unsent
  let quiet := HeardAs beside false s.atc [] s t
  match x.origins with
  | [⟨.record r, false⟩] =>
    TextInWork r 0x30#8 s → TextAnswered r outcome 0 s t ∧ HeardAs beside false s.atc [.request] s t
  | [⟨.inbox i, false⟩, ⟨.record r, freed⟩] =>
    let after := if outcome = .delivered then InboxState.replied else .read
    t.mst.inbox.get i = { s.mst.inbox.get i with state := after } ∧ OnlyInbox i s t ∧
    (freed = true → HeardAs beside true s.atc [] s t) ∧
    (freed = false → TextInWork r 0x31#8 s → param8 s r 8 = i.val →
      TextAnswered r outcome after.code s t ∧ HeardAs beside true s.atc [.request] s t)
  | [⟨.offer e n, false⟩] =>
    let entry := s.oft.entries.get e
    if entry.state = .empty ∨ entry.number ≠ n then t.oft = s.oft ∧ t.dsc = s.dsc ∧ quiet
    else
      OnlyOffer e s t ∧
      if x.kind = .refuse then
        t.oft.entries.get e = { entry with refusePending := false } ∧ t.dsc = s.dsc ∧ HeardAs beside true s.atc [] s t
      else if outcome = .delivered ∨ entry.state.bidding = false then
        t.oft.entries.get e = { entry with bidFrame := .none } ∧ t.dsc = s.dsc ∧ HeardAs beside true s.atc [] s t
      else
        t.oft.entries.get e = { entry with
          bidFrame := .none, state := .lost, awardRemaining := 0,
          reason := if outcome = .failed .link ∨ outcome = .failed .reset then .link else .noAck } ∧
        t.dsc = { s.dsc with status := if s.dsc.status = .bidding then .available else s.dsc.status } ∧
        HeardAs beside true s.atc [.offerResult] s t
  | [⟨.trip e, false⟩] =>
    t.mtc = { s.mtc with
      tripLog := s.mtc.tripLog.set e.val { s.mtc.tripLog.get e with sendState := settled } e.isLt } ∧ AsksCommit s t ∧ quiet
  | [⟨.lastShift, false⟩] =>
    t.mtc = { s.mtc with totals := { s.mtc.totals with reportState := settled } } ∧ quiet
  | [⟨.dispatch, false⟩] | [⟨.receipts, false⟩] | [⟨.refusals, false⟩] =>
    if outcome = .delivered then quiet
    else HeardAs beside false (ringAfter s.atc .frameFailed x.kind.code s.frc.clock.seconds) [.fault, .queue] s t
  | _ => quiet

/-- The frames that stand in the queue for an emergency-class frame asked for with no other frame there (R112, R113). That
a cancel owed or asked afresh carries the clock of that moment is the model's choice (log entry 42). -/
def askedFrames (s : State) (k : Option EmergencyKind) : List Frame := k.toList.map fun x => askedFrame x s

/-- What the emergency controller asks for at the failure of a frame of a kind: what it is owed, else the frame of its
state afresh (R112, R115). -/
def askedAfterFailure (s : State) (k : UplinkKind) : Option EmergencyKind :=
  s.emc.owed.or
    (if k = .emergency ∧ s.emc.state = .alerting then some .alert
      else if k = .emergencyCancel ∧ s.emc.state = .cancelling then some .cancel else none)

/-- The outcome that a cycle gives a frame IN_FLIGHT outside class 0: DELIVERED where it is acknowledged, FAILED with
NO_ACK where its attempts reach the limit, else none (R151, R152). -/
def outcomeAt (c : Cycle) (s : State) (f : Frame) : Option TxOutcome :=
  match attemptFate c s f with
  | .acknowledged => some .delivered
  | .spent => some (.failed .noAck)
  | .unanswered | .failed => none

/-- What a cycle leaves in the queue of a frame IN_FLIGHT outside class 0: unanswered it stays; below the limit it waits for
a retry, but not for want of a hearer (R147), nor where a frame of its live kind is WAITING for it (R152). -/
def leftOfOther (c : Cycle) (s : State) (rng : Word16) (f : Frame) : List Frame :=
  match attemptFate c s f with
  | .unanswered => [f]
  | .acknowledged | .spent => []
  | .failed =>
    if f.hasHearer = false ∨
        ((f.kind = .status ∨ f.kind = .pollReply) ∧ ∃ g ∈ s.txq.frames, g.kind = f.kind ∧ g.inFlight = false) then []
    else [f.retried rng]

/-- The frame is the cancel of a call in CANCELLING and is acknowledged, which ends the call (R115). -/
def callEnds (c : Cycle) (s : State) (f : Frame) : Bool :=
  attemptFate c s f == .acknowledged && f.kind == .emergencyCancel && s.emc.state == .cancelling

/-- What a cycle leaves at the front of the queue of the class 0 frame IN_FLIGHT: unanswered it stays; acknowledged, and at
the limit, it makes way for what is owed or asked afresh (R112, R115); the alert of a call in ALERTING waits without
backoff, any other below the limit for a retry (R114, R152). -/
def leftOfCall (c : Cycle) (s : State) (rng : Word16) (f : Frame) : List Frame :=
  let unlimited := f.kind == .emergency && s.emc.state == .alerting
  match attemptFate c s f with
  | .unanswered => [f]
  | .acknowledged => if callEnds c s f then [] else askedFrames s s.emc.owed
  | .failed => if unlimited then [{ f.retried rng with backoff := 0 }] else [f.retried rng]
  | .spent => if unlimited then [{ f.retried rng with backoff := 0 }] else askedFrames s (askedAfterFailure s f.kind)

/-- The emergency controller after a cycle that finds its frame IN_FLIGHT: a cancel acknowledged in CANCELLING ends the call
(R115, R121), an alert acknowledged in ALERTING starts the update timer (R115, R117), and a frame that leaves the queue
lets what was owed be queued (R112). -/
def emcAfterCycle (c : Cycle) (s : State) (f : Frame) : Emc :=
  let unlimited := f.kind == .emergency && s.emc.state == .alerting
  match attemptFate c s f with
  | .acknowledged =>
    if callEnds c s f then
      { s.emc with state := .quiet, owed := none, updateTimer := none, wrongCodes := 0, duress := false }
    else
      { s.emc with
        owed := none,
        updateTimer := if unlimited then some (clamp 10 300 (setting16 s 0x0C)) else s.emc.updateTimer }
  | .spent => if unlimited then s.emc else { s.emc with owed := none }
  | .unanswered | .failed => s.emc

/-- The entry of a BID at its first hand-over: BID_SENT, with the award wait begun (R75). -/
def bidSent (e : Fin 8) (s : State) : State :=
  { s with oft := { s.oft with entries := s.oft.entries.set e.val { s.oft.entries.get e with
      state := .bidSent, bidFrame := .transmitted, awardRemaining := clamp 5 120 (setting s 0x0A) } e.isLt } }

/-- The last position fix as a frame body carries it; without one the coordinates are zero, the age 0 and the stale flag
set (R56), and heading, speed and time are free values (log entry 43). -/
def fixCarried (s : State) : FixReport :=
  match s.dsc.lastFix with
  | some x =>
    { latitude := x.latitude, longitude := x.longitude, heading := x.heading, speed := x.speed, time := x.time,
      age := min 65535 (ageSeconds s.frc.clock x.time), stale := decide (60 < ageSeconds s.frc.clock x.time) }
  | none =>
    { latitude := 0, longitude := 0, heading := Config.headingWithoutFix, speed := Config.speedWithoutFix,
      time := Config.timeWithoutFix, age := 0, stale := true }

/-- The body that the queue supplies for a frame at its slot (R150): the one fixed when it was queued; a live body of the
state as it stands (R54, R60, R113); the record of a TRIP frame's entry, or none once that is detached (R38, R147). -/
def bodyAtSlot (s : State) (f : Frame) : Option UplinkBody :=
  let d := s.dsc
  match f.body, f.kind, f.origins with
  | .fixed b, _, _ => some b
  | .live, .status, _ =>
    some (.status d.status d.heldReason d.zone d.zoneKnown d.queuePosition s.mtc.meter (fixCarried s))
  | .live, .pollReply, _ =>
    some (.pollReply d.pollReference d.status d.zone d.zoneKnown s.mtc.meter s.frc.fareGroup.fare s.frc.fareGroup.extras
      (fixCarried s))
  | .live, .emergency, _ =>
    some (.emergency s.emc.state s.emc.count s.emc.presses s.emc.duress (fixCarried s) d.zone d.zoneKnown d.status
      s.mtc.meter s.frc.fareGroup.fare)
  | .fromTripRecord, _, [⟨.trip e, false⟩] => some (.trip (s.mtc.tripLog.get e))
  | _, _, _ => none

/-- What a transmission sends: preamble and sync word (R125, R135), then its bytes, each most significant bit first, its
fields of two or more bytes high byte first (R124): the header of R127 and R141, a body that holds each number and the text,
and the CRC (R127). That a number of the body stands as whole bytes, no fewer than its range takes, and a negative one in
two's complement, is the model's reading (DEDUCED, log entry 7); where in the body it stands, and in how many bytes, is free
(log entry 7). -/
def OnTheAir (x : Transmission) : Prop :=
  let bytes := x.bytes
  (∀ i < 16, x.bits[i]? = some (i % 2 == 0)) ∧ (∀ i < 24, x.bits[16 + i]? = some ((0xB4E61D#24).getMsbD i)) ∧
  (∀ i < bytes.length, ∀ j < 8, x.bits[40 + 8 * i + j]? = some ((bytes.getD i 0#8).getMsbD j)) ∧
  x.bits.length = 40 + 8 * bytes.length ∧
  fromBigEndian (bytes.take 2) = x.fleet % 65536 ∧ (bytes.getD 2 0#8).toNat = x.kind.code ∧
  fromBigEndian ((bytes.drop 3).take 2) = x.address % 65536 ∧
  (x.sequence ≤ 15 → (bytes.getD 5 0#8).toNat = x.sequence + if x.more then 128 else 0) ∧
  (x.body.characters.length ≤ 48 → bytes.length = 9 + (bytes.getD 6 0#8).toNat ∧ bytes.length ≤ 69) ∧
  (∀ n ∈ x.body.numbers, ∃ bs : List Byte,
    bs <:+: bytes.drop 7 ∧ n.least ≤ bs.length ∧ (fromBigEndian bs : Int) = n.value % 256 ^ bs.length) ∧
  x.body.characters <:+: bytes.drop 7 ∧
  fromBigEndian (bytes.drop (bytes.length - 2)) = (crc16 (bytes.take (bytes.length - 2))).toNat

/-- A frame in the queue, not of the emergency controller's, has this origin, not detached. -/
def HasOrigin (o : Origin) (s : State) : Prop :=
  ∃ f ∈ s.txq.frames, f.hasOrigin .emergency = false ∧ f.hasOrigin o = true

/-- As `HasOrigin` for an offer entry that still holds the frame's offer number (R76), by whether the frame is a REFUSE. -/
def HasOfferOrigin (e : Fin 8) (refuse : Bool) (s : State) : Prop :=
  (s.oft.entries.get e).state ≠ .empty ∧
  ∃ f ∈ s.txq.frames, f.hasOrigin .emergency = false ∧ (f.kind == .refuse) = refuse ∧
    f.hasOrigin (.offer e (s.oft.entries.get e).number) = true

/-- The kind codes of the frames' internal origins, in queue order, each of which a failure reports (R156). -/
def internalCodes (s : State) : List Nat :=
  s.txq.frames.flatMap fun f => if f.hasOrigin .emergency = true then [] else
    (f.origins.filter fun l => !l.detached && (l.origin == .dispatch || l.origin == .receipts || l.origin == .refusals)).map
      fun _ => f.kind.code

/-- The fault ring after a run of AIR/FRAME_FAILED with these details (R156, R178). -/
def ringAfterFailures (s : State) (details : List Nat) : Atc :=
  details.foldl (fun a d => ringAfter a .frameFailed d s.frc.clock.seconds) s.atc

/-! The window port. -/

/-- The offset of one byte lane of a word address (R157). -/
def laneOffset (w : BitVec 13) (high : Bool) : Nat := 2 * w.toNat + if high then 1 else 0

/-- The byte a word carries in a lane (R157). -/
def laneByte (data : Word16) (high : Bool) : Byte := if high then (data >>> 8).setWidth 8 else data.setWidth 8

/-- Host writes of these bytes are taken and do nothing but change the byte: a fix field while the slot is FREE, a byte of
a FREE or ANSWERED record but its hand field, and a byte of the tariff bank while the lock is off and the meter OFF or
VACANT (R160, R163). -/
def TakenQuietly (s : State) (offset : Nat) : Prop :=
  (0x51 ≤ offset ∧ offset < 0x66 ∧ s.mem.read 0x50 = 0#8) ∨
  (∃ r : Fin 16, recordBase r < offset ∧ offset < recordBase r + 64 ∧
    (handField s r = 0#8 ∨ handField s r = 4#8)) ∨
  (0x2B00 ≤ offset ∧ offset < 0x2D00 ∧ tariffLock s = false ∧ (s.mtc.meter = .off ∨ s.mtc.meter = .vacant))

/-- Host writes of these bytes are dropped: a fix field while the slot is POSTED, a byte of a record in work but its hand
field, the tariff bank while it is locked or a trip is open, and every region that is not the host's (R157, R160). -/
def IsDropped (s : State) (offset : Nat) : Prop :=
  offset < 0x50 ∨ (0x51 ≤ offset ∧ offset < 0x66 ∧ s.mem.read 0x50 ≠ 0#8) ∨ (0x66 ≤ offset ∧ offset < 0x100) ∨
  (∃ r : Fin 16, recordBase r < offset ∧ offset < recordBase r + 64 ∧
    handField s r ≠ 0#8 ∧ handField s r ≠ 4#8) ∨
  (0x500 ≤ offset ∧ offset < 0x2B00) ∨
  (0x2B00 ≤ offset ∧ offset < 0x2D00 ∧ (tariffLock s = true ∨ s.mtc.meter.tripOpen = true)) ∨
  (0x2D00 ≤ offset ∧ offset < 0x2E00) ∨ (0x2F00 ≤ offset ∧ offset < 0x3002) ∨ (0x3004 ≤ offset ∧ offset < 0x3006) ∨
  0x3008 ≤ offset

/-- Host writes of the fleet settings have been taken: a cleared enable clears its pending flag (R173), a cab address that
turns bad is recorded (R131), and the matches stand as the new settings give them, with channel PATTERN where one changed
under its change report as the write leaves it (R176, R177; of NOTE_B's report and select set, which one word write can
change together, the model's choice, log entry 45). -/
def SettingsTaken (s t : State) : Prop :=
  let cleared := fun c : Channel => IsEnabled s c ∧ ¬IsEnabled t c
  let turnsBad := addressGood s = true ∧ addressGood t = false
  t.atc = { (if turnsBad then ringAfter s.atc .badAddress (cabAddress t) s.frc.clock.seconds else s.atc) with
    pending := t.atc.pending, matchA := matchNowA t, matchB := matchNowB t } ∧
  (∀ c, IsPending t c ↔ (IsPending s c ∧ ¬cleared c) ∨ (IsEnabled t c ∧
    ((c = .fault ∧ turnsBad) ∨ (c = .pattern ∧ MatchReported s t)))) ∧
  Keeps [.mem, .atc, .pins] s t ∧ OnlyLines s t

/-- A presentable channel (R174). -/
def IsPresentable (s : State) (n : Nat) : Prop :=
  s.atc.pending.getLsbD n = true ∧ (channelMasks s).testBit n = true ∧
  (serviceTracking s = true → ∀ m, n ≤ m → m < 16 → s.atc.inService.getLsbD m = false)

/-! The laws of the part. -/

/-- Window memory has its canonical form. -/
def MemoryLaw (s : State) : Prop := s.mem.Wf

/-- A checkpoint's fare and extras are within the fare limit. -/
def Checkpoint.withinLimit (c : Checkpoint) : Prop := c.hire.fare + c.trip.extrasSum ≤ 999999

/-- The law of R13: the fare plus the extras never exceeds 999,999; so too in what the store holds and in the write in
progress, from which a start-up takes them back. -/
def FareLaw (s : State) : Prop :=
  s.frc.hire.fare + s.mtc.trip.extrasSum ≤ 999999 ∧
  (∀ c, s.cps.store.meter = some c → c.checkpoint.withinLimit) ∧
  (∀ c first due, s.cps.writing = some (.meter c first due) → c.checkpoint.withinLimit)

/-- How many frames of the queue meet a test. -/
def countFrames (s : State) (p : Frame → Bool) : Nat := s.txq.frames.countP p

/-- The law of R144: at most 16 frames, in order by class, at most one of class 0, at most one WAITING frame of each live
kind, and at most two frames IN_FLIGHT, of which at most one is not of class 0. -/
def QueueLaw (s : State) : Prop :=
  s.txq.frames.length ≤ 16 ∧
  s.txq.frames.Pairwise (fun f g => f.cls ≤ g.cls) ∧
  countFrames s (fun f => f.cls == 0) ≤ 1 ∧
  countFrames s (fun f => f.kind == .status && !f.inFlight) ≤ 1 ∧
  countFrames s (fun f => f.kind == .pollReply && !f.inFlight) ≤ 1 ∧
  countFrames s (fun f => f.kind == .emergency && !f.inFlight) ≤ 1 ∧
  countFrames s (fun f => f.inFlight) ≤ 2 ∧
  countFrames s (fun f => f.inFlight && f.cls != 0) ≤ 1

/-- The law of R48: HIRED exactly while a trip is open, OFF_DUTY exactly while the meter is OFF. -/
def StatusLaw (s : State) : Prop :=
  (s.dsc.status = .hired ↔ s.mtc.meter.tripOpen = true) ∧ (s.dsc.status = .offDuty ↔ s.mtc.meter = .off)

/-- The law of R63: at most one entry bids, and one exactly while the status is BIDDING. -/
def BidLaw (s : State) : Prop :=
  (∀ e x, (s.oft.entries.get e).state.bidding = true → (s.oft.entries.get x).state.bidding = true → e = x) ∧
  ((∃ e, (s.oft.entries.get e).state.bidding = true) ↔ s.dsc.status = .bidding)

/-- What R63 says of the assignment: it names the AWARDED entry of a cab that is ASSIGNED, and is none otherwise. -/
def AssignmentLaw (s : State) : Prop :=
  (∀ e, s.oft.assignment = some e → (s.oft.entries.get e).state = .awarded) ∧
  (s.oft.assignment.isSome = true ↔ s.dsc.status = .assigned)

/-- The law of R84: outside QUIET no entry is OPEN or bidding. -/
def CallLaw (s : State) : Prop :=
  s.emc.state ≠ .quiet →
    ∀ e, (s.oft.entries.get e).state ≠ .open ∧ (s.oft.entries.get e).state.bidding = false

/-- Before its start-up stage a block is as start-up makes it: no offer before stage 3 has ended, no reception before
stage 4 has, and before READY no posted request and no transmission, KEY being low (R86, R125, R171, R185). -/
def StagesLaw (s : State) : Prop :=
  (s.phase.stagesEnded < 3 → ∀ e, (s.oft.entries.get e).state = .empty) ∧
  (s.phase.stagesEnded < 4 → s.ale.receiver = .idle) ∧
  (s.phase ≠ .ready → s.wpt.posted = [] ∧ s.ale.transmission = none ∧ s.pins.key = false)

/-- The laws of R48, R63 and R84, which the rules keep together, with what start-up gives them to begin with. -/
def DispatchLaw (s : State) : Prop := StatusLaw s ∧ BidLaw s ∧ AssignmentLaw s ∧ CallLaw s ∧ StagesLaw s

/-- The blocks held by the inbox entries. -/
def inboxBlocks (s : State) : Nat := (s.mst.inbox.toList.map InboxEntry.blockCount).sum

/-- The blocks held by the offer entries. -/
def offerBlocks (s : State) : Nat := (s.oft.entries.toList.map OfferEntry.blockCount).sum

/-- The count of R87: from start-up stage 2 on, the free blocks and the blocks held number exactly 224, and an EMPTY
entry holds none. -/
def PoolLaw (s : State) : Prop :=
  (2 ≤ s.phase.stagesEnded → s.mst.freeCount + inboxBlocks s + offerBlocks s = 224) ∧
  (∀ i, (s.mst.inbox.get i).state = .empty → (s.mst.inbox.get i).blockCount = 0) ∧
  (∀ e, (s.oft.entries.get e).state = .empty → (s.oft.entries.get e).blockCount = 0)

/-- What R164 says of the posted-order list: it holds the records that read POSTED, without duplicates. -/
def PostedLaw (s : State) : Prop :=
  s.mem.Wf ∧ s.wpt.posted.Nodup ∧ ∀ r, r ∈ s.wpt.posted ↔ handField s r = 1#8

/-- What R61 and R66 say of the offer table: an EMPTY entry shows 0 everywhere but in its first block, and no two
entries hold the same offer number. -/
def OfferLaw (s : State) : Prop :=
  (∀ e, (s.oft.entries.get e).state = .empty → s.oft.entries.get e = OfferEntry.empty) ∧
  (∀ e x, (s.oft.entries.get e).state ≠ .empty → (s.oft.entries.get x).state ≠ .empty →
    (s.oft.entries.get e).number = (s.oft.entries.get x).number → e = x)

/-- The ranges of a set of totals: counts of 32 bits (R43). -/
def Totals.inRange (g : Totals) : Prop :=
  g.trips ≤ 4294967295 ∧ g.hiredMetres ≤ 4294967295 ∧ g.unpaidMetres ≤ 4294967295 ∧ g.totalMetres ≤ 4294967295 ∧
  g.hiredSeconds ≤ 4294967295 ∧ g.fareSum ≤ 4294967295 ∧ g.extrasSum ≤ 4294967295 ∧
  g.powerInterruptions ≤ 4294967295 ∧ g.tripOverwrites ≤ 4294967295

/-- The ranges of the totals group (R43, R44). -/
def TotalsGroup.inRange (g : TotalsGroup) : Prop :=
  g.shift.inRange ∧ g.last.inRange ∧ g.lifetime.inRange ∧ g.shifts ≤ 4294967295 ∧ g.metresBase ≤ 4294967295

/-- The ranges of a hire's counters (R2, R3, R22). -/
def Hire.inRange (h : Hire) : Prop :=
  h.hiredPulses ≤ 4294967295 ∧ h.unpaidPulses ≤ 4294967295 ∧ h.discardedPulses ≤ 4294967295 ∧
  h.hiredSeconds ≤ 4294967295 ∧ h.stoppedSeconds ≤ 4294967295 ∧ h.switchCount ≤ 255

/-- The extras counts stay within the greatest limit (R33). -/
def Trip.inRange (t : Trip) : Prop := ∀ i, t.extraCounts.get i ≤ 15

/-- A meter commit carries values in their ranges, so that a start-up takes such values back; its age order names an entry
once (R39, R45). -/
def MeterCommit.inRange (c : MeterCommit) : Prop :=
  c.checkpoint.hire.inRange ∧ c.checkpoint.trip.inRange ∧ c.checkpoint.shiftPulses ≤ 4294967295 ∧
  c.checkpoint.emergencyCount ≤ 65535 ∧ c.totals.inRange ∧ c.ageOrder.Nodup

/-- The ranges of a queue entry's fields (R143). -/
def Frame.inRange (f : Frame) : Prop :=
  f.attempts ≤ 255 ∧ f.backoff ≤ 15 ∧ f.sendingCycle ≤ 255 ∧ ∀ q, f.sequence = some q → q ≤ 15

/-- These registers and counts are in the ranges their rules give: R1 to R3, R17, R22, R31, R33, R43, R44, R55, R61, R67,
R92, R106, R128, R141 to R143, R160, R162, R163, R178 and R180. The directory shows the number of the tariff in force (R8,
R34), and the log's age order, in the part and in what the store holds, names an entry once (R39). -/
def RangeLaw (s : State) : Prop :=
  s.frc.pulseCounter ≤ 65535 ∧ s.frc.hire.inRange ∧ s.frc.shiftPulses ≤ 4294967295 ∧ s.frc.clock.valid = true ∧
  s.frc.fareGroup.number = shownTariff s ∧
  s.mtc.trip.inRange ∧ s.mtc.totals.inRange ∧ s.mtc.ageOrder.Nodup ∧
  (∀ c, s.cps.store.meter = some c → c.inRange) ∧
  (∀ c first due, s.cps.writing = some (.meter c first due) → c.inRange) ∧
  (∀ n, s.mtc.holdTimer = some n → 1 ≤ n ∧ n ≤ 30) ∧
  s.dsc.fixRejected ≤ 65535 ∧ s.dsc.queuePosition ≤ 255 ∧ s.dsc.zone ≤ 255 ∧
  (∀ e, (s.oft.entries.get e).windowRemaining ≤ 60 ∧ (s.oft.entries.get e).awardRemaining ≤ 120) ∧
  s.oft.missed ≤ 65535 ∧ s.mst.refused ≤ 65535 ∧ s.mst.lostUnread ≤ 65535 ∧
  s.emc.count ≤ 65535 ∧ s.emc.presses ≤ 255 ∧ s.emc.wrongCodes ≤ 3 ∧ s.emc.code ≤ 9999 ∧
  (∀ n, s.emc.updateTimer = some n → 10 ≤ n ∧ n ≤ 300) ∧
  s.ale.crcErrors ≤ 65535 ∧ s.ale.formatErrors ≤ 65535 ∧ s.ale.lastCycle ≤ 255 ∧ s.ale.rng ≠ 0#16 ∧
  s.ale.sequence ≤ 15 ∧
  (∀ f ∈ s.txq.frames, f.inRange) ∧ s.txq.stray ≤ 65535 ∧
  s.wpt.updateCount ≤ 65535 ∧ s.wpt.updateCount % 2 = 0 ∧ s.wpt.rewriting = 0 ∧
  s.wpt.droppedWrites ≤ 65535 ∧ s.wpt.illegalHands ≤ 65535 ∧
  (∀ i, (s.atc.ring.get i).repeats ≤ 255 ∧ (s.atc.ring.get i).detail ≤ 65535) ∧
  s.cps.pointer ≤ 255

end Sys2Proof.Machine
end

