-- ==== Sys2Proof/WellFormed.lean ====
section
/-! DEFINITION. Which commands the outside world can form: the operands the types do not already bound. -/

namespace Sys2Proof

/-- A complete frame has a body of at most 120 bytes, or the receiver gave it up at its length byte (R126, R127). -/
def RxFrame.wellFormed (f : RxFrame) : Bool := decide (f.body.length ≤ 120)

/-- The operand checks: a frame's body (R127), a slot number (at most 17 slots, R134), a length byte that is a
length error (R126). -/
def Instr.wellFormed : Instr → Bool
  | .time f | .zoneInfo f | .poll f | .offer f | .award f | .withdraw f | .text f | .emergencyAck f
  | .emergencyClear f | .cycleFrame f _ | .rxFrameDropped _ f => f.wellFormed
  | .slotStart k _ => decide (k < 17)
  | .rxLengthFormatError n => decide (120 < n.toNat)
  | .pulseEdge | .meterSecondExpiry | .calendarSecondExpiry | .setClock | .keyPress _ | .meterKey | .addExtra
  | .selectTariff | .paymentHoldExpiry | .shiftOpen | .shiftClose | .releaseTrip | .storeWriteBegin
  | .meterCommitComplete | .calibrationWriteComplete | .tariffWriteComplete | .settingsWriteComplete
  | .storeWriteFailed | .positionFixPost | .setBreak | .setAvailable | .noShow | .offerWindowExpiry _
  | .acceptOffer | .declineOffer | .releaseOffer | .awardWaitExpiry _ | .sendText | .reply | .markRead
  | .deleteMsg | .alarmPress _ | .emergencyRaise | .emergencyCancel | .updateTimerExpiry | .rxFrameAbandon
  | .transmissionEnd | .modemReadyFall | .txcStall | .fadeExpiry | .lossExpiry | .radioRestart
  | .hostWindowWrite _ _ _ _ | .requestPost _ | .requestCancel _ | .unknownKind | .portReset | .attendRead
  | .doneWrite _ | .calRunStart _ _ | .calPointerWrite _ | .calDataWrite _ _ | .calDataRead _ | .calStop _
  | .calBusIdleTimeout _ | .storeTariffs | .storeSettings | .powerLoss | .resetNAssert | .startUp
  | .startupWindow | .startupRecovery | .startupRadio | .startupReady | .syncFound _ | .offerRemainingRewrite _ => true

end Sys2Proof
end

