-- ==== Sys2Proof/Certificates/Slice0/Obligations.lean ====
section
/-! DEFINITION. The statements for the provers. A statement of what a command does names the conditions on the state and
the operands, the effect the spec gives it, and the parts it leaves as they were. `Safety.lean` says the terms used. -/

open Sys2Proof Sys2Proof.Machine

/-! The step, reset and the laws of the part. -/

/-- The command at the front of the queue is run with the queue's rest, and with an empty queue the part idles. Both are
the model's own (log entry 1). -/
def Obligations.StepTakesTheFrontCommand : Prop :=
  (∀ (c : Instr) (rest : List Instr) (s : State),
    step { s with pending := c :: rest } = exec c { s with pending := rest }) ∧
  (∀ s : State, s.pending = [] → step s = .next s)

/-- The part as delivered, without power: no write has completed in its store (R47, R185), all totals are zero (R43), the
emergency state is QUIET and its count 0 (R106), KEY is low (R124) and both notification lines are released (R176). No
command waits (the model's own, log entry 3). -/
def Obligations.ResetIsThePartAsDelivered : Prop :=
  State.reset.phase = .off ∧ State.reset.cps.store = Store.empty ∧
  State.reset.mtc.totals.shift = Totals.zero ∧ State.reset.mtc.totals.last = Totals.zero ∧
  State.reset.mtc.totals.lifetime = Totals.zero ∧ State.reset.mtc.totals.shifts = 0 ∧
  State.reset.emc.state = .quiet ∧ State.reset.emc.count = 0 ∧ State.reset.pins.key = false ∧
  State.reset.pins.noteA = false ∧ State.reset.pins.noteB = false ∧ State.reset.pending = []

/-- Every command completes in every state, leaves the queue of commands alone, and drives the notification lines as R176
gives for the state it makes; until READY both are released. That a command whose event cannot occur completes too and
that a queue of commands stays are the model's (log entry 1), and so is that the lines stand judged at the end of a
command and not at each change within it (log entry 31). -/
def Obligations.EveryCommandCompletes : Prop :=
  ∀ (c : Instr) (s : State), Completes c s fun t =>
    t.pending = s.pending ∧
    t.pins.noteA = lineAsserted t false ∧ t.pins.noteB = lineAsserted t true ∧
    (t.phase ≠ .ready → t.pins.noteA = false ∧ t.pins.noteB = false)

/-- The state at reset obeys every law stated below. -/
def Obligations.ResetObeysTheLaws : Prop :=
  MemoryLaw State.reset ∧ FareLaw State.reset ∧ QueueLaw State.reset ∧ DispatchLaw State.reset ∧ PoolLaw State.reset ∧
  PostedLaw State.reset ∧ OfferLaw State.reset ∧ RangeLaw State.reset

/-- Every step keeps window memory in its canonical form (the model's own form, log entry 5). -/
def Obligations.MemoryStaysCanonical : Prop :=
  ∀ s t : State, MemoryLaw s → step s = .next t → MemoryLaw t

/-- The law of R13: the fare plus the extras never exceeds 999,999, and no checkpoint carries more. -/
def Obligations.FareStaysWithinLimit : Prop :=
  ∀ s t : State, FareLaw s → step s = .next t → FareLaw t

/-- The law of R144. -/
def Obligations.QueueKeepsItsLaw : Prop :=
  ∀ s t : State, QueueLaw s → step s = .next t → QueueLaw t

/-- The laws of R48, R63 and R84: the status follows the meter, one entry bids exactly while the status is BIDDING, the
assignment stands exactly while it is ASSIGNED, and outside QUIET no entry is OPEN or bidding. -/
def Obligations.DispatchKeepsItsLaws : Prop :=
  ∀ s t : State, DispatchLaw s → step s = .next t → DispatchLaw t

/-- The law of R87: the free blocks and the blocks held by the inbox and the offer table number exactly 224. -/
def Obligations.PoolKeepsItsCount : Prop :=
  ∀ s t : State, PoolLaw s → step s = .next t → PoolLaw t

/-- The posted-order list holds exactly the records that read POSTED, without duplicates (R164). -/
def Obligations.PostedListKeepsItsLaw : Prop :=
  ∀ s t : State, PostedLaw s → step s = .next t → PostedLaw t

/-- No two offer entries hold the same offer number (R66), and an EMPTY entry shows 0 in every field but the first block
(R61). -/
def Obligations.OfferNumbersStayDistinct : Prop :=
  ∀ s t : State, OfferLaw s → step s = .next t → OfferLaw t

/-- The registers and counts that `RangeLaw` names stay in the ranges their rules give: the pulse, second and discard
counters and the switch count (R1 to R3, R22), the clock (R17), the payment hold (R31), the extras counts (R33), the totals
(R43, R44), the fix and offer counts (R55, R61, R67), the message and emergency counts (R92, R106), the receiver's and the
queue's (R128, R141, R143), the port's and the ring's (R160, R163, R178) and the calibration pointer (R180). The random
register never reaches 0 (R142) and the update count is even between arrivals (R162; that a rewrite ends within its
arrival is the model's, log entry 12). The directory shows the number of the tariff in force (R8, R34), and the log's age
order names an entry once (R39). -/
def Obligations.RegistersStayInRange : Prop :=
  ∀ s t : State, RangeLaw s → step s = .next t → RangeLaw t

/-! The fare computer. -/

/-- An edge of PULSE is counted, up to 65,535 (R1). A meter second that charges nothing, because the meter is not HIRED or
FARE_LIMIT is set, assigns its pulses and its second by the table of R3, with the excess over the ceiling discarded and
recorded (R2); the accumulator, the drop count and the fare stay (R11, R14). In a trip it rewrites the fare group once, so
that the update count rises by two (R162; log entry 12). -/
def Obligations.PulsesAreCountedAndAssigned : Prop :=
  (∀ s : State, s.frc.meterTimerRunning = true → Completes .pulseEdge s fun t =>
    t.frc = { s.frc with pulseCounter := min 65535 (s.frc.pulseCounter + 1) } ∧
    Keeps [.frc, .pins] s t ∧ OnlyLines s t) ∧
  (∀ s : State, s.frc.meterTimerRunning = true → ¬(s.mtc.meter = .hired ∧ s.frc.hire.fareLimit = false) →
    Completes .meterSecondExpiry s fun t =>
      t.frc = { s.frc with
        pulseCounter := 0, shiftPulses := shiftPulsesAfter s, hire := hireAfterSecond s 1,
        fareGroup := if s.mtc.meter.tripOpen = true then fareGroupNow t else s.frc.fareGroup } ∧
      (if s.mtc.meter = .hired ∧ (hireAfterSecond s 1).hiredSeconds % 60 = 0 then AsksCommit s t
        else t.cps = s.cps) ∧
      (if pulsesOver s = 0 then t.atc = s.atc else Records .pulsesDiscarded (pulsesOver s) [] s t) ∧
      (if s.mtc.meter.tripOpen = true then OnlyUpdates s t ∧ RewritesOnce s t else t.wpt = s.wpt) ∧
      Keeps [.frc, .wpt, .atc, .cps, .pins] s t ∧ OnlyLines s t)

/-- A meter second in HIRED with FARE_LIMIT clear (R11 to R13). With p the pulses used, the charge is the greater of
p × Rd × 3600 and Rt × K, or their sum in DOUBLE mode. Below T nothing is taken; from T on n = floor(A / T) drops are
taken, or, where n × Q is above the headroom H, floor(H / Q) drops, with A set to T − 1 and FARE_LIMIT set. Below T the fare
group is rewritten once, so that the update count rises by two (R162; log entry 12). -/
def Obligations.HiredSecondIsCharged : Prop :=
  ∀ s : State, s.frc.meterTimerRunning = true → s.mtc.meter = .hired → s.frc.hire.fareLimit = false →
    1 ≤ s.frc.hire.tariff.dropValue →
    let tariff := s.frc.hire.tariff
    let d := pulsesUsed s * tariff.distanceRate * 3600
    let time := tariff.timeRate * pulsesPerKm s
    let charge := if tariff.mode = 1#8 then d + time else max d time
    let a : Int := s.frc.hire.accumulator + charge
    let threshold := tariff.dropValue * (3600 * pulsesPerKm s)
    let n := (a / (threshold : Int)).toNat
    let h := 999999 - s.frc.hire.fare - s.mtc.trip.extrasSum
    let taken := if a < threshold then 0 else if n * tariff.dropValue ≤ h then n else h / tariff.dropValue
    let limited := decide ((threshold : Int) ≤ a) && decide (h < n * tariff.dropValue)
    let after := if limited then (threshold : Int) - 1 else a - taken * threshold
    let channels := if a < threshold then [] else [Channel.fare]
    Completes .meterSecondExpiry s fun t =>
      t.frc = { s.frc with
        pulseCounter := 0, shiftPulses := shiftPulsesAfter s, fareGroup := fareGroupNow t,
        hire := { hireAfterSecond s 1 with
          accumulator := after, dropCount := s.frc.hire.dropCount + taken,
          fare := s.frc.hire.fare + taken * tariff.dropValue, fareLimit := limited } } ∧
      (if 0 < taken ∨ (hireAfterSecond s 1).hiredSeconds % 60 = 0 then AsksCommit s t else t.cps = s.cps) ∧
      (if pulsesOver s = 0 then Raises channels s t else Records .pulsesDiscarded (pulsesOver s) channels s t) ∧
      OnlyUpdates s t ∧ (a < threshold → RewritesOnce s t) ∧ Keeps [.frc, .wpt, .atc, .cps, .pins] s t ∧ OnlyLines s t

/-- A calendar second advances the clock by one second, and at midnight by one day of the calendar of R17. Off a minute
boundary nothing else happens; at one the schedule is evaluated (R20), and while the shift is open the shift's and the
lifetime's total metres are refreshed and a commit is asked (R44, R45). An evaluation with the clock-set flag clear, or
without a qualifying entry, gives tariff 0, and otherwise the lowest-numbered of the qualifying entries with the latest
start minute (R20). In HIRED or STOPPED a changed result switches the tariff where auto-switch is set (R22, R23); that
validity is judged before the fare limit, and that a switch at the limit has R22's other effects, is a reading (log entry
26). Where the scheduled tariff stays, the clock group is rewritten once, so that the update count rises by two (R162; log
entry 12). -/
def Obligations.CalendarAdvancesAndSchedules : Prop :=
  (∀ s : State, s.frc.clockTimerRunning = true → s.frc.clock.valid = true →
    let now := s.frc.clock
    let last := monthLength now.year now.month
    let boundary := (now.seconds + 1) % 60 = 0
    let onRoad := s.mtc.meter = .hired ∨ s.mtc.meter = .stopped
    Completes .calendarSecondExpiry s fun t =>
      t.frc.clock.seconds = (now.seconds + 1) % 86400 ∧
      (now.seconds < 86399 → t.frc.clock = { now with seconds := now.seconds + 1 }) ∧
      (now.seconds = 86399 → now.day < last → t.frc.clock = ⟨now.year, now.month, now.day + 1, 0⟩) ∧
      (now.seconds = 86399 → now.day = last → now.month < 12 → t.frc.clock = ⟨now.year, now.month + 1, 1, 0⟩) ∧
      (now.seconds = 86399 → now.day = last → now.month = 12 →
        t.frc.clock = ⟨if now.year = 2099 then 2000 else now.year + 1, 1, 1, 0⟩) ∧
      t.frc.clockSet = s.frc.clockSet ∧ t.frc.override = s.frc.override ∧ t.frc.pulseCounter = s.frc.pulseCounter ∧
      (¬boundary → t.frc = { s.frc with clock := t.frc.clock } ∧ Keeps [.frc, .wpt, .pins] s t) ∧
      (boundary →
        t.frc.scheduled = scheduledNow t ∧
        t.mtc = { s.mtc with totals := if s.mtc.totals.shiftOpen = true then refreshedTotals s else s.mtc.totals } ∧
        (s.mtc.totals.shiftOpen = true ∨ (onRoad ∧ Switched s t) → AsksCommit s t) ∧
        (s.mtc.totals.shiftOpen = false → ¬(onRoad ∧ Switched s t) → t.cps = s.cps) ∧
        (onRoad → TariffEvaluated [] s t) ∧
        (¬onRoad →
          t.frc = { s.frc with
            clock := t.frc.clock, scheduled := t.frc.scheduled, fareGroup := t.frc.fareGroup } ∧
          (s.frc.fareGroup.number = shownTariff s → t.frc.fareGroup.number = shownTariff t) ∧ t.atc = s.atc)) ∧
      OnlyUpdates s t ∧ (t.frc.scheduled = s.frc.scheduled → RewritesOnce s t) ∧
      Keeps [.frc, .mtc, .wpt, .atc, .cps, .pins] s t ∧ OnlyLines s t) ∧
  (∀ s : State, s.frc.clockSet = false → scheduledNow s = 0) ∧
  (∀ s : State, (∀ i, i < 16 → (scheduleEntry s i).qualifies s.frc.clock = false) → scheduledNow s = 0) ∧
  (∀ (s : State) (i : Nat), s.frc.clockSet = true → i < 16 → (scheduleEntry s i).qualifies s.frc.clock = true →
    (∀ j, j < 16 → (scheduleEntry s j).qualifies s.frc.clock = true →
      (scheduleEntry s j).minute < (scheduleEntry s i).minute ∨
      ((scheduleEntry s j).minute = (scheduleEntry s i).minute ∧ i ≤ j)) →
    scheduledNow s = (scheduleEntry s i).tariff)

/-- SET_CLOCK with valid parameters, and a TIME frame with a valid body while base time is accepted, set the clock and the
clock-set flag and evaluate the schedule; TIME sets channel CLOCK too (R18, R19). In HIRED or STOPPED the evaluation
switches the tariff by R22 and R23, validity judged before the fare limit and a switch at the limit with R22's other effects
(log entry 26). Where the scheduled tariff stays, the clock group is rewritten once, so that the update count rises by two
(R162; log entry 12). Invalid parameters are REFUSED_RANGE; an invalid body counts a format error; while base time is not
accepted a TIME frame changes nothing. -/
def Obligations.ClockIsSet : Prop :=
  (∀ s : State,
    let onRoad := s.mtc.meter = .hired ∨ s.mtc.meter = .stopped
    let set := fun (clock : Stamp) (cs : List Channel) (t : State) =>
      t.frc.clock = clock ∧ t.frc.clockSet = true ∧ t.frc.scheduled = scheduledNow t ∧
      t.frc.pulseCounter = s.frc.pulseCounter ∧ t.frc.override = s.frc.override ∧
      (t.frc.scheduled = s.frc.scheduled → RewritesOnce s t) ∧
      (onRoad → TariffEvaluated cs s t ∧ (Switched s t → AsksCommit s t) ∧ (¬Switched s t → t.cps = s.cps)) ∧
      (¬onRoad →
        t.frc = { s.frc with
          clock := clock, clockSet := true, scheduled := t.frc.scheduled, fareGroup := t.frc.fareGroup } ∧
        (s.frc.fareGroup.number = shownTariff s → t.frc.fareGroup.number = shownTariff t) ∧
        Raises cs s t ∧ t.cps = s.cps)
    (∀ (r : Fin 16) (rest : List (Fin 16)), s.mem.Wf → HeadIs .setClock r rest s →
      (paramClock s r).valid = true → Completes .setClock s fun t =>
        set (paramClock s r) [.request] t ∧ AnsweredPromptly r rest .done 0 s t ∧ ListAndUpdates s t ∧
        Keeps [.mem, .frc, .wpt, .atc, .cps, .pins] s t ∧ OnlyLines s t) ∧
    (∀ (f : RxFrame) (how : Addressing), Accepted 0x32 f how s → acceptBaseTime s = true →
      (parseTime f.body).valid = true → Completes (.time f) s fun t =>
        set (parseTime f.body) [.clock] t ∧ OnlyHunting s t ∧ OnlyUpdates s t ∧
        Keeps [.frc, .ale, .wpt, .atc, .cps, .pins] s t ∧ OnlyLines s t)) ∧
  (∀ (s : State) (r : Fin 16) (rest : List (Fin 16)), s.mem.Wf → HeadIs .setClock r rest s →
    (paramClock s r).valid = false → Completes .setClock s fun t =>
      AnsweredPromptly r rest .refusedRange 0 s t ∧ OnlyList s t ∧ Raises [.request] s t ∧
      Keeps [.mem, .wpt, .atc, .pins] s t ∧ OnlyLines s t) ∧
  (∀ (s : State) (f : RxFrame) (how : Addressing), Accepted 0x32 f how s →
    (acceptBaseTime s = false ∨ (parseTime f.body).valid = false) → Completes (.time f) s fun t =>
      t.ale = { s.ale with
        receiver := .hunting, window := none,
        formatErrors :=
          if acceptBaseTime s = true then min 65535 (s.ale.formatErrors + 1) else s.ale.formatErrors } ∧
      Keeps [.ale, .pins] s t ∧ OnlyLines s t)

/-! The meter controller. -/

/-- A HIRE in VACANT or PAYMENT, by the key or by a METER_KEY request, starts a hire under the override's tariff, or without
an override under the tariff of a fresh evaluation, and opens a trip; the accumulator starts at −V0 × S and the fare at
F0 (R10, R29). In PAYMENT, the hold ended or not, the trip is closed first and the status stays HIRED without a STATUS
frame (R32, R37 to R39). In VACANT the status goes to HIRED with a STATUS frame (R50), or, out of BIDDING, without one
while the bid is WITHDRAWN (HIRED) and settled (R49, R74, R83): of two BID frames the newest is removed (log entry 40), and
an acknowledged bid sends no REFUSE (log entry 21). Pulses over the ceiling in the second in progress are discarded and
recorded (R2, R4), out of PAYMENT as the new hire's (a reading, log entry 20). That in PAYMENT a meter commit being written
no longer answers for the record that the log entry chosen held is the model's reading (DEDUCED, log entry 28), and not said
by R39 or R45. The fare group is rewritten once, and the update count rises by two (R162; log entry 12), but where a HIRE in
VACANT without an override changes the scheduled tariff (R10, R21). -/
def Obligations.HireOpensATrip : Prop :=
  ∀ s : State,
    let n := s.frc.override.getD (scheduledNow s)
    (windowTariff s n).valid = true →
    let free := s.mtc.meter = .vacant ∧ s.dsc.status ∈ [DispatchStatus.available, .onBreak, .assigned] ∧ HasRoom s
    let once := fun t : State => s.frc.override ≠ none ∨ scheduledNow s = s.frc.scheduled → RewritesOnce s t
    let street := fun (e : Fin 8) (t : State) =>
      HireStarted n s t ∧ t.mtc = { s.mtc with meter := .hired, trip := openedTrip s } ∧
      t.dsc = { s.dsc with status := .hired } ∧ BidGivenUp e .hired .hired s t ∧ AsksCommit s t
    let again := fun (e : Fin 24) (lost : Bool) (t : State) =>
      HireStarted n s t ∧
      t.mtc = { mtcAfterTrip s e lost with meter := .hired, holdTimer := none, trip := openedTrip s } ∧
      t.txq = withoutTripFrame e lost s ∧ AsksCommitBeside (writeWithoutEntry e) s t
    let bidder := fun e : Fin 8 => s.mtc.meter = .vacant ∧ s.dsc.status = .bidding ∧ HasRoom s ∧
      (s.oft.entries.get e).state.bidding = true ∧ ∀ x, x ≠ e → (s.oft.entries.get x).state.bidding = false
    (3 ≤ s.phase.stagesEnded →
      (free → Completes (.keyPress .hire) s fun t =>
        TripStarted n s t ∧ RaisesAtChange [.status, .meter] s t ∧ OnlyUpdates s t ∧ once t ∧
        Keeps [.frc, .mtc, .dsc, .oft, .txq, .wpt, .atc, .cps, .pins] s t ∧ OnlyLines s t) ∧
      (∀ e, bidder e → Completes (.keyPress .hire) s fun t =>
        street e t ∧ RaisesAtChange [.offerResult, .meter] s t ∧ OnlyUpdates s t ∧ once t ∧
        Keeps [.frc, .mtc, .dsc, .oft, .txq, .wpt, .atc, .cps, .pins] s t ∧ OnlyLines s t) ∧
      (∀ (e : Fin 24) (lost : Bool), s.mtc.meter = .payment → TripEntryIs e lost s →
        Completes (.keyPress .hire) s fun t =>
          again e lost t ∧ RaisesAtChange [.meter] s t ∧ OnlyUpdates s t ∧ RewritesOnce s t ∧
          Keeps [.frc, .mtc, .txq, .wpt, .atc, .cps, .pins] s t ∧ OnlyLines s t)) ∧
    (∀ (r : Fin 16) (rest : List (Fin 16)), s.mem.Wf → HeadIs .meterKey r rest s → param8 s r 8 = 0 →
      hostMeterControl s = true →
      let answered := fun t : State => AnsweredPromptly r rest .done 2 s t ∧ ListAndUpdates s t ∧ OnlyLines s t
      (free → Completes .meterKey s fun t =>
        TripStarted n s t ∧ RaisesAtChange [.status, .meter, .request] s t ∧ answered t ∧ once t ∧
        Keeps [.mem, .frc, .mtc, .dsc, .oft, .txq, .wpt, .atc, .cps, .pins] s t) ∧
      (∀ e, bidder e → Completes .meterKey s fun t =>
        street e t ∧ RaisesAtChange [.offerResult, .meter, .request] s t ∧ answered t ∧ once t ∧
        Keeps [.mem, .frc, .mtc, .dsc, .oft, .txq, .wpt, .atc, .cps, .pins] s t) ∧
      (∀ (e : Fin 24) (lost : Bool), s.mtc.meter = .payment → TripEntryIs e lost s →
        Completes .meterKey s fun t =>
          again e lost t ∧ RaisesAtChange [.meter, .request] s t ∧ answered t ∧ RewritesOnce s t ∧
          Keeps [.mem, .frc, .mtc, .txq, .wpt, .atc, .cps, .pins] s t))

/-- STOP pauses and resumes a hire and PAY ends it, by the key or by a METER_KEY request (R27, R30, R31): the partial
second is closed without a charge (R4), its pulses over the ceiling discarded, recorded and counted in the trip (R2), the
fare, the drop count and the accumulator stay, and at a PAY the end time is taken and the payment hold begins. The fare group
is rewritten once, so that the update count rises by two (R28, R162; log entry 12). -/
def Obligations.StopAndPayMoveTheMeter : Prop :=
  ∀ (s : State) (k : MeterKey) (code : Nat) (new : MeterState),
    (s.mtc.meter, k, code, new) ∈
      [(MeterState.hired, MeterKey.stop, 1, MeterState.stopped), (.stopped, .stop, 1, .hired),
       (.hired, .pay, 2, .payment), (.stopped, .pay, 2, .payment)] →
    (3 ≤ s.phase.stagesEnded → Completes (.keyPress k) s fun t =>
      TripMoved k new s t ∧ RaisesAtChange [.meter] s t ∧ OnlyUpdates s t ∧ RewritesOnce s t ∧
      Keeps [.frc, .mtc, .wpt, .atc, .cps, .pins] s t ∧ OnlyLines s t) ∧
    (∀ (r : Fin 16) (rest : List (Fin 16)), s.mem.Wf → HeadIs .meterKey r rest s → param8 s r 8 = code →
      hostMeterControl s = true → Completes .meterKey s fun t =>
        TripMoved k new s t ∧ RaisesAtChange [.meter, .request] s t ∧
        AnsweredPromptly r rest .done new.code s t ∧ ListAndUpdates s t ∧ RewritesOnce s t ∧
        Keeps [.mem, .frc, .mtc, .wpt, .atc, .cps, .pins] s t ∧ OnlyLines s t)

/-- The hold expiry sets the hold-ended flag (R31). A CLEAR in PAYMENT after the hold, by the key or by a METER_KEY request,
closes the trip: its record goes into the entry R39 chooses (R37, R38), its figures are added to the shift and lifetime
totals (R43), and the meter goes to VACANT and the status to AVAILABLE (R50). Where a record not yet reported is lost, the
overwrite counts rise and a QUEUED TRIP frame is withdrawn (R39). Pulses over the ceiling in the second in progress are
discarded and recorded (R2, R4), after the record has been written (a reading, log entry 20). That a meter commit being
written no longer answers for the record that the log entry chosen held is the model's reading (DEDUCED, log entry 28), and
not said by R39. The fare group is rewritten once, so that the update count rises by two (R28, R162; log entry 12). -/
def Obligations.ClearClosesTheTrip : Prop :=
  (∀ (s : State) (n : Nat), s.mtc.holdTimer = some n → Completes .paymentHoldExpiry s fun t =>
    t.mtc = { s.mtc with holdTimer := none, holdEnded := true } ∧ Keeps [.mtc, .pins] s t ∧ OnlyLines s t) ∧
  (∀ (s : State) (e : Fin 24) (lost : Bool), s.mtc.meter = .payment → s.mtc.holdEnded = true →
    s.dsc.status = .hired → HasRoom s → TripEntryIs e lost s →
    let closed := fun t : State =>
      ClosesSecond s t ∧ t.mtc = { mtcAfterTrip s e lost with meter := .vacant, holdTimer := none } ∧
      StatusBecomes .available .change s t ∧ JoinedLive .status { s with txq := withoutTripFrame e lost s } t ∧
      AsksCommitBeside (writeWithoutEntry e) s t
    (3 ≤ s.phase.stagesEnded → Completes (.keyPress .clear) s fun t =>
      closed t ∧ RaisesAtChange [.status, .meter] s t ∧ OnlyUpdates s t ∧ RewritesOnce s t ∧
      Keeps [.frc, .mtc, .dsc, .txq, .wpt, .atc, .cps, .pins] s t ∧ OnlyLines s t) ∧
    (∀ (r : Fin 16) (rest : List (Fin 16)), s.mem.Wf → HeadIs .meterKey r rest s → param8 s r 8 = 3 →
      hostMeterControl s = true → Completes .meterKey s fun t =>
        closed t ∧ RaisesAtChange [.status, .meter, .request] s t ∧
        AnsweredPromptly r rest .done 1 s t ∧ ListAndUpdates s t ∧ RewritesOnce s t ∧
        Keeps [.mem, .frc, .mtc, .dsc, .txq, .wpt, .atc, .cps, .pins] s t ∧ OnlyLines s t))

/-- A press that the table of R27, the hold (R31) or an extra's limits (R33) refuse changes nothing (R25), and a METER_KEY
so refused is answered REFUSED_STATE or, by the hold, TOO_EARLY, with answer word 0 (R26, R27, R31). An ADD_EXTRA is so
answered REFUSED_STATE in OFF and VACANT, and REFUSED_RANGE by its item's limit or the fare limit (R27, R33). A HIRE refused for
an invalid tariff leaves the meter: the key records METER/TARIFF_INVALID with the tariff's number, the request is answered
REFUSED_RANGE without a fault (R10). -/
def Obligations.RefusedPressIsIgnored : Prop :=
  let outOfTable : List (MeterState × MeterKey) :=
    [(.off, .hire), (.off, .stop), (.off, .pay), (.off, .clear), (.vacant, .stop), (.vacant, .pay), (.vacant, .clear),
     (.hired, .hire), (.hired, .clear), (.stopped, .hire), (.stopped, .clear), (.payment, .stop), (.payment, .pay)]
  let refusedHire := fun (s : State) (n : Nat) =>
    (s.mtc.meter = .vacant ∨ s.mtc.meter = .payment) ∧ (windowTariff s n).valid = false ∧
    (s.frc.override = some n ∨ (s.frc.override = none ∧ scheduledNow s = n ∧ s.frc.scheduled = n))
  (∀ (s : State) (k : MeterKey),
    ((s.mtc.meter, k) ∈ outOfTable ∨ (s.mtc.meter, k) ∈ [(MeterState.off, MeterKey.extra), (.vacant, .extra)] ∨
      (s.mtc.meter = .payment ∧ k = .clear ∧ s.mtc.holdEnded = false) ∨
      (k = .extra ∧ (extraLimit s 0 ≤ s.mtc.trip.extraCounts.get 0 ∨
        999999 < s.frc.hire.fare + s.mtc.trip.extrasSum + extraValue s 0))) →
    Completes (.keyPress k) s fun t => Keeps [.pins] s t ∧ OnlyLines s t) ∧
  (∀ (s : State) (n : Nat), 3 ≤ s.phase.stagesEnded → refusedHire s n → Completes (.keyPress .hire) s fun t =>
    Records .tariffInvalid n [] s t ∧ Keeps [.atc, .pins] s t ∧ OnlyLines s t) ∧
  (∀ (s : State) (r : Fin 16) (rest : List (Fin 16)), s.mem.Wf → HeadIs .meterKey r rest s →
    hostMeterControl s = true →
    let refused := fun (result : Result) (t : State) =>
      AnsweredPromptly r rest result 0 s t ∧ OnlyList s t ∧ Raises [.request] s t ∧
      Keeps [.mem, .wpt, .atc, .pins] s t ∧ OnlyLines s t
    (∀ row ∈ [(MeterKey.hire, 0), (.stop, 1), (.pay, 2), (.clear, 3)], param8 s r 8 = row.2 →
      (s.mtc.meter, row.1) ∈ outOfTable → Completes .meterKey s (refused .refusedState)) ∧
    (s.mtc.meter = .payment → param8 s r 8 = 3 → s.mtc.holdEnded = false →
      Completes .meterKey s (refused .tooEarly)) ∧
    (∀ n, param8 s r 8 = 0 → refusedHire s n → Completes .meterKey s (refused .refusedRange))) ∧
  (∀ (s : State) (r : Fin 16) (rest : List (Fin 16)) (i : Fin 8), s.mem.Wf → HeadIs .addExtra r rest s →
    hostMeterControl s = true → param8 s r 8 = i.val →
    let refused := fun (result : Result) (t : State) =>
      AnsweredPromptly r rest result 0 s t ∧ OnlyList s t ∧ Raises [.request] s t ∧
      Keeps [.mem, .wpt, .atc, .pins] s t ∧ OnlyLines s t
    ((s.mtc.meter = .off ∨ s.mtc.meter = .vacant) → Completes .addExtra s (refused .refusedState)) ∧
    (s.mtc.meter.tripOpen = true →
      (extraLimit s i.val ≤ s.mtc.trip.extraCounts.get i ∨
        999999 < s.frc.hire.fare + s.mtc.trip.extrasSum + extraValue s i.val) →
      Completes .addExtra s (refused .refusedRange)))

/-- An EXTRA key (item 0) or an ADD_EXTRA request in an open trip, within the item's limit and the fare limit, raises the
item's count by one and the extras sum by its value, sets channel FARE, rewrites the fare group, once, and asks a
commit (R33); the update count rises by two (R162; log entry 12). -/
def Obligations.ExtraIsAdded : Prop :=
  (∀ s : State, 3 ≤ s.phase.stagesEnded → s.mtc.meter.tripOpen = true →
    s.mtc.trip.extraCounts.get 0 < extraLimit s 0 →
    s.frc.hire.fare + s.mtc.trip.extrasSum + extraValue s 0 ≤ 999999 → Completes (.keyPress .extra) s fun t =>
      ExtraAdded 0 s t ∧ Raises [.fare] s t ∧ OnlyUpdates s t ∧ RewritesOnce s t ∧
      Keeps [.frc, .mtc, .wpt, .atc, .cps, .pins] s t ∧ OnlyLines s t) ∧
  (∀ (s : State) (r : Fin 16) (rest : List (Fin 16)) (i : Fin 8), s.mem.Wf → HeadIs .addExtra r rest s →
    param8 s r 8 = i.val → hostMeterControl s = true → s.mtc.meter.tripOpen = true →
    s.mtc.trip.extraCounts.get i < extraLimit s i.val →
    s.frc.hire.fare + s.mtc.trip.extrasSum + extraValue s i.val ≤ 999999 → Completes .addExtra s fun t =>
      ExtraAdded i s t ∧ Raises [.fare, .request] s t ∧
      AnsweredPromptly r rest .done (s.mtc.trip.extraCounts.get i + 1) s t ∧ ListAndUpdates s t ∧ RewritesOnce s t ∧
      Keeps [.mem, .frc, .mtc, .wpt, .atc, .cps, .pins] s t ∧ OnlyLines s t)

/-- A SELECT_TARIFF that passes the checks of R26 is taken in VACANT: its number becomes the override, and the number that
the directory shows as the tariff in force follows it; in any other state it is answered REFUSED_STATE (R34). Where it is
taken, a rewrite of the fare group ends within the command, so that an update count that was even is even again (R162;
that the rewrite ends there is the model's choice, log entry 12). -/
def Obligations.SelectTariffSetsTheOverride : Prop :=
  ∀ (s : State) (r : Fin 16) (rest : List (Fin 16)), s.mem.Wf → HeadIs .selectTariff r rest s →
    s.emc.state = .quiet → hostMeterControl s = true → param8 s r 8 ≤ 3 →
    (s.mtc.meter = .vacant → Completes .selectTariff s fun t =>
      t.frc = { s.frc with override := some (param8 s r 8), fareGroup := t.frc.fareGroup } ∧
      shownTariff t = param8 s r 8 ∧ (s.frc.fareGroup.number = shownTariff s → t.frc.fareGroup.number = param8 s r 8) ∧
      (t.frc.fareGroup = s.frc.fareGroup ∨ t.frc.fareGroup = fareGroupNow t) ∧
      AnsweredPromptly r rest .done (param8 s r 8) s t ∧ ListAndUpdates s t ∧
      Raises [.request] s t ∧ Keeps [.mem, .frc, .wpt, .atc, .pins] s t ∧ OnlyLines s t) ∧
    (s.mtc.meter ≠ .vacant → Completes .selectTariff s fun t =>
      AnsweredPromptly r rest .refusedState 0 s t ∧ OnlyList s t ∧ Raises [.request] s t ∧
      Keeps [.mem, .wpt, .atc, .pins] s t ∧ OnlyLines s t)

/-- SHIFT_OPEN with a driver number, while the meter is OFF under a bank that passed its check and no calibration write is
outstanding, clears the shift totals and pulses, counts the shift, takes the metres base and moves the meter to VACANT
and the status to AVAILABLE (R35). The fare group is rewritten once, so that the update count rises by two (R28, R162; log
entry 12). -/
def Obligations.ShiftOpens : Prop :=
  ∀ (s : State) (r : Fin 16) (rest : List (Fin 16)), s.mem.Wf → HeadIs .shiftOpen r rest s →
    s.emc.state = .quiet → paramN s r 8 2 ≠ 0 → s.mtc.meter = .off → s.cps.failed = false →
    writeOutstanding s .calibration = false → s.dsc.status = .offDuty → HasRoom s → Completes .shiftOpen s fun t =>
      let g := s.mtc.totals
      t.mtc = { s.mtc with
        meter := .vacant,
        totals := { g with
          shiftOpen := true, driver := paramN s r 8 2, openTime := s.frc.clock, shift := Totals.zero,
          shifts := min 4294967295 (g.shifts + 1), metresBase := g.lifetime.totalMetres } } ∧
      t.frc = { s.frc with pulseCounter := 0, shiftPulses := 0, fareGroup := fareGroupNow t } ∧
      StatusBecomes .available .change s t ∧ JoinedLive .status s t ∧ AsksCommit s t ∧
      AnsweredPromptly r rest .done 0 s t ∧ ListAndUpdates s t ∧ RewritesOnce s t ∧
      RaisesJudged [.status, .meter, .request] s t ∧
      Keeps [.mem, .frc, .mtc, .dsc, .txq, .wpt, .atc, .cps, .pins] s t ∧ OnlyLines s t

/-- SHIFT_CLOSE in VACANT with the status AVAILABLE or BREAK refreshes the total metres, copies the shift into the
last-shift group as UNSENT, clears the shift-open flag and the override and moves the meter to OFF and the status to
OFF_DUTY; its SHIFT frame then waits for the commit (R36, R44). A SHIFT frame of the shift before, still QUEUED, has its
origin detached, and leaves if it is WAITING (R36, R147). Pulses over the ceiling are discarded and recorded (R2, R4). That
the copy and the shift's total metres are taken before the meter second in progress is closed is the model's reading (log
entry 20), and so is it that a meter commit being written no longer answers for a SHIFT frame once the last-shift group has
been replaced (DEDUCED, log entry 28), which R36 does not say. The fare group is rewritten once, so that the update count rises by two (R28, R162; log entry 12). -/
def Obligations.ShiftCloses : Prop :=
  ∀ (s : State) (r : Fin 16) (rest : List (Fin 16)), s.mem.Wf → HeadIs .shiftClose r rest s →
    s.emc.state = .quiet → s.mtc.meter = .vacant → (s.dsc.status = .available ∨ s.dsc.status = .onBreak) →
    HasRoom s → Completes .shiftClose s fun t =>
      let g := s.mtc.totals
      let queue := if g.reportState = .queued then withoutOrigin .lastShift s else s.txq
      let shift := { g.shift with totalMetres := shiftMetres s }
      t.mtc = { s.mtc with
        meter := .off, shiftFrameDue := true,
        totals := { g with
          shiftOpen := false, reportState := .unsent, lastDriver := g.driver, lastOpenTime := g.openTime,
          lastCloseTime := s.frc.clock, shift := shift, last := shift,
          lifetime := { g.lifetime with totalMetres := min 4294967295 (g.metresBase + shiftMetres s) } } } ∧
      t.frc = { s.frc with
        pulseCounter := 0, shiftPulses := shiftPulsesAfter s, override := none, fareGroup := fareGroupNow t } ∧
      StatusBecomes .offDuty .change s t ∧ JoinedLive .status { s with txq := queue } t ∧
      AsksCommitBeside writeWithoutShift s t ∧
      AnsweredPromptly r rest .done 0 s t ∧ ListAndUpdates s t ∧ RewritesOnce s t ∧
      RaisesAtChange [.status, .meter, .request] s t ∧
      Keeps [.mem, .frc, .mtc, .dsc, .txq, .wpt, .atc, .cps, .pins] s t ∧ OnlyLines s t

/-- RELEASE_TRIP over 23 is REFUSED_RANGE, of an EMPTY entry REFUSED_STATE, and otherwise sets the released flag, asks a
commit and is DONE, even if the flag was set (R40). -/
def Obligations.TripIsReleased : Prop :=
  ∀ (s : State) (r : Fin 16) (rest : List (Fin 16)), s.mem.Wf → HeadIs .releaseTrip r rest s →
    (23 < param8 s r 8 → Completes .releaseTrip s fun t =>
      AnsweredPromptly r rest .refusedRange 0 s t ∧ OnlyList s t ∧ Raises [.request] s t ∧
      Keeps [.mem, .wpt, .atc, .pins] s t ∧ OnlyLines s t) ∧
    (∀ e : Fin 24, param8 s r 8 = e.val → (s.mtc.tripLog.get e).written = false → Completes .releaseTrip s fun t =>
      AnsweredPromptly r rest .refusedState 0 s t ∧ OnlyList s t ∧ Raises [.request] s t ∧
      Keeps [.mem, .wpt, .atc, .pins] s t ∧ OnlyLines s t) ∧
    (∀ e : Fin 24, param8 s r 8 = e.val → (s.mtc.tripLog.get e).written = true → Completes .releaseTrip s fun t =>
      t.mtc = { s.mtc with
        tripLog := s.mtc.tripLog.set e.val { s.mtc.tripLog.get e with released := true } e.isLt } ∧
      AsksCommit s t ∧ AnsweredPromptly r rest .done 0 s t ∧ OnlyList s t ∧ Raises [.request] s t ∧
      Keeps [.mem, .mtc, .wpt, .atc, .cps, .pins] s t ∧ OnlyLines s t)

/-! The store. -/

/-- While the store is free it begins the earliest asked of the other writes after a commit, else the commit if it waits,
else the earliest asked of the others; the write reads what it carries at that moment (R183, R45, R184). -/
def Obligations.StoreWriteBegins : Prop :=
  ∀ (s : State) (k : StoreKind), 3 ≤ s.phase.stagesEnded → s.cps.writing = none →
    let others := s.cps.queue.filter fun x => x != .meter
    ((s.cps.lastWasCommit = true ∧ others.head? = some k) ∨
      ((s.cps.lastWasCommit = false ∨ others = []) ∧ StoreKind.meter ∈ s.cps.queue ∧ k = .meter) ∨
      (StoreKind.meter ∉ s.cps.queue ∧ others.head? = some k)) →
    let job := match k with
      | .meter => StoreJob.meter
          { checkpoint :=
              { meter := s.mtc.meter, hire := s.frc.hire, shiftPulses := s.frc.shiftPulses, trip := s.mtc.trip,
                emergency := s.emc.state, emergencyCount := s.emc.count },
            totals := s.mtc.totals, tripLog := s.mtc.tripLog, ageOrder := s.mtc.ageOrder }
          (s.mtc.uncommitted.map some) s.mtc.shiftFrameDue
      | .calibration => .calibration s.cps.bank
      | .tariffs => .tariffs (s.mem.readBytes 0x2B00 512)
      | .settings => .settings (s.mem.readBytes 0x2E00 256)
    Completes .storeWriteBegin s fun t =>
      t.cps = { s.cps with queue := s.cps.queue.filter fun x => x != k, writing := some job } ∧
      Keeps [.cps, .pins] s t ∧ OnlyLines s t

/-- A meter commit completes: the store holds what it carried, the window's trip log and totals mirror show it, a TRIP
frame joins the queue for each record carried for the first time whose send state is QUEUED, channel TRIP is set where a
record was carried for the first time, and a closed shift's SHIFT frame joins (R36, R37, R39, R45). Readings of the model:
that a carried record whose entry has been reused since (a none in `first`) sets channel TRIP and queues no TRIP frame, and
that a commit begun before a SHIFT_CLOSE does not answer for that shift (`due`), are DEDUCED (log entry 28) and not said by
R36, R37, R39 or R45; that the shift report state's change to QUEUED asks no further commit is log entry 19. The mirrors are
rewritten once, so that the update count rises by two (R162; log entry 12). -/
def Obligations.MeterCommitCompletes : Prop :=
  ∀ (s : State) (c : MeterCommit) (first : List (Option (Fin 24))) (due : Bool), s.cps.writing = some (.meter c first due) →
    s.txq.frames.length + first.length + 1 ≤ 16 → Completes .meterCommitComplete s fun t =>
      let queued := (first.filterMap id).filter fun e => (s.mtc.tripLog.get e).sendState == .queued
      let g := s.mtc.totals
      t.cps = { s.cps with
        store := { s.cps.store with meter := some c }, writing := none, lastWasCommit := true } ∧
      t.mtc = { s.mtc with
        windowLog := c.tripLog, windowTotals := c.totals, uncommitted := t.mtc.uncommitted,
        totals := if due then { g with reportState := .queued } else g,
        shiftFrameDue := if due then false else s.mtc.shiftFrameDue } ∧
      (∀ e, e ∈ t.mtc.uncommitted ↔ e ∈ s.mtc.uncommitted ∧ some e ∉ first) ∧
      t.txq = { s.txq with frames := t.txq.frames } ∧
      t.txq.frames.length = s.txq.frames.length + queued.length + (if due then 1 else 0) ∧
      (∀ f ∈ s.txq.frames, f ∈ t.txq.frames) ∧
      (∀ e ∈ queued, newFrame .trip [.trip e] .fromTripRecord ∈ t.txq.frames) ∧
      (due = true →
        newFrame .shift [.lastShift] (.fixed (.shift g.lastDriver g.lastOpenTime g.lastCloseTime g.last)) ∈
          t.txq.frames) ∧
      Raises (if first = [] then [] else [.trip]) s t ∧ OnlyUpdates s t ∧ RewritesOnce s t ∧
      Keeps [.mtc, .txq, .wpt, .atc, .cps, .pins] s t ∧ OnlyLines s t

/-- The other writes complete: the store holds what was carried, and a tariff or settings request still in its record is
answered DONE, with the CANCEL_LATE mark where a cancel came too late, and not at all where a port reset freed the
record (R166, R167, R183, R184). A write that fails leaves the store as it was and records STORE/WRITE_FAILED; a meter
commit or calibration write is asked again; a request is answered STORE_FAILED, no byte of window memory but the answer's
changes, and the block keeps all but the write and the request's record; where no request waits any more, nothing is
answered. -/
def Obligations.OtherWritesEnd : Prop :=
  (∀ (s : State) (bank : List Byte), s.cps.writing = some (.calibration bank) →
    Completes .calibrationWriteComplete s fun t =>
      t.cps = { s.cps with
        store := { s.cps.store with calibration := some bank }, writing := none, lastWasCommit := false } ∧
      Keeps [.cps, .pins] s t ∧ OnlyLines s t) ∧
  (∀ (s : State) (bytes : List Byte), s.cps.writing = some (.tariffs bytes) →
    (s.cps.tariffRecord = none → Completes .tariffWriteComplete s fun t =>
      t.cps = { s.cps with
        store := { s.cps.store with tariffs := some bytes }, writing := none, lastWasCommit := false } ∧
      Keeps [.cps, .pins] s t ∧ OnlyLines s t) ∧
    (∀ r : Fin 16, s.mem.Wf → s.cps.tariffRecord = some r → Completes .tariffWriteComplete s fun t =>
      t.cps = { s.cps with
        store := { s.cps.store with tariffs := some bytes }, writing := none, lastWasCommit := false,
        tariffRecord := none } ∧
      (handField s r = 2#8 → Answered r .done 0#8 0 t ∧ OnlyAnswerBytes r s t ∧ Raises [.request] s t) ∧
      (handField s r = 3#8 → Answered r .done 0x80#8 0 t ∧ OnlyAnswerBytes r s t ∧ Raises [.request] s t) ∧
      (handField s r = 0#8 → t.mem = s.mem ∧ t.atc = s.atc) ∧
      Keeps [.mem, .atc, .cps, .pins] s t ∧ OnlyLines s t)) ∧
  (∀ (s : State) (bytes : List Byte), s.cps.writing = some (.settings bytes) →
    (s.cps.settingsRecord = none → Completes .settingsWriteComplete s fun t =>
      t.cps = { s.cps with
        store := { s.cps.store with settings := some bytes }, writing := none, lastWasCommit := false } ∧
      Keeps [.cps, .pins] s t ∧ OnlyLines s t) ∧
    (∀ r : Fin 16, s.mem.Wf → s.cps.settingsRecord = some r → Completes .settingsWriteComplete s fun t =>
      t.cps = { s.cps with
        store := { s.cps.store with settings := some bytes }, writing := none, lastWasCommit := false,
        settingsRecord := none } ∧
      (handField s r = 2#8 → Answered r .done 0#8 0 t ∧ OnlyAnswerBytes r s t ∧ Raises [.request] s t) ∧
      (handField s r = 3#8 → Answered r .done 0x80#8 0 t ∧ OnlyAnswerBytes r s t ∧ Raises [.request] s t) ∧
      (handField s r = 0#8 → t.mem = s.mem ∧ t.atc = s.atc) ∧
      Keeps [.mem, .atc, .cps, .pins] s t ∧ OnlyLines s t)) ∧
  (∀ (s : State) (job : StoreJob), s.cps.writing = some job → (job.kind = .meter ∨ job.kind = .calibration) →
    Completes .storeWriteFailed s fun t =>
      t.cps = { s.cps with
        writing := none, lastWasCommit := job.kind == .meter,
        queue := if job.kind ∈ s.cps.queue then s.cps.queue else s.cps.queue ++ [job.kind] } ∧
      Records .writeFailed (if job.kind = .meter then 1 else 2) [] s t ∧
      Keeps [.atc, .cps, .pins] s t ∧ OnlyLines s t) ∧
  (∀ (s : State) (bytes : List Byte) (r : Fin 16), s.mem.Wf → (handField s r = 2#8 ∨ handField s r = 3#8) →
    let failed := fun (code : Nat) (after : Cps) (t : State) =>
      t.cps = after ∧ Answered r .storeFailed (if handField s r = 2#8 then 0#8 else 0x80#8) 0 t ∧
      OnlyAnswerBytes r s t ∧ Records .writeFailed code [.request] s t ∧ Keeps [.mem, .atc, .cps, .pins] s t ∧
      OnlyLines s t
    (s.cps.writing = some (.tariffs bytes) → s.cps.tariffRecord = some r → Completes .storeWriteFailed s
      (failed 3 { s.cps with writing := none, lastWasCommit := false, tariffRecord := none })) ∧
    (s.cps.writing = some (.settings bytes) → s.cps.settingsRecord = some r → Completes .storeWriteFailed s
      (failed 4 { s.cps with writing := none, lastWasCommit := false, settingsRecord := none }))) ∧
  (∀ (s : State) (bytes : List Byte),
    ((s.cps.writing = some (.tariffs bytes) ∧ s.cps.tariffRecord = none) ∨
      (s.cps.writing = some (.settings bytes) ∧ s.cps.settingsRecord = none)) →
    Completes .storeWriteFailed s fun t =>
      t.cps = { s.cps with writing := none, lastWasCommit := false } ∧
      Records .writeFailed (if s.cps.writing = some (.tariffs bytes) then 3 else 4) [] s t ∧
      Keeps [.atc, .cps, .pins] s t ∧ OnlyLines s t)

/-! The dispatch status controller. -/

/-- A host write of POSTED over FREE takes the fix: valid fields become the last position fix and the zone is taken by R57,
others raise the fix-rejected count, and the slot reads FREE again; over POSTED the write is dropped as illegal (R55,
R57). -/
def Obligations.PositionFixIsTaken : Prop :=
  (∀ s : State, s.phase = .ready → s.mem.Wf → s.mem.read 0x50 = 0#8 → (slotFix s.mem).valid = true → HasRoom s →
    let x := slotFix s.mem
    let changes := s.dsc.zoneKnown = false ∨ x.zone ≠ s.dsc.zone
    Completes .positionFixPost s fun t =>
      t.dsc = { s.dsc with
        lastFix := some x, zone := x.zone, zoneKnown := true,
        queuePosition := if s.dsc.zoneKnown = false ∨ x.zone ≠ s.dsc.zone then 0 else s.dsc.queuePosition,
        heldReason := if (s.dsc.zoneKnown = false ∨ x.zone ≠ s.dsc.zone) ∧ s.dsc.status = .available ∧
          kindWaiting s .status = false then .zone else s.dsc.heldReason } ∧
      (changes → s.dsc.status = .available → JoinedLive .status s t) ∧
      (¬(changes ∧ s.dsc.status = .available) → t.txq = s.txq) ∧
      (∀ a, t.mem.read a = s.mem.read a) ∧ Keeps [.mem, .dsc, .txq, .pins] s t ∧ OnlyLines s t) ∧
  (∀ s : State, s.phase = .ready → s.mem.Wf → s.mem.read 0x50 = 0#8 → (slotFix s.mem).valid = false →
    Completes .positionFixPost s fun t =>
      t.dsc = { s.dsc with fixRejected := min 65535 (s.dsc.fixRejected + 1) } ∧
      (∀ a, t.mem.read a = s.mem.read a) ∧ Keeps [.mem, .dsc, .pins] s t ∧ OnlyLines s t) ∧
  (∀ s : State, s.phase = .ready → s.mem.read 0x50 ≠ 0#8 → Completes .positionFixPost s fun t =>
    t.wpt = { s.wpt with illegalHands := min 65535 (s.wpt.illegalHands + 1) } ∧
    Records .handIllegal 0x50 [] s t ∧ Keeps [.wpt, .atc, .pins] s t ∧ OnlyLines s t)

/-- SET_BREAK, SET_AVAILABLE and NO_SHOW move the status from the one status each acts in, with the effects of R49, and
are REFUSED_STATE in every other, the answer word holding the status code (R52, R53). Outside QUIET they are
REFUSED_LOCKED and the status stays (R122). -/
def Obligations.StatusRequestsAreJudged : Prop :=
  ∀ (s : State) (r : Fin 16) (rest : List (Fin 16)) (c : Instr) (k : RequestKind) (old new : DispatchStatus)
    (reason : StatusReason),
    (c, k, old, new, reason) ∈
      [(Instr.setBreak, RequestKind.setBreak, DispatchStatus.available, DispatchStatus.onBreak, StatusReason.change),
       (.setAvailable, .setAvailable, .onBreak, .available, .change),
       (.noShow, .noShow, .assigned, .available, .noShow)] →
    s.mem.Wf → HeadIs k r rest s →
    (s.emc.state = .quiet → s.dsc.status = old → HasRoom s → Completes c s fun t =>
      StatusBecomes new reason s t ∧ EndsAssignment s t ∧ JoinedLive .status s t ∧
      AnsweredPromptly r rest .done new.code s t ∧ OnlyList s t ∧ RaisesJudged [.status, .request] s t ∧
      Keeps [.mem, .dsc, .oft, .txq, .wpt, .atc, .pins] s t ∧ OnlyLines s t) ∧
    (s.emc.state = .quiet → s.dsc.status ≠ old → Completes c s fun t =>
      AnsweredPromptly r rest .refusedState s.dsc.status.code s t ∧ OnlyList s t ∧ Raises [.request] s t ∧
      Keeps [.mem, .wpt, .atc, .pins] s t ∧ OnlyLines s t) ∧
    (s.emc.state ≠ .quiet → Completes c s fun t =>
      AnsweredPromptly r rest .refusedLocked 0 s t ∧ OnlyList s t ∧ Raises [.request] s t ∧
      Keeps [.mem, .wpt, .atc, .pins] s t ∧ OnlyLines s t)

/-- A ZONE_INFO frame for the current zone of an AVAILABLE cab changes the queue position and sets channel STATUS, and any
other is dropped (R59). A POLL frame stores its reference and asks for a POLL_REPLY (R60). That the channel is set is R59's;
R60 ends by saying that ZONE_INFO sets none at its arrival, and that R59 governs is the model's reading (DEDUCED, log
entry 47). -/
def Obligations.ZoneInfoAndPollAreTaken : Prop :=
  (∀ (s : State) (f : RxFrame) (how : Addressing), Accepted 0x31 f how s →
    let applied := s.dsc.status = .available ∧ s.dsc.zoneKnown = true ∧ (f.body.getD 0 0#8).toNat = s.dsc.zone ∧
      (f.body.getD 1 0#8).toNat ≠ s.dsc.queuePosition
    Completes (.zoneInfo f) s fun t =>
      (applied → t.dsc = { s.dsc with queuePosition := (f.body.getD 1 0#8).toNat } ∧ Raises [.status] s t) ∧
      (¬applied → t.dsc = s.dsc ∧ t.atc = s.atc) ∧
      OnlyHunting s t ∧ Keeps [.dsc, .ale, .atc, .pins] s t ∧ OnlyLines s t) ∧
  (∀ (s : State) (f : RxFrame) (how : Addressing), Accepted 0x30 f how s → HasRoom s →
    Completes (.poll f) s fun t =>
      t.dsc = { s.dsc with pollReference := f.body.getD 0 0#8 } ∧ JoinedLive .pollReply s t ∧
      OnlyHunting s t ∧ Keeps [.dsc, .txq, .ale, .pins] s t ∧ OnlyLines s t)

/-! The offer table. -/

/-- An OFFER frame is judged (R64 to R68). A number of 0 counts a format error; a frame not taken into consideration is
dropped (R65); of a number that an entry holds it restarts the window of an OPEN entry and is else ignored (R66).
Otherwise it is stored in the lowest-numbered EMPTY entry and opens with its window clamped to 5..60 seconds, or with no
entry EMPTY the missed count rises (R67). Its details go into blocks under the offer mark, 30 bytes to a block, or are
dropped with DETAILS_DROPPED (R68, R88, R89). -/
def Obligations.OfferIsStored : Prop :=
  ∀ (s : State) (f : RxFrame) (how : Addressing), s.mem.Wf → Accepted 0x10 f how s →
    let o := parseOffer f.body
    let considered := s.emc.state = .quiet ∧ (s.dsc.status = .available ∨ s.dsc.status = .bidding) ∧
      (how = .individual ∨ inReach s o.zone = true)
    let ignored := fun t : State => OnlyHunting s t ∧ Keeps [.ale, .pins] s t ∧ OnlyLines s t
    (o.number = 0 → Completes (.offer f) s fun t =>
      t.ale = { s.ale with
        receiver := .hunting, window := none, formatErrors := min 65535 (s.ale.formatErrors + 1) } ∧
      Keeps [.ale, .pins] s t ∧ OnlyLines s t) ∧
    (o.number ≠ 0 → ¬considered → Completes (.offer f) s ignored) ∧
    (o.number ≠ 0 → considered → ∀ e, offerWithNumber s o.number = some e →
      ((s.oft.entries.get e).state = .open → Completes (.offer f) s fun t =>
        t.oft.entries.get e = { s.oft.entries.get e with windowRemaining := clamp 5 60 o.window } ∧
        OnlyOffer e s t ∧ RaisesJudged [] s t ∧ OnlyHunting s t ∧ Keeps [.oft, .ale, .atc, .pins] s t ∧
        OnlyLines s t) ∧
      ((s.oft.entries.get e).state ≠ .open → Completes (.offer f) s ignored)) ∧
    (o.number ≠ 0 → considered →
      (∀ x, (s.oft.entries.get x).state ≠ .empty → (s.oft.entries.get x).number ≠ o.number) →
      ((∀ x, (s.oft.entries.get x).state ≠ .empty) → Completes (.offer f) s fun t =>
        t.oft = { s.oft with missed := min 65535 (s.oft.missed + 1) } ∧ OnlyHunting s t ∧
        Keeps [.oft, .ale, .pins] s t ∧ OnlyLines s t) ∧
      (∀ e, (s.oft.entries.get e).state = .empty → (∀ x, x < e → (s.oft.entries.get x).state ≠ .empty) →
        let entry : OfferEntry := { OfferEntry.empty with
          state := .open, number := o.number, zone := o.zone, targeted := how == .individual, account := o.account,
          largeVehicle := o.largeVehicle, windowRemaining := clamp 5 60 o.window, timeStored := s.frc.clock }
        let n := (o.details.length + 29) / 30
        let blocks := chainFrom s.mem.read s.mst.freeHead n
        let taken := fun t : State =>
          OnlyOffer e s t ∧ OnlyHunting s t ∧ Keeps [.mem, .oft, .mst, .ale, .atc, .pins] s t ∧ OnlyLines s t
        (o.details = [] → Completes (.offer f) s fun t =>
          t.oft.entries.get e = entry ∧ t.mem = s.mem ∧ t.mst = s.mst ∧ RaisesJudged [.offerNew] s t ∧ taken t) ∧
        (o.details ≠ [] → n + offerMark s ≤ s.mst.freeCount → s.mst.freeHead < 224 → blocks.Nodup →
          Completes (.offer f) s fun t =>
            t.oft.entries.get e =
              { entry with detailsLength := o.details.length, firstBlock := s.mst.freeHead, blockCount := n } ∧
            ChainFilled blocks o.details s.mem.read t ∧
            t.mst = { s.mst with
              freeHead := headAfter blocks s.mem.read s.mst.freeHead, freeCount := s.mst.freeCount - n } ∧
            RaisesJudged (.offerNew :: grantChannels s s.mst.freeCount n) s t ∧ taken t) ∧
        (o.details ≠ [] → s.mst.freeCount < n + offerMark s → Completes (.offer f) s fun t =>
          t.oft.entries.get e = { entry with detailsDropped := true } ∧ t.mem = s.mem ∧ t.mst = s.mst ∧
          RaisesJudged [.offerNew] s t ∧ taken t)))

/-- A window expiry makes an OPEN entry EXPIRED and sets channel OFFER_RESULT (R69); the remaining seconds of a running
timer step down by one (R61). -/
def Obligations.OfferTimersRun : Prop :=
  (∀ (s : State) (e : Fin 8), (s.oft.entries.get e).state = .open → Completes (.offerWindowExpiry e) s fun t =>
    t.oft.entries.get e = (s.oft.entries.get e).ended .expired .none ∧ RaisesJudged [.offerResult] s t ∧
    OnlyOffer e s t ∧ Keeps [.oft, .atc, .pins] s t ∧ OnlyLines s t) ∧
  (∀ (s : State) (e : Fin 8), (s.oft.entries.get e).state = .open → 1 < (s.oft.entries.get e).windowRemaining →
    Completes (.offerRemainingRewrite e) s fun t =>
      t.oft.entries.get e =
        { s.oft.entries.get e with windowRemaining := (s.oft.entries.get e).windowRemaining - 1 } ∧
      RaisesJudged [] s t ∧ OnlyOffer e s t ∧ Keeps [.oft, .atc, .pins] s t ∧ OnlyLines s t) ∧
  (∀ (s : State) (e : Fin 8), (s.oft.entries.get e).state = .bidSent → 1 < (s.oft.entries.get e).awardRemaining →
    Completes (.offerRemainingRewrite e) s fun t =>
      t.oft.entries.get e =
        { s.oft.entries.get e with awardRemaining := (s.oft.entries.get e).awardRemaining - 1 } ∧
      RaisesJudged [] s t ∧ OnlyOffer e s t ∧ Keeps [.oft, .atc, .pins] s t ∧ OnlyLines s t)

/-- An ACCEPT_OFFER of an OPEN entry, no other entry bidding, the status AVAILABLE and the link not LOST, starts a bid: the
entry is BID_QUEUED, the status BIDDING without a STATUS frame, and the BID frame joins the queue with its body fixed
(R49, R70, R71). The refusals follow the order of R70. -/
def Obligations.AcceptStartsABid : Prop :=
  ∀ (s : State) (r : Fin 16) (rest : List (Fin 16)), s.mem.Wf → HeadIs .acceptOffer r rest s →
    s.emc.state = .quiet →
    (∀ e : Fin 8, param8 s r 8 = e.val → (s.oft.entries.get e).state = .open →
      (∀ x, (s.oft.entries.get x).state.bidding = false) → s.dsc.status = .available → s.ale.link ≠ .lost →
      HasRoom s → Completes .acceptOffer s fun t =>
        let entry := s.oft.entries.get e
        t.oft.entries.get e = { entry with state := .bidQueued, bidFrame := .queued, windowRemaining := 0 } ∧
        OnlyOffer e s t ∧ t.dsc = { s.dsc with status := .bidding, queuePosition := 0 } ∧
        Joined (newFrame .bid [.offer e entry.number]
          (.fixed (.bid entry.number s.dsc.zone s.dsc.zoneKnown s.frc.clock))) s t ∧
        AnsweredPromptly r rest .done 2 s t ∧ OnlyList s t ∧ RaisesJudged [.request] s t ∧
        Keeps [.mem, .dsc, .oft, .txq, .wpt, .atc, .pins] s t ∧ OnlyLines s t) ∧
    (∀ (e : Fin 8) (result : Result), param8 s r 8 = e.val →
      result = (if (s.oft.entries.get e).state = .expired then .tooLate
        else if (s.oft.entries.get e).state ≠ .open then .refusedState
        else if biddingEntry s ≠ none then .busy
        else if s.dsc.status ≠ .available then .refusedState
        else if s.ale.link = .lost then .linkDown else .done) →
      result ≠ .done → Completes .acceptOffer s fun t =>
        AnsweredPromptly r rest result (s.oft.entries.get e).state.code s t ∧ OnlyList s t ∧
        Raises [.request] s t ∧ Keeps [.mem, .wpt, .atc, .pins] s t ∧ OnlyLines s t)

/-- DECLINE_OFFER: over 7 REFUSED_RANGE; EXPIRED TOO_LATE; any other state than OPEN REFUSED_STATE; OPEN is DONE and the
entry becomes DECLINED with its window timer stopped, its details kept, no frame queued and no channel set but that of
the answer (R72). The answer word holds the code of the entry's state after the request. -/
def Obligations.DeclineIsJudged : Prop :=
  ∀ (s : State) (r : Fin 16) (rest : List (Fin 16)), s.mem.Wf → HeadIs .declineOffer r rest s →
    (7 < param8 s r 8 → Completes .declineOffer s fun t =>
      AnsweredPromptly r rest .refusedRange 0 s t ∧ OnlyList s t ∧ Raises [.request] s t ∧
      Keeps [.mem, .wpt, .atc, .pins] s t ∧ OnlyLines s t) ∧
    (∀ e : Fin 8, param8 s r 8 = e.val →
      ((s.oft.entries.get e).state = .expired → Completes .declineOffer s fun t =>
        AnsweredPromptly r rest .tooLate (t.oft.entries.get e).state.code s t ∧ OnlyList s t ∧
        Raises [.request] s t ∧ Keeps [.mem, .wpt, .atc, .pins] s t ∧ OnlyLines s t) ∧
      ((s.oft.entries.get e).state ≠ .expired → (s.oft.entries.get e).state ≠ .open →
        Completes .declineOffer s fun t =>
          AnsweredPromptly r rest .refusedState (t.oft.entries.get e).state.code s t ∧ OnlyList s t ∧
          Raises [.request] s t ∧ Keeps [.mem, .wpt, .atc, .pins] s t ∧ OnlyLines s t) ∧
      ((s.oft.entries.get e).state = .open → Completes .declineOffer s fun t =>
        t.oft.entries.get e = (s.oft.entries.get e).ended .declined .none ∧ OnlyOffer e s t ∧
        AnsweredPromptly r rest .done (t.oft.entries.get e).state.code s t ∧ OnlyList s t ∧
        RaisesJudged [.request] s t ∧ Keeps [.mem, .oft, .wpt, .atc, .pins] s t ∧ OnlyLines s t))

/-- RELEASE_OFFER is refused of an entry that is EMPTY, OPEN or bidding, and of the AWARDED entry that is the assignment;
of any other terminal entry it is DONE: the entry is EMPTY and its blocks head the free chain, the last of them linked to
the old head and each used count 0 (R73, R88). -/
def Obligations.OfferIsReleased : Prop :=
  ∀ (s : State) (r : Fin 16) (rest : List (Fin 16)) (e : Fin 8), s.mem.Wf → HeadIs .releaseOffer r rest s →
    param8 s r 8 = e.val →
    (((s.oft.entries.get e).state ∈ [OfferState.empty, .open, .bidQueued, .bidSent] ∨
        ((s.oft.entries.get e).state = .awarded ∧ s.oft.assignment = some e)) → Completes .releaseOffer s fun t =>
      AnsweredPromptly r rest .refusedState 0 s t ∧ OnlyList s t ∧ Raises [.request] s t ∧
      Keeps [.mem, .wpt, .atc, .pins] s t ∧ OnlyLines s t) ∧
    (((s.oft.entries.get e).state ∈ [OfferState.lost, .expired, .withdrawn, .declined] ∨
        ((s.oft.entries.get e).state = .awarded ∧ s.oft.assignment ≠ some e)) →
      let x := s.oft.entries.get e
      (1 ≤ x.blockCount → x.firstBlock < 224) → Completes .releaseOffer s fun t =>
        t.oft.entries.get e = OfferEntry.empty ∧ OnlyOffer e s t ∧
        t.mst = { s.mst with
          freeHead := freedHead s x.firstBlock x.blockCount, freeCount := s.mst.freeCount + x.blockCount } ∧
        Answered r .done 0#8 0 t ∧ t.wpt.posted = rest ∧ OnlyList s t ∧ RaisesJudged [.request] s t ∧
        (∀ a, ¬IsAnswerByte r a → t.mem.read a = freedByte s x.firstBlock x.blockCount a) ∧
        Keeps [.mem, .oft, .mst, .wpt, .atc, .pins] s t ∧ OnlyLines s t)

/-- A bid ends on the base's side, by the award wait (R77), by an AWARD for another cab (R81) or by a WITHDRAW (R82): the
entry ends, the bid is settled by R74 and the status goes back to AVAILABLE, with channel OFFER_RESULT; of two BID frames
the newest is removed (the model's choice, log entry 40). An OPEN entry is LOST or WITHDRAWN by the same frames. A WITHDRAW
takes an AWARDED entry back; where it is the assignment the status goes from ASSIGNED to AVAILABLE with a STATUS frame
(R51, R82, R83). Neither frame changes an entry that is LOST, EXPIRED, WITHDRAWN or DECLINED, nor an AWARD for another cab
one that is AWARDED, and one that names no entry is dropped (R81, R82). -/
def Obligations.BidEndsOnTheBasesSide : Prop :=
  (∀ (s : State) (e : Fin 8), (s.oft.entries.get e).state = .bidSent → s.dsc.status = .bidding →
    Completes (.awardWaitExpiry e) s fun t =>
      BidEnded e .lost .noAward s t ∧ RaisesJudged [.offerResult] s t ∧
      Keeps [.dsc, .oft, .txq, .atc, .pins] s t ∧ OnlyLines s t) ∧
  (∀ (s : State) (f : RxFrame) (how : Addressing) (e : Fin 8), Accepted 0x11 f how s →
    offerWithNumber s (bodyWord f.body 0) = some e → bodyWord f.body 2 ≠ cabAddress s →
    ((s.oft.entries.get e).state.bidding = true → s.dsc.status = .bidding → Completes (.award f) s fun t =>
      BidEnded e .lost .otherCab s t ∧ RaisesJudged [.offerResult] s t ∧ OnlyHunting s t ∧
      Keeps [.dsc, .oft, .txq, .ale, .atc, .pins] s t ∧ OnlyLines s t) ∧
    ((s.oft.entries.get e).state = .open → Completes (.award f) s fun t =>
      t.oft.entries.get e = (s.oft.entries.get e).ended .lost .otherCab ∧ OnlyOffer e s t ∧
      RaisesJudged [.offerResult] s t ∧ OnlyHunting s t ∧ Keeps [.oft, .ale, .atc, .pins] s t ∧ OnlyLines s t)) ∧
  (∀ (s : State) (f : RxFrame) (how : Addressing) (e : Fin 8), Accepted 0x12 f how s →
    offerWithNumber s (bodyWord f.body 0) = some e →
    ((s.oft.entries.get e).state.bidding = true → s.dsc.status = .bidding → Completes (.withdraw f) s fun t =>
      BidEnded e .withdrawn .base s t ∧ RaisesJudged [.offerResult] s t ∧ OnlyHunting s t ∧
      Keeps [.dsc, .oft, .txq, .ale, .atc, .pins] s t ∧ OnlyLines s t) ∧
    ((s.oft.entries.get e).state = .open ∨ ((s.oft.entries.get e).state = .awarded ∧ s.oft.assignment ≠ some e) →
      Completes (.withdraw f) s fun t =>
        t.oft.entries.get e = (s.oft.entries.get e).ended .withdrawn .base ∧ OnlyOffer e s t ∧
        RaisesJudged [.offerResult] s t ∧ OnlyHunting s t ∧ Keeps [.oft, .ale, .atc, .pins] s t ∧ OnlyLines s t) ∧
    ((s.oft.entries.get e).state = .awarded → s.oft.assignment = some e → s.dsc.status = .assigned → HasRoom s →
      Completes (.withdraw f) s fun t =>
        t.oft = { s.oft with
          assignment := none,
          entries := s.oft.entries.set e.val ((s.oft.entries.get e).ended .withdrawn .base) e.isLt } ∧
        StatusBecomes .available .change s t ∧ JoinedLive .status s t ∧ RaisesJudged [.status, .offerResult] s t ∧
        OnlyHunting s t ∧ Keeps [.dsc, .oft, .txq, .ale, .atc, .pins] s t ∧ OnlyLines s t)) ∧
  (∀ (s : State) (kind : Nat) (f : RxFrame) (how : Addressing), Accepted kind f how s →
    let found := offerWithNumber s (bodyWord f.body 0)
    let unchanged := fun t : State => OnlyHunting s t ∧ Keeps [.ale, .pins] s t ∧ OnlyLines s t
    let final := [OfferState.lost, .expired, .withdrawn, .declined]
    (kind = 0x11 → bodyWord f.body 2 ≠ cabAddress s →
      (∀ e, found = some e → (s.oft.entries.get e).state ∈ OfferState.awarded :: final) →
      Completes (.award f) s unchanged) ∧
    (kind = 0x12 → (∀ e, found = some e → (s.oft.entries.get e).state ∈ final) → Completes (.withdraw f) s unchanged))

/-- An AWARD for this cab ends its bid: the entry is AWARDED and the assignment, its BID frame leaves the queue without an
outcome (the newest of two, the model's choice, log entry 40), the status is ASSIGNED without a STATUS frame, and the
other OPEN entries are WITHDRAWN (R78). A late or unasked award is honoured while the cab is AVAILABLE and QUIET, with a
STATUS frame. Otherwise, and for an entry that is WITHDRAWN or DECLINED, it is refused on air with the first reason of R80
that applies, or is left alone while a refusal is PENDING; an award of an offer that no entry holds is refused as an
internal frame (in an emergency too, a reading, log entry 21); a repeated award changes nothing (R79, R80). -/
def Obligations.AwardIsJudged : Prop :=
  ∀ (s : State) (f : RxFrame) (how : Addressing), Accepted 0x11 f how s → bodyWord f.body 2 = cabAddress s →
    let number := bodyWord f.body 0
    (∀ e : Fin 8, offerWithNumber s number = some e → (s.oft.entries.get e).state.bidding = true →
      s.dsc.status = .bidding → Completes (.award f) s fun t =>
        AwardTaken e .none s t ∧ t.dsc = { s.dsc with status := .assigned } ∧
        t.txq = { s.txq with frames := withoutNewest s.txq.frames fun g =>
          g.kind == .bid && g.hasOrigin (.offer e (s.oft.entries.get e).number) } ∧
        RaisesJudged [.offerResult] s t ∧ OnlyHunting s t ∧
        Keeps [.dsc, .oft, .txq, .ale, .atc, .pins] s t ∧ OnlyLines s t) ∧
    (∀ e : Fin 8, offerWithNumber s number = some e →
      (s.oft.entries.get e).state ∈ [OfferState.open, .lost, .expired] →
      s.dsc.status = .available → s.emc.state = .quiet → HasRoom s → Completes (.award f) s fun t =>
        AwardTaken e (s.oft.entries.get e).bidFrame s t ∧ StatusBecomes .assigned .change s t ∧
        JoinedLive .status s t ∧ RaisesJudged [.status, .offerResult] s t ∧ OnlyHunting s t ∧
        Keeps [.dsc, .oft, .txq, .ale, .atc, .pins] s t ∧ OnlyLines s t) ∧
    (∀ (e : Fin 8) (reason : RefuseReason), offerWithNumber s number = some e →
      let state := (s.oft.entries.get e).state
      let honoured := s.dsc.status = .available ∧ s.emc.state = .quiet
      state ∈ [OfferState.withdrawn, .declined] ∨ (state ∈ [OfferState.open, .lost, .expired] ∧ ¬honoured) →
      reason = (if s.emc.state ≠ .quiet then .emergency
        else if s.dsc.status = .hired then .hired
        else if s.dsc.status = .bidding ∨ s.dsc.status = .assigned then .busy
        else if s.dsc.status = .onBreak ∨ s.dsc.status = .offDuty then .unavailable
        else if state = .declined then .declined else .withdrawn) →
      ((s.oft.entries.get e).refusePending = false → HasRoom s → Completes (.award f) s fun t =>
        t.oft.entries.get e = { s.oft.entries.get e with refusePending := true } ∧ OnlyOffer e s t ∧
        Joined (newFrame .refuse [.offer e number] (.fixed (.refuse number reason))) s t ∧
        RaisesJudged [] s t ∧ OnlyHunting s t ∧ Keeps [.oft, .txq, .ale, .atc, .pins] s t ∧ OnlyLines s t) ∧
      ((s.oft.entries.get e).refusePending = true → Completes (.award f) s fun t =>
        OnlyHunting s t ∧ Keeps [.ale, .pins] s t ∧ OnlyLines s t)) ∧
    (∀ e : Fin 8, offerWithNumber s number = some e → (s.oft.entries.get e).state = .awarded →
      Completes (.award f) s fun t => OnlyHunting s t ∧ Keeps [.ale, .pins] s t ∧ OnlyLines s t) ∧
    (offerWithNumber s number = none → HasRoom s → Completes (.award f) s fun t =>
      let reason := if s.emc.state = .quiet then RefuseReason.noOffer else .emergency
      Joined (newFrame .refuse [.refusals] (.fixed (.refuse number reason))) s t ∧ OnlyHunting s t ∧
      Keeps [.txq, .ale, .pins] s t ∧ OnlyLines s t)

/-! The message store. -/

/-- A TEXT frame is judged (R93 to R99). A number of 0 or an unknown class or part code counts a format error. A new
message, whole in its frame or a first part, goes as NEW into the lowest-numbered EMPTY entry, or replaces the victim of
R95, whose blocks are freed first; its text takes the first free blocks that R89 grants, a PRIORITY or EMERGENCY text cut
to them; the entry joins the store order and the channel of its class is set (R96). A second part is appended to the entry
that awaits it (R97). With no entry, no blocks or no first part the frame is refused (R98). A duplicate changes nothing
(R94). An individually addressed frame gets a RECEIPT: STORED once its message is whole and for a repeat of it, FULL for
a refusal (R94, R96 to R99). -/
def Obligations.TextIsStored : Prop :=
  (∀ (s : State) (f : RxFrame) (how : Addressing), Accepted 0x20 f how s →
    let x := parseText f.body
    (x.number = 0 ∨ x.cls = none ∨ x.part = none) → Completes (.text f) s fun t =>
      t.ale = { s.ale with
        receiver := .hunting, window := none, formatErrors := min 65535 (s.ale.formatErrors + 1) } ∧
      Keeps [.ale, .pins] s t ∧ OnlyLines s t) ∧
  (∀ (s : State) (f : RxFrame) (how : Addressing) (c : MessageClass) (p : PartCode), s.mem.Wf →
    Accepted 0x20 f how s →
    let x := parseText f.body
    x.cls = some c → x.part = some p → x.number ≠ 0 → HasRoom s →
    let n := (x.text.length + 29) / 30
    let refused := fun t : State =>
      t.mst = { s.mst with refused := min 65535 (s.mst.refused + 1) } ∧
      ReceiptSent how x.number x.sender false false s t ∧ OnlyHunting s t ∧ Keeps [.mst, .ale, .txq, .pins] s t ∧
      OnlyLines s t
    let stored := fun (c : MessageClass) (free granted : Nat) (t : State) =>
      RaisesJudged ((if c = .routine then Channel.message else .messagePriority) :: grantChannels s free granted) s t ∧
      OnlyHunting s t ∧ Keeps [.mem, .mst, .ale, .txq, .atc, .pins] s t ∧ OnlyLines s t
    (p ≠ .second → matchingMessage s x.number x.sender = none →
      (NoEntryFor c s → Completes (.text f) s refused) ∧
      (∀ (i : Fin 24) (victim : Bool), (if victim = true then IsVictim c i s else IsLowestEmpty i s) →
        let old := s.mst.inbox.get i
        let freed := if victim = true then old.blockCount else 0
        let free := s.mst.freeCount + freed
        let byte := freedByte s old.firstBlock freed
        let head := freedHead s old.firstBlock freed
        (GrantRefused c n free s → Completes (.text f) s refused) ∧
        (∀ granted, GrantIs c n free granted s →
          let blocks := chainFrom byte head granted
          let cut := decide (granted < n)
          let text := x.text.take (30 * granted)
          let whole := p = .only ∨ cut = true
          blocks.Nodup → (1 ≤ granted → head < 224) → (1 ≤ freed → old.firstBlock < 224) →
          Completes (.text f) s fun t =>
            t.mst = { s.mst with
              inbox := s.mst.inbox.set i.val
                { state := .new, cls := c, broadcast := how != .individual, truncated := cut,
                  awaiting := p == .first && !cut, number := x.number, sender := x.sender, timeStored := s.frc.clock,
                  length := text.length, firstBlock := blocks.headD 255, blockCount := granted } i.isLt,
              storeOrder :=
                (if victim = true then s.mst.storeOrder.filter fun y => y != i else s.mst.storeOrder) ++ [i],
              freeHead := headAfter blocks byte head, freeCount := free - granted,
              lostUnread := if victim = true ∧ old.state = .new then min 65535 (s.mst.lostUnread + 1)
                else s.mst.lostUnread } ∧
            ChainFilled blocks text byte t ∧ (whole → ReceiptSent how x.number x.sender true cut s t) ∧
            (¬whole → t.txq = s.txq) ∧ stored c free granted t))) ∧
    (p = .second → matchingMessage s x.number x.sender = none → Completes (.text f) s refused) ∧
    (∀ i, matchingMessage s x.number x.sender = some i →
      let e := s.mst.inbox.get i
      let own := chainBlocks s.mem e.firstBlock e.blockCount
      (e.awaiting = false → Completes (.text f) s fun t =>
        ReceiptSent how x.number x.sender true e.truncated s t ∧ OnlyHunting s t ∧ Keeps [.ale, .txq, .pins] s t ∧
        OnlyLines s t) ∧
      (e.awaiting = true → p ≠ .second → Completes (.text f) s fun t =>
        OnlyHunting s t ∧ Keeps [.ale, .pins] s t ∧ OnlyLines s t) ∧
      (e.awaiting = true → p = .second → GrantRefused e.cls n s.mst.freeCount s → Completes (.text f) s refused) ∧
      (∀ granted, e.awaiting = true → p = .second → GrantIs e.cls n s.mst.freeCount granted s →
        let blocks := chainFrom s.mem.read s.mst.freeHead granted
        let cut := e.truncated || decide (granted < n)
        let text := x.text.take (30 * granted)
        (own ++ blocks).Nodup → (1 ≤ granted → s.mst.freeHead < 224) → (1 ≤ e.blockCount → e.firstBlock < 224) →
        Completes (.text f) s fun t =>
          t.mst = { s.mst with
            inbox := s.mst.inbox.set i.val
              { e with
                firstBlock := if e.blockCount = 0 then blocks.headD 255 else e.firstBlock,
                length := e.length + text.length, blockCount := e.blockCount + granted, truncated := cut,
                awaiting := false, state := if e.state = .read then .new else e.state } i.isLt,
            freeHead := headAfter blocks s.mem.read s.mst.freeHead, freeCount := s.mst.freeCount - granted } ∧
          ChainFilled blocks text (fun a =>
            if 1 ≤ e.blockCount ∧ 1 ≤ granted ∧ a = blockBase (own.getLastD 0) then byteOf (blocks.headD 0)
            else s.mem.read a) t ∧
          ReceiptSent how x.number x.sender true cut s t ∧ stored e.cls s.mst.freeCount granted t)))

/-- SEND_TEXT and REPLY in their ranges set the record TAKEN and queue a TEXT frame with a fixed body; a REPLY makes its NEW
or READ entry REPLYING (R100, R102). Out of range, SEND_TEXT is REFUSED_RANGE; a REPLY of an entry that is EMPTY,
REPLYING or REPLIED is REFUSED_STATE. That a REPLY's frame names its inbox entry before its record, and that a refused
REPLY carries answer word 0, are the model's readings (log entry 25). -/
def Obligations.TextIsSent : Prop :=
  ∀ (s : State) (r : Fin 16) (rest : List (Fin 16)), s.mem.Wf →
    let canned := param8 s r 10
    let text := s.mem.readBytes (recordBase r + 16) (param8 s r 11)
    let onlyHand := fun t : State => handField t r = 2#8 ∧
      (∀ a, a ≠ recordBase r → t.mem.read a = s.mem.read a) ∧ t.wpt.posted = rest ∧ OnlyList s t
    (HeadIs .sendText r rest s → paramN s r 8 2 ≠ 0 → canned ≤ 63 → param8 s r 11 ≤ 48 → HasRoom s →
      Completes .sendText s fun t =>
        Joined (newFrame .text [.record r] (.fixed (.text (paramN s r 8 2) 0 canned text))) s t ∧ onlyHand t ∧
        Keeps [.mem, .txq, .wpt, .pins] s t ∧ OnlyLines s t) ∧
    (HeadIs .sendText r rest s → (paramN s r 8 2 = 0 ∨ 63 < canned ∨ 48 < param8 s r 11) →
      Completes .sendText s fun t =>
        AnsweredPromptly r rest .refusedRange 0 s t ∧ OnlyList s t ∧ Raises [.request] s t ∧
        Keeps [.mem, .wpt, .atc, .pins] s t ∧ OnlyLines s t) ∧
    (∀ i : Fin 24, HeadIs .reply r rest s → param8 s r 8 = i.val → canned ≤ 63 → param8 s r 11 ≤ 48 →
      let e := s.mst.inbox.get i
      ((e.state = .new ∨ e.state = .read) → HasRoom s → Completes .reply s fun t =>
        Joined (newFrame .text [.inbox i, .record r] (.fixed (.text e.sender e.number canned text))) s t ∧
        t.mst.inbox.get i = { e with state := .replying } ∧ OnlyInbox i s t ∧ onlyHand t ∧ RaisesJudged [] s t ∧
        Keeps [.mem, .mst, .txq, .wpt, .atc, .pins] s t ∧ OnlyLines s t) ∧
      (e.state ≠ .new → e.state ≠ .read → Completes .reply s fun t =>
        AnsweredPromptly r rest .refusedState 0 s t ∧ OnlyList s t ∧ Raises [.request] s t ∧
        Keeps [.mem, .wpt, .atc, .pins] s t ∧ OnlyLines s t))

/-- An ask that finds 16 frames (R146). A TEXT frame displaces nothing: a SEND_TEXT is answered FAILED with detail QUEUE_FULL,
and so is a REPLY, whose inbox entry becomes READ (R102); its answer word is that entry's state code after the outcome (the
model's reading, log entry 25). A BID among WAITING frames of classes 0 and 1 alone fails at once: the entry is LOST
(NO_ACK), the status AVAILABLE again, and the request DONE with the code of LOST (R71, R76). In each case the queue stays. A
POLL_REPLY displaces the newest WAITING frame of the least urgent class, from class 2 on, and an EMERGENCY frame, asked for
by the update timer or by a press that raises a call, from class 1 on and stands at the head; the displaced frame's origins
hear DISPLACED (R41, R76, R101, R103, R156; of a trip record that becomes UNSENT a commit is asked, and of the shift report
state none, log entry 19). -/
def Obligations.FullQueueIsJudged : Prop :=
  (∀ (s : State) (r : Fin 16) (rest : List (Fin 16)), s.mem.Wf → s.txq.frames.length = 16 →
    let textGood := param8 s r 10 ≤ 63 ∧ param8 s r 11 ≤ 48
    let answered := fun (result : Result) (detail : Byte) (word : Nat) (t : State) =>
      Answered r result detail word t ∧ OnlyAnswerBytes r s t ∧ t.wpt.posted = rest ∧ OnlyList s t ∧ OnlyLines s t
    (HeadIs .sendText r rest s → paramN s r 8 2 ≠ 0 → textGood → Completes .sendText s fun t =>
      answered .failed 4#8 0 t ∧ Raises [.request] s t ∧ Keeps [.mem, .wpt, .atc, .pins] s t) ∧
    (∀ i : Fin 24, HeadIs .reply r rest s → param8 s r 8 = i.val → textGood →
      let e := s.mst.inbox.get i
      (e.state = .new ∨ e.state = .read) → Completes .reply s fun t =>
        t.mst.inbox.get i = { e with state := .read } ∧ OnlyInbox i s t ∧ answered .failed 4#8 2 t ∧
        RaisesJudged [.request] s t ∧ Keeps [.mem, .mst, .wpt, .atc, .pins] s t) ∧
    (∀ e : Fin 8, HeadIs .acceptOffer r rest s → s.emc.state = .quiet → param8 s r 8 = e.val →
      (s.oft.entries.get e).state = .open → (∀ x, (s.oft.entries.get x).state.bidding = false) →
      s.dsc.status = .available → s.ale.link ≠ .lost → (∀ g ∈ s.txq.frames, g.inFlight = true ∨ g.kind.cls ≤ 1) →
      Completes .acceptOffer s fun t =>
        t.oft.entries.get e = { s.oft.entries.get e with
          state := .lost, reason := .noAck, windowRemaining := 0, awardRemaining := 0, bidFrame := .none } ∧
        OnlyOffer e s t ∧ t.dsc = { s.dsc with queuePosition := 0 } ∧ answered .done 0#8 5 t ∧
        RaisesJudged [.offerResult, .request] s t ∧ Keeps [.mem, .dsc, .oft, .wpt, .atc, .pins] s t)) ∧
  (∀ (s : State) (v : Frame) (before after : List Frame), s.txq.frames.length = 16 →
    s.txq.frames = before ++ v :: after → v.inFlight = false → v.HasItsOrigins →
    (∀ g ∈ s.txq.frames, g.inFlight = false → g.kind.cls ≤ v.kind.cls) →
    (∀ g ∈ after, g.inFlight = true ∨ g.kind.cls < v.kind.cls) →
    (∀ (f : RxFrame) (how : Addressing), Accepted 0x30 f how s → kindWaiting s .pollReply = false → 2 ≤ v.kind.cls →
      Completes (.poll f) s fun t =>
        t.txq = { s.txq with frames := insertFrame (before ++ after) (newFrame .pollReply [.dispatch] .live) } ∧
        OutcomeHeard none v (.failed .displaced) s t ∧ t.dsc = { s.dsc with pollReference := f.body.getD 0 0#8 } ∧
        OnlyHunting s t ∧ Keeps ([.dsc, .txq, .ale, .pins] ++ v.heardIn) s t ∧ OnlyLines s t) ∧
    (NoEmergencyFrame s →
      let displaced := { s.txq with frames := newFrame .emergency [.emergency] .live :: (before ++ after) }
      (∀ n : Nat, s.emc.updateTimer = some n → Completes .updateTimerExpiry s fun t =>
        t.txq = displaced ∧ t.emc = { s.emc with updateTimer := some (clamp 10 300 (setting16 s 0x0C)) } ∧
        OutcomeHeard none v (.failed .displaced) s t ∧ Keeps ([.emc, .txq, .pins] ++ v.heardIn) s t ∧ OnlyLines s t) ∧
      (∀ r : Fin 16, v.origins = [{ origin := .record r, detached := false }] → TextInWork r 0x30#8 s →
        3 ≤ s.phase.stagesEnded → s.emc.state = .quiet → s.emc.alarmReleased = true →
        (∀ x, (s.oft.entries.get x).state ≠ .open ∧ (s.oft.entries.get x).state.bidding = false) →
        let high := settingFlag s 0x12
        Completes (.alarmPress high) s fun t =>
          t.txq = displaced ∧ t.emc = { s.emc with
            state := .alerting, count := min 65535 (s.emc.count + 1), presses := 1,
            code := min (setting16 s 4) 9999, alarmReleased := false } ∧
          TextAnswered r (.failed .displaced) 0 s t ∧ AsksCommit s t ∧ RaisesJudged [.emergency, .request] s t ∧
          Keeps [.mem, .emc, .txq, .atc, .cps, .pins] s t ∧ SamplesAlarm high s t)))

/-- MARK_READ makes a NEW entry READ and is REFUSED_STATE in any other state (R104). DELETE_MSG empties a NEW, READ or
REPLIED entry, which leaves the store order, and its blocks head the free chain, the last of them linked to the old head
and each used count 0 (R88, R105); it is BUSY while the entry is REPLYING and REFUSED_STATE when it is EMPTY (R105). The
answer word holds the entry's state code. -/
def Obligations.MessageIsReadAndDeleted : Prop :=
  ∀ (s : State) (r : Fin 16) (rest : List (Fin 16)) (i : Fin 24), s.mem.Wf → param8 s r 8 = i.val →
    let e := s.mst.inbox.get i
    (HeadIs .markRead r rest s → e.state = .new → Completes .markRead s fun t =>
      t.mst.inbox.get i = { e with state := .read } ∧ OnlyInbox i s t ∧ AnsweredPromptly r rest .done 2 s t ∧
      OnlyList s t ∧ RaisesJudged [.request] s t ∧ Keeps [.mem, .mst, .wpt, .atc, .pins] s t ∧ OnlyLines s t) ∧
    (HeadIs .markRead r rest s → e.state ≠ .new → Completes .markRead s fun t =>
      AnsweredPromptly r rest .refusedState e.state.code s t ∧ OnlyList s t ∧ Raises [.request] s t ∧
      Keeps [.mem, .wpt, .atc, .pins] s t ∧ OnlyLines s t) ∧
    (HeadIs .deleteMsg r rest s → e.state ∈ [InboxState.new, .read, .replied] →
      (1 ≤ e.blockCount → e.firstBlock < 224) → Completes .deleteMsg s fun t =>
        t.mst = { s.mst with
          inbox := s.mst.inbox.set i.val InboxEntry.empty i.isLt,
          storeOrder := s.mst.storeOrder.filter fun x => x != i,
          freeHead := freedHead s e.firstBlock e.blockCount, freeCount := s.mst.freeCount + e.blockCount } ∧
        Answered r .done 0#8 0 t ∧ t.wpt.posted = rest ∧ OnlyList s t ∧ RaisesJudged [.request] s t ∧
        (∀ a, ¬IsAnswerByte r a → t.mem.read a = freedByte s e.firstBlock e.blockCount a) ∧
        Keeps [.mem, .mst, .wpt, .atc, .pins] s t ∧ OnlyLines s t) ∧
    (HeadIs .deleteMsg r rest s → (e.state = .empty ∨ e.state = .replying) → Completes .deleteMsg s fun t =>
      AnsweredPromptly r rest (if e.state = .replying then .busy else .refusedState) e.state.code s t ∧
      OnlyList s t ∧ Raises [.request] s t ∧ Keeps [.mem, .wpt, .atc, .pins] s t ∧ OnlyLines s t)

/-! The emergency controller. -/

/-- A press, by the ALARM line or an EMERGENCY_RAISE, taken while QUIET raises a call: the emergency count rises, the press
count is 1, the cancel code is latched, the state is ALERTING, an EMERGENCY frame is asked for, every OPEN offer is
WITHDRAWN, and so is the bid, which is settled with a REFUSE if it was transmitted while the status leaves BIDDING (R74,
R84, R107 to R110; of two BID frames the newest is removed, log entry 40, and an acknowledged bid sends no REFUSE, log
entry 21). A press in ALERTING stops the update timer, one in ACKED restarts it; both count and ask for the frame (R111). The
frame joins the queue, takes a WAITING cancel's place, is stood for by one WAITING, or is owed while one is in flight
(R112). The ALARM line is judged against the alarm active level as it stands, 0 LOW and any other value HIGH: 0.5 s at its
active level are a press where the line has been released since the last press of it, and otherwise nothing; 0.5 s at the
other level release it; and before the end of start-up stage 3 the line is not sampled (R108; that ALARM_PRESS carries the
level which the line has held for 0.5 s is the model's choice, log entry 46). -/
def Obligations.PressRaisesACall : Prop :=
  (∀ s : State, (NoEmergencyFrame s → HasRoom s) →
    let emc := match s.emc.state with
      | .quiet => { s.emc with
          state := .alerting, count := min 65535 (s.emc.count + 1), presses := 1, code := min (setting16 s 4) 9999 }
      | .alerting => { s.emc with presses := min 255 (s.emc.presses + 1), updateTimer := none }
      | .acked => { s.emc with presses := min 255 (s.emc.presses + 1), updateTimer := some (updateInterval s) }
      | .cancelling => { s.emc with presses := min 255 (s.emc.presses + 1), state := .alerting }
    let enters := s.emc.state = .quiet ∨ s.emc.state = .cancelling
    let idle := ∀ e, (s.oft.entries.get e).state.bidding = false
    let bidder := fun e : Fin 8 => s.dsc.status = .bidding ∧ s.txq.frames.length ≤ 14 ∧
      (s.oft.entries.get e).state.bidding = true ∧ ∀ x, x ≠ e → (s.oft.entries.get x).state.bidding = false
    let asked := { s.txq with frames := framesAfterAsk .alert s }
    let offers := { s.oft with entries := openWithdrawn s }
    let effect := fun (released : Bool) (t : State) =>
      t.emc = { emc with owed := owedAfterAsk .alert s, alarmReleased := released } ∧
      (enters → AsksCommit s t ∧
        (idle → t.txq = asked ∧ t.oft = offers ∧ t.dsc = s.dsc) ∧
        ∀ e, bidder e → BidGivenUp e .emergency .emergency { s with oft := offers, txq := asked } t ∧
          t.dsc = { s.dsc with status := .available }) ∧
      (¬enters → t.cps = s.cps ∧ t.oft = s.oft ∧ t.dsc = s.dsc ∧ t.txq = asked)
    let channels := if idle ∧ offerOpen s = false then [Channel.emergency] else [Channel.emergency, .offerResult]
    (¬enters ∨ idle ∨ ∃ e, bidder e) →
    (∀ high : Bool, 3 ≤ s.phase.stagesEnded → high = settingFlag s 0x12 → s.emc.alarmReleased = true →
      Completes (.alarmPress high) s fun t =>
        effect false t ∧ (enters → RaisesJudged channels s t) ∧ (¬enters → t.atc = s.atc) ∧
        Keeps [.dsc, .emc, .oft, .txq, .atc, .cps, .pins] s t ∧ SamplesAlarm high s t) ∧
    (∀ (r : Fin 16) (rest : List (Fin 16)), s.mem.Wf → HeadIs .emergencyRaise r rest s →
      Completes .emergencyRaise s fun t =>
        effect s.emc.alarmReleased t ∧ (enters → RaisesJudged (.request :: channels) s t) ∧ (¬enters → Raises [.request] s t) ∧
        AnsweredPromptly r rest .done (if s.emc.state = .acked then 2 else 1) s t ∧ OnlyList s t ∧
        Keeps [.mem, .dsc, .emc, .oft, .txq, .wpt, .atc, .cps, .pins] s t ∧ OnlyLines s t)) ∧
  (∀ (s : State) (high : Bool),
    (s.phase.stagesEnded < 3 → Completes (.alarmPress high) s fun t => Keeps [.pins] s t ∧ OnlyLines s t) ∧
    (3 ≤ s.phase.stagesEnded → high = settingFlag s 0x12 → s.emc.alarmReleased = false →
      Completes (.alarmPress high) s fun t => Keeps [.pins] s t ∧ SamplesAlarm high s t) ∧
    (3 ≤ s.phase.stagesEnded → high ≠ settingFlag s 0x12 → Completes (.alarmPress high) s fun t =>
      t.emc = { s.emc with alarmReleased := true } ∧ Keeps [.emc, .pins] s t ∧ SamplesAlarm high s t))

/-- EMERGENCY_CANCEL is judged in the order of R118: REFUSED_STATE in QUIET or CANCELLING; REFUSED_LOCKED at three wrong
codes; with the code in force the call goes to CANCELLING and an EMERGENCY_CANCEL frame is asked for (R119); any other
code raises the wrong-code count, and the third sets the duress flag and asks for an alert (R120). The frame asked for
joins the queue, takes the place of one of the other kind WAITING, is stood for by one of its own, or is owed while one is
in flight (R112). -/
def Obligations.CancelIsJudged : Prop :=
  ∀ (s : State) (r : Fin 16) (rest : List (Fin 16)), s.mem.Wf → HeadIs .emergencyCancel r rest s →
    let code := paramN s r 8 2
    let called := s.emc.state = .alerting ∨ s.emc.state = .acked
    let count := s.emc.wrongCodes
    let changed := [Part.mem, .emc, .txq, .wpt, .atc, .cps, .pins]
    let room := NoEmergencyFrame s → HasRoom s
    (¬called → Completes .emergencyCancel s fun t =>
      AnsweredPromptly r rest .refusedState 0 s t ∧ OnlyList s t ∧ Raises [.request] s t ∧
      Keeps [.mem, .wpt, .atc, .pins] s t ∧ OnlyLines s t) ∧
    (called → 3 ≤ count → Completes .emergencyCancel s fun t =>
      AnsweredPromptly r rest .refusedLocked count s t ∧ OnlyList s t ∧ Raises [.request] s t ∧
      Keeps [.mem, .wpt, .atc, .pins] s t ∧ OnlyLines s t) ∧
    (called → count < 3 → code = s.emc.code → room → Completes .emergencyCancel s fun t =>
      t.emc = { s.emc with state := .cancelling, updateTimer := none, owed := owedAfterAsk .cancel s } ∧
      t.txq = { s.txq with frames := framesAfterAsk .cancel s } ∧
      AsksCommit s t ∧ AnsweredPromptly r rest .done count s t ∧ OnlyList s t ∧
      RaisesJudged [.emergency, .request] s t ∧ Keeps changed s t ∧ OnlyLines s t) ∧
    (called → count < 2 → code ≠ s.emc.code → Completes .emergencyCancel s fun t =>
      t.emc = { s.emc with wrongCodes := count + 1 } ∧ AnsweredPromptly r rest .wrongCode (count + 1) s t ∧
      OnlyList s t ∧ Raises [.request] s t ∧ Keeps [.mem, .emc, .wpt, .atc, .pins] s t ∧ OnlyLines s t) ∧
    (called → count = 2 → code ≠ s.emc.code → room → Completes .emergencyCancel s fun t =>
      t.emc = { s.emc with wrongCodes := 3, duress := true, owed := owedAfterAsk .alert s } ∧
      t.txq = { s.txq with frames := framesAfterAsk .alert s } ∧ AnsweredPromptly r rest .wrongCode 3 s t ∧
      OnlyList s t ∧ Raises [.request] s t ∧ Keeps [.mem, .emc, .txq, .wpt, .atc, .pins] s t ∧ OnlyLines s t)

/-- An expiry of the update timer asks for an EMERGENCY frame and restarts the timer (R117); where a frame is in flight the
alert is owed (R112). An EMERGENCY_ACK to this cab takes ALERTING to ACKED and starts the timer (R116); an EMERGENCY_CLEAR
ends the call from any state (R121). Both remove a WAITING frame: of kind EMERGENCY, or of class 0. An EMERGENCY_ACK in any
other state, an EMERGENCY_CLEAR in QUIET, and either to another address than the cab's own, change nothing but the receiver
(R116, R121). -/
def Obligations.CallIsUpdatedAndEnded : Prop :=
  (∀ (s : State) (n : Nat), s.emc.updateTimer = some n →
    let interval := clamp 10 300 (setting16 s 0x0C)
    (NoEmergencyFrame s → HasRoom s → Completes .updateTimerExpiry s fun t =>
      t.emc = { s.emc with updateTimer := some interval } ∧ Joined (newFrame .emergency [.emergency] .live) s t ∧
      Keeps [.emc, .txq, .pins] s t ∧ OnlyLines s t) ∧
    (∀ f, s.txq.frames.find? (fun g => g.cls == 0) = some f → Completes .updateTimerExpiry s fun t =>
      (f.inFlight = true → t.emc = { s.emc with updateTimer := some interval, owed := some .alert } ∧ t.txq = s.txq) ∧
      (f.inFlight = false → f.kind = .emergency →
        t.emc = { s.emc with updateTimer := some interval } ∧ t.txq = s.txq) ∧
      Keeps [.emc, .txq, .pins] s t ∧ OnlyLines s t)) ∧
  (∀ (s : State) (f : RxFrame), QueueLaw s → Accepted 0x40 f .individual s → s.emc.state = .alerting →
    Completes (.emergencyAck f) s fun t =>
      t.emc = { s.emc with
        state := .acked, owed := none, updateTimer := some (clamp 10 300 (setting16 s 0x0C)) } ∧
      t.txq = { s.txq with frames := s.txq.frames.filter fun g => !(g.kind == .emergency && !g.inFlight) } ∧
      AsksCommit s t ∧ RaisesJudged [.emergency] s t ∧ OnlyHunting s t ∧
      Keeps [.emc, .txq, .ale, .atc, .cps, .pins] s t ∧ OnlyLines s t) ∧
  (∀ (s : State) (f : RxFrame), QueueLaw s → Accepted 0x41 f .individual s → s.emc.state ≠ .quiet →
    Completes (.emergencyClear f) s fun t =>
      t.emc = { s.emc with state := .quiet, owed := none, updateTimer := none, wrongCodes := 0, duress := false } ∧
      t.txq = { s.txq with frames := s.txq.frames.filter fun g => !(g.cls == 0 && !g.inFlight) } ∧
      AsksCommit s t ∧ RaisesJudged [.emergency] s t ∧ OnlyHunting s t ∧
      Keeps [.emc, .txq, .ale, .atc, .cps, .pins] s t ∧ OnlyLines s t) ∧
  (∀ (s : State) (f : RxFrame) (how : Addressing),
    (Accepted 0x40 f how s → (how ≠ .individual ∨ s.emc.state ≠ .alerting) → Completes (.emergencyAck f) s fun t =>
      OnlyHunting s t ∧ Keeps [.ale, .pins] s t ∧ OnlyLines s t) ∧
    (Accepted 0x41 f how s → (how ≠ .individual ∨ s.emc.state = .quiet) → Completes (.emergencyClear f) s fun t =>
      OnlyHunting s t ∧ Keeps [.ale, .pins] s t ∧ OnlyLines s t))

/-! The air link. -/

/-- In HUNTING a window within the sync tolerance of the sync word starts COLLECTING, and any other is kept (R125). In
COLLECTING a length over 120 counts a format error, a frame that fails a check of R128 counts as its first failure says,
and an abandoned frame counts nothing (R126); after each the receiver hunts. That the commands of a frame act in
COLLECTING alone is the model's reading (log entry 14). The CRC of "123456789" is 0x29B1 (R127). -/
def Obligations.ReceiverJudgesFrames : Prop :=
  (∀ (s : State) (bits : BitVec 24), s.ale.receiver = .hunting →
    let differing := (List.range 24).countP fun i => (bits ^^^ 0xB4E61D#24).getLsbD i
    Completes (.syncFound bits) s fun t =>
      t.ale = { s.ale with
        receiver := if differing ≤ min (setting s 0x11) 1 then .collecting else .hunting,
        window := if differing ≤ min (setting s 0x11) 1 then none else some bits } ∧
      Keeps [.ale, .pins] s t ∧ OnlyLines s t) ∧
  (∀ (s : State) (n : Byte), s.ale.receiver = .collecting → 120 < n.toNat →
    Completes (.rxLengthFormatError n) s fun t =>
      t.ale = { s.ale with
        receiver := .hunting, window := none, formatErrors := min 65535 (s.ale.formatErrors + 1) } ∧
      Keeps [.ale, .pins] s t ∧ OnlyLines s t) ∧
  (∀ s : State, s.ale.receiver = .collecting → Completes .rxFrameAbandon s fun t =>
    OnlyHunting s t ∧ Keeps [.ale, .pins] s t ∧ OnlyLines s t) ∧
  (∀ (s : State) (kind : Byte) (f : RxFrame), s.ale.receiver = .collecting → f.body.length ≤ 120 →
    let crcGood := crc16 (frameBytes kind.toNat f) = f.crc
    let ours := f.fleet.toNat = fleetId s
    let known := fixedFields kind.toNat ≠ none
    let addressed := addressing s f.address.toNat ≠ none
    let passes := bodyPasses kind.toNat f.body = true
    ¬(crcGood ∧ ours ∧ known ∧ addressed ∧ passes) → Completes (.rxFrameDropped kind f) s fun t =>
      (¬crcGood → t.ale = { s.ale with
        receiver := .hunting, window := none, crcErrors := min 65535 (s.ale.crcErrors + 1) }) ∧
      (crcGood → (¬ours ∨ (known ∧ ¬addressed)) → OnlyHunting s t) ∧
      (crcGood → ours → (¬known ∨ (addressed ∧ ¬passes)) → t.ale = { s.ale with
        receiver := .hunting, window := none, formatErrors := min 65535 (s.ale.formatErrors + 1) }) ∧
      Keeps [.ale, .pins] s t ∧ OnlyLines s t) ∧
  (∀ s : State, s.ale.receiver ≠ .collecting → ∀ (n : Byte) (kind : Byte) (f : RxFrame) (c : Instr),
    c ∈ [Instr.rxLengthFormatError n, .rxFrameAbandon, .rxFrameDropped kind f] →
    Completes c s fun t => Keeps [.pins] s t ∧ OnlyLines s t) ∧
  crc16 [0x31#8, 0x32#8, 0x33#8, 0x34#8, 0x35#8, 0x36#8, 0x37#8, 0x38#8, 0x39#8] = 0x29B1#16

/-- A valid CYCLE that finds the queue empty steps the random register, starts the watch afresh, brings the link UP, stores
the cycle number and drops the assignments; each ack entry for this cab is stray (R133, R138, R142, R151). With
MODEM_READY low AIR/MODEM_NOT_READY is recorded with detail 0 (R137). A change to UP queues the UNSENT trips again, the
oldest first and at most 16, while trip reporting is set, and then the UNSENT last shift (R42); the first one also sets
the held reason STARTUP and queues a STATUS frame unless OFF_DUTY (R54). That the change of the shift report state asks no
commit is a reading (log entry 19). -/
def Obligations.CycleTakesTheWatch : Prop :=
  ∀ (s : State) (f : RxFrame) (how : Addressing), Accepted 0x01 f how s → s.txq.frames = [] →
    s.txq.stray ≤ 65535 →
    let c := parseCycle f.body
    let strays := if addressGood s = true then min 65535 (s.txq.stray + acksFor c s) else s.txq.stray
    let effect := fun (ready : Bool) (t : State) =>
      CycleTaken c s t ∧ PinsAre s.pins.key s.pins.txd ready s t ∧ t.txq = { s.txq with stray := strays } ∧
      Keeps [.txq, .ale, .atc, .pins] s t
    let settled := s.dsc.upSeen = true ∧ s.mtc.totals.reportState ≠ .unsent ∧
      ∀ e, (s.mtc.tripLog.get e).sendState ≠ .unsent
    (s.ale.link = .up → ∀ ready, Completes (.cycleFrame f ready) s fun t =>
      effect ready t ∧ (ready = true → t.atc = s.atc) ∧ (ready = false → Records .modemNotReady 0 [] s t)) ∧
    (s.ale.link ≠ .up → settled → Completes (.cycleFrame f true) s fun t =>
      effect true t ∧ RaisesJudged [.link] s t) ∧
    (let waiting := if tripReporting s = true
      then s.mtc.ageOrder.filter fun e => (s.mtc.tripLog.get e).sendState == .unsent else []
    let trips := waiting.take 16
    let shift := s.mtc.totals.reportState = .unsent ∧ trips.length < 16
    let greets := s.dsc.upSeen = false ∧ s.dsc.status ≠ .offDuty
    let g := s.mtc.totals
    let statusFrame := newFrame .status [.dispatch] .live
    let shiftFrame := newFrame .shift [.lastShift]
      (.fixed (.shift g.lastDriver g.lastOpenTime g.lastCloseTime g.last))
    s.ale.link ≠ .up → NoSlot c s → s.mtc.ageOrder.Nodup →
    (greets → waiting.length + (if g.reportState = .unsent then 1 else 0) < 16) →
    Completes (.cycleFrame f true) s fun t =>
      CycleTaken c s t ∧ PinsAre s.pins.key s.pins.txd true s t ∧ RaisesJudged [.link] s t ∧
      t.txq = { s.txq with
        stray := strays,
        frames := (if greets then [statusFrame] else []) ++
          trips.map (fun e => newFrame .trip [.trip e] .fromTripRecord) ++ (if shift then [shiftFrame] else []) } ∧
      t.dsc = { s.dsc with
        upSeen := true, heldReason := if s.dsc.upSeen = true then s.dsc.heldReason else .startup } ∧
      t.mtc = { s.mtc with
        tripLog := t.mtc.tripLog, totals := { g with reportState := if shift then .queued else g.reportState } } ∧
      (∀ e, t.mtc.tripLog.get e =
        if e ∈ trips then { s.mtc.tripLog.get e with sendState := .queued } else s.mtc.tripLog.get e) ∧
      (trips ≠ [] → AsksCommit s t) ∧ (trips = [] → t.cps = s.cps) ∧
      Keeps [.mtc, .dsc, .txq, .ale, .atc, .cps, .pins] s t)

/-- What a CYCLE does with the queue, while the link is UP or where it comes UP with no report due. First the frames IN_FLIGHT are
settled: at most one of class 0, `x`, and one of the other classes, `y`; any besides are unanswered. With its window open and
an ack entry for this cab that names its sequence a frame is DELIVERED; every other entry for this cab is stray, and one for
another cab does nothing (R133, R151). With its window closed the attempt has failed: below the limit the frame waits with a
random backoff, or leaves for a WAITING frame of its live kind, at the limit it leaves with NO_ACK (R152), and without a hearer
it leaves (R147). Each outcome reaches the frame's origins (R41, R42, R76, R101, R103, R156). An alert delivered in ALERTING
starts the update timer, a cancel in CANCELLING ends the call (R115, R121); an alert in ALERTING waits without limit and
backoff (R114), a cancel in CANCELLING is asked afresh, and what was owed is queued (R112, R115). Every other WAITING frame's
backoff counts down (R151). Then the queue that is left sends: the WAITING class 0 frame has the first claim, and then the head
of the other classes, unless a frame of theirs is IN_FLIGHT or class 0 has taken the send; each goes out in the slot of R148
or R149 with its sequence, the next free one at its first hand-over (R134, R141, R150), where a BID's entry becomes BID_SENT
(R75). With MODEM_READY low nothing is sent, and AIR/MODEM_NOT_READY is recorded last (R133, R137). While the cab address is
bad the queue stands still (R131, R151). Readings and choices of the model: class 0 takes its sequence first (log entry 22), an
older backoff is not read in ALERTING (log entry 18), a cancel owed or asked afresh carries the clock of that moment (log
entry 42), the shift report state's change asks no commit (log entry 19), and a reply names its inbox entry first, its answer
word that entry's state after the outcome (log entry 25). -/
def Obligations.CycleSendsAndSettles : Prop :=
  (∀ (s : State) (f : RxFrame) (how : Addressing), Accepted 0x01 f how s → s.ale.link = .up → addressGood s = false →
    ∀ ready, Completes (.cycleFrame f ready) s fun t =>
      CycleTaken (parseCycle f.body) s t ∧ PinsAre s.pins.key s.pins.txd ready s t ∧ (ready = true → t.atc = s.atc) ∧
      (ready = false → Records .modemNotReady 0 [] s t) ∧ Keeps [.ale, .atc, .pins] s t) ∧
  ∀ (s : State) (f : RxFrame) (how : Addressing), Accepted 0x01 f how s → addressGood s = true → s.txq.stray ≤ 65535 →
    (s.ale.link ≠ .up → s.dsc.upSeen = true ∧ s.mtc.totals.reportState ≠ .unsent ∧
      ∀ e, (s.mtc.tripLog.get e).sendState ≠ .unsent) →
    let c := parseCycle f.body
    ∀ (x y : Option Frame) (before after : List Frame) (r : Word16),
      s.txq.frames = x.toList ++ before ++ y.toList ++ after → RandomNext s.ale.rng r →
      (∀ g ∈ x, g.inFlight = true ∧ g.kind.cls = 0 ∧ g.origins = [{ origin := .emergency, detached := false }] ∧
        s.txq.frames.length ≤ 16 ∧ ∀ h ∈ before ++ y.toList ++ after, h.kind.cls ≠ 0) →
      (∀ g ∈ y, g.inFlight = true ∧ g.HasItsOrigins) →
      (∀ g ∈ x.toList ++ y.toList, ∃ q ≤ 15, g.sequence = some q) →
      (x = none ∨ x.bind Frame.sequence ≠ y.bind Frame.sequence) →
      (∀ g ∈ before ++ after, g.inFlight = true → attemptFate c s g = .unanswered ∧
        ∀ h ∈ x.toList ++ y.toList, g.sequence ≠ h.sequence) →
      let left := x.toList.flatMap (leftOfCall c s r) ++ before.map passedOver ++ y.toList.flatMap (leftOfOther c s r) ++
        after.map passedOver
      let ended := x.any (callEnds c s)
      let outcome := y.bind fun g => (outcomeAt c s g).map fun o => (g, o)
      let heard := (x.toList ++ y.toList).countP fun g => attemptFate c s g == .acknowledged
      let channels := (if s.ale.link = .up then [] else [Channel.link]) ++ if ended = true then [.emergency] else []
      let beside := if channels = [] then none else some channels
      let parts : List Part := [.txq, .ale, .pins] ++ (if x = none then [] else [.emc]) ++
        (if channels = [] then [] else [.atc]) ++ (if ended = true then [.cps] else []) ++
        outcome.toList.flatMap fun o => o.1.heardIn
      let effect := fun (u : State) (beside : Option (List Channel)) (frames : List Frame) (assignments : List Assignment)
          (sequence : Nat) (t : State) =>
        t.txq = { s.txq with frames := frames, stray := straysAfter c s heard } ∧
        t.ale = { s.ale with
          receiver := .hunting, window := none, link := .up, rng := r, fadeExpiry := some (3 * cyclePeriod s),
          lossExpiry := some (10 * cyclePeriod s), lastCycle := c.number, cycleHeard := true,
          assignments := assignments, sequence := sequence } ∧
        (∀ g ∈ x, t.emc = emcAfterCycle c s g) ∧ (ended = true → AsksCommit s t) ∧
        (outcome = none → HeardAs beside false s.atc [] u t) ∧ (∀ o ∈ outcome, OutcomeHeard beside o.1 o.2 u t)
      (Completes (.cycleFrame f false) s fun t =>
        (∃ u, effect s beside left [] s.ale.sequence u ∧ Keeps parts s u ∧ Records .modemNotReady 0 [] u t ∧
          Keeps [.atc, .pins] u t) ∧ PinsAre s.pins.key s.pins.txd false s t) ∧
      ∀ (first head : Option Frame) (flying rest : List Frame),
        left = first.toList ++ flying ++ head.toList ++ rest →
        (∀ g ∈ first, g.inFlight = false ∧ g.kind.cls = 0) → (∀ g ∈ head, g.inFlight = false ∧ g.kind.cls ≠ 0) →
        (∀ g ∈ flying, g.inFlight = true) → (∀ g ∈ rest, g.inFlight = true ∨ g.kind.cls ≠ 0) →
        (head = none → rest = []) →
        let slot := first.bind fun g => firstSlot c s g r
        let slot' := if headHeldBack left = true ∨ (slot ≠ none ∧ c.priority = false) then none
          else head.bind fun g => otherSlot c s g r
        let q := (first.map (sequenceTaken left s.ale.sequence)).getD 0
        let counter := if slot ≠ none ∧ first.bind Frame.sequence = none then (q + 1) % 16 else s.ale.sequence
        let led := first.toList.map (handed c slot q) ++ flying
        let p := (head.map (sequenceTaken (led ++ head.toList ++ rest) counter)).getD 0
        let sends := fun (u : State) (beside : Option (List Channel)) (t : State) =>
          effect u beside (led ++ head.toList.map (handed c slot' p) ++ rest) (assigned s slot q ++ assigned s slot' p)
            (if slot' ≠ none ∧ head.bind Frame.sequence = none then (p + 1) % 16 else counter) t ∧
          PinsAre s.pins.key s.pins.txd true s t
        ((slot' = none ∨ ∀ g ∈ head, g.kind ≠ .bid ∨ g.sequence ≠ none) → Completes (.cycleFrame f true) s fun t =>
          sends s beside t ∧ Keeps parts s t) ∧
        (∀ (g : Frame) (e : Fin 8) (n : Nat), slot' ≠ none → head = some g → g.kind = .bid → g.sequence = none →
          g.origins = [{ origin := .offer e n, detached := false }] → (s.oft.entries.get e).state = .bidQueued →
          (s.oft.entries.get e).number = n →
          (∀ o ∈ outcome, o.1.kind = .bid → ∀ l ∈ o.1.origins, ∀ m, l.origin ≠ .offer e m) →
          Completes (.cycleFrame f true) s fun t =>
            sends (bidSent e s) (some channels) t ∧ Keeps (.atc :: parts) (bidSent e s) t)

/-- A slot with an assignment begins (R135): the frame is transmitted with the body the queue supplies (R150), fixed, live
of the state at that moment (R54, R56, R60, R113; without a fix its heading, speed and time are free values, log entry 43)
or a trip record (R38); or, with MODEM_READY low, the assignment is dropped with AIR/MODEM_NOT_READY detail 3 (R136). With
the frame gone the slot is left unused, without a fault even where MODEM_READY is low (a reading, log entry 27); so it is
where a TRIP frame's entry has been detached (R147), and before READY, KEY being low (R185; log entry 37). A transmission
ends with its last bit, at a level of TXD that no rule gives (log entry 38), and is cut off, which leaves TXD low, when
MODEM_READY falls (detail 1) or TXC stalls (detail 2) (R136, R137). On the air go the preamble, the sync word and the frame
of R127, each byte most significant bit first and each number high byte first (R124, R125, R135, R141). That a number of the body
stands as whole bytes, no fewer than its range takes, and a negative one in two's complement, is the model's reading of
R124 (DEDUCED, log entry 7); its place and its size in the body are free (log entry 7). -/
def Obligations.SlotsAndTransmissions : Prop :=
  (∀ (s : State) (slot : Nat) (a : Assignment), s.ale.assignments.find? (fun b => b.slot == slot) = some a →
    let rest := s.ale.assignments.filter fun b => b.slot != slot
    let held := fun x : Frame => x.inFlight && x.sequence == some a.sequence
    let unused := fun (ready : Bool) (t : State) =>
      t.ale = { s.ale with assignments := rest } ∧ PinsAre s.pins.key s.pins.txd ready s t
    (∀ x : Frame, s.txq.frames.find? held = some x → (x.body = .fromTripRecord → x.origins.length ≤ 1) →
      s.phase = .ready → addressGood s = true → s.ale.transmission = none →
      (∀ body, bodyAtSlot s x = some body → Completes (.slotStart slot true) s fun t =>
        t.ale = { s.ale with
          assignments := rest,
          transmission := some
            { fleet := fleetId s, kind := x.kind, address := cabAddress s, sequence := a.sequence,
              more := s.txq.frames.any fun g => !g.inFlight, body := body } } ∧
        PinsAre true s.pins.txd true s t ∧ Keeps [.ale, .pins] s t) ∧
      (bodyAtSlot s x = none → Completes (.slotStart slot true) s fun t =>
        unused true t ∧ Keeps [.ale, .pins] s t)) ∧
    (∀ x : Frame, s.txq.frames.find? held = some x → s.phase ≠ .ready → Completes (.slotStart slot true) s fun t =>
      unused true t ∧ Keeps [.ale, .pins] s t) ∧
    (∀ x : Frame, s.txq.frames.find? held = some x → Completes (.slotStart slot false) s fun t =>
      unused false t ∧ Records .modemNotReady 3 [] s t ∧ Keeps [.ale, .atc, .pins] s t) ∧
    (∀ ready : Bool, s.txq.frames.find? held = none → Completes (.slotStart slot ready) s fun t =>
      unused ready t ∧ Keeps [.ale, .pins] s t)) ∧
  (∀ (s : State) (x : Transmission), s.ale.transmission = some x →
    (Completes .transmissionEnd s fun t =>
      t.ale = { s.ale with transmission := none } ∧ PinsAre false t.pins.txd s.pins.modemReady s t ∧
      Keeps [.ale, .pins] s t) ∧
    (Completes .modemReadyFall s fun t =>
      t.ale = { s.ale with transmission := none } ∧ Records .modemNotReady 1 [] s t ∧ PinsAre false false false s t ∧
      Keeps [.ale, .atc, .pins] s t) ∧
    (Completes .txcStall s fun t =>
      t.ale = { s.ale with transmission := none } ∧ Records .modemNotReady 2 [] s t ∧
      PinsAre false false s.pins.modemReady s t ∧ Keeps [.ale, .atc, .pins] s t)) ∧
  (∀ s : State, s.ale.transmission = none → Completes .modemReadyFall s fun t =>
    PinsAre s.pins.key s.pins.txd false s t ∧ Keeps [.pins] s t) ∧
  ∀ x : Transmission, OnTheAir x

/-- The fade expiry takes the link from UP to FADING and drops the assignments; the loss expiry takes it from FADING to
LOST (R138, R139). There the bidding entry becomes LOST with reason LINK, its bid is settled, and the status leaves
BIDDING (R85). The WAITING BID, REFUSE and POLL_REPLY frames leave the queue with reason LINK (R153): a BID or REFUSE
still known to its entry clears that entry's mark (R76), a POLL_REPLY or a REFUSE without an entry is AIR/FRAME_FAILED
with its kind code (R156). -/
def Obligations.LinkFadesAndIsLost : Prop :=
  (∀ (s : State) (n : Nat), s.ale.fadeExpiry = some n → s.ale.link = .up → Completes .fadeExpiry s fun t =>
    t.ale = { s.ale with fadeExpiry := none, link := .fading, assignments := [] } ∧ RaisesJudged [.link] s t ∧
    Keeps [.ale, .atc, .pins] s t ∧ OnlyLines s t) ∧
  (∀ (s : State) (n : Nat), s.ale.lossExpiry = some n → s.ale.link = .fading →
    let stale := fun f : Frame => !f.inFlight && (f.kind == .bid || f.kind == .refuse || f.kind == .pollReply)
    let lost := fun t : State => t.ale = { s.ale with lossExpiry := none, link := .lost } ∧ OnlyLines s t
    let purged := fun t : State => t.txq = { s.txq with frames := s.txq.frames.filter fun f => !stale f }
    let idle := ∀ e, (s.oft.entries.get e).state.bidding = false
    (idle → (∀ f ∈ s.txq.frames, stale f = true →
        f.kind = .pollReply ∧ f.origins = [{ origin := .dispatch, detached := false }]) →
      Completes .lossExpiry s fun t =>
        let failures := (s.txq.frames.filter stale).map fun f => f.kind.code
        purged t ∧ lost t ∧
        RaisesBeside (ringAfterFailures s failures) (if failures = [] then [.link] else [.link, .fault, .queue]) s t ∧
        Keeps [.txq, .ale, .atc, .pins] s t) ∧
    (∀ x, idle → s.txq.frames.filter stale = [x] → x.kind ≠ .pollReply →
      (∀ e number, x.origins = [{ origin := .offer e number, detached := false }] → Completes .lossExpiry s fun t =>
        let entry := s.oft.entries.get e
        let known := entry.state ≠ .empty ∧ entry.number = number
        purged t ∧ lost t ∧ OnlyOffer e s t ∧
        t.oft.entries.get e = (if ¬known then entry
          else if x.kind = .refuse then { entry with refusePending := false } else { entry with bidFrame := .none }) ∧
        RaisesJudged [.link] s t ∧ Keeps [.oft, .txq, .ale, .atc, .pins] s t) ∧
      (x.origins = [{ origin := .refusals, detached := false }] → Completes .lossExpiry s fun t =>
        purged t ∧ lost t ∧
        RaisesBeside (ringAfterFailures s [x.kind.code]) [.link, .fault, .queue] s t ∧
        Keeps [.txq, .ale, .atc, .pins] s t)) ∧
    (∀ e, (s.oft.entries.get e).state.bidding = true → BidLaw s →
      let entry := s.oft.entries.get e
      let own := fun f : Frame => f.kind == .bid && f.hasOrigin (.offer e entry.number)
      (∀ f ∈ s.txq.frames, stale f = true → own f = true) → s.txq.frames.countP own ≤ 1 →
      (entry.bidFrame = .none → s.txq.frames.countP own = 0) → Completes .lossExpiry s fun t =>
        BidEnded e .lost .link s t ∧ lost t ∧ RaisesJudged [.link, .offerResult] s t ∧
        Keeps [.dsc, .oft, .txq, .ale, .atc, .pins] s t))

/-- RADIO_RESTART, in every link state and emergency state, fails every frame with reason RESET, restarts the engine and is
answered DONE with the number of frames failed (R140, R154). Each origin hears its outcome by R156: a trip record and the
last shift become UNSENT; a reply's inbox entry READ; an entry still holding the offer number loses the mark of its REFUSE
or BID frame, and a bid becomes LOST with reason LINK and leaves BIDDING (R76); a text request is answered FAILED with
detail 5 (R101, R103); an internal origin is AIR/FRAME_FAILED. The emergency controller asks for its frame afresh or for
what it was owed (R112, R115), and no other frame stands in the queue after. No other byte of window memory differs.
Readings and choices of the model: the shift report state asks no commit (log entry 19), without a transmission TXD stays
as it was (log entry 38), and a cancel owed or asked afresh carries the clock of that moment (log entry 42). -/
def Obligations.RadioRestarts : Prop :=
  ∀ (s : State) (r : Fin 16) (rest : List (Fin 16)), s.mem.Wf → HeadIs .radioRestart r rest s →
    Completes .radioRestart s fun t =>
      let heard := fun x : Fin 16 =>
        HasOrigin (.record x) s ∧ x ≠ r ∧ (handField s x = 2#8 ∨ handField s x = 3#8)
      let bidLost := fun e : Fin 8 => HasOfferOrigin e false s ∧ (s.oft.entries.get e).state.bidding = true
      let failures := internalCodes s
      t.ale = { s.ale with
        receiver := .hunting, window := none, link := .hunt, fadeExpiry := none, lossExpiry := none,
        cycleHeard := false, sequence := 0, assignments := [], transmission := none } ∧
      (∀ f ∈ t.txq.frames, f.cls = 0 ∧ f.inFlight = false) ∧ t.txq.stray = s.txq.stray ∧
      Answered r .done 0#8 s.txq.frames.length t ∧ t.wpt.posted = rest ∧ OnlyList s t ∧
      PinsAre false (s.ale.transmission.isNone && s.pins.txd) s.pins.modemReady s t ∧
      (s.txq.frames = [] → OnlyAnswerBytes r s t ∧ Keeps [.mem, .ale, .wpt, .atc, .pins] s t) ∧
      t.mtc = { s.mtc with tripLog := t.mtc.tripLog, totals := { s.mtc.totals with
        reportState := t.mtc.totals.reportState } } ∧
      (∀ e, (HasOrigin (.trip e) s → t.mtc.tripLog.get e = { s.mtc.tripLog.get e with sendState := .unsent }) ∧
        (¬HasOrigin (.trip e) s → t.mtc.tripLog.get e = s.mtc.tripLog.get e)) ∧
      (HasOrigin .lastShift s → t.mtc.totals.reportState = .unsent) ∧
      (¬HasOrigin .lastShift s → t.mtc.totals = s.mtc.totals) ∧
      ((∃ e, HasOrigin (.trip e) s) → AsksCommit s t) ∧ ((∀ e, ¬HasOrigin (.trip e) s) → t.cps = s.cps) ∧
      t.mst = { s.mst with inbox := t.mst.inbox } ∧
      (∀ i, (HasOrigin (.inbox i) s → t.mst.inbox.get i = { s.mst.inbox.get i with state := .read }) ∧
        (¬HasOrigin (.inbox i) s → t.mst.inbox.get i = s.mst.inbox.get i)) ∧
      t.oft = { s.oft with entries := t.oft.entries } ∧
      (∀ e, let entry := s.oft.entries.get e
        let y := t.oft.entries.get e
        y = { entry with
          state := y.state, reason := y.reason, awardRemaining := y.awardRemaining, bidFrame := y.bidFrame,
          refusePending := y.refusePending } ∧
        (HasOfferOrigin e true s → y.refusePending = false) ∧
        (¬HasOfferOrigin e true s → y.refusePending = entry.refusePending) ∧
        (HasOfferOrigin e false s → y.bidFrame = .none) ∧
        (¬HasOfferOrigin e false s → y.bidFrame = entry.bidFrame) ∧
        (bidLost e → y.state = .lost ∧ y.reason = .link ∧ y.awardRemaining = 0) ∧
        (¬bidLost e → y.state = entry.state ∧ y.reason = entry.reason ∧
          y.awardRemaining = entry.awardRemaining)) ∧
      ((∃ e, bidLost e) → s.dsc.status = .bidding → t.dsc = { s.dsc with status := .available }) ∧
      ((∀ e, ¬bidLost e) ∨ s.dsc.status ≠ .bidding → t.dsc = s.dsc) ∧
      (∀ x, heard x → ∃ word,
        Answered x .failed (if handField s x = 2#8 then 5#8 else 0x85#8) word t ∧
        (kindByte s x ≠ 0x31#8 → word = 0) ∧
        (∀ i : Fin 24, kindByte s x = 0x31#8 → param8 s x 8 = i.val →
          (∀ f ∈ s.txq.frames, f.hasOrigin (.record x) = true → f.origins =
            [{ origin := .inbox i, detached := false }, { origin := .record x, detached := false }]) → word = 2)) ∧
      (∀ a, ¬IsAnswerByte r a → (∀ x, heard x → ¬IsAnswerByte x a) → t.mem.read a = s.mem.read a) ∧
      t.atc = { ringAfterFailures s failures with
        pending := t.atc.pending, matchA := t.atc.matchA, matchB := t.atc.matchB } ∧
      (∀ c, c ≠ .pattern → (IsPending t c ↔ IsPending s c ∨ (IsEnabled s c ∧
        (c = .request ∨ (c = .link ∧ s.ale.link ≠ .hunt) ∨ ((c = .fault ∨ c = .queue) ∧ failures ≠ []) ∨
          (c = .offerResult ∧ ∃ e, bidLost e))))) ∧
      (s.txq.frames.filter (fun f => f.hasOrigin .emergency) = [] → t.txq.frames = [] ∧ t.emc = s.emc) ∧
      (∀ g, s.txq.frames.filter (fun f => f.hasOrigin .emergency) = [g] →
        t.txq.frames = askedFrames s (askedAfterFailure s g.kind) ∧ t.emc = { s.emc with owed := none }) ∧
      Keeps [.mem, .mtc, .dsc, .oft, .mst, .emc, .ale, .txq, .wpt, .atc, .cps, .pins] s t

/-! The window port and the attention controller. -/

/-- A host write of one byte (R160): taken quietly it changes that byte alone; in the fleet settings it is stored, a cleared
enable clears its pending flag (R173), a cab address that turns bad is recorded (R131), and PATTERN is set where a match
changes under its change report (R177); dropped it changes nothing, and is counted and recorded with its page only where
it differs from the byte held; before READY it leaves no trace (R171). A hand field takes POSTED and CANCEL_ASKED as
REQUEST_POST and REQUEST_CANCEL do, 0 over ANSWERED frees the record, and any other value is illegal (R163); the slot's
takes 1 as POSITION_FIX_POST does (R55). Bit 1 of CONTROL is a port reset (R172) and DONE is written through its low byte
(R175); that their high bytes are not read is the model's choice (log entry 23). Of a write of both bytes each is judged
as it arrives, those taken are stored, and the low byte acts first (R160; that order is the model's choice, log entry
23). Where such a
write of 0x2E20 and 0x2E21 changes NOTE_B's select set and its change report together, the report after the write decides
on PATTERN (the model's choice, log entry 45). -/
def Obligations.HostWriteIsJudged : Prop :=
  (∀ (s : State) (w : BitVec 13) (data : Word16) (high : Bool),
    let offset := laneOffset w high
    let b := laneByte data high
    let write := Instr.hostWindowWrite w data (!high) high
    let nothing := fun t : State => Keeps [.pins] s t ∧ OnlyLines s t
    let illegal := fun (detail : Nat) (t : State) =>
      t.wpt = { s.wpt with illegalHands := min 65535 (s.wpt.illegalHands + 1) } ∧
      Records .handIllegal detail [] s t ∧ Keeps [.wpt, .atc, .pins] s t ∧ OnlyLines s t
    (s.phase = .ready → s.mem.Wf → TakenQuietly s offset → Completes write s fun t =>
      t.mem.read offset = b ∧ (∀ a, a ≠ offset → t.mem.read a = s.mem.read a) ∧
      Keeps [.mem, .pins] s t ∧ OnlyLines s t) ∧
    (s.phase = .ready → s.mem.Wf → 0x2E00 ≤ offset → offset < 0x2F00 → Completes write s fun t =>
      t.mem.read offset = b ∧ (∀ a, a ≠ offset → t.mem.read a = s.mem.read a) ∧ SettingsTaken s t) ∧
    (s.phase = .ready → IsDropped s offset → windowByte s offset = b → Completes write s nothing) ∧
    (s.phase = .ready → IsDropped s offset → windowByte s offset ≠ b → Completes write s fun t =>
      t.wpt = { s.wpt with droppedWrites := min 65535 (s.wpt.droppedWrites + 1) } ∧
      Records .writeDropped (offset / 256) [] s t ∧ Keeps [.wpt, .atc, .pins] s t ∧ OnlyLines s t) ∧
    (s.phase ≠ .ready → Completes write s nothing) ∧
    (∀ r : Fin 16, s.phase = .ready → offset = recordBase r →
      (b = 1#8 → exec write s = exec (.requestPost r) s) ∧ (b = 3#8 → exec write s = exec (.requestCancel r) s) ∧
      (b = 0#8 → handField s r = 4#8 → s.mem.Wf → Completes write s fun t =>
        handField t r = 0#8 ∧ (∀ a, a ≠ offset → t.mem.read a = s.mem.read a) ∧
        Keeps [.mem, .pins] s t ∧ OnlyLines s t) ∧
      (b = 0#8 → handField s r ≠ 4#8 → Completes write s (illegal r.val)) ∧
      (b ∉ [0#8, 1#8, 3#8] → Completes write s (illegal r.val))) ∧
    (s.phase = .ready → offset = 0x50 →
      (b = 1#8 → exec write s = exec .positionFixPost s) ∧ (b ≠ 1#8 → Completes write s (illegal 0x50))) ∧
    (s.phase = .ready → offset = 0x3002 →
      (b.getLsbD 1 = true → exec write s = exec .portReset s) ∧
      (b.getLsbD 1 = false → Completes write s nothing)) ∧
    (s.phase = .ready → offset = 0x3006 → exec write s = exec (.doneWrite data) s) ∧
    (s.phase = .ready → offset = 0x3003 ∨ offset = 0x3007 → Completes write s nothing)) ∧
  (∀ (s : State) (w : BitVec 13) (data : Word16),
    let low := laneOffset w false
    let high := laneOffset w true
    let a := laneByte data false
    let b := laneByte data true
    let both := Instr.hostWindowWrite w data true true
    let lowAlone := Instr.hostWindowWrite w data true false
    let highAlone := Instr.hostWindowWrite w data false true
    let plain := fun offset : Nat => TakenQuietly s offset ∨ IsDropped s offset
    let hand := low = 0x50 ∨ ∃ r : Fin 16, low = recordBase r
    (s.phase ≠ .ready → Completes both s fun t => Keeps [.pins] s t ∧ OnlyLines s t) ∧
    (s.phase = .ready → plain low → plain high →
      ∀ t, exec lowAlone s = .next t → exec both s = exec highAlone t) ∧
    (s.phase = .ready → s.mem.Wf → 0x2E00 ≤ low → high < 0x2F00 → Completes both s fun t =>
      t.mem.read low = a ∧ t.mem.read high = b ∧
      (∀ x, x ≠ low → x ≠ high → t.mem.read x = s.mem.read x) ∧ SettingsTaken s t) ∧
    (s.phase = .ready → hand →
      (TakenQuietly s high → exec both s = exec lowAlone { s with mem := s.mem.write high b }) ∧
      (IsDropped s high → windowByte s high = b → exec both s = exec lowAlone s) ∧
      (IsDropped s high → windowByte s high ≠ b → ∀ t, exec lowAlone s = .next t → Completes both s fun u =>
        u.wpt = { t.wpt with droppedWrites := min 65535 (t.wpt.droppedWrites + 1) } ∧
        Records .writeDropped (high / 256) [] t u ∧ Keeps [.wpt, .atc, .pins] t u ∧ OnlyLines t u)) ∧
    (s.phase = .ready → low = 0x3002 ∨ low = 0x3006 → exec both s = exec lowAlone s))

/-- POSTED over FREE appends the record to the posted-order list, and over anything else is illegal (R163, R164).
CANCEL_ASKED over TAKEN of a text request removes its WAITING frame and no other, wherever it stands in the queue, and
answers CANCELLED, a REPLY's entry becoming READ; its frame in flight, the cancel is too late (R101, R103, R147, R167). Of a store request it removes the waiting write and
answers CANCELLED, and once the write has begun it is too late (R184). Over ANSWERED it is dropped silently, and over
anything else it is illegal. A kind outside R169 is answered UNKNOWN_KIND (R164). That a
cancelled REPLY's answer word holds its entry's state, READ, is the model's reading (DEDUCED, log entry 25): R103 gives the
word after an outcome, and R165 gives 0 where no rule gives one. -/
def Obligations.RecordsArePostedAndCancelled : Prop :=
  (∀ (s : State) (r : Fin 16), s.phase = .ready → s.mem.Wf →
    let illegal := fun t : State =>
      t.wpt = { s.wpt with illegalHands := min 65535 (s.wpt.illegalHands + 1) } ∧
      Records .handIllegal r.val [] s t ∧ Keeps [.wpt, .atc, .pins] s t ∧ OnlyLines s t
    let onlyHand := fun t : State => ∀ a, a ≠ recordBase r → t.mem.read a = s.mem.read a
    let tooLate := fun t : State => handField t r = 3#8 ∧ onlyHand t ∧ Keeps [.mem, .pins] s t ∧ OnlyLines s t
    (handField s r = 0#8 → Completes (.requestPost r) s fun t =>
      handField t r = 1#8 ∧ onlyHand t ∧ t.wpt = { s.wpt with posted := s.wpt.posted ++ [r] } ∧
      Keeps [.mem, .wpt, .pins] s t ∧ OnlyLines s t) ∧
    (handField s r ≠ 0#8 → Completes (.requestPost r) s illegal) ∧
    (∀ f before after, handField s r = 2#8 → kindByte s r = 0x30#8 → s.txq.frames = before ++ f :: after →
      (∀ g ∈ before ++ after, g.hasOrigin (.record r) = false) →
      f.origins = [{ origin := .record r, detached := false }] →
      (f.inFlight = false → Completes (.requestCancel r) s fun t =>
        Answered r .cancelled 0#8 0 t ∧ OnlyAnswerBytes r s t ∧ t.txq = { s.txq with frames := before ++ after } ∧
        Raises [.request] s t ∧ Keeps [.mem, .txq, .atc, .pins] s t ∧ OnlyLines s t) ∧
      (f.inFlight = true → Completes (.requestCancel r) s tooLate)) ∧
    (∀ f before after (i : Fin 24), handField s r = 2#8 → kindByte s r = 0x31#8 → param8 s r 8 = i.val →
      s.txq.frames = before ++ f :: after → (∀ g ∈ before ++ after, g.hasOrigin (.record r) = false) →
      f.origins = [{ origin := .inbox i, detached := false }, { origin := .record r, detached := false }] →
      (f.inFlight = false → Completes (.requestCancel r) s fun t =>
        t.mst.inbox.get i = { s.mst.inbox.get i with state := .read } ∧ OnlyInbox i s t ∧
        Answered r .cancelled 0#8 2 t ∧ OnlyAnswerBytes r s t ∧ t.txq = { s.txq with frames := before ++ after } ∧
        RaisesJudged [.request] s t ∧ Keeps [.mem, .mst, .txq, .atc, .pins] s t ∧ OnlyLines s t) ∧
      (f.inFlight = true → Completes (.requestCancel r) s tooLate)) ∧
    (handField s r = 2#8 → kindByte s r = 0x60#8 → s.cps.tariffRecord = some r → s.cps.settingsRecord ≠ some r →
      (StoreKind.tariffs ∈ s.cps.queue → (∀ j, s.cps.writing = some j → j.kind ≠ .tariffs) →
        Completes (.requestCancel r) s fun t =>
          t.cps = { s.cps with queue := s.cps.queue.filter (fun k => k != .tariffs), tariffRecord := none } ∧
          Answered r .cancelled 0#8 0 t ∧ OnlyAnswerBytes r s t ∧ Raises [.request] s t ∧
          Keeps [.mem, .atc, .cps, .pins] s t ∧ OnlyLines s t) ∧
      (∀ j, s.cps.writing = some j → j.kind = .tariffs → Completes (.requestCancel r) s tooLate)) ∧
    (handField s r = 2#8 → kindByte s r = 0x61#8 → s.cps.settingsRecord = some r → s.cps.tariffRecord ≠ some r →
      (StoreKind.settings ∈ s.cps.queue → (∀ j, s.cps.writing = some j → j.kind ≠ .settings) →
        Completes (.requestCancel r) s fun t =>
          t.cps = { s.cps with queue := s.cps.queue.filter (fun k => k != .settings), settingsRecord := none } ∧
          Answered r .cancelled 0#8 0 t ∧ OnlyAnswerBytes r s t ∧ Raises [.request] s t ∧
          Keeps [.mem, .atc, .cps, .pins] s t ∧ OnlyLines s t) ∧
      (∀ j, s.cps.writing = some j → j.kind = .settings → Completes (.requestCancel r) s tooLate)) ∧
    (handField s r = 4#8 → Completes (.requestCancel r) s fun t => Keeps [.pins] s t ∧ OnlyLines s t) ∧
    (handField s r ≠ 2#8 → handField s r ≠ 4#8 → Completes (.requestCancel r) s illegal)) ∧
  (∀ (s : State) (r : Fin 16) (rest : List (Fin 16)), s.mem.Wf → s.wpt.posted = r :: rest →
    requestKindOf (kindByte s r).toNat = none → Completes .unknownKind s fun t =>
      AnsweredPromptly r rest .unknownKind 0 s t ∧ OnlyList s t ∧ Raises [.request] s t ∧
      Keeps [.mem, .wpt, .atc, .pins] s t ∧ OnlyLines s t)

/-- A port reset empties the posted-order list, makes every byte of every record 0 and the slot FREE, clears every
in-service flag and derives the pending flags afresh (R172, R179). A WAITING frame of a text request leaves the queue, and
a REPLY's inbox entry becomes READ; of one IN_FLIGHT the record is detached (R155); that a frame whose record an earlier
port reset detached counts too is the model's choice (log entry 39). A store request goes on without its record (R184;
a reading, log entry 29). -/
def Obligations.PortResets : Prop :=
  ∀ s : State, s.phase = .ready → s.mem.Wf → Completes .portReset s fun t =>
    let ofRequest := fun f : Frame => f.origins.any recordLink
    let leaves := fun f : Frame => !f.inFlight && ofRequest f
    let readAgain := fun i : Fin 24 => ∃ f ∈ s.txq.frames, leaves f = true ∧ ∃ l ∈ f.origins, l.origin = .inbox i
    let isNew := fun c : MessageClass => ∃ i, (t.mst.inbox.get i).state = .new ∧ (t.mst.inbox.get i).cls = c
    t.wpt = { s.wpt with posted := [] } ∧
    (∀ a, 0x100 ≤ a → a < 0x500 → t.mem.read a = 0#8) ∧ t.mem.read 0x50 = 0#8 ∧
    (∀ a, a ≠ 0x50 → ¬(0x100 ≤ a ∧ a < 0x500) → t.mem.read a = s.mem.read a) ∧
    t.cps = { s.cps with tariffRecord := none, settingsRecord := none } ∧
    t.txq = { s.txq with frames := (s.txq.frames.filter fun f => !leaves f).map fun f =>
      { f with origins := f.origins.map fun l => if recordLink l = true then { l with detached := true } else l } } ∧
    t.mst = { s.mst with inbox := t.mst.inbox } ∧
    (∀ i, (readAgain i → t.mst.inbox.get i = { s.mst.inbox.get i with state := .read }) ∧
      (¬readAgain i → t.mst.inbox.get i = s.mst.inbox.get i)) ∧
    t.atc = { s.atc with
      pending := t.atc.pending, inService := 0#16, matchA := t.atc.matchA, matchB := t.atc.matchB } ∧
    ((∃ i, readAgain i) → t.atc.matchA = matchNowA t ∧ t.atc.matchB = matchNowB t) ∧
    ((∀ i, ¬readAgain i) → t.atc.matchA = s.atc.matchA ∧ t.atc.matchB = s.atc.matchB) ∧
    (∀ c, IsPending t c ↔ IsEnabled s c ∧
      ((c = .offerNew ∧ ∃ e, (s.oft.entries.get e).state = .open) ∨ (c = .message ∧ isNew .routine) ∨
        (c = .messagePriority ∧ (isNew .priority ∨ isNew .emergency)) ∨
        (c = .emergency ∧ s.emc.state ≠ .quiet))) ∧
    Keeps [.mem, .mst, .txq, .wpt, .atc, .cps, .pins] s t ∧ OnlyLines s t

/-- A read of ATTEND returns the highest presentable channel, clears its pending flag and with tracking on puts it in
service; with no presentable channel it returns 0x00FF and changes nothing (R174). Before READY it returns 0 (R171). -/
def Obligations.AttendGivesTheHighest : Prop :=
  ∀ s : State,
    let returns := fun (v : Word16) (t : State) =>
      t.pins = { s.pins with hostData := v, noteA := lineAsserted t false, noteB := lineAsserted t true }
    (∀ n, s.phase = .ready → n < 16 → IsPresentable s n → (∀ m, n < m → m < 16 → ¬IsPresentable s m) →
      Completes .attendRead s fun t =>
        returns (BitVec.ofNat 16 n) t ∧
        t.atc = { s.atc with pending := t.atc.pending, inService := t.atc.inService } ∧
        (∀ m, m < 16 → t.atc.pending.getLsbD m = (s.atc.pending.getLsbD m && m != n)) ∧
        (∀ m, m < 16 →
          t.atc.inService.getLsbD m = (s.atc.inService.getLsbD m || (serviceTracking s && m == n))) ∧
        Keeps [.atc, .pins] s t) ∧
    (s.phase = .ready → (∀ n, n < 16 → ¬IsPresentable s n) → Completes .attendRead s fun t =>
      returns 0x00FF#16 t ∧ Keeps [.pins] s t) ∧
    (s.phase ≠ .ready → Completes .attendRead s fun t => returns 0#16 t ∧ Keeps [.pins] s t)

/-- A host write to DONE, once READY: the low byte of the word names a channel and the high byte is not read. A value 0..15
clears that channel's in-service flag and nothing else, whatever the tracking setting; a value above 15 changes nothing
and records no fault. A channel raised again while in service becomes presentable at the DONE if no higher channel is
in service (R175). -/
def Obligations.DoneClearsInService : Prop :=
  ∀ (s : State) (data : Word16), s.phase = .ready →
    let n := data.toNat % 256
    (n < 16 → Completes (.doneWrite data) s fun t =>
      t.atc = { s.atc with inService := t.atc.inService } ∧
      (∀ m, m < 16 → t.atc.inService.getLsbD m = (s.atc.inService.getLsbD m && m != n)) ∧
      (s.atc.pending.getLsbD n = true → (channelMasks s).testBit n = true →
        (∀ m, n < m → m < 16 → s.atc.inService.getLsbD m = false) → IsPresentable t n) ∧
      Keeps [.atc, .pins] s t ∧ OnlyLines s t) ∧
    (15 < n → Completes (.doneWrite data) s fun t => Keeps [.pins] s t ∧ OnlyLines s t)

/-! The calibration port, the store's requests and start-up. -/

/-- A start addressed to 0x5A is acknowledged once READY: outside a run it begins one, with a staging copy of the bank in use,
and inside a run it keeps the staging copy (R180, R182); any other is not. A written byte is the pointer first, then data,
taken into the staging copy only with CAL_ENABLE asserted and the meter OFF; a read returns the byte of R181 at the
pointer; after each data byte the pointer rises (R180 to R182). At the stop, or after 25 ms of idle bus, a staging copy that
differs becomes the bank in use with its check value recomputed and a calibration write is asked, or where it may no
longer be applied is discarded with METER/CAL_WRITE_DROPPED detail 0x3E; where no byte differs nothing happens. That a
repeated start keeps the run and captures the totals afresh, that a start to another address releases the port and keeps
the run, and that the pointer rises after a byte not acknowledged are readings (log entry 32). -/
def Obligations.CalibrationPortRuns : Prop :=
  (∀ (s : State) (address : BitVec 7) (read : Bool),
    let totals := s.mtc.windowTotals.lifetimeBytes
    let begun := fun (run : CalRun) => { run with
      transaction := if read = true then CalTransaction.reading else CalTransaction.awaitPointer,
      capturedTotals := if read = true then totals else run.capturedTotals }
    let acks := fun (b : Bool) (t : State) => t.pins = { s.pins with
      calAck := b, noteA := lineAsserted t false, noteB := lineAsserted t true }
    (s.phase = .ready → address = 0x5A#7 → s.cps.run = none → Completes (.calRunStart address read) s fun t =>
      (∃ run, t.cps = { s.cps with run := some run } ∧ run.staging = s.cps.bank.take 62 ∧
        run.capturedTotals = totals ∧ run.transaction = (if read = true then .reading else .awaitPointer) ∧
        (run.serialWritable = true ↔ ∀ b ∈ (s.cps.bank.drop 8).take 8, b = 0#8)) ∧
      acks true t ∧ Keeps [.cps, .pins] s t) ∧
    (∀ run, s.phase = .ready → address = 0x5A#7 → s.cps.run = some run →
      Completes (.calRunStart address read) s fun t =>
        t.cps = { s.cps with run := some (begun run) } ∧ acks true t ∧ Keeps [.cps, .pins] s t) ∧
    ((s.phase ≠ .ready ∨ address ≠ 0x5A#7) → Completes (.calRunStart address read) s fun t =>
      t.cps = { s.cps with run := s.cps.run.map fun run => { run with transaction := .released } } ∧
      acks false t ∧ Keeps [.cps, .pins] s t)) ∧
  (∀ (s : State) (run : CalRun) (byte : Byte), s.cps.run = some run → run.transaction = .awaitPointer →
    Completes (.calPointerWrite byte) s fun t =>
      t.cps = { s.cps with pointer := byte.toNat, run := some { run with transaction := .writing } } ∧
      t.pins = { s.pins with calAck := true, noteA := t.pins.noteA, noteB := t.pins.noteB } ∧
      Keeps [.cps, .pins] s t) ∧
  (∀ (s : State) (run : CalRun) (byte : Byte) (strap : Bool), s.cps.run = some run → run.transaction = .writing →
    let p := s.cps.pointer
    let writable := p < 0x08 ∨ (p < 0x10 ∧ run.serialWritable = true) ∨ (0x10 ≤ p ∧ p < 0x3E)
    let allowed := strap = true ∧ s.mtc.meter = .off
    let moved := { s.cps with pointer := (p + 1) % 256 }
    Completes (.calDataWrite byte strap) s fun t =>
      (writable → allowed →
        t.cps = { moved with run := some { run with staging := run.staging.set p byte } } ∧ t.atc = s.atc) ∧
      (writable → ¬allowed → t.cps = moved ∧ Records .calWriteDropped p [] s t) ∧
      (¬writable → t.cps = moved ∧ t.atc = s.atc) ∧
      t.pins = { s.pins with
        calAck := true, calEnable := strap, noteA := lineAsserted t false, noteB := lineAsserted t true } ∧
      Keeps [.cps, .atc, .pins] s t) ∧
  (∀ (s : State) (run : CalRun) (acknowledged : Bool), s.cps.run = some run → run.transaction = .reading →
    s.cps.bank.length = 64 → run.capturedTotals.length = 40 →
    let p := s.cps.pointer
    Completes (.calDataRead acknowledged) s fun t =>
      (p < 0x40 → t.pins.calData = s.cps.bank.getD p 0#8) ∧
      (p = 0x40 → t.pins.calData = 0x41#8) ∧ (p = 0x41 → t.pins.calData = 0x04#8) ∧
      (0x4A ≤ p → p < 0x80 → t.pins.calData = 0#8) ∧
      (0x80 ≤ p → p < 0xA8 → t.pins.calData = run.capturedTotals.getD (p - 0x80) 0#8) ∧
      (0xA8 ≤ p → t.pins.calData = 0#8) ∧
      t.cps = { s.cps with
        pointer := (p + 1) % 256,
        run := some { run with transaction := if acknowledged = true then .reading else .released } } ∧
      t.pins = { s.pins with
        calData := t.pins.calData, noteA := lineAsserted t false, noteB := lineAsserted t true } ∧
      Keeps [.cps, .pins] s t) ∧
  (∀ (s : State) (run : CalRun) (strap : Bool) (c : Instr), s.cps.run = some run →
      c ∈ [Instr.calStop strap, .calBusIdleTimeout strap] →
      let check := crc16 run.staging
      let ended := { s.cps with run := none }
      Completes c s fun t =>
        (run.staging = s.cps.bank.take 62 → t.cps = ended ∧ t.atc = s.atc) ∧
        (run.staging ≠ s.cps.bank.take 62 → strap = true → s.mtc.meter = .off →
          t.cps = { ended with
            bank := run.staging ++ [(check >>> 8).setWidth 8, check.setWidth 8],
            queue := if StoreKind.calibration ∈ s.cps.queue then s.cps.queue else s.cps.queue ++ [.calibration] } ∧
          t.atc = s.atc) ∧
        (run.staging ≠ s.cps.bank.take 62 → (strap = false ∨ s.mtc.meter ≠ .off) →
          t.cps = ended ∧ Records .calWriteDropped 0x3E [] s t) ∧
        t.pins = { s.pins with
          calEnable := strap, noteA := lineAsserted t false, noteB := lineAsserted t true } ∧
        Keeps [.cps, .atc, .pins] s t)

/-- STORE_TARIFFS and STORE_SETTINGS are REFUSED_LOCKED outside QUIET (R122). STORE_TARIFFS is then judged in the order of
R184: tariff lock, meter state, a tariff write outstanding, the first invalid tariff; STORE_SETTINGS is BUSY while a
settings write is outstanding. Otherwise the record is TAKEN and the write is asked. -/
def Obligations.StoreRequestsAreJudged : Prop :=
  ∀ (s : State) (r : Fin 16) (rest : List (Fin 16)), s.mem.Wf →
    let outstanding := fun k : StoreKind => k ∈ s.cps.queue ∨ ∃ j, s.cps.writing = some j ∧ j.kind = k
    let refused := fun (result : Result) (word : Nat) (t : State) =>
      AnsweredPromptly r rest result word s t ∧ OnlyList s t ∧ Raises [.request] s t ∧
      Keeps [.mem, .wpt, .atc, .pins] s t ∧ OnlyLines s t
    let taken := fun t : State => handField t r = 2#8 ∧ (∀ a, a ≠ recordBase r → t.mem.read a = s.mem.read a) ∧
      t.wpt.posted = rest ∧ OnlyList s t ∧ Keeps [.mem, .wpt, .cps, .pins] s t ∧ OnlyLines s t
    let closed := s.mtc.meter = .off ∨ s.mtc.meter = .vacant
    (HeadIs .storeTariffs r rest s →
      (s.emc.state ≠ .quiet → Completes .storeTariffs s (refused .refusedLocked 0)) ∧
      (s.emc.state = .quiet → tariffLock s = true → Completes .storeTariffs s (refused .refusedTariffLock 0)) ∧
      (s.emc.state = .quiet → tariffLock s = false → ¬closed → Completes .storeTariffs s (refused .refusedState 0)) ∧
      (s.emc.state = .quiet → tariffLock s = false → closed → outstanding .tariffs →
        Completes .storeTariffs s (refused .busy 0)) ∧
      (∀ n, s.emc.state = .quiet → tariffLock s = false → closed → ¬outstanding .tariffs → n ≤ 3 →
        (windowTariff s n).valid = false → (∀ m, m < n → (windowTariff s m).valid = true) →
        Completes .storeTariffs s (refused .refusedRange n)) ∧
      (s.emc.state = .quiet → tariffLock s = false → closed → ¬outstanding .tariffs →
        (∀ n, n ≤ 3 → (windowTariff s n).valid = true) → Completes .storeTariffs s fun t =>
          t.cps = { s.cps with queue := s.cps.queue ++ [.tariffs], tariffRecord := some r } ∧ taken t)) ∧
    (HeadIs .storeSettings r rest s →
      (s.emc.state ≠ .quiet → Completes .storeSettings s (refused .refusedLocked 0)) ∧
      (s.emc.state = .quiet → outstanding .settings → Completes .storeSettings s (refused .busy 0)) ∧
      (s.emc.state = .quiet → ¬outstanding .settings → Completes .storeSettings s fun t =>
        t.cps = { s.cps with queue := s.cps.queue ++ [.settings], settingsRecord := some r } ∧ taken t))

/-- What RESET_N, a power loss and the start-up stages leave. POWER_LOSS and RESET_N leave the store as its last completed
writes left it (R183); that all else is back at its value as delivered is the model's (log entry 3). Stage 1 reads and
checks the bank (R185); stage 2 makes the window from the store and frees the pool (R87, R185), its text bytes reading 0
(the model's, log entry 16); stage 3 resumes from the checkpoint (R15, R42, R46 to R48, R123), where a report put back to
UNSENT asks no commit (a reading, log entry 19); stage 4 empties the queue, starts the receiver, seeds the random
register and queues the alert of any call that is ALERTING (R131, R142, R186; for a call raised since stage 3, log entry
30); stage 5 makes the part READY with the matches as they stand (R177, R186). With a bank that failed its check stage 3
holds the meter OFF, ends an open shift without a SHIFT frame and drops an open trip, which raises the lifetime power
interruptions and asks a commit (R47). Where stage 3 resumes without an open trip, the switch count, the starting tariff,
the trip flags and the trip's own fields are 0, as delivered (the model's, log entries 4 and 44). -/
def Obligations.StartUpRunsItsStages : Prop :=
  (∀ s : State, Completes .powerLoss s fun t =>
    t = { State.reset with cps := Cps.atReset s.cps.store, choices := s.choices, pending := s.pending }) ∧
  (∀ s : State, s.phase ≠ .off → Completes .resetNAssert s fun t =>
    t = { State.reset with
      phase := .held, cps := Cps.atReset s.cps.store, choices := s.choices, pending := s.pending }) ∧
  (∀ s : State, s.phase = .off ∨ s.phase = .held → Completes .startUp s fun t =>
    t = { State.reset with phase := .stage1, cps := t.cps, choices := s.choices, pending := s.pending } ∧
    (s.cps.store.calibration = none →
      t.cps = { Cps.atReset s.cps.store with bank := List.replicate 64 0#8, failed := true }) ∧
    (∀ bank, s.cps.store.calibration = some bank →
      t.cps = { Cps.atReset s.cps.store with
        bank := bank,
        failed := decide (bank.drop 62 ≠
          [(crc16 (bank.take 62) >>> 8).setWidth 8, (crc16 (bank.take 62)).setWidth 8]) })) ∧
  (∀ s : State, s.phase = .stage1 → (∀ b, s.cps.store.tariffs = some b → b.length = 512) →
    (∀ b, s.cps.store.settings = some b → b.length = 256) → Completes .startupWindow s fun t =>
      t.phase = .stage2 ∧ t.mem.Wf ∧
      (∀ n, n < 223 → t.mem.read (0x900 + 32 * n) = BitVec.ofNat 8 (n + 1)) ∧
      t.mem.read (0x900 + 32 * 223) = 255#8 ∧
      (∀ i, i < 512 → t.mem.read (0x2B00 + i) = (s.cps.store.tariffs.getD []).getD i 0#8) ∧
      (∀ i, i < 256 → t.mem.read (0x2E00 + i) = (s.cps.store.settings.getD defaultSettings).getD i 0#8) ∧
      (∀ a, ¬(0x2B00 ≤ a ∧ a < 0x2D00) → ¬(0x2E00 ≤ a ∧ a < 0x2F00) →
        ¬(0x900 ≤ a ∧ a < 0x2500 ∧ a % 32 = 0) → t.mem.read a = 0#8) ∧
      t.oft = Oft.atReset ∧ t.mst = { Mst.atReset with freeHead := 0, freeCount := 224 } ∧ t.wpt = Wpt.atReset ∧
      t.frc = { s.frc with clock := ⟨2000, 1, 1, 0⟩, clockSet := false, clockTimerRunning := true } ∧
      (s.cps.failed = false → t.atc = Atc.atReset) ∧
      (s.cps.failed = true →
        t.atc = { Atc.atReset with
          pending := t.atc.pending, newest := some 0,
          ring := Atc.atReset.ring.set 0
            ⟨some .calInvalid, 1, if s.cps.store.calibration = none then 0 else 1, 0⟩ } ∧
        ∀ c, IsPending t c ↔ c = .fault ∧ IsEnabled t c) ∧
      (s.cps.store.meter = none → t.mtc = { s.mtc with
        windowLog := Vector.replicate 24 TripRecord.empty, windowTotals := TotalsGroup.zero }) ∧
      (∀ m, s.cps.store.meter = some m → t.mtc = { s.mtc with windowLog := m.tripLog, windowTotals := m.totals }) ∧
      Keeps [.phase, .mem, .frc, .mtc, .oft, .mst, .wpt, .atc, .pins] s t ∧ OnlyLines s t) ∧
  (∀ s : State, s.phase = .stage2 → s.cps.store.meter = none → Completes .startupRecovery s fun t =>
    t.phase = .stage3 ∧ t.mtc.meter = .off ∧ t.mtc.totals = TotalsGroup.zero ∧
    t.mtc.tripLog = Vector.replicate 24 TripRecord.empty ∧ t.dsc.status = .offDuty ∧
    t.emc = { Emc.atReset with code := min (setting16 s 4) 9999 } ∧
    t.frc.hire = Hire.zero (windowTariff s 0) ∧ t.frc.shiftPulses = 0 ∧ t.frc.meterTimerRunning = true ∧
    t.cps = s.cps ∧ t.atc = s.atc ∧ Keeps [.phase, .frc, .mtc, .dsc, .emc, .pins] s t ∧ OnlyLines s t) ∧
  (∀ (s : State) (m : MeterCommit), s.phase = .stage2 → s.cps.failed = false → s.cps.store.meter = some m →
    let c := m.checkpoint
    let kept := c.meter = .hired ∨ c.meter = .stopped ∨ c.meter = .payment
    let send := fun x : SendState => if x = .queued then SendState.unsent else x
    let raised := fun x : Totals => { x with powerInterruptions := min 4294967295 (x.powerInterruptions + 1) }
    let totals := { m.totals with reportState := send m.totals.reportState }
    let call := if c.emergency = .quiet then [] else [Channel.emergency]
    Completes .startupRecovery s fun t =>
      t.phase = .stage3 ∧ t.mtc.meter = (if c.meter = .hired then .stopped else c.meter) ∧
      t.mtc.tripLog = (m.tripLog.map fun x => { x with sendState := send x.sendState }) ∧
      t.frc.shiftPulses = c.shiftPulses ∧ t.frc.pulseCounter = 0 ∧ t.frc.meterTimerRunning = true ∧
      t.frc.fareGroup = fareGroupNow t ∧
      t.dsc = { Dsc.atReset with
        status := if c.meter = .off then .offDuty else if c.meter = .vacant then .available else .hired } ∧
      t.emc = { Emc.atReset with
        state := if c.emergency = .quiet then .quiet else .alerting, count := c.emergencyCount,
        code := min (setting16 s 4) 9999 } ∧
      (kept → t.frc.hire = c.hire ∧ t.mtc.trip = { c.trip with powerInterrupted := true } ∧
        t.mtc.totals = { totals with shift := raised totals.shift, lifetime := raised totals.lifetime } ∧
        AsksCommit s t ∧ ∃ detail, Records .powerInterrupted detail (.meter :: call) s t) ∧
      (¬kept → t.frc.hire = Hire.zero (windowTariff s 0) ∧ t.mtc.trip = Trip.zero ∧ t.mtc.totals = totals ∧
        Raises call s t ∧
        (if c.emergency = .acked ∨ c.emergency = .cancelling then AsksCommit s t else t.cps = s.cps)) ∧
      (c.meter = .payment → 1 ≤ paymentHold s →
        t.mtc.holdTimer = some (paymentHold s) ∧ t.mtc.holdEnded = false) ∧
      Keeps [.phase, .frc, .mtc, .dsc, .emc, .atc, .cps, .pins] s t ∧ OnlyLines s t) ∧
  (∀ (s : State) (m : MeterCommit), s.phase = .stage2 → s.cps.failed = true → s.cps.store.meter = some m →
    let c := m.checkpoint
    let dropped := c.meter = .hired ∨ c.meter = .stopped ∨ c.meter = .payment
    let send := fun x : SendState => if x = .queued then SendState.unsent else x
    let l := m.totals.lifetime
    let raised := { l with powerInterruptions := min 4294967295 (l.powerInterruptions + 1) }
    Completes .startupRecovery s fun t =>
      t.phase = .stage3 ∧ t.mtc.meter = .off ∧ t.mtc.shiftFrameDue = false ∧
      t.mtc.totals = { m.totals with
        shiftOpen := false, reportState := send m.totals.reportState, lifetime := if dropped then raised else l } ∧
      t.mtc.tripLog = (m.tripLog.map fun x => { x with sendState := send x.sendState }) ∧
      t.mtc.ageOrder = m.ageOrder ∧ t.frc.hire = Hire.zero (windowTariff s 0) ∧
      t.frc.shiftPulses = c.shiftPulses ∧ t.frc.pulseCounter = 0 ∧ t.frc.meterTimerRunning = true ∧
      t.frc.fareGroup = fareGroupNow t ∧ t.dsc = { Dsc.atReset with status := .offDuty } ∧
      t.emc = { Emc.atReset with
        state := if c.emergency = .quiet then .quiet else .alerting, count := c.emergencyCount,
        code := min (setting16 s 4) 9999 } ∧
      Raises (if c.emergency = .quiet then [] else [.emergency]) s t ∧
      (if dropped ∨ c.emergency = .acked ∨ c.emergency = .cancelling then AsksCommit s t else t.cps = s.cps) ∧
      Keeps [.phase, .frc, .mtc, .dsc, .emc, .atc, .cps, .pins] s t ∧ OnlyLines s t) ∧
  (∀ s : State, s.phase = .stage3 → Completes .startupRadio s fun t =>
    let seed := BitVec.ofNat 16 (cabAddress s) ^^^ BitVec.ofNat 16 s.frc.clock.seconds
    t.phase = .stage4 ∧
    t.ale = { Ale.atReset with receiver := .hunting, rng := if seed = 0#16 then 1#16 else seed } ∧
    (s.emc.state ≠ .alerting → t.txq = Txq.atReset) ∧
    (s.emc.state = .alerting → t.txq = { Txq.atReset with frames := [newFrame .emergency [.emergency] .live] }) ∧
    (addressGood s = true → t.atc = s.atc) ∧
    (addressGood s = false → Records .badAddress (cabAddress s) [] s t) ∧
    Keeps [.phase, .ale, .txq, .atc, .pins] s t ∧ OnlyLines s t) ∧
  (∀ s : State, s.phase = .stage4 → Completes .startupReady s fun t =>
    t.phase = .ready ∧ t.wpt = { s.wpt with updateCount := 0 } ∧
    t.atc = { s.atc with matchA := matchNowA t, matchB := matchNowB t } ∧
    Keeps [.phase, .wpt, .atc, .pins] s t ∧ OnlyLines s t)

/-- The refusals of requests. Outside QUIET the locked kinds are REFUSED_LOCKED (R122), and the others are judged as in QUIET. Without host meter control METER_KEY,
ADD_EXTRA and SELECT_TARIFF are NOT_PERMITTED (R26). A number over its range is REFUSED_RANGE (R26, R70, R72, R73, R102,
R104, R105), as is a SHIFT_OPEN without a driver; a SHIFT_OPEN out of OFF or under a failed bank is REFUSED_STATE, and BUSY
while a calibration write is outstanding (R35); a SHIFT_CLOSE out of VACANT, or with the status neither AVAILABLE nor BREAK,
is REFUSED_STATE (R36). Nothing but the record, the list and channel REQUEST changes. -/
def Obligations.RequestsAreRefused : Prop :=
  ∀ (s : State) (r : Fin 16) (rest : List (Fin 16)), s.mem.Wf →
    let refused := fun (result : Result) (t : State) =>
      AnsweredPromptly r rest result 0 s t ∧ OnlyList s t ∧ Raises [.request] s t ∧
      Keeps [.mem, .wpt, .atc, .pins] s t ∧ OnlyLines s t
    (∀ row ∈ [(Instr.shiftOpen, RequestKind.shiftOpen), (.shiftClose, .shiftClose), (.selectTariff, .selectTariff),
        (.setBreak, .setBreak), (.setAvailable, .setAvailable), (.noShow, .noShow), (.acceptOffer, .acceptOffer),
        (.storeTariffs, .storeTariffs), (.storeSettings, .storeSettings)],
      HeadIs row.2 r rest s → s.emc.state ≠ .quiet → Completes row.1 s (refused .refusedLocked)) ∧
    (∀ row ∈ [(Instr.meterKey, RequestKind.meterKey, 3), (.addExtra, .addExtra, 7), (.selectTariff, .selectTariff, 3)],
      HeadIs row.2.1 r rest s → (row.2.1 = .selectTariff → s.emc.state = .quiet) →
        (hostMeterControl s = false → Completes row.1 s (refused .notPermitted)) ∧
        (hostMeterControl s = true → row.2.2 < param8 s r 8 → Completes row.1 s (refused .refusedRange))) ∧
    (∀ row ∈ [(Instr.acceptOffer, RequestKind.acceptOffer, 7), (.declineOffer, .declineOffer, 7),
        (.releaseOffer, .releaseOffer, 7), (.reply, .reply, 23), (.markRead, .markRead, 23),
        (.deleteMsg, .deleteMsg, 23)],
      HeadIs row.2.1 r rest s → (row.2.1 = .acceptOffer → s.emc.state = .quiet) → row.2.2 < param8 s r 8 →
        Completes row.1 s (refused .refusedRange)) ∧
    (HeadIs .reply r rest s → (63 < param8 s r 10 ∨ 48 < param8 s r 11) →
      Completes .reply s (refused .refusedRange)) ∧
    (HeadIs .shiftOpen r rest s → s.emc.state = .quiet →
      (paramN s r 8 2 = 0 → Completes .shiftOpen s (refused .refusedRange)) ∧
      (paramN s r 8 2 ≠ 0 → (s.mtc.meter ≠ .off ∨ s.cps.failed = true) →
        Completes .shiftOpen s (refused .refusedState)) ∧
      (paramN s r 8 2 ≠ 0 → s.mtc.meter = .off → s.cps.failed = false → writeOutstanding s .calibration = true →
        Completes .shiftOpen s (refused .busy))) ∧
    (HeadIs .shiftClose r rest s → s.emc.state = .quiet →
      (s.mtc.meter ≠ .vacant ∨ (s.dsc.status ≠ .available ∧ s.dsc.status ≠ .onBreak)) →
      Completes .shiftClose s (refused .refusedState))
end

