-- ==== Sys2Proof/Laws/Body.lean ====
section
/-! SUPPORT. What the bytes of an uplink body are: every number high byte first, and no more than the body's room. -/

namespace Sys2Proof.Machine

@[simp] theorem length_littleEndian (n x : Nat) : (littleEndian n x).length = n := by
  induction n generalizing x with
  | zero => rfl
  | succ n ih => simp [littleEndian, ih]

@[simp] theorem length_bigEndian (n : Nat) (x : Int) : (bigEndian n x).length = n := by simp [bigEndian]

theorem fromLittleEndian_littleEndian (n x : Nat) : fromLittleEndian (littleEndian n x) = x % 256 ^ n := by
  induction n generalizing x with
  | zero => simp [littleEndian, fromLittleEndian, Nat.mod_one]
  | succ n ih =>
    rw [littleEndian, fromLittleEndian, ih, Nat.pow_succ', Nat.mod_mul]
    simp [byteOf]

theorem fromBigEndian_reverse (bs : List Byte) : fromBigEndian bs.reverse = fromLittleEndian bs := by
  induction bs with
  | nil => rfl
  | cons b bs ih =>
    rw [fromLittleEndian, ← ih]
    simp [fromBigEndian, Nat.add_comm]

/-- What `bigEndian` sends is read back by `fromBigEndian`, the reader of downlink bodies. -/
theorem fromBigEndian_bigEndian (n : Nat) (x : Int) : (fromBigEndian (bigEndian n x) : Int) = x % 256 ^ n := by
  have h : (0 : Int) < 256 ^ n := by positivity
  have h0 := Int.emod_nonneg x h.ne'
  have h1 := Int.emod_lt_of_pos x h
  rw [bigEndian, fromBigEndian_reverse, fromLittleEndian_littleEndian, Nat.mod_eq_of_lt (by zify; omega)]
  omega

/-- The fewest bytes of a body's numbers fit in its room. -/
theorem UplinkBody.least_sum (b : UplinkBody) : (b.numbers.map UplinkNumber.least).sum ≤ b.kind.room := by
  cases b <;> simp [numbers, kind, UplinkKind.room, Stamp.numbers, FixReport.numbers, TripRecord.numbers, Totals.numbers]

/-- The sizes of a body's numbers are no fewer than their ranges take, and are those where more would not fit. -/
theorem UplinkBody.sizes_eq (b : UplinkBody) :
    (∃ f : Nat → Nat, b.sizes = b.numbers.mapIdx (fun i n => max n.least (f i)) ∧ b.sizes.sum ≤ b.kind.room) ∨
      b.sizes = b.numbers.map UplinkNumber.least := by
  simp only [sizes]
  split
  · exact .inl ⟨_, rfl, ‹_›⟩
  · exact .inr rfl

theorem UplinkBody.sizes_sum (b : UplinkBody) : b.sizes.sum ≤ b.kind.room := by
  obtain ⟨_, _, h⟩ | h := b.sizes_eq
  · exact h
  · exact h ▸ b.least_sum

@[simp] theorem UplinkBody.length_sizes (b : UplinkBody) : b.sizes.length = b.numbers.length := by
  obtain ⟨_, h, _⟩ | h := b.sizes_eq <;> simp [h]

theorem UplinkBody.least_le_size (b : UplinkBody) {i : Nat} (h : i < b.numbers.length) :
    b.numbers[i].least ≤ b.sizes[i]'(by simpa) := by
  obtain ⟨_, h, _⟩ | h := b.sizes_eq <;> simp [h]

theorem UplinkBody.bytes_perm (b : UplinkBody) : ∃ ps : List (List Byte), ps.Perm b.pieces ∧ b.bytes = ps.flatten := by
  refine ⟨_, ?_, rfl⟩
  refine ((List.perm_insertionSort _ _).map Prod.snd).trans (.of_eq ?_)
  exact List.ext_getElem (by simp) (by simp)

/-- Every piece of a body stands whole in its bytes. -/
theorem UplinkBody.piece_infix {b : UplinkBody} {p : List Byte} (h : p ∈ b.pieces) : p <:+: b.bytes := by
  obtain ⟨ps, hp, hb⟩ := b.bytes_perm
  rw [hb]
  obtain ⟨l, r, rfl⟩ := List.append_of_mem (hp.mem_iff.mpr h)
  exact ⟨l.flatten, r.flatten, by simp⟩

/-- Every number of a body stands in its bytes high byte first, in no fewer bytes than its range takes (R124). -/
theorem UplinkBody.number_infix {b : UplinkBody} {n : UplinkNumber} (h : n ∈ b.numbers) :
    ∃ size, n.least ≤ size ∧ bigEndian size n.value <:+: b.bytes := by
  obtain ⟨i, hi, rfl⟩ := List.getElem_of_mem h
  refine ⟨b.sizes[i]'(by simpa), b.least_le_size hi, piece_infix ?_⟩
  have hl : i < b.numberBytes.length := by simpa [numberBytes] using hi
  have : b.numberBytes[i] = bigEndian (b.sizes[i]'(by simpa)) b.numbers[i].value := by simp [numberBytes]
  simp only [pieces, List.append_assoc, List.mem_append]
  exact .inl (this ▸ List.getElem_mem hl)

/-- A body has at most its room in bytes beside its text (R127). -/
theorem UplinkBody.length_bytes (b : UplinkBody) : b.bytes.length ≤ b.kind.room + b.characters.length := by
  obtain ⟨ps, hp, hb⟩ := b.bytes_perm
  have hn : b.numberBytes.flatten.length = b.sizes.sum := by
    rw [List.length_flatten, numberBytes, List.map_zipWith]
    simp only [length_bigEndian]
    congr 1
    exact List.ext_getElem (by simp) (by simp)
  have hs := b.sizes_sum
  have : b.bytes.length = b.pieces.flatten.length := by rw [hb]; exact hp.flatten.length_eq
  have hc : ∀ l : List Byte, (l.map fun x => [x]).flatten = l := by simp [← List.flatMap_def]
  simp only [this, pieces, List.flatten_append, List.length_append, hn, hc, List.length_take, List.flatten_singleton]
  omega

end Sys2Proof.Machine
end

