-- ==== Sys2Proof/Laws/Memory.lean ====
section
/-! SUPPORT. Window memory: what a read gives after a write, and that every memory operation keeps the canonical form. -/

namespace Sys2Proof.Machine

/-- The empty memory is canonical. -/
theorem Memory.wf_nil : Memory.Wf [] := by simp [Memory.Wf]

/-- The rest of a canonical memory is canonical. -/
theorem Memory.wf_tail {c : Host.Cell} {m : Memory} (h : Memory.Wf (c :: m)) : Memory.Wf m :=
  ⟨(List.pairwise_cons.mp h.1).2, fun d hd => h.2 d (List.mem_cons_of_mem c hd)⟩

/-- An address below every listed one reads as unlisted. -/
theorem Memory.read_below {m : Memory} {a : Nat} (h : ∀ c ∈ m, a < c.1) : m.read a = Memory.unlisted := by
  cases m with
  | nil => rfl
  | cons c m => simp [Memory.read, h c (List.mem_cons_self ..)]

/-- A write lists no address but its own and those listed before. -/
theorem Memory.mem_write {m : Memory} {a : Nat} {v : Byte} {c : Host.Cell} (h : c ∈ m.write a v) :
    c ∈ m ∨ c = (a, v) ∧ v ≠ Memory.unlisted := by
  induction m with
  | nil =>
    by_cases hv : v = Memory.unlisted
    · simp [Memory.write, hv] at h
    · simp [Memory.write, hv] at h
      exact .inr ⟨h, hv⟩
  | cons d m ih =>
    obtain ⟨k, x⟩ := d
    unfold Memory.write at h
    split_ifs at h
    all_goals (try (first | exact .inl h | exact .inl (List.mem_cons_of_mem _ h)))
    · rcases List.mem_cons.mp h with h | h
      · exact .inr ⟨h, by assumption⟩
      · exact .inl h
    · rcases List.mem_cons.mp h with h | h
      · exact .inr ⟨h, by assumption⟩
      · exact .inl (List.mem_cons_of_mem _ h)
    · rcases List.mem_cons.mp h with h | h
      · exact .inl (h ▸ List.mem_cons_self ..)
      · rcases ih h with h | h
        · exact .inl (List.mem_cons_of_mem _ h)
        · exact .inr h

/-- A write keeps the canonical form. -/
theorem Memory.wf_write {m : Memory} (h : m.Wf) (a : Nat) (v : Byte) : (m.write a v).Wf := by
  refine ⟨?_, fun c hc => ?_⟩
  · induction m with
    | nil => by_cases hv : v = Memory.unlisted <;> simp [Memory.write, hv]
    | cons d m ih =>
      obtain ⟨k, x⟩ := d
      have hd := List.pairwise_cons.mp h.1
      unfold Memory.write
      split_ifs with h1 h2 h3 h4
      · exact h.1
      · refine List.pairwise_cons.mpr ⟨fun c hc => ?_, h.1⟩
        rcases List.mem_cons.mp hc with rfl | hc
        · exact h1
        · exact lt_trans h1 (hd.1 c hc)
      · exact hd.2
      · subst h3
        exact List.pairwise_cons.mpr ⟨hd.1, hd.2⟩
      · refine List.pairwise_cons.mpr ⟨fun c hc => ?_, ih (Memory.wf_tail h)⟩
        rcases Memory.mem_write hc with hc | ⟨rfl, -⟩
        · exact hd.1 c hc
        · show k < a
          omega
  · rcases Memory.mem_write hc with hc | ⟨rfl, hv⟩
    · exact h.2 c hc
    · exact hv

/-- A read of the address written gives the byte written. -/
theorem Memory.read_write_same {m : Memory} (h : m.Wf) (a : Nat) (v : Byte) : (m.write a v).read a = v := by
  induction m with
  | nil => by_cases hv : v = Memory.unlisted <;> simp [Memory.write, Memory.read, hv]
  | cons d m ih =>
    obtain ⟨k, x⟩ := d
    have hd := List.pairwise_cons.mp h.1
    unfold Memory.write
    split_ifs with h1 h2 h3 h4
    · simp [Memory.read, h1, h2]
    · simp [Memory.read]
    · subst h3
      rw [Memory.read_below hd.1, h4]
    · simp [Memory.read]
    · simp [Memory.read, h1, h3, ih (Memory.wf_tail h)]

/-- A write leaves every other address as it was. -/
theorem Memory.read_write_other {m : Memory} (h : m.Wf) {a b : Nat} (v : Byte) (hab : b ≠ a) :
    (m.write a v).read b = m.read b := by
  induction m with
  | nil =>
    by_cases hv : v = Memory.unlisted
    · simp [Memory.write, hv]
    · simp only [Memory.write, hv, if_false, Memory.read, hab, ite_self]
  | cons d m ih =>
    obtain ⟨k, x⟩ := d
    have hd := List.pairwise_cons.mp h.1
    unfold Memory.write
    split_ifs with h1 h2 h3 h4
    · rfl
    · simp only [Memory.read, hab, if_false]
      split_ifs <;> first | rfl | omega
    · subst h3
      simp only [Memory.read, hab, if_false]
      split_ifs with h5
      · exact Memory.read_below fun c hc => lt_trans h5 (hd.1 c hc)
      · rfl
    · subst h3
      simp only [Memory.read, hab, if_false]
    · simp only [Memory.read, ih (Memory.wf_tail h)]

/-- Writing bytes keeps the canonical form. -/
theorem Memory.wf_writeBytes {m : Memory} (h : m.Wf) (a : Nat) (bs : List Byte) : (m.writeBytes a bs).Wf := by
  induction bs generalizing m a with
  | nil => exact h
  | cons b bs ih => exact ih (Memory.wf_write h a b) (a + 1)

/-- Writing bytes leaves every address outside them as it was. -/
theorem Memory.read_writeBytes_other {m : Memory} (h : m.Wf) {a b : Nat} (bs : List Byte)
    (hb : b < a ∨ a + bs.length ≤ b) : (m.writeBytes a bs).read b = m.read b := by
  induction bs generalizing m a with
  | nil => rfl
  | cons x bs ih =>
    simp only [List.length_cons] at hb
    rw [Memory.writeBytes, ih (Memory.wf_write h a x) (by omega), Memory.read_write_other h x (by omega)]

/-- A byte written among others reads as it was written. -/
theorem Memory.read_writeBytes {m : Memory} (h : m.Wf) (a : Nat) (bs : List Byte) (i : Nat) (hi : i < bs.length) :
    (m.writeBytes a bs).read (a + i) = bs[i] := by
  induction bs generalizing m a i with
  | nil => simp at hi
  | cons x bs ih =>
    rw [Memory.writeBytes]
    cases i with
    | zero =>
      rw [Memory.read_writeBytes_other (Memory.wf_write h a x) bs (.inl (by omega))]
      exact Memory.read_write_same h a x
    | succ i =>
      rw [show a + (i + 1) = a + 1 + i by omega]
      exact ih (Memory.wf_write h a x) (a + 1) i (by simpa using hi)

/-- Taking cells away keeps the canonical form. -/
theorem Memory.wf_filter {m : Memory} (h : m.Wf) (p : Host.Cell → Bool) : Memory.Wf (m.filter p) :=
  ⟨h.1.filter p, fun c hc => h.2 c (List.mem_of_mem_filter hc)⟩

/-- Clearing the records keeps the canonical form. -/
theorem clearRecords_wf {m : Memory} (h : m.Wf) : (clearRecords m).Wf := Memory.wf_filter h _

/-- Linking a block keeps the canonical form. -/
theorem linkBlock_wf {m : Memory} (h : m.Wf) (last next : Nat) : (linkBlock last next m).Wf := Memory.wf_write h _ _

/-- Filling blocks keeps the canonical form. -/
theorem fillBlocks_wf (blocks : List Nat) (text : List Byte) {m : Memory} (h : m.Wf) :
    (fillBlocks blocks text m).Wf := by
  induction blocks generalizing text m with
  | nil => exact h
  | cons b bs ih => exact ih _ (Memory.wf_writeBytes (Memory.wf_write h _ _) _ _)

/-- Clearing the used counts keeps the canonical form. -/
theorem clearUsed_wf (blocks : List Nat) {m : Memory} (h : m.Wf) : (clearUsed blocks m).Wf := by
  induction blocks generalizing m with
  | nil => exact h
  | cons b bs ih => exact ih (Memory.wf_write h _ _)

/-- Linking a second part after a chain keeps the canonical form. -/
theorem linkAfter_wf (e : InboxEntry) (blocks : List Nat) {m : Memory} (h : m.Wf) : (linkAfter e blocks m).Wf := by
  unfold linkAfter
  split_ifs
  · exact h
  · exact linkBlock_wf h _ _

/-- The freed pool is a canonical memory. -/
theorem freedPool_wf : Memory.Wf freedPool := by
  refine ⟨?_, ?_⟩ <;> decide +kernel

/-- The window memory of stage 2 is canonical, whatever the store holds. -/
theorem startMemory_wf (st : Store) : (startMemory st).Wf :=
  Memory.wf_writeBytes (Memory.wf_writeBytes freedPool_wf _ _) _ _

end Sys2Proof.Machine
end

