-- ==== Sys2Proof/Laws/State.lean ====
section
/-! SUPPORT. The field lemmas of the record updates: what changing one block leaves and what it sets. -/

namespace Sys2Proof.Machine

@[simp] theorem State.modFrc_phase (s : State) (f : Frc → Frc) : (s.modFrc f).phase = s.phase := rfl
@[simp] theorem State.modFrc_mem (s : State) (f : Frc → Frc) : (s.modFrc f).mem = s.mem := rfl
@[simp] theorem State.modFrc_frc (s : State) (f : Frc → Frc) : (s.modFrc f).frc = f s.frc := rfl
@[simp] theorem State.modFrc_mtc (s : State) (f : Frc → Frc) : (s.modFrc f).mtc = s.mtc := rfl
@[simp] theorem State.modFrc_dsc (s : State) (f : Frc → Frc) : (s.modFrc f).dsc = s.dsc := rfl
@[simp] theorem State.modFrc_oft (s : State) (f : Frc → Frc) : (s.modFrc f).oft = s.oft := rfl
@[simp] theorem State.modFrc_mst (s : State) (f : Frc → Frc) : (s.modFrc f).mst = s.mst := rfl
@[simp] theorem State.modFrc_emc (s : State) (f : Frc → Frc) : (s.modFrc f).emc = s.emc := rfl
@[simp] theorem State.modFrc_ale (s : State) (f : Frc → Frc) : (s.modFrc f).ale = s.ale := rfl
@[simp] theorem State.modFrc_txq (s : State) (f : Frc → Frc) : (s.modFrc f).txq = s.txq := rfl
@[simp] theorem State.modFrc_wpt (s : State) (f : Frc → Frc) : (s.modFrc f).wpt = s.wpt := rfl
@[simp] theorem State.modFrc_atc (s : State) (f : Frc → Frc) : (s.modFrc f).atc = s.atc := rfl
@[simp] theorem State.modFrc_cps (s : State) (f : Frc → Frc) : (s.modFrc f).cps = s.cps := rfl
@[simp] theorem State.modFrc_pins (s : State) (f : Frc → Frc) : (s.modFrc f).pins = s.pins := rfl
@[simp] theorem State.modFrc_choices (s : State) (f : Frc → Frc) : (s.modFrc f).choices = s.choices := rfl
@[simp] theorem State.modFrc_pending (s : State) (f : Frc → Frc) : (s.modFrc f).pending = s.pending := rfl

@[simp] theorem State.modMtc_phase (s : State) (f : Mtc → Mtc) : (s.modMtc f).phase = s.phase := rfl
@[simp] theorem State.modMtc_mem (s : State) (f : Mtc → Mtc) : (s.modMtc f).mem = s.mem := rfl
@[simp] theorem State.modMtc_frc (s : State) (f : Mtc → Mtc) : (s.modMtc f).frc = s.frc := rfl
@[simp] theorem State.modMtc_mtc (s : State) (f : Mtc → Mtc) : (s.modMtc f).mtc = f s.mtc := rfl
@[simp] theorem State.modMtc_dsc (s : State) (f : Mtc → Mtc) : (s.modMtc f).dsc = s.dsc := rfl
@[simp] theorem State.modMtc_oft (s : State) (f : Mtc → Mtc) : (s.modMtc f).oft = s.oft := rfl
@[simp] theorem State.modMtc_mst (s : State) (f : Mtc → Mtc) : (s.modMtc f).mst = s.mst := rfl
@[simp] theorem State.modMtc_emc (s : State) (f : Mtc → Mtc) : (s.modMtc f).emc = s.emc := rfl
@[simp] theorem State.modMtc_ale (s : State) (f : Mtc → Mtc) : (s.modMtc f).ale = s.ale := rfl
@[simp] theorem State.modMtc_txq (s : State) (f : Mtc → Mtc) : (s.modMtc f).txq = s.txq := rfl
@[simp] theorem State.modMtc_wpt (s : State) (f : Mtc → Mtc) : (s.modMtc f).wpt = s.wpt := rfl
@[simp] theorem State.modMtc_atc (s : State) (f : Mtc → Mtc) : (s.modMtc f).atc = s.atc := rfl
@[simp] theorem State.modMtc_cps (s : State) (f : Mtc → Mtc) : (s.modMtc f).cps = s.cps := rfl
@[simp] theorem State.modMtc_pins (s : State) (f : Mtc → Mtc) : (s.modMtc f).pins = s.pins := rfl
@[simp] theorem State.modMtc_choices (s : State) (f : Mtc → Mtc) : (s.modMtc f).choices = s.choices := rfl
@[simp] theorem State.modMtc_pending (s : State) (f : Mtc → Mtc) : (s.modMtc f).pending = s.pending := rfl

@[simp] theorem State.modDsc_phase (s : State) (f : Dsc → Dsc) : (s.modDsc f).phase = s.phase := rfl
@[simp] theorem State.modDsc_mem (s : State) (f : Dsc → Dsc) : (s.modDsc f).mem = s.mem := rfl
@[simp] theorem State.modDsc_frc (s : State) (f : Dsc → Dsc) : (s.modDsc f).frc = s.frc := rfl
@[simp] theorem State.modDsc_mtc (s : State) (f : Dsc → Dsc) : (s.modDsc f).mtc = s.mtc := rfl
@[simp] theorem State.modDsc_dsc (s : State) (f : Dsc → Dsc) : (s.modDsc f).dsc = f s.dsc := rfl
@[simp] theorem State.modDsc_oft (s : State) (f : Dsc → Dsc) : (s.modDsc f).oft = s.oft := rfl
@[simp] theorem State.modDsc_mst (s : State) (f : Dsc → Dsc) : (s.modDsc f).mst = s.mst := rfl
@[simp] theorem State.modDsc_emc (s : State) (f : Dsc → Dsc) : (s.modDsc f).emc = s.emc := rfl
@[simp] theorem State.modDsc_ale (s : State) (f : Dsc → Dsc) : (s.modDsc f).ale = s.ale := rfl
@[simp] theorem State.modDsc_txq (s : State) (f : Dsc → Dsc) : (s.modDsc f).txq = s.txq := rfl
@[simp] theorem State.modDsc_wpt (s : State) (f : Dsc → Dsc) : (s.modDsc f).wpt = s.wpt := rfl
@[simp] theorem State.modDsc_atc (s : State) (f : Dsc → Dsc) : (s.modDsc f).atc = s.atc := rfl
@[simp] theorem State.modDsc_cps (s : State) (f : Dsc → Dsc) : (s.modDsc f).cps = s.cps := rfl
@[simp] theorem State.modDsc_pins (s : State) (f : Dsc → Dsc) : (s.modDsc f).pins = s.pins := rfl
@[simp] theorem State.modDsc_choices (s : State) (f : Dsc → Dsc) : (s.modDsc f).choices = s.choices := rfl
@[simp] theorem State.modDsc_pending (s : State) (f : Dsc → Dsc) : (s.modDsc f).pending = s.pending := rfl

@[simp] theorem State.modOft_phase (s : State) (f : Oft → Oft) : (s.modOft f).phase = s.phase := rfl
@[simp] theorem State.modOft_mem (s : State) (f : Oft → Oft) : (s.modOft f).mem = s.mem := rfl
@[simp] theorem State.modOft_frc (s : State) (f : Oft → Oft) : (s.modOft f).frc = s.frc := rfl
@[simp] theorem State.modOft_mtc (s : State) (f : Oft → Oft) : (s.modOft f).mtc = s.mtc := rfl
@[simp] theorem State.modOft_dsc (s : State) (f : Oft → Oft) : (s.modOft f).dsc = s.dsc := rfl
@[simp] theorem State.modOft_oft (s : State) (f : Oft → Oft) : (s.modOft f).oft = f s.oft := rfl
@[simp] theorem State.modOft_mst (s : State) (f : Oft → Oft) : (s.modOft f).mst = s.mst := rfl
@[simp] theorem State.modOft_emc (s : State) (f : Oft → Oft) : (s.modOft f).emc = s.emc := rfl
@[simp] theorem State.modOft_ale (s : State) (f : Oft → Oft) : (s.modOft f).ale = s.ale := rfl
@[simp] theorem State.modOft_txq (s : State) (f : Oft → Oft) : (s.modOft f).txq = s.txq := rfl
@[simp] theorem State.modOft_wpt (s : State) (f : Oft → Oft) : (s.modOft f).wpt = s.wpt := rfl
@[simp] theorem State.modOft_atc (s : State) (f : Oft → Oft) : (s.modOft f).atc = s.atc := rfl
@[simp] theorem State.modOft_cps (s : State) (f : Oft → Oft) : (s.modOft f).cps = s.cps := rfl
@[simp] theorem State.modOft_pins (s : State) (f : Oft → Oft) : (s.modOft f).pins = s.pins := rfl
@[simp] theorem State.modOft_choices (s : State) (f : Oft → Oft) : (s.modOft f).choices = s.choices := rfl
@[simp] theorem State.modOft_pending (s : State) (f : Oft → Oft) : (s.modOft f).pending = s.pending := rfl

@[simp] theorem State.modMst_phase (s : State) (f : Mst → Mst) : (s.modMst f).phase = s.phase := rfl
@[simp] theorem State.modMst_mem (s : State) (f : Mst → Mst) : (s.modMst f).mem = s.mem := rfl
@[simp] theorem State.modMst_frc (s : State) (f : Mst → Mst) : (s.modMst f).frc = s.frc := rfl
@[simp] theorem State.modMst_mtc (s : State) (f : Mst → Mst) : (s.modMst f).mtc = s.mtc := rfl
@[simp] theorem State.modMst_dsc (s : State) (f : Mst → Mst) : (s.modMst f).dsc = s.dsc := rfl
@[simp] theorem State.modMst_oft (s : State) (f : Mst → Mst) : (s.modMst f).oft = s.oft := rfl
@[simp] theorem State.modMst_mst (s : State) (f : Mst → Mst) : (s.modMst f).mst = f s.mst := rfl
@[simp] theorem State.modMst_emc (s : State) (f : Mst → Mst) : (s.modMst f).emc = s.emc := rfl
@[simp] theorem State.modMst_ale (s : State) (f : Mst → Mst) : (s.modMst f).ale = s.ale := rfl
@[simp] theorem State.modMst_txq (s : State) (f : Mst → Mst) : (s.modMst f).txq = s.txq := rfl
@[simp] theorem State.modMst_wpt (s : State) (f : Mst → Mst) : (s.modMst f).wpt = s.wpt := rfl
@[simp] theorem State.modMst_atc (s : State) (f : Mst → Mst) : (s.modMst f).atc = s.atc := rfl
@[simp] theorem State.modMst_cps (s : State) (f : Mst → Mst) : (s.modMst f).cps = s.cps := rfl
@[simp] theorem State.modMst_pins (s : State) (f : Mst → Mst) : (s.modMst f).pins = s.pins := rfl
@[simp] theorem State.modMst_choices (s : State) (f : Mst → Mst) : (s.modMst f).choices = s.choices := rfl
@[simp] theorem State.modMst_pending (s : State) (f : Mst → Mst) : (s.modMst f).pending = s.pending := rfl

@[simp] theorem State.modEmc_phase (s : State) (f : Emc → Emc) : (s.modEmc f).phase = s.phase := rfl
@[simp] theorem State.modEmc_mem (s : State) (f : Emc → Emc) : (s.modEmc f).mem = s.mem := rfl
@[simp] theorem State.modEmc_frc (s : State) (f : Emc → Emc) : (s.modEmc f).frc = s.frc := rfl
@[simp] theorem State.modEmc_mtc (s : State) (f : Emc → Emc) : (s.modEmc f).mtc = s.mtc := rfl
@[simp] theorem State.modEmc_dsc (s : State) (f : Emc → Emc) : (s.modEmc f).dsc = s.dsc := rfl
@[simp] theorem State.modEmc_oft (s : State) (f : Emc → Emc) : (s.modEmc f).oft = s.oft := rfl
@[simp] theorem State.modEmc_mst (s : State) (f : Emc → Emc) : (s.modEmc f).mst = s.mst := rfl
@[simp] theorem State.modEmc_emc (s : State) (f : Emc → Emc) : (s.modEmc f).emc = f s.emc := rfl
@[simp] theorem State.modEmc_ale (s : State) (f : Emc → Emc) : (s.modEmc f).ale = s.ale := rfl
@[simp] theorem State.modEmc_txq (s : State) (f : Emc → Emc) : (s.modEmc f).txq = s.txq := rfl
@[simp] theorem State.modEmc_wpt (s : State) (f : Emc → Emc) : (s.modEmc f).wpt = s.wpt := rfl
@[simp] theorem State.modEmc_atc (s : State) (f : Emc → Emc) : (s.modEmc f).atc = s.atc := rfl
@[simp] theorem State.modEmc_cps (s : State) (f : Emc → Emc) : (s.modEmc f).cps = s.cps := rfl
@[simp] theorem State.modEmc_pins (s : State) (f : Emc → Emc) : (s.modEmc f).pins = s.pins := rfl
@[simp] theorem State.modEmc_choices (s : State) (f : Emc → Emc) : (s.modEmc f).choices = s.choices := rfl
@[simp] theorem State.modEmc_pending (s : State) (f : Emc → Emc) : (s.modEmc f).pending = s.pending := rfl

@[simp] theorem State.modAle_phase (s : State) (f : Ale → Ale) : (s.modAle f).phase = s.phase := rfl
@[simp] theorem State.modAle_mem (s : State) (f : Ale → Ale) : (s.modAle f).mem = s.mem := rfl
@[simp] theorem State.modAle_frc (s : State) (f : Ale → Ale) : (s.modAle f).frc = s.frc := rfl
@[simp] theorem State.modAle_mtc (s : State) (f : Ale → Ale) : (s.modAle f).mtc = s.mtc := rfl
@[simp] theorem State.modAle_dsc (s : State) (f : Ale → Ale) : (s.modAle f).dsc = s.dsc := rfl
@[simp] theorem State.modAle_oft (s : State) (f : Ale → Ale) : (s.modAle f).oft = s.oft := rfl
@[simp] theorem State.modAle_mst (s : State) (f : Ale → Ale) : (s.modAle f).mst = s.mst := rfl
@[simp] theorem State.modAle_emc (s : State) (f : Ale → Ale) : (s.modAle f).emc = s.emc := rfl
@[simp] theorem State.modAle_ale (s : State) (f : Ale → Ale) : (s.modAle f).ale = f s.ale := rfl
@[simp] theorem State.modAle_txq (s : State) (f : Ale → Ale) : (s.modAle f).txq = s.txq := rfl
@[simp] theorem State.modAle_wpt (s : State) (f : Ale → Ale) : (s.modAle f).wpt = s.wpt := rfl
@[simp] theorem State.modAle_atc (s : State) (f : Ale → Ale) : (s.modAle f).atc = s.atc := rfl
@[simp] theorem State.modAle_cps (s : State) (f : Ale → Ale) : (s.modAle f).cps = s.cps := rfl
@[simp] theorem State.modAle_pins (s : State) (f : Ale → Ale) : (s.modAle f).pins = s.pins := rfl
@[simp] theorem State.modAle_choices (s : State) (f : Ale → Ale) : (s.modAle f).choices = s.choices := rfl
@[simp] theorem State.modAle_pending (s : State) (f : Ale → Ale) : (s.modAle f).pending = s.pending := rfl

@[simp] theorem State.modTxq_phase (s : State) (f : Txq → Txq) : (s.modTxq f).phase = s.phase := rfl
@[simp] theorem State.modTxq_mem (s : State) (f : Txq → Txq) : (s.modTxq f).mem = s.mem := rfl
@[simp] theorem State.modTxq_frc (s : State) (f : Txq → Txq) : (s.modTxq f).frc = s.frc := rfl
@[simp] theorem State.modTxq_mtc (s : State) (f : Txq → Txq) : (s.modTxq f).mtc = s.mtc := rfl
@[simp] theorem State.modTxq_dsc (s : State) (f : Txq → Txq) : (s.modTxq f).dsc = s.dsc := rfl
@[simp] theorem State.modTxq_oft (s : State) (f : Txq → Txq) : (s.modTxq f).oft = s.oft := rfl
@[simp] theorem State.modTxq_mst (s : State) (f : Txq → Txq) : (s.modTxq f).mst = s.mst := rfl
@[simp] theorem State.modTxq_emc (s : State) (f : Txq → Txq) : (s.modTxq f).emc = s.emc := rfl
@[simp] theorem State.modTxq_ale (s : State) (f : Txq → Txq) : (s.modTxq f).ale = s.ale := rfl
@[simp] theorem State.modTxq_txq (s : State) (f : Txq → Txq) : (s.modTxq f).txq = f s.txq := rfl
@[simp] theorem State.modTxq_wpt (s : State) (f : Txq → Txq) : (s.modTxq f).wpt = s.wpt := rfl
@[simp] theorem State.modTxq_atc (s : State) (f : Txq → Txq) : (s.modTxq f).atc = s.atc := rfl
@[simp] theorem State.modTxq_cps (s : State) (f : Txq → Txq) : (s.modTxq f).cps = s.cps := rfl
@[simp] theorem State.modTxq_pins (s : State) (f : Txq → Txq) : (s.modTxq f).pins = s.pins := rfl
@[simp] theorem State.modTxq_choices (s : State) (f : Txq → Txq) : (s.modTxq f).choices = s.choices := rfl
@[simp] theorem State.modTxq_pending (s : State) (f : Txq → Txq) : (s.modTxq f).pending = s.pending := rfl

@[simp] theorem State.modWpt_phase (s : State) (f : Wpt → Wpt) : (s.modWpt f).phase = s.phase := rfl
@[simp] theorem State.modWpt_mem (s : State) (f : Wpt → Wpt) : (s.modWpt f).mem = s.mem := rfl
@[simp] theorem State.modWpt_frc (s : State) (f : Wpt → Wpt) : (s.modWpt f).frc = s.frc := rfl
@[simp] theorem State.modWpt_mtc (s : State) (f : Wpt → Wpt) : (s.modWpt f).mtc = s.mtc := rfl
@[simp] theorem State.modWpt_dsc (s : State) (f : Wpt → Wpt) : (s.modWpt f).dsc = s.dsc := rfl
@[simp] theorem State.modWpt_oft (s : State) (f : Wpt → Wpt) : (s.modWpt f).oft = s.oft := rfl
@[simp] theorem State.modWpt_mst (s : State) (f : Wpt → Wpt) : (s.modWpt f).mst = s.mst := rfl
@[simp] theorem State.modWpt_emc (s : State) (f : Wpt → Wpt) : (s.modWpt f).emc = s.emc := rfl
@[simp] theorem State.modWpt_ale (s : State) (f : Wpt → Wpt) : (s.modWpt f).ale = s.ale := rfl
@[simp] theorem State.modWpt_txq (s : State) (f : Wpt → Wpt) : (s.modWpt f).txq = s.txq := rfl
@[simp] theorem State.modWpt_wpt (s : State) (f : Wpt → Wpt) : (s.modWpt f).wpt = f s.wpt := rfl
@[simp] theorem State.modWpt_atc (s : State) (f : Wpt → Wpt) : (s.modWpt f).atc = s.atc := rfl
@[simp] theorem State.modWpt_cps (s : State) (f : Wpt → Wpt) : (s.modWpt f).cps = s.cps := rfl
@[simp] theorem State.modWpt_pins (s : State) (f : Wpt → Wpt) : (s.modWpt f).pins = s.pins := rfl
@[simp] theorem State.modWpt_choices (s : State) (f : Wpt → Wpt) : (s.modWpt f).choices = s.choices := rfl
@[simp] theorem State.modWpt_pending (s : State) (f : Wpt → Wpt) : (s.modWpt f).pending = s.pending := rfl

@[simp] theorem State.modAtc_phase (s : State) (f : Atc → Atc) : (s.modAtc f).phase = s.phase := rfl
@[simp] theorem State.modAtc_mem (s : State) (f : Atc → Atc) : (s.modAtc f).mem = s.mem := rfl
@[simp] theorem State.modAtc_frc (s : State) (f : Atc → Atc) : (s.modAtc f).frc = s.frc := rfl
@[simp] theorem State.modAtc_mtc (s : State) (f : Atc → Atc) : (s.modAtc f).mtc = s.mtc := rfl
@[simp] theorem State.modAtc_dsc (s : State) (f : Atc → Atc) : (s.modAtc f).dsc = s.dsc := rfl
@[simp] theorem State.modAtc_oft (s : State) (f : Atc → Atc) : (s.modAtc f).oft = s.oft := rfl
@[simp] theorem State.modAtc_mst (s : State) (f : Atc → Atc) : (s.modAtc f).mst = s.mst := rfl
@[simp] theorem State.modAtc_emc (s : State) (f : Atc → Atc) : (s.modAtc f).emc = s.emc := rfl
@[simp] theorem State.modAtc_ale (s : State) (f : Atc → Atc) : (s.modAtc f).ale = s.ale := rfl
@[simp] theorem State.modAtc_txq (s : State) (f : Atc → Atc) : (s.modAtc f).txq = s.txq := rfl
@[simp] theorem State.modAtc_wpt (s : State) (f : Atc → Atc) : (s.modAtc f).wpt = s.wpt := rfl
@[simp] theorem State.modAtc_atc (s : State) (f : Atc → Atc) : (s.modAtc f).atc = f s.atc := rfl
@[simp] theorem State.modAtc_cps (s : State) (f : Atc → Atc) : (s.modAtc f).cps = s.cps := rfl
@[simp] theorem State.modAtc_pins (s : State) (f : Atc → Atc) : (s.modAtc f).pins = s.pins := rfl
@[simp] theorem State.modAtc_choices (s : State) (f : Atc → Atc) : (s.modAtc f).choices = s.choices := rfl
@[simp] theorem State.modAtc_pending (s : State) (f : Atc → Atc) : (s.modAtc f).pending = s.pending := rfl

@[simp] theorem State.modCps_phase (s : State) (f : Cps → Cps) : (s.modCps f).phase = s.phase := rfl
@[simp] theorem State.modCps_mem (s : State) (f : Cps → Cps) : (s.modCps f).mem = s.mem := rfl
@[simp] theorem State.modCps_frc (s : State) (f : Cps → Cps) : (s.modCps f).frc = s.frc := rfl
@[simp] theorem State.modCps_mtc (s : State) (f : Cps → Cps) : (s.modCps f).mtc = s.mtc := rfl
@[simp] theorem State.modCps_dsc (s : State) (f : Cps → Cps) : (s.modCps f).dsc = s.dsc := rfl
@[simp] theorem State.modCps_oft (s : State) (f : Cps → Cps) : (s.modCps f).oft = s.oft := rfl
@[simp] theorem State.modCps_mst (s : State) (f : Cps → Cps) : (s.modCps f).mst = s.mst := rfl
@[simp] theorem State.modCps_emc (s : State) (f : Cps → Cps) : (s.modCps f).emc = s.emc := rfl
@[simp] theorem State.modCps_ale (s : State) (f : Cps → Cps) : (s.modCps f).ale = s.ale := rfl
@[simp] theorem State.modCps_txq (s : State) (f : Cps → Cps) : (s.modCps f).txq = s.txq := rfl
@[simp] theorem State.modCps_wpt (s : State) (f : Cps → Cps) : (s.modCps f).wpt = s.wpt := rfl
@[simp] theorem State.modCps_atc (s : State) (f : Cps → Cps) : (s.modCps f).atc = s.atc := rfl
@[simp] theorem State.modCps_cps (s : State) (f : Cps → Cps) : (s.modCps f).cps = f s.cps := rfl
@[simp] theorem State.modCps_pins (s : State) (f : Cps → Cps) : (s.modCps f).pins = s.pins := rfl
@[simp] theorem State.modCps_choices (s : State) (f : Cps → Cps) : (s.modCps f).choices = s.choices := rfl
@[simp] theorem State.modCps_pending (s : State) (f : Cps → Cps) : (s.modCps f).pending = s.pending := rfl

@[simp] theorem State.modPins_phase (s : State) (f : Pins → Pins) : (s.modPins f).phase = s.phase := rfl
@[simp] theorem State.modPins_mem (s : State) (f : Pins → Pins) : (s.modPins f).mem = s.mem := rfl
@[simp] theorem State.modPins_frc (s : State) (f : Pins → Pins) : (s.modPins f).frc = s.frc := rfl
@[simp] theorem State.modPins_mtc (s : State) (f : Pins → Pins) : (s.modPins f).mtc = s.mtc := rfl
@[simp] theorem State.modPins_dsc (s : State) (f : Pins → Pins) : (s.modPins f).dsc = s.dsc := rfl
@[simp] theorem State.modPins_oft (s : State) (f : Pins → Pins) : (s.modPins f).oft = s.oft := rfl
@[simp] theorem State.modPins_mst (s : State) (f : Pins → Pins) : (s.modPins f).mst = s.mst := rfl
@[simp] theorem State.modPins_emc (s : State) (f : Pins → Pins) : (s.modPins f).emc = s.emc := rfl
@[simp] theorem State.modPins_ale (s : State) (f : Pins → Pins) : (s.modPins f).ale = s.ale := rfl
@[simp] theorem State.modPins_txq (s : State) (f : Pins → Pins) : (s.modPins f).txq = s.txq := rfl
@[simp] theorem State.modPins_wpt (s : State) (f : Pins → Pins) : (s.modPins f).wpt = s.wpt := rfl
@[simp] theorem State.modPins_atc (s : State) (f : Pins → Pins) : (s.modPins f).atc = s.atc := rfl
@[simp] theorem State.modPins_cps (s : State) (f : Pins → Pins) : (s.modPins f).cps = s.cps := rfl
@[simp] theorem State.modPins_pins (s : State) (f : Pins → Pins) : (s.modPins f).pins = f s.pins := rfl
@[simp] theorem State.modPins_choices (s : State) (f : Pins → Pins) : (s.modPins f).choices = s.choices := rfl
@[simp] theorem State.modPins_pending (s : State) (f : Pins → Pins) : (s.modPins f).pending = s.pending := rfl

@[simp] theorem State.modMem_phase (s : State) (f : Memory → Memory) : (s.modMem f).phase = s.phase := rfl
@[simp] theorem State.modMem_mem (s : State) (f : Memory → Memory) : (s.modMem f).mem = f s.mem := rfl
@[simp] theorem State.modMem_frc (s : State) (f : Memory → Memory) : (s.modMem f).frc = s.frc := rfl
@[simp] theorem State.modMem_mtc (s : State) (f : Memory → Memory) : (s.modMem f).mtc = s.mtc := rfl
@[simp] theorem State.modMem_dsc (s : State) (f : Memory → Memory) : (s.modMem f).dsc = s.dsc := rfl
@[simp] theorem State.modMem_oft (s : State) (f : Memory → Memory) : (s.modMem f).oft = s.oft := rfl
@[simp] theorem State.modMem_mst (s : State) (f : Memory → Memory) : (s.modMem f).mst = s.mst := rfl
@[simp] theorem State.modMem_emc (s : State) (f : Memory → Memory) : (s.modMem f).emc = s.emc := rfl
@[simp] theorem State.modMem_ale (s : State) (f : Memory → Memory) : (s.modMem f).ale = s.ale := rfl
@[simp] theorem State.modMem_txq (s : State) (f : Memory → Memory) : (s.modMem f).txq = s.txq := rfl
@[simp] theorem State.modMem_wpt (s : State) (f : Memory → Memory) : (s.modMem f).wpt = s.wpt := rfl
@[simp] theorem State.modMem_atc (s : State) (f : Memory → Memory) : (s.modMem f).atc = s.atc := rfl
@[simp] theorem State.modMem_cps (s : State) (f : Memory → Memory) : (s.modMem f).cps = s.cps := rfl
@[simp] theorem State.modMem_pins (s : State) (f : Memory → Memory) : (s.modMem f).pins = s.pins := rfl
@[simp] theorem State.modMem_choices (s : State) (f : Memory → Memory) : (s.modMem f).choices = s.choices := rfl
@[simp] theorem State.modMem_pending (s : State) (f : Memory → Memory) : (s.modMem f).pending = s.pending := rfl

/-! The updates of a part of one block. -/

@[simp] theorem modHire_phase (s : State) (g : Hire → Hire) : (modHire g s).phase = s.phase := rfl
@[simp] theorem modHire_mem (s : State) (g : Hire → Hire) : (modHire g s).mem = s.mem := rfl
@[simp] theorem modHire_mtc (s : State) (g : Hire → Hire) : (modHire g s).mtc = s.mtc := rfl
@[simp] theorem modHire_dsc (s : State) (g : Hire → Hire) : (modHire g s).dsc = s.dsc := rfl
@[simp] theorem modHire_oft (s : State) (g : Hire → Hire) : (modHire g s).oft = s.oft := rfl
@[simp] theorem modHire_mst (s : State) (g : Hire → Hire) : (modHire g s).mst = s.mst := rfl
@[simp] theorem modHire_emc (s : State) (g : Hire → Hire) : (modHire g s).emc = s.emc := rfl
@[simp] theorem modHire_ale (s : State) (g : Hire → Hire) : (modHire g s).ale = s.ale := rfl
@[simp] theorem modHire_txq (s : State) (g : Hire → Hire) : (modHire g s).txq = s.txq := rfl
@[simp] theorem modHire_wpt (s : State) (g : Hire → Hire) : (modHire g s).wpt = s.wpt := rfl
@[simp] theorem modHire_atc (s : State) (g : Hire → Hire) : (modHire g s).atc = s.atc := rfl
@[simp] theorem modHire_cps (s : State) (g : Hire → Hire) : (modHire g s).cps = s.cps := rfl
@[simp] theorem modHire_pins (s : State) (g : Hire → Hire) : (modHire g s).pins = s.pins := rfl
@[simp] theorem modHire_choices (s : State) (g : Hire → Hire) : (modHire g s).choices = s.choices := rfl
@[simp] theorem modHire_pending (s : State) (g : Hire → Hire) : (modHire g s).pending = s.pending := rfl
@[simp] theorem modHire_frc (s : State) (g : Hire → Hire) : (modHire g s).frc = { s.frc with hire := g s.frc.hire } := rfl

@[simp] theorem modTotals_phase (s : State) (g : TotalsGroup → TotalsGroup) : (modTotals g s).phase = s.phase := rfl
@[simp] theorem modTotals_mem (s : State) (g : TotalsGroup → TotalsGroup) : (modTotals g s).mem = s.mem := rfl
@[simp] theorem modTotals_frc (s : State) (g : TotalsGroup → TotalsGroup) : (modTotals g s).frc = s.frc := rfl
@[simp] theorem modTotals_dsc (s : State) (g : TotalsGroup → TotalsGroup) : (modTotals g s).dsc = s.dsc := rfl
@[simp] theorem modTotals_oft (s : State) (g : TotalsGroup → TotalsGroup) : (modTotals g s).oft = s.oft := rfl
@[simp] theorem modTotals_mst (s : State) (g : TotalsGroup → TotalsGroup) : (modTotals g s).mst = s.mst := rfl
@[simp] theorem modTotals_emc (s : State) (g : TotalsGroup → TotalsGroup) : (modTotals g s).emc = s.emc := rfl
@[simp] theorem modTotals_ale (s : State) (g : TotalsGroup → TotalsGroup) : (modTotals g s).ale = s.ale := rfl
@[simp] theorem modTotals_txq (s : State) (g : TotalsGroup → TotalsGroup) : (modTotals g s).txq = s.txq := rfl
@[simp] theorem modTotals_wpt (s : State) (g : TotalsGroup → TotalsGroup) : (modTotals g s).wpt = s.wpt := rfl
@[simp] theorem modTotals_atc (s : State) (g : TotalsGroup → TotalsGroup) : (modTotals g s).atc = s.atc := rfl
@[simp] theorem modTotals_cps (s : State) (g : TotalsGroup → TotalsGroup) : (modTotals g s).cps = s.cps := rfl
@[simp] theorem modTotals_pins (s : State) (g : TotalsGroup → TotalsGroup) : (modTotals g s).pins = s.pins := rfl
@[simp] theorem modTotals_choices (s : State) (g : TotalsGroup → TotalsGroup) : (modTotals g s).choices = s.choices := rfl
@[simp] theorem modTotals_pending (s : State) (g : TotalsGroup → TotalsGroup) : (modTotals g s).pending = s.pending := rfl
@[simp] theorem modTotals_mtc (s : State) (g : TotalsGroup → TotalsGroup) : (modTotals g s).mtc = { s.mtc with totals := g s.mtc.totals } := rfl

@[simp] theorem modTrip_phase (s : State) (g : Trip → Trip) : (modTrip g s).phase = s.phase := rfl
@[simp] theorem modTrip_mem (s : State) (g : Trip → Trip) : (modTrip g s).mem = s.mem := rfl
@[simp] theorem modTrip_frc (s : State) (g : Trip → Trip) : (modTrip g s).frc = s.frc := rfl
@[simp] theorem modTrip_dsc (s : State) (g : Trip → Trip) : (modTrip g s).dsc = s.dsc := rfl
@[simp] theorem modTrip_oft (s : State) (g : Trip → Trip) : (modTrip g s).oft = s.oft := rfl
@[simp] theorem modTrip_mst (s : State) (g : Trip → Trip) : (modTrip g s).mst = s.mst := rfl
@[simp] theorem modTrip_emc (s : State) (g : Trip → Trip) : (modTrip g s).emc = s.emc := rfl
@[simp] theorem modTrip_ale (s : State) (g : Trip → Trip) : (modTrip g s).ale = s.ale := rfl
@[simp] theorem modTrip_txq (s : State) (g : Trip → Trip) : (modTrip g s).txq = s.txq := rfl
@[simp] theorem modTrip_wpt (s : State) (g : Trip → Trip) : (modTrip g s).wpt = s.wpt := rfl
@[simp] theorem modTrip_atc (s : State) (g : Trip → Trip) : (modTrip g s).atc = s.atc := rfl
@[simp] theorem modTrip_cps (s : State) (g : Trip → Trip) : (modTrip g s).cps = s.cps := rfl
@[simp] theorem modTrip_pins (s : State) (g : Trip → Trip) : (modTrip g s).pins = s.pins := rfl
@[simp] theorem modTrip_choices (s : State) (g : Trip → Trip) : (modTrip g s).choices = s.choices := rfl
@[simp] theorem modTrip_pending (s : State) (g : Trip → Trip) : (modTrip g s).pending = s.pending := rfl
@[simp] theorem modTrip_mtc (s : State) (g : Trip → Trip) : (modTrip g s).mtc = { s.mtc with trip := g s.mtc.trip } := rfl

@[simp] theorem modFrames_phase (s : State) (g : List Frame → List Frame) : (modFrames g s).phase = s.phase := rfl
@[simp] theorem modFrames_mem (s : State) (g : List Frame → List Frame) : (modFrames g s).mem = s.mem := rfl
@[simp] theorem modFrames_frc (s : State) (g : List Frame → List Frame) : (modFrames g s).frc = s.frc := rfl
@[simp] theorem modFrames_mtc (s : State) (g : List Frame → List Frame) : (modFrames g s).mtc = s.mtc := rfl
@[simp] theorem modFrames_dsc (s : State) (g : List Frame → List Frame) : (modFrames g s).dsc = s.dsc := rfl
@[simp] theorem modFrames_oft (s : State) (g : List Frame → List Frame) : (modFrames g s).oft = s.oft := rfl
@[simp] theorem modFrames_mst (s : State) (g : List Frame → List Frame) : (modFrames g s).mst = s.mst := rfl
@[simp] theorem modFrames_emc (s : State) (g : List Frame → List Frame) : (modFrames g s).emc = s.emc := rfl
@[simp] theorem modFrames_ale (s : State) (g : List Frame → List Frame) : (modFrames g s).ale = s.ale := rfl
@[simp] theorem modFrames_wpt (s : State) (g : List Frame → List Frame) : (modFrames g s).wpt = s.wpt := rfl
@[simp] theorem modFrames_atc (s : State) (g : List Frame → List Frame) : (modFrames g s).atc = s.atc := rfl
@[simp] theorem modFrames_cps (s : State) (g : List Frame → List Frame) : (modFrames g s).cps = s.cps := rfl
@[simp] theorem modFrames_pins (s : State) (g : List Frame → List Frame) : (modFrames g s).pins = s.pins := rfl
@[simp] theorem modFrames_choices (s : State) (g : List Frame → List Frame) : (modFrames g s).choices = s.choices := rfl
@[simp] theorem modFrames_pending (s : State) (g : List Frame → List Frame) : (modFrames g s).pending = s.pending := rfl
@[simp] theorem modFrames_txq (s : State) (g : List Frame → List Frame) : (modFrames g s).txq = { s.txq with frames := g s.txq.frames } := rfl

end Sys2Proof.Machine
end

