-- ==== Sys2Proof/Laws/Frames.lean ====
section
/-! SUPPORT. What the shared operations leave as it was. A mask blanks the parts that a group of operations may change, so
that one equation of masks says of an operation that everything else stays; an equation of one part follows from it by
congrArg. -/

namespace Sys2Proof.Machine

/-- A fold of steps that each keep a view of the state keeps it. -/
theorem foldl_keeps {α β : Type} (view : State → α) (f : State → β → State) (h : ∀ t x, view (f t x) = view t)
    (xs : List β) (s : State) : view (xs.foldl f s) = view s := by
  induction xs generalizing s with
  | nil => rfl
  | cons x xs ih => rw [List.foldl_cons, ih, h]

/-- A fold of steps that each keep a property keeps it. -/
theorem foldl_invariant {β : Type} (P : State → Prop) (f : State → β → State) (h : ∀ t x, P t → P (f t x))
    (xs : List β) (s : State) (hs : P s) : P (xs.foldl f s) := by
  induction xs generalizing s with
  | nil => exact hs
  | cons x xs ih => exact ih _ (h s x hs)

/-- Everything but the attention state. -/
def State.maskAttention (s : State) : State := { s with atc := Atc.atReset }

/-- Everything that no operation of the transmit queue, and no outcome it routes, can change. -/
def State.maskQueue (s : State) : State :=
  let totals := { s.mtc.totals with reportState := .notReported }
  { s.maskAttention with
    mem := [], oft := Oft.atReset, dsc := Dsc.atReset, mst := Mst.atReset, txq := Txq.atReset,
    mtc := { s.mtc with tripLog := Vector.replicate 24 TripRecord.empty, totals := totals },
    cps := { s.cps with queue := [] } }

/-- Everything that no emergency-class outcome can change either. -/
def State.maskEmergency (s : State) : State := { s.maskQueue with emc := Emc.atReset }

/-- Everything that no event of the air link can change. -/
def State.maskAir (s : State) : State := { s.maskEmergency with ale := Ale.atReset, choices := 0, pins := Pins.atReset }

/-- What the attention mask keeps, the queue mask keeps. -/
theorem maskQueue_of_attention {s t : State} (h : t.maskAttention = s.maskAttention) : t.maskQueue = s.maskQueue := by
  have e : ∀ u : State, u.maskQueue = u.maskAttention.maskQueue := fun _ => rfl
  rw [e, h, ← e]

/-- What the queue mask keeps, the emergency mask keeps. -/
theorem maskEmergency_of_queue {s t : State} (h : t.maskQueue = s.maskQueue) : t.maskEmergency = s.maskEmergency := by
  have e : ∀ u : State, u.maskEmergency = u.maskQueue.maskEmergency := fun _ => rfl
  rw [e, h, ← e]

/-- What the emergency mask keeps, the air mask keeps. -/
theorem maskAir_of_emergency {s t : State} (h : t.maskEmergency = s.maskEmergency) : t.maskAir = s.maskAir := by
  have e : ∀ u : State, u.maskAir = u.maskEmergency.maskAir := fun _ => rfl
  rw [e, h, ← e]

/-! The attention state. -/

@[simp] theorem setChannel_attention (c : Channel) (s : State) : (setChannel c s).maskAttention = s.maskAttention := by
  unfold setChannel
  split_ifs <;> rfl

@[simp] theorem takeMatches_attention (s : State) : (takeMatches s).maskAttention = s.maskAttention := rfl

@[simp] theorem rejudge_attention (s : State) : (rejudge s).maskAttention = s.maskAttention := by
  unfold rejudge
  split_ifs <;> simp

@[simp] theorem recordFault_attention (f : FaultId) (d : Nat) (s : State) :
    (recordFault f d s).maskAttention = s.maskAttention := by
  unfold recordFault
  rw [setChannel_attention]
  rfl

/-- Setting a channel changes the attention state alone. -/
theorem setChannel_eq (c : Channel) (s : State) : setChannel c s = { s with atc := (setChannel c s).atc } := by
  unfold setChannel
  split_ifs <;> rfl

/-- Judging the matches changes the attention state alone. -/
theorem rejudge_eq (s : State) : rejudge s = { s with atc := (rejudge s).atc } := by
  unfold rejudge
  split_ifs
  · rw [setChannel_eq]; rfl
  · rfl
  · rfl

/-- Recording a fault changes the attention state alone. -/
theorem recordFault_eq (f : FaultId) (d : Nat) (s : State) :
    recordFault f d s = { s with atc := (recordFault f d s).atc } := by
  unfold recordFault
  rw [setChannel_eq]
  rfl

/-- Setting a channel leaves memory as it was. -/
@[simp] theorem setChannel_mem (c : Channel) (s : State) : (setChannel c s).mem = s.mem := by rw [setChannel_eq]

/-- Judging the matches leaves memory as it was. -/
@[simp] theorem rejudge_mem (s : State) : (rejudge s).mem = s.mem := by rw [rejudge_eq]

/-- Recording a fault leaves memory as it was. -/
@[simp] theorem recordFault_mem (f : FaultId) (d : Nat) (s : State) : (recordFault f d s).mem = s.mem := by
  rw [recordFault_eq]

/-! The transmit queue and its outcomes. -/

@[simp] theorem setChannel_queue (c : Channel) (s : State) : (setChannel c s).maskQueue = s.maskQueue :=
  maskQueue_of_attention (by simp)

@[simp] theorem rejudge_queue (s : State) : (rejudge s).maskQueue = s.maskQueue := maskQueue_of_attention (by simp)

@[simp] theorem recordFault_queue (f : FaultId) (d : Nat) (s : State) : (recordFault f d s).maskQueue = s.maskQueue :=
  maskQueue_of_attention (by simp)

@[simp] theorem requestWrite_queue (k : StoreKind) (s : State) : (requestWrite k s).maskQueue = s.maskQueue := rfl

@[simp] theorem requestCommit_queue (s : State) : (requestCommit s).maskQueue = s.maskQueue := rfl

@[simp] theorem modMem_queue (f : Memory → Memory) (s : State) : (s.modMem f).maskQueue = s.maskQueue := rfl

@[simp] theorem modOft_queue (f : Oft → Oft) (s : State) : (s.modOft f).maskQueue = s.maskQueue := rfl

@[simp] theorem modDsc_queue (f : Dsc → Dsc) (s : State) : (s.modDsc f).maskQueue = s.maskQueue := rfl

@[simp] theorem modMst_queue (f : Mst → Mst) (s : State) : (s.modMst f).maskQueue = s.maskQueue := rfl

@[simp] theorem modTxq_queue (f : Txq → Txq) (s : State) : (s.modTxq f).maskQueue = s.maskQueue := rfl

@[simp] theorem modFrames_queue (g : List Frame → List Frame) (s : State) :
    (modFrames g s).maskQueue = s.maskQueue := rfl

@[simp] theorem setHand_queue (r : Fin 16) (v : Byte) (s : State) : (setHand r v s).maskQueue = s.maskQueue := rfl

@[simp] theorem writeAnswer_queue (r : Fin 16) (x : Result) (d : Byte) (w : Nat) (s : State) :
    (writeAnswer r x d w s).maskQueue = s.maskQueue := by simp [writeAnswer]

@[simp] theorem answer_queue (r : Fin 16) (x : Result) (w : Nat) (s : State) :
    (answer r x w s).maskQueue = s.maskQueue := by simp [answer]

@[simp] theorem answerWork_queue (r : Fin 16) (x : Result) (reason w : Nat) (s : State) :
    (answerWork r x reason w s).maskQueue = s.maskQueue := by
  unfold answerWork
  split_ifs <;> simp

@[simp] theorem updateOffer_queue (e : Fin 8) (f : OfferEntry → OfferEntry) (s : State) :
    (updateOffer e f s).maskQueue = s.maskQueue := by simp [updateOffer]

@[simp] theorem updateInbox_queue (i : Fin 24) (f : InboxEntry → InboxEntry) (s : State) :
    (updateInbox i f s).maskQueue = s.maskQueue := by simp [updateInbox]

@[simp] theorem updateTripRecord_queue (t : Fin 24) (f : TripRecord → TripRecord) (s : State) :
    (updateTripRecord t f s).maskQueue = s.maskQueue := rfl

@[simp] theorem leaveBidding_queue (s : State) : (leaveBidding s).maskQueue = s.maskQueue := by
  unfold leaveBidding
  split_ifs <;> simp

@[simp] theorem routeToOffer_queue (k : UplinkKind) (o : TxOutcome) (e : Fin 8) (n : Nat) (s : State) :
    (routeToOffer k o e n s).maskQueue = s.maskQueue := by
  unfold routeToOffer
  simp only
  split_ifs
  · rfl
  · simp
  · cases o <;> simp
  · cases o <;> simp

@[simp] theorem routeToRecord_queue (o : TxOutcome) (r : Fin 16) (s : State) :
    (routeToRecord o r s).maskQueue = s.maskQueue := by
  cases o <;> simp [routeToRecord]

@[simp] theorem routeToOrigin_queue (f : Frame) (o : TxOutcome) (g : Origin) (s : State) :
    (routeToOrigin f o g s).maskQueue = s.maskQueue := by
  unfold routeToOrigin
  cases g <;> cases o <;> simp <;> rfl

@[simp] theorem routeOutcome_queue (f : Frame) (o : TxOutcome) (s : State) :
    (routeOutcome f o s).maskQueue = s.maskQueue := by
  unfold routeOutcome
  refine foldl_keeps State.maskQueue _ (fun t l => ?_) _ _
  split_ifs <;> simp

/-- Joining the queue, with a displacement or a failure, changes nothing outside the queue mask. -/
@[simp] theorem joinQueue_queue (f : Frame) (s : State) : (joinQueue f s).maskQueue = s.maskQueue := by
  unfold joinQueue
  split_ifs
  · simp
  · split <;> simp

@[simp] theorem askLive_queue (k : UplinkKind) (s : State) : (askLive k s).maskQueue = s.maskQueue := by
  unfold askLive
  split_ifs <;> simp

@[simp] theorem askStatusFrame_queue (x : StatusReason) (s : State) : (askStatusFrame x s).maskQueue = s.maskQueue := by
  simp [askStatusFrame]

@[simp] theorem removeWaiting_queue (p : Frame → Bool) (s : State) : (removeWaiting p s).maskQueue = s.maskQueue := by
  unfold removeWaiting
  split_ifs <;> simp

@[simp] theorem detachOrigin_queue (o : Origin) (s : State) : (detachOrigin o s).maskQueue = s.maskQueue := rfl

/-! The offer table and the dispatch status. -/

@[simp] theorem queueRefuse_queue (e : Fin 8) (x : RefuseReason) (s : State) :
    (queueRefuse e x s).maskQueue = s.maskQueue := by
  unfold queueRefuse
  simp only
  split_ifs <;> simp

@[simp] theorem queueRefuseUnknown_queue (n : Nat) (x : RefuseReason) (s : State) :
    (queueRefuseUnknown n x s).maskQueue = s.maskQueue := by simp [queueRefuseUnknown]

@[simp] theorem settleBid_queue (e : Fin 8) (c : Option RefuseReason) (s : State) :
    (settleBid e c s).maskQueue = s.maskQueue := by
  unfold settleBid
  cases c <;> simp only <;> split_ifs <;> simp

@[simp] theorem endOffer_queue (e : Fin 8) (x : OfferState) (y : OfferReason) (s : State) :
    (endOffer e x y s).maskQueue = s.maskQueue := by simp [endOffer]

@[simp] theorem endBid_queue (e : Fin 8) (x : OfferState) (y : OfferReason) (c : Option RefuseReason) (s : State) :
    (endBid e x y c s).maskQueue = s.maskQueue := by simp [endBid]

@[simp] theorem streetHire_queue (s : State) : (streetHire s).maskQueue = s.maskQueue := by
  unfold streetHire
  split <;> simp

@[simp] theorem reportStatus_queue (x y : DispatchStatus) (s : State) : (reportStatus x y s).maskQueue = s.maskQueue := by
  unfold reportStatus
  simp only
  split_ifs <;> simp

/-- A change of the dispatch status, with its STATUS frame and the offer table's part, changes nothing outside the queue
mask. -/
@[simp] theorem setStatus_queue (x : DispatchStatus) (y : StatusReason) (s : State) :
    (setStatus x y s).maskQueue = s.maskQueue := by
  unfold setStatus
  simp only
  split_ifs <;> simp

@[simp] theorem requestStatus_queue (x : DispatchStatus) (l : List DispatchStatus) (s : State) :
    (requestStatus x l s).maskQueue = s.maskQueue := by
  unfold requestStatus
  split_ifs <;> simp

@[simp] theorem reportMeter_queue (x y : MeterState) (s : State) : (reportMeter x y s).maskQueue = s.maskQueue := by
  unfold reportMeter
  split <;> simp

@[simp] theorem withdrawForEmergency_queue (s : State) : (withdrawForEmergency s).maskQueue = s.maskQueue := by
  have h : ∀ (l : List (Fin 8)) (s : State), (l.foldl (fun t e =>
      if (t.oft.entries.get e).state = .open then setChannel .offerResult (endOffer e .withdrawn .emergency t)
      else t) s).maskQueue = s.maskQueue :=
    foldl_keeps State.maskQueue _ fun t e => by split_ifs <;> simp
  unfold withdrawForEmergency
  simp only
  split <;> simp [h]

@[simp] theorem loseBidToLink_queue (s : State) : (loseBidToLink s).maskQueue = s.maskQueue := by
  unfold loseBidToLink
  split <;> simp

/-! The message store. -/

@[simp] theorem grantBlocks_queue (n : Nat) (s : State) : (grantBlocks n s).maskQueue = s.maskQueue := by
  unfold grantBlocks
  simp only
  split_ifs <;> simp

@[simp] theorem freeChain_queue (first n : Nat) (s : State) : (freeChain first n s).maskQueue = s.maskQueue := by
  unfold freeChain
  simp only
  split_ifs <;> simp

@[simp] theorem storeDetails_queue (e : Fin 8) (d : List Byte) (s : State) :
    (storeDetails e d s).maskQueue = s.maskQueue := by
  unfold storeDetails
  simp only
  split <;> simp

/-! The emergency controller. -/

@[simp] theorem setEmergency_emergency (x : EmergencyState) (s : State) :
    (setEmergency x s).maskEmergency = s.maskEmergency := by
  have h : (setEmergency x s).maskEmergency = (s.modEmc fun e => { e with state := x }).maskEmergency :=
    maskEmergency_of_queue (by simp [setEmergency])
  exact h

/-- Asking for an emergency-class frame changes nothing outside the emergency mask. -/
@[simp] theorem askEmergency_emergency (k : EmergencyKind) (s : State) :
    (askEmergency k s).maskEmergency = s.maskEmergency := by
  unfold askEmergency
  split
  · exact maskEmergency_of_queue (by simp)
  · split_ifs <;> rfl

@[simp] theorem returnToQuiet_emergency (s : State) : (returnToQuiet s).maskEmergency = s.maskEmergency := by
  have h : ∀ (f : Emc → Emc) (t : State), (t.modEmc f).maskEmergency = t.maskEmergency := fun _ _ => rfl
  have r : ∀ (p : Frame → Bool) (t : State), (removeWaiting p t).maskEmergency = t.maskEmergency :=
    fun p t => maskEmergency_of_queue (by simp)
  simp only [returnToQuiet, h, r, setEmergency_emergency]

@[simp] theorem emergencyOutcome_emergency (k : UplinkKind) (o : TxOutcome) (s : State) :
    (emergencyOutcome k o s).maskEmergency = s.maskEmergency := by
  unfold emergencyOutcome
  split <;> first | rfl | simp

@[simp] theorem queueOwed_emergency (s : State) : (queueOwed s).maskEmergency = s.maskEmergency := by
  unfold queueOwed
  split
  · rw [askEmergency_emergency]; rfl
  · rfl

/-- Whatever an outcome does, it changes nothing outside the emergency mask. -/
@[simp] theorem deliverOutcome_emergency (f : Frame) (o : TxOutcome) (s : State) :
    (deliverOutcome f o s).maskEmergency = s.maskEmergency := by
  unfold deliverOutcome
  split_ifs
  · simp
  · exact maskEmergency_of_queue (by simp)

@[simp] theorem failFrames_emergency (gone : Frame → Bool) (x : FailReason) (s : State) :
    (failFrames gone x s).maskEmergency = s.maskEmergency := by
  unfold failFrames
  rw [foldl_keeps State.maskEmergency _ (fun t f => by simp)]
  rfl

/-- A press of the alarm changes nothing outside the emergency mask. -/
@[simp] theorem pressAlarm_emergency (s : State) : (pressAlarm s).maskEmergency = s.maskEmergency := by
  have h : ∀ (f : Emc → Emc) (t : State), (t.modEmc f).maskEmergency = t.maskEmergency := fun _ _ => rfl
  have w : ∀ t : State, (withdrawForEmergency t).maskEmergency = t.maskEmergency :=
    fun t => maskEmergency_of_queue (by simp)
  unfold pressAlarm
  split <;> simp [raiseCall, countPress, stopUpdateTimer, startUpdateTimer, h, w]

/-- A judgement of the ALARM line is one of three: a press; nothing, while a press is held; or the line's release (R108). -/
theorem judgeAlarm_cases (s : State) :
    (s.pins.alarm = alarmActiveHigh s ∧ s.emc.alarmReleased = true ∧
      judgeAlarm s = pressAlarm (s.modEmc fun e => { e with alarmReleased := false })) ∨
    (s.pins.alarm = alarmActiveHigh s ∧ s.emc.alarmReleased = false ∧ judgeAlarm s = s) ∨
    (s.pins.alarm ≠ alarmActiveHigh s ∧ judgeAlarm s = s.modEmc fun e => { e with alarmReleased := true }) := by
  unfold judgeAlarm
  split_ifs <;> simp_all

/-- A judgement of the ALARM line changes nothing outside the emergency mask. -/
@[simp] theorem judgeAlarm_emergency (s : State) : (judgeAlarm s).maskEmergency = s.maskEmergency := by
  obtain ⟨-, -, h⟩ | ⟨-, -, h⟩ | ⟨-, h⟩ := judgeAlarm_cases s <;> rw [h]
  · rw [pressAlarm_emergency]; rfl
  · rfl

/-- What a group rewrite does at the window port, where its change leaves the port alone: as many rewrites are in progress
as before, and outside any other the update count has risen by two, modulo 65536 (R162). -/
theorem groupRewrite_wpt (change : State → State) (s : State) (h : ∀ t, (change t).wpt = t.wpt) :
    (groupRewrite change s).wpt = { s.wpt with
      updateCount := if s.wpt.rewriting = 0 then (s.wpt.updateCount + 2) % 65536 else s.wpt.updateCount } := by
  have e : (groupRewrite change s).wpt = (endRewrite (beginRewrite s)).wpt := by
    simp only [groupRewrite, endRewrite, State.modWpt, h]
  rw [e]
  by_cases r : s.wpt.rewriting = 0 <;>
    simp [endRewrite, beginRewrite, State.modWpt, Wpt.countUpdate, r, Nat.add_assoc]

/-- So an even update count stays even (R162). -/
theorem groupRewrite_even (change : State → State) (s : State) (h : ∀ t, (change t).wpt = t.wpt)
    (even : s.wpt.updateCount % 2 = 0) : (groupRewrite change s).wpt.updateCount % 2 = 0 := by
  rw [groupRewrite_wpt change s h]
  dsimp only
  split_ifs <;> omega

/-- The end of a transmission changes the air link engine's transmission and two pins, and nothing else (R135, R136). -/
theorem endTransmission_eq (txd : Bool) (s : State) :
    endTransmission txd s =
      { s with ale := { s.ale with transmission := none }, pins := { s.pins with key := false, txd := txd } } := rfl

end Sys2Proof.Machine
end

