-- ==== Sys2Proof/Laws/MemoryKept.lean ====
section
/-! SUPPORT. Every shared operation keeps window memory in its canonical form. -/

namespace Sys2Proof.Machine

/-- Window memory has its canonical form. -/
def State.MemOk (s : State) : Prop := s.mem.Wf

/-- A state whose memory is that of another is canonical with it. -/
theorem State.MemOk.of_eq {s t : State} (h : s.MemOk) (e : t.mem = s.mem) : t.MemOk := by
  unfold State.MemOk
  rw [e]
  exact h

section
variable {s : State}

/-- A change of memory that keeps the form. -/
theorem modMem_memOk {f : Memory → Memory} (h : s.MemOk) (hf : ∀ m : Memory, m.Wf → (f m).Wf) : (s.modMem f).MemOk :=
  hf _ h

theorem modFrc_memOk {f} (h : s.MemOk) : (s.modFrc f).MemOk := h
theorem modMtc_memOk {f} (h : s.MemOk) : (s.modMtc f).MemOk := h
theorem modDsc_memOk {f} (h : s.MemOk) : (s.modDsc f).MemOk := h
theorem modOft_memOk {f} (h : s.MemOk) : (s.modOft f).MemOk := h
theorem modMst_memOk {f} (h : s.MemOk) : (s.modMst f).MemOk := h
theorem modEmc_memOk {f} (h : s.MemOk) : (s.modEmc f).MemOk := h
theorem modAle_memOk {f} (h : s.MemOk) : (s.modAle f).MemOk := h
theorem modTxq_memOk {f} (h : s.MemOk) : (s.modTxq f).MemOk := h
theorem modWpt_memOk {f} (h : s.MemOk) : (s.modWpt f).MemOk := h
theorem modAtc_memOk {f} (h : s.MemOk) : (s.modAtc f).MemOk := h
theorem modCps_memOk {f} (h : s.MemOk) : (s.modCps f).MemOk := h
theorem modPins_memOk {f} (h : s.MemOk) : (s.modPins f).MemOk := h
theorem modHire_memOk {g} (h : s.MemOk) : (modHire g s).MemOk := h
theorem modTotals_memOk {g} (h : s.MemOk) : (modTotals g s).MemOk := h
theorem modTrip_memOk {g} (h : s.MemOk) : (modTrip g s).MemOk := h
theorem modFrames_memOk {g} (h : s.MemOk) : (modFrames g s).MemOk := h
theorem updateTripRecord_memOk {t f} (h : s.MemOk) : (updateTripRecord t f s).MemOk := h
theorem requestWrite_memOk {k} (h : s.MemOk) : (requestWrite k s).MemOk := h
theorem requestCommit_memOk (h : s.MemOk) : (requestCommit s).MemOk := h
theorem beginRewrite_memOk (h : s.MemOk) : (beginRewrite s).MemOk := h
theorem endRewrite_memOk (h : s.MemOk) : (endRewrite s).MemOk := h
theorem groupRewrite_memOk {g : State → State} (hg : ∀ t : State, t.MemOk → (g t).MemOk) (h : s.MemOk) :
    (groupRewrite g s).MemOk :=
  endRewrite_memOk (hg _ (beginRewrite_memOk h))
theorem detachOrigin_memOk {o} (h : s.MemOk) : (detachOrigin o s).MemOk := h
theorem driveLines_memOk (h : s.MemOk) : (driveLines s).MemOk := h

theorem setChannel_memOk {c} (h : s.MemOk) : (setChannel c s).MemOk := h.of_eq (by simp)
theorem rejudge_memOk (h : s.MemOk) : (rejudge s).MemOk := h.of_eq (by simp)
theorem recordFault_memOk {f d} (h : s.MemOk) : (recordFault f d s).MemOk := h.of_eq (by simp)

theorem modMem_write_memOk {a v} (h : s.MemOk) : (s.modMem fun m => m.write a v).MemOk :=
  modMem_memOk h fun _ hm => Memory.wf_write hm _ _

theorem modMem_writeBytes_memOk {a bs} (h : s.MemOk) : (s.modMem fun m => m.writeBytes a bs).MemOk :=
  modMem_memOk h fun _ hm => Memory.wf_writeBytes hm _ _

theorem setHand_memOk {r v} (h : s.MemOk) : (setHand r v s).MemOk := modMem_write_memOk h

theorem writeAnswer_memOk {r x d w} (h : s.MemOk) : (writeAnswer r x d w s).MemOk :=
  setChannel_memOk (setHand_memOk (modMem_writeBytes_memOk h))

theorem answer_memOk {r x w} (h : s.MemOk) : (answer r x w s).MemOk := writeAnswer_memOk h

theorem answerWork_memOk {r x reason w} (h : s.MemOk) : (answerWork r x reason w s).MemOk := by
  unfold answerWork
  split_ifs
  exacts [writeAnswer_memOk h, writeAnswer_memOk h, h]

theorem updateOffer_memOk {e f} (h : s.MemOk) : (updateOffer e f s).MemOk := rejudge_memOk (modOft_memOk h)

theorem updateInbox_memOk {i f} (h : s.MemOk) : (updateInbox i f s).MemOk := rejudge_memOk (modMst_memOk h)

theorem leaveBidding_memOk (h : s.MemOk) : (leaveBidding s).MemOk := by
  unfold leaveBidding
  split_ifs
  exacts [rejudge_memOk (modDsc_memOk h), h]

theorem routeToOffer_memOk {k o e n} (h : s.MemOk) : (routeToOffer k o e n s).MemOk := by
  unfold routeToOffer
  simp only
  split_ifs
  · exact h
  · exact updateOffer_memOk h
  · cases o
    exacts [updateOffer_memOk h, setChannel_memOk (leaveBidding_memOk (updateOffer_memOk h))]
  · cases o <;> exact updateOffer_memOk h

theorem routeToRecord_memOk {o r} (h : s.MemOk) : (routeToRecord o r s).MemOk := by
  cases o <;> exact answerWork_memOk h

theorem routeToOrigin_memOk {f o g} (h : s.MemOk) : (routeToOrigin f o g s).MemOk := by
  unfold routeToOrigin
  cases g
  case record => exact routeToRecord_memOk h
  case inbox => exact updateInbox_memOk h
  case offer => exact routeToOffer_memOk h
  case trip => exact requestCommit_memOk (updateTripRecord_memOk h)
  case lastShift => exact h
  case emergency => exact h
  all_goals (cases o <;> [exact h; exact setChannel_memOk (recordFault_memOk h)])

theorem routeOutcome_memOk {f o} (h : s.MemOk) : (routeOutcome f o s).MemOk := by
  unfold routeOutcome
  refine foldl_invariant State.MemOk _ (fun t l ht => ?_) _ _ h
  split_ifs
  exacts [ht, routeToOrigin_memOk ht]

theorem joinQueue_memOk {f} (h : s.MemOk) : (joinQueue f s).MemOk := by
  unfold joinQueue
  split_ifs
  · exact modFrames_memOk h
  · split
    · exact modFrames_memOk (routeOutcome_memOk (modFrames_memOk h))
    · exact routeOutcome_memOk h

theorem askLive_memOk {k} (h : s.MemOk) : (askLive k s).MemOk := by
  unfold askLive
  split_ifs
  exacts [h, joinQueue_memOk h]

theorem askStatusFrame_memOk {x} (h : s.MemOk) : (askStatusFrame x s).MemOk := askLive_memOk (modDsc_memOk h)

theorem removeWaiting_memOk {p} (h : s.MemOk) : (removeWaiting p s).MemOk := by
  unfold removeWaiting
  split_ifs
  exacts [modFrames_memOk h, h]

/-! The offer table and the dispatch status. -/

theorem queueRefuse_memOk {e x} (h : s.MemOk) : (queueRefuse e x s).MemOk := by
  unfold queueRefuse
  simp only
  split_ifs
  exacts [h, joinQueue_memOk (updateOffer_memOk h)]

theorem queueRefuseUnknown_memOk {n x} (h : s.MemOk) : (queueRefuseUnknown n x s).MemOk := joinQueue_memOk h

theorem settleBid_memOk {e c} (h : s.MemOk) : (settleBid e c s).MemOk := by
  unfold settleBid
  cases c <;> simp only <;> split_ifs
  exacts [updateOffer_memOk h, removeWaiting_memOk (updateOffer_memOk h), queueRefuse_memOk (updateOffer_memOk h),
    queueRefuse_memOk (removeWaiting_memOk (updateOffer_memOk h)), updateOffer_memOk h,
    removeWaiting_memOk (updateOffer_memOk h)]

theorem endOffer_memOk {e x y} (h : s.MemOk) : (endOffer e x y s).MemOk := updateOffer_memOk h

theorem endBid_memOk {e x y c} (h : s.MemOk) : (endBid e x y c s).MemOk := settleBid_memOk (endOffer_memOk h)

theorem streetHire_memOk (h : s.MemOk) : (streetHire s).MemOk := by
  unfold streetHire
  split
  exacts [setChannel_memOk (endBid_memOk h), h]

theorem reportStatus_memOk {x y} (h : s.MemOk) : (reportStatus x y s).MemOk := by
  unfold reportStatus
  simp only
  split_ifs
  all_goals first
    | exact h
    | exact modOft_memOk h
    | exact streetHire_memOk h

theorem setStatus_memOk {x y} (h : s.MemOk) : (setStatus x y s).MemOk := by
  unfold setStatus
  simp only
  split_ifs
  all_goals first
    | exact h
    | exact reportStatus_memOk (setChannel_memOk (askStatusFrame_memOk (rejudge_memOk (modDsc_memOk h))))
    | exact reportStatus_memOk (rejudge_memOk (modDsc_memOk h))

theorem requestStatus_memOk {x l} (h : s.MemOk) : (requestStatus x l s).MemOk := by
  unfold requestStatus
  split_ifs
  exacts [setStatus_memOk h, h]

theorem reportMeter_memOk {x y} (h : s.MemOk) : (reportMeter x y s).MemOk := by
  unfold reportMeter
  split <;> first | exact h | exact setStatus_memOk h

theorem withdrawForEmergency_memOk (h : s.MemOk) : (withdrawForEmergency s).MemOk := by
  have g : State.MemOk (offerIndices.foldl (fun t e =>
      if (t.oft.entries.get e).state = .open then setChannel .offerResult (endOffer e .withdrawn .emergency t)
      else t) s) := foldl_invariant State.MemOk _ (fun t e ht => by
        split_ifs
        exacts [setChannel_memOk (endOffer_memOk ht), ht]) _ _ h
  unfold withdrawForEmergency
  simp only
  split
  exacts [requestStatus_memOk (setChannel_memOk (endBid_memOk g)), g]

theorem loseBidToLink_memOk (h : s.MemOk) : (loseBidToLink s).MemOk := by
  unfold loseBidToLink
  split
  exacts [setChannel_memOk (requestStatus_memOk (endBid_memOk h)), h]

/-! The message store. -/

theorem grantBlocks_memOk {n} (h : s.MemOk) : (grantBlocks n s).MemOk := by
  unfold grantBlocks
  simp only
  have g : ∀ (t : State) (a b : Nat), t.MemOk → (rejudge (t.modMem (linkBlock a b))).MemOk :=
    fun t a b ht => rejudge_memOk (modMem_memOk ht fun _ hm => linkBlock_wf hm a b)
  split_ifs
  exacts [h, setChannel_memOk (g _ _ _ (modMst_memOk h)), g _ _ _ (modMst_memOk h)]

theorem freeChain_memOk {first n} (h : s.MemOk) : (freeChain first n s).MemOk := by
  unfold freeChain
  simp only
  split_ifs
  · exact h
  · exact rejudge_memOk (modMst_memOk (modMem_memOk h fun _ hm => linkBlock_wf (clearUsed_wf _ hm) _ _))

theorem modMem_fillBlocks_memOk {bs text} (h : s.MemOk) : (s.modMem (fillBlocks bs text)).MemOk :=
  modMem_memOk h fun _ hm => fillBlocks_wf _ _ hm

theorem storeDetails_memOk {e d} (h : s.MemOk) : (storeDetails e d s).MemOk := by
  unfold storeDetails
  simp only
  split
  exacts [updateOffer_memOk h, updateOffer_memOk (modMem_fillBlocks_memOk (grantBlocks_memOk h))]

theorem queueReceipt_memOk {n c a b} (h : s.MemOk) : (queueReceipt n c a b s).MemOk := joinQueue_memOk h

theorem receiptStored_memOk {w n c a} (h : s.MemOk) : (receiptStored w n c a s).MemOk := by
  unfold receiptStored
  split_ifs
  exacts [queueReceipt_memOk h, h]

theorem refuseText_memOk {w f} (h : s.MemOk) : (refuseText w f s).MemOk := by
  unfold refuseText
  simp only
  split_ifs
  exacts [queueReceipt_memOk (modMst_memOk h), modMst_memOk h]

theorem replaceVictim_memOk {i} (h : s.MemOk) : (replaceVictim i s).MemOk := modMst_memOk (freeChain_memOk h)

theorem storeMessage_memOk {i v g n w f c p} (h : s.MemOk) : (storeMessage i v g n w f c p s).MemOk := by
  have k : ∀ {t : State} {j : Nat} {text : List Byte} {a : List Nat} {m e} {ch : Channel}, t.MemOk →
      (setChannel ch (updateInbox i e (((grantBlocks j t).modMem (fillBlocks a text)).modMst m))).MemOk :=
    fun ht => setChannel_memOk (updateInbox_memOk (modMst_memOk (modMem_fillBlocks_memOk (grantBlocks_memOk ht))))
  unfold storeMessage
  simp only
  cases v <;> simp only [if_true, if_false, Bool.false_eq_true] <;> split_ifs
  exacts [k h, receiptStored_memOk (k h), k (replaceVictim_memOk h), receiptStored_memOk (k (replaceVictim_memOk h))]

theorem takeNewMessage_memOk {w f c p} (h : s.MemOk) : (takeNewMessage w f c p s).MemOk := by
  unfold takeNewMessage
  split
  · exact refuseText_memOk h
  · simp only
    split
    exacts [refuseText_memOk h, storeMessage_memOk h]

theorem appendSecond_memOk {i w f} (h : s.MemOk) : (appendSecond i w f s).MemOk := by
  unfold appendSecond
  simp only
  split
  · exact refuseText_memOk h
  · exact receiptStored_memOk (setChannel_memOk (updateInbox_memOk (modMem_memOk (grantBlocks_memOk h)
      fun _ hm => linkAfter_wf _ _ (fillBlocks_wf _ _ hm))))

theorem countFormatError_memOk (h : s.MemOk) : (countFormatError s).MemOk := h

theorem takeText_memOk {w f} (h : s.MemOk) : (takeText w f s).MemOk := by
  unfold takeText
  split
  · split
    · exact h
    · split
      · split
        exacts [refuseText_memOk h, takeNewMessage_memOk h]
      · split
        · split
          exacts [appendSecond_memOk h, h]
        · exact receiptStored_memOk h
  · exact h

/-! The emergency controller. -/

theorem setEmergency_memOk {x} (h : s.MemOk) : (setEmergency x s).MemOk :=
  requestCommit_memOk (setChannel_memOk (rejudge_memOk (modEmc_memOk h)))

theorem askEmergency_memOk {k} (h : s.MemOk) : (askEmergency k s).MemOk := by
  unfold askEmergency
  split
  · exact joinQueue_memOk h
  · split_ifs <;> exact h

theorem startUpdateTimer_memOk (h : s.MemOk) : (startUpdateTimer s).MemOk := h

theorem stopUpdateTimer_memOk (h : s.MemOk) : (stopUpdateTimer s).MemOk := h

theorem returnToQuiet_memOk (h : s.MemOk) : (returnToQuiet s).MemOk :=
  modEmc_memOk (removeWaiting_memOk (modEmc_memOk (setEmergency_memOk h)))

theorem emergencyOutcome_memOk {k o} (h : s.MemOk) : (emergencyOutcome k o s).MemOk := by
  unfold emergencyOutcome
  split
  exacts [startUpdateTimer_memOk h, askEmergency_memOk h, returnToQuiet_memOk h, askEmergency_memOk h, h]

theorem queueOwed_memOk (h : s.MemOk) : (queueOwed s).MemOk := by
  unfold queueOwed
  split
  exacts [askEmergency_memOk (modEmc_memOk h), h]

theorem deliverOutcome_memOk {f o} (h : s.MemOk) : (deliverOutcome f o s).MemOk := by
  unfold deliverOutcome
  split_ifs
  exacts [queueOwed_memOk (emergencyOutcome_memOk h), routeOutcome_memOk h]

theorem failFrames_memOk {g x} (h : s.MemOk) : (failFrames g x s).MemOk :=
  foldl_invariant State.MemOk _ (fun _ _ ht => deliverOutcome_memOk ht) _ _ (modFrames_memOk h)

theorem raiseCall_memOk (h : s.MemOk) : (raiseCall s).MemOk := by
  unfold raiseCall
  exact withdrawForEmergency_memOk (askEmergency_memOk (setEmergency_memOk (modEmc_memOk h)))

theorem countPress_memOk (h : s.MemOk) : (countPress s).MemOk := h

theorem pressAlarm_memOk (h : s.MemOk) : (pressAlarm s).MemOk := by
  unfold pressAlarm
  split
  · exact raiseCall_memOk h
  · exact stopUpdateTimer_memOk (askEmergency_memOk (countPress_memOk h))
  · exact startUpdateTimer_memOk (askEmergency_memOk (countPress_memOk h))
  · exact withdrawForEmergency_memOk (askEmergency_memOk (setEmergency_memOk (countPress_memOk h)))

theorem judgeAlarm_memOk (h : s.MemOk) : (judgeAlarm s).MemOk := by
  unfold judgeAlarm
  split_ifs
  exacts [pressAlarm_memOk h, h, h]

/-! The fare computer and the meter controller. -/

theorem rewriteFareGroup_memOk (h : s.MemOk) : (rewriteFareGroup s).MemOk := h

theorem assignPulses_memOk {n} (h : s.MemOk) : (assignPulses n s).MemOk := by
  unfold assignPulses
  split <;> exact h

theorem discardExcess_memOk (h : s.MemOk) : (discardExcess s).MemOk := by
  unfold discardExcess
  simp only
  split_ifs
  exacts [h, modHire_memOk (recordFault_memOk h), recordFault_memOk h]

theorem closePulses_memOk (h : s.MemOk) : (closePulses s).MemOk :=
  modFrc_memOk (assignPulses_memOk (discardExcess_memOk h))

theorem settle_memOk (h : s.MemOk) : (settle s).MemOk := by
  unfold settle
  simp only
  split_ifs
  exacts [h, rewriteFareGroup_memOk (requestCommit_memOk (setChannel_memOk h)),
    rewriteFareGroup_memOk (setChannel_memOk h), rewriteFareGroup_memOk (requestCommit_memOk (setChannel_memOk h))]

theorem settleSwitch_memOk (h : s.MemOk) : (settleSwitch s).MemOk := by
  unfold settleSwitch
  split_ifs
  exacts [h, settle_memOk h]

theorem switchTariff_memOk {n} (h : s.MemOk) : (switchTariff n s).MemOk := by
  unfold switchTariff
  split_ifs
  · exact h
  · exact requestCommit_memOk (rewriteFareGroup_memOk (setChannel_memOk (modHire_memOk
      (settleSwitch_memOk (s := replaceRates (windowTariff s n) s) h))))
  · exact recordFault_memOk h

theorem changeSchedule_memOk {n} (h : s.MemOk) : (changeSchedule n s).MemOk := by
  unfold changeSchedule
  split
  · split
    exacts [switchTariff_memOk (modFrc_memOk h), modFrc_memOk h]
  · split
    exacts [switchTariff_memOk (modFrc_memOk h), modFrc_memOk h]
  · split
    exacts [rewriteFareGroup_memOk (modFrc_memOk h), modFrc_memOk h]
  · split
    exacts [rewriteFareGroup_memOk (modFrc_memOk h), modFrc_memOk h]
  · exact modFrc_memOk h

theorem evaluateSchedule_memOk (h : s.MemOk) : (evaluateSchedule s).MemOk := by
  unfold evaluateSchedule
  split_ifs
  exacts [h, changeSchedule_memOk h]

theorem rewriteClockAndEvaluate_memOk {g} (h : s.MemOk) : (rewriteClockAndEvaluate g s).MemOk := by
  unfold rewriteClockAndEvaluate
  simp only
  split_ifs
  · exact endRewrite_memOk (evaluateSchedule_memOk (modFrc_memOk (beginRewrite_memOk h)))
  · exact evaluateSchedule_memOk (endRewrite_memOk (modFrc_memOk (beginRewrite_memOk h)))

theorem setClockTo_memOk {t} (h : s.MemOk) : (setClockTo t s).MemOk := rewriteClockAndEvaluate_memOk h

theorem meterChange_memOk {x} (h : s.MemOk) : (meterChange x s).MemOk :=
  setChannel_memOk (requestCommit_memOk (reportMeter_memOk (rewriteFareGroup_memOk (rejudge_memOk
    (modMtc_memOk (closePulses_memOk h))))))

theorem loseTrip_memOk {t} (h : s.MemOk) : (loseTrip t s).MemOk := by
  unfold loseTrip
  simp only
  split_ifs <;> exact h

theorem writeTripRecord_memOk {t r} (h : s.MemOk) : (writeTripRecord t r s).MemOk := h

theorem refreshMetres_memOk (h : s.MemOk) : (refreshMetres s).MemOk := h

theorem closeTrip_memOk (h : s.MemOk) : (closeTrip s).MemOk := by
  unfold closeTrip
  refine requestCommit_memOk (refreshMetres_memOk (modTotals_memOk (writeTripRecord_memOk ?_)))
  split_ifs
  exacts [loseTrip_memOk (s := countTrip s) h, h]

theorem queueTripFrame_memOk {t} (h : s.MemOk) : (queueTripFrame t s).MemOk := joinQueue_memOk h

theorem queueShiftFrame_memOk (h : s.MemOk) : (queueShiftFrame s).MemOk := joinQueue_memOk (modTotals_memOk h)

theorem requeueTrip_memOk {t} (h : s.MemOk) : (requeueTrip t s).MemOk := by
  unfold requeueTrip
  split_ifs
  exacts [queueTripFrame_memOk (requestCommit_memOk (updateTripRecord_memOk h)), h]

theorem requeueReports_memOk (h : s.MemOk) : (requeueReports s).MemOk := by
  have g : ∀ l : List (Fin 24), State.MemOk (l.foldl (fun t e => requeueTrip e t) s) := fun l =>
    foldl_invariant State.MemOk _ (fun _ _ ht => requeueTrip_memOk ht) _ _ h
  unfold requeueReports
  simp only
  split_ifs <;> first | exact queueShiftFrame_memOk (g _) | exact queueShiftFrame_memOk h | exact g _ | exact h

/-! The air link. -/

theorem reportFirstUp_memOk (h : s.MemOk) : (reportFirstUp s).MemOk := by
  unfold reportFirstUp
  simp only
  split_ifs
  exacts [h, h, askLive_memOk (modDsc_memOk h)]

theorem reportUp_memOk (h : s.MemOk) : (reportUp s).MemOk := by
  unfold reportUp
  simp only
  split_ifs
  · exact requeueReports_memOk (reportFirstUp_memOk h)
  · exact reportFirstUp_memOk (requeueReports_memOk h)
  · exact reportFirstUp_memOk (requeueReports_memOk h)

theorem linkChange_memOk {x} (h : s.MemOk) : (linkChange x s).MemOk := by
  have g : ∀ f : Ale → Ale, (setChannel .link (rejudge (s.modAle f))).MemOk :=
    fun f => setChannel_memOk (rejudge_memOk (modAle_memOk h))
  unfold linkChange
  split_ifs
  · exact h
  · cases x
    exacts [g _, reportUp_memOk (g _), g _, failFrames_memOk (loseBidToLink_memOk (g _))]

theorem failAttempt_memOk {q} (h : s.MemOk) : (failAttempt q s).MemOk := by
  unfold failAttempt
  split
  · exact h
  · simp only
    split_ifs <;> first | exact h | exact deliverOutcome_memOk h

theorem takeAck_memOk {n q} (h : s.MemOk) : (takeAck n q s).MemOk := by
  unfold takeAck
  split
  exacts [deliverOutcome_memOk h, h]

theorem takeCycleAcks_memOk {n acks} (h : s.MemOk) : (takeCycleAcks n acks s).MemOk :=
  foldl_invariant State.MemOk _ (fun _ _ ht => failAttempt_memOk ht) _ _
    (modFrames_memOk (foldl_invariant State.MemOk _ (fun _ _ ht => takeAck_memOk ht) _ _ h))

theorem reportFirstTransmission_memOk {f} (h : s.MemOk) : (reportFirstTransmission f s).MemOk := by
  refine foldl_invariant State.MemOk _ (fun u l hu => ?_) _ _ h
  cases l.origin
  case offer =>
    dsimp only
    split_ifs
    exacts [updateOffer_memOk hu, hu]
  all_goals exact hu

theorem handOver_memOk {p k m} (h : s.MemOk) : (handOver p k m s).MemOk := by
  unfold handOver
  split
  · exact h
  · simp only
    split
    exacts [reportFirstTransmission_memOk (modAle_memOk (modFrames_memOk h)), modAle_memOk (modFrames_memOk h)]

theorem sendClassZero_memOk {m} (h : s.MemOk) : (sendClassZero m s).1.MemOk := by
  unfold sendClassZero
  split
  · exact h
  · split
    exacts [h, handOver_memOk h]

theorem sendHead_memOk {m} (h : s.MemOk) : (sendHead m s).MemOk := by
  unfold sendHead
  split_ifs
  · exact h
  · split
    · exact h
    · split
      exacts [h, handOver_memOk h]

theorem offerSlots_memOk {m} (h : s.MemOk) : (offerSlots m s).MemOk := by
  unfold offerSlots
  split_ifs
  exacts [sendClassZero_memOk h, sendHead_memOk (sendClassZero_memOk h)]

theorem beginSlot_memOk {a} (h : s.MemOk) : (beginSlot a s).MemOk := by
  unfold beginSlot
  split
  · exact h
  · split_ifs
    · exact recordFault_memOk h
    · exact h
    · split <;> exact h

theorem cutOff_memOk {d} (h : s.MemOk) : (cutOff d s).MemOk := by
  unfold cutOff
  split_ifs
  exacts [h, recordFault_memOk h]

end

end Sys2Proof.Machine
end

