-- ==== Sys2Proof/Laws/Outcome.lean ====
section
/-! SUPPORT. The terms in which the outcomes of a CYCLE are stated: what an outcome raises alone, and the state beside a
BID's first hand-over. -/

namespace Sys2Proof.Machine

/-- An outcome with nothing beside it and no match judged raises its channels alone. -/
theorem heardAs_alone (cs : List Channel) (s t : State) : HeardAs none false s.atc cs s t ↔ Raises cs s t := Iff.rfl

/-- An outcome with nothing beside it that judges the matches. -/
theorem heardAs_judged (cs : List Channel) (s t : State) : HeardAs none true s.atc cs s t ↔ RaisesJudged cs s t := by
  simp [HeardAs, RaisesJudged]

/-- An outcome with nothing beside it that records a fault. -/
theorem heardAs_records (f : FaultId) (detail : Nat) (cs : List Channel) (s t : State) :
    HeardAs none false (ringAfter s.atc f detail s.frc.clock.seconds) (.fault :: cs) s t ↔ Records f detail cs s t := Iff.rfl

/-- Beside something else the matches are judged, and its channels join. -/
theorem heardAs_beside (more : List Channel) (judged : Bool) (ring : Atc) (cs : List Channel) (s t : State) :
    HeardAs (some more) judged ring cs s t ↔ RaisesBeside ring (cs ++ more) s t := Iff.rfl

/-- Of the state, a BID's first hand-over changes the offer table alone. -/
theorem bidSent_keeps (e : Fin 8) (s : State) : Keeps [.oft] s (bidSent e s) := by
  intro p hp
  cases p <;> first | rfl | exact absurd (List.mem_singleton.mpr rfl) hp

/-- Of the offer table, a BID's first hand-over changes its entry alone. -/
theorem bidSent_onlyOffer (e : Fin 8) (s : State) : OnlyOffer e s (bidSent e s) := by
  refine ⟨rfl, fun x hx => ?_⟩
  simp only [bidSent, Vector.get_eq_getElem]
  exact Vector.getElem_set_ne _ _ fun h => hx (Fin.ext h.symm)

/-- A frame for a retry is the frame as it was but for its attempts, its backoff and its state. -/
@[simp] theorem Frame.retried_kind (f : Frame) (rng : Word16) : (f.retried rng).kind = f.kind := rfl
@[simp] theorem Frame.retried_origins (f : Frame) (rng : Word16) : (f.retried rng).origins = f.origins := rfl
@[simp] theorem Frame.retried_body (f : Frame) (rng : Word16) : (f.retried rng).body = f.body := rfl
@[simp] theorem Frame.retried_sequence (f : Frame) (rng : Word16) : (f.retried rng).sequence = f.sequence := rfl
@[simp] theorem Frame.retried_inFlight (f : Frame) (rng : Word16) : (f.retried rng).inFlight = false := rfl

end Sys2Proof.Machine
end

