-- ==== Sys2Proof/Tests/Slice0.lean ====
section
/-! SUPPORT. Tests: the checks of WellFormed, single steps with results taken from the spec, and a witness for the
hypotheses of every statement (a theorem `witness_<Name>` shows concrete states and operands that meet them). -/

open Sys2Proof Sys2Proof.Machine

namespace Sys2Proof.Tests

set_option Elab.async false

/-! Small states. -/

/-- Fleet settings: fleet 0x1234, cab 0x0101, cancel code 4711, every channel enabled and unmasked (layout of R159). -/
def settingsBytes : List Byte :=
  littleEndian 2 0x1234 ++ littleEndian 2 0x0101 ++ littleEndian 2 4711 ++ [48, 12, 1, 1, 30, 20] ++
  littleEndian 2 30 ++ littleEndian 2 1200 ++ [6, 1, 0, 1, 1, 0] ++ [255, 255, 255, 255, 0, 0]

/-- A tariff record of R6: flag fare 300, allowance 200, Rd 150, Rt 3000, Q 20, SINGLE. -/
def tariffRecord : List Byte :=
  littleEndian 4 300 ++ littleEndian 4 200 ++ littleEndian 4 150 ++ littleEndian 4 3000 ++ littleEndian 2 20

/-- A bank with K 800, V 250, lock off, host meter control set, auto-switch clear, payment hold 2 (R181). -/
def bankBytes : List Byte := littleEndian 2 800 ++ littleEndian 2 250 ++ [0, 1, 0, 2] ++ List.replicate 56 0

/-- A READY part that gathers a frame, with the link UP and the meter OFF. -/
def base : State :=
  { State.reset with
    phase := .ready,
    mem := Memory.writeBytes (Memory.writeBytes [] 0x2B00 tariffRecord) 0x2E00 settingsBytes,
    frc := { Frc.atReset with meterTimerRunning := true, clockTimerRunning := true },
    mst := { Mst.atReset with freeHead := 0, freeCount := 224 },
    ale := { Ale.atReset with receiver := .collecting, link := .up },
    dsc := { Dsc.atReset with upSeen := true },
    cps := { Cps.atReset Store.empty with bank := bankBytes } }

/-- The meter in a state, with the status R48 gives it. -/
def metered (m : MeterState) (d : DispatchStatus) : State :=
  { base with mtc := { base.mtc with meter := m }, dsc := { base.dsc with status := d } }

/-- A record posted at the head of the list, with a kind and its parameters from byte 8 on (R168). -/
def posted (s : State) (kind : Byte) (params : List Byte) : State :=
  { s with
    mem := ((s.mem.write 0x100 1).write 0x101 kind).writeBytes 0x108 params, wpt := { s.wpt with posted := [0] } }

/-- A downlink frame of this fleet with a good CRC. -/
def frame (kind address : Nat) (body : List Byte) : RxFrame :=
  let f : RxFrame :=
    { fleet := 0x1234, address := BitVec.ofNat 16 address, sequence := 0, body := body, crc := 0 }
  { f with crc := crc16 (frameBytes kind f) }

/-- One offer entry replaced. -/
def withOffer (s : State) (e : Fin 8) (x : OfferEntry) : State :=
  { s with oft := { s.oft with entries := s.oft.entries.set e.val x e.isLt } }

/-- An entry of offer 7 in a state. -/
def offer7 (st : OfferState) : OfferEntry := { OfferEntry.empty with state := st, number := 7 }

/-- One inbox entry replaced. -/
def withMessage (s : State) (i : Fin 24) (st : InboxState) : State :=
  { s with
    mst := { s.mst with
      inbox := s.mst.inbox.set i.val { InboxEntry.empty with state := st, number := 9, sender := 1 } i.isLt } }

/-- A call in a state. -/
def called (e : EmergencyState) (s : State) : State := { s with emc := { s.emc with state := e, code := 4711 } }

/-- Frames in the queue. -/
def queued (fs : List Frame) (s : State) : State := { s with txq := { s.txq with frames := fs } }

/-- A TRIP frame of log entry 5. -/
def tripFrame : Frame := newFrame .trip [.trip 5] .fromTripRecord

/-- A BID frame of entry 0 and offer 7. -/
def bidFrame : Frame := newFrame .bid [.offer 0 7] (.fixed (.bid 7 0 true .zero))

/-- A TEXT frame of record 0. -/
def textFrame : Frame := newFrame .text [.record 0] (.fixed (.text 1 0 0 []))

/-- A run of the calibration port at a transaction. -/
def running (x : CalTransaction) (staging : List Byte) (p : Nat) : State :=
  { base with
    cps := { base.cps with
      pointer := p,
      run := some
        { staging := staging, transaction := x, capturedTotals := List.replicate 40 0, serialWritable := false } } }

/-- A write in progress for record 0 with a hand value. -/
def writing (job : StoreJob) (hand : Byte) : State :=
  { base with
    mem := base.mem.write 0x100 hand,
    cps := { base.cps with writing := some job, tariffRecord := some 0, settingsRecord := some 0 } }

/-- A meter commit of a part in a meter state and emergency state. -/
def commitOf (m : MeterState) (e : EmergencyState) : MeterCommit :=
  { checkpoint :=
      { meter := m, hire := Hire.zero Tariff.zero, shiftPulses := 5, trip := Trip.zero, emergency := e,
        emergencyCount := 1 },
    totals := TotalsGroup.zero, tripLog := Vector.replicate 24 TripRecord.empty, ageOrder := [] }

/-! The checks of WellFormed: each refuses an ill-formed term and takes a well-formed one at its bound. -/

theorem test_body_over_120_refused : (Instr.poll (frame 0x30 0x101 (List.replicate 121 0))).wellFormed = false := by
  decide +kernel

theorem test_body_of_120_taken : (Instr.poll (frame 0x30 0x101 (List.replicate 120 0))).wellFormed = true := by
  decide +kernel

theorem test_slot_17_refused : (Instr.slotStart 17 true).wellFormed = false := by decide

theorem test_slot_16_taken : (Instr.slotStart 16 true).wellFormed = true := by decide

theorem test_length_120_is_no_format_error : (Instr.rxLengthFormatError 120).wellFormed = false := by decide

theorem test_length_121_is_a_format_error : (Instr.rxLengthFormatError 121).wellFormed = true := by decide

/-! Results the spec states. -/

/-- R127: the CRC of the nine bytes "123456789" is 0x29B1. -/
theorem test_crc_check_value : crc16 [0x31, 0x32, 0x33, 0x34, 0x35, 0x36, 0x37, 0x38, 0x39] = 0x29B1#16 := by
  decide +kernel

/-- R2: the ceiling floor(K × V / 3600) + 1 for K 800 and V 250. -/
theorem test_ceiling : ceilingOf base = 56 := by decide +kernel

/-- R171: IDENT reads 0x0441. -/
theorem test_ident : (windowByte base 0x3001, windowByte base 0x3000) = (0x04#8, 0x41#8) := by decide +kernel

/-- The codes of R54. -/
theorem test_status_reason_codes :
    [StatusReason.change, .noShow, .zone, .startup].map StatusReason.code = [0, 1, 2, 3] := by decide

/-- Numbers high byte first (R124): 999,999 is 0x0F423F, and -1 in four bytes is all ones. -/
theorem test_high_byte_first :
    bigEndian 2 0x1234 = [0x12#8, 0x34#8] ∧ bigEndian 3 999999 = [0x0F#8, 0x42#8, 0x3F#8] ∧
      bigEndian 4 (-1) = List.replicate 4 0xFF#8 := by decide +kernel

/-- R17: 2000 has a 29 February and 2001 has none. -/
theorem test_leap_year : (monthLength 2000 2, monthLength 2001 2) = (29, 28) := by decide

/-- R181: the check value of a bank is stored high byte first. -/
theorem test_bank_check_order : (bankOf [0x31, 0x32, 0x33, 0x34, 0x35, 0x36, 0x37, 0x38, 0x39]).drop 9 =
    [0x29#8, 0xB1#8] := by decide +kernel

/-- A hire under the tariff of the worked sequences: Rd 240, Rt 3,600, Q 20, SINGLE (section 1.7). -/
def hired (a : Int) (drops fare pulses : Nat) : State :=
  let s := metered .hired .hired
  { s with
    frc := { s.frc with
      pulseCounter := pulses,
      hire := { s.frc.hire with
        tariff := ⟨0, 350, 200, 240, 3600, 20, 0, []⟩, accumulator := a, dropCount := drops, fare := fare } } }

/-- The hire of a state after one command. -/
def hireAfter (c : Instr) (s : State) : Option Hire :=
  match exec c s with
  | .next t => some t.frc.hire
  | _ => none

/-- Expiry 127 of the first worked sequence: A reaches 59,904,000 and the first drop is taken (section 1.7). -/
theorem test_first_drop :
    (hireAfter .meterSecondExpiry (hired 52992000 0 350 8)).map (fun h => (h.accumulator, h.dropCount, h.fare)) =
      some (2304000, 1, 370) := by decide +kernel

/-- The fare limit sequence: H is 9 and no drop is due, A is held at T - 1 (section 1.7). -/
theorem test_fare_limit :
    (hireAfter .meterSecondExpiry (hired 42784000 49982 999990 56)).map (fun h => (h.accumulator, h.fare, h.fareLimit)) =
      some (57599999, 999990, true) := by decide +kernel

/-- Pulses above the ceiling: of 70 edges 56 are used and 14 discarded (section 1.7). -/
theorem test_pulses_above_ceiling :
    (hireAfter .meterSecondExpiry (hired 0 0 350 70)).map (fun h => (h.hiredPulses, h.discardedPulses)) =
      some (56, 14) := by decide +kernel

/-! Witnesses: the step and the laws. -/

theorem witness_StepTakesTheFrontCommand : State.reset.pending = [] := by decide

theorem witness_Laws :
    (MemoryLaw base ∧ MemoryLaw State.reset) ∧ FareLaw State.reset ∧ QueueLaw base ∧ StatusLaw base ∧
      BidLaw base ∧ AssignmentLaw base ∧ PoolLaw base ∧ OfferLaw base := by
  delta MemoryLaw QueueLaw StatusLaw BidLaw AssignmentLaw PoolLaw OfferLaw
  refine ⟨by decide +kernel, ?_, by decide +kernel, by decide +kernel, by decide +kernel, ?_, by decide +kernel,
    by decide +kernel⟩
  · exact ⟨by decide, (fun _ h => nomatch (show (none : Option MeterCommit) = some _ from h)),
      (fun _ _ _ h => nomatch (show (none : Option StoreJob) = some _ from h))⟩
  · exact ⟨(fun _ h => nomatch (show (none : Option (Fin 8)) = some _ from h)), by decide +kernel⟩

theorem witness_DispatchKeepsItsLaws : CallLaw base ∧ StagesLaw base := by
  delta CallLaw StagesLaw; decide +kernel

theorem witness_PostedListKeepsItsLaw : PostedLaw (posted base 0x01 [1, 0]) := by delta PostedLaw; decide +kernel

theorem witness_RegistersStayInRange : RangeLaw State.reset := by
  delta RangeLaw
  have none' : ∀ n : Nat, (none : Option Nat) = some n → False := fun _ h => nomatch h
  delta Hire.inRange Trip.inRange TotalsGroup.inRange Totals.inRange
  refine ⟨by decide, by decide, by decide, by decide, by decide, by decide, by decide, by decide,
    (fun _ h => nomatch (show (none : Option MeterCommit) = some _ from h)),
    (fun _ _ _ h => nomatch (show (none : Option StoreJob) = some _ from h)), (fun n h => (none' n h).elim), by decide,
    by decide, by decide, by decide +kernel, by decide, by decide, by decide, by decide, by decide, by decide, by decide,
    (fun n h => (none' n h).elim), by decide, by decide,
    by decide, by decide, by decide, (fun f h => nomatch (show f ∈ ([] : List Frame) from h)), by decide, by decide,
    by decide, by decide, by decide, by decide +kernel, by decide⟩

/-! Witnesses: the fare computer. -/

theorem witness_PulsesAreCountedAndAssigned :
    base.frc.meterTimerRunning = true ∧ ¬(base.mtc.meter = .hired ∧ base.frc.hire.fareLimit = false) := by decide

theorem witness_HiredSecondIsCharged :
    let s := hired 52992000 0 350 8
    s.frc.meterTimerRunning = true ∧ s.mtc.meter = .hired ∧ s.frc.hire.fareLimit = false ∧
      1 ≤ s.frc.hire.tariff.dropValue := by decide

/-- A clock at a given moment, set and running. -/
def clockAt (t : Stamp) : State := { base with frc := { base.frc with clock := t, clockSet := true } }

theorem witness_CalendarAdvancesAndSchedules :
    let last := clockAt ⟨2099, 12, 31, 86399⟩
    let day := { last with mem := (last.mem.write 0x2C00 127).write 0x2C01 1 }
    (last.frc.clockTimerRunning = true ∧ last.frc.clock.valid = true) ∧ base.frc.clockSet = false ∧
      (∀ i, i < 16 → (scheduleEntry last i).qualifies last.frc.clock = false) ∧
      (day.frc.clockSet = true ∧ (scheduleEntry day 0).qualifies day.frc.clock = true ∧
        ∀ j, j < 16 → (scheduleEntry day j).qualifies day.frc.clock = true →
          (scheduleEntry day j).minute < (scheduleEntry day 0).minute ∨
          ((scheduleEntry day j).minute = (scheduleEntry day 0).minute ∧ 0 ≤ j)) := by decide +kernel

/-- 29 February 2024, 23:59:59, as the parameters of a SET_CLOCK. -/
def clockParams (month : Byte) : List Byte := littleEndian 2 2024 ++ [month, 29] ++ littleEndian 4 86399

/-- A hire on the road under tariff 1 at the last second of an hour, the clock set, auto-switch set; a schedule entry names a
tariff for every day from minute 0 on. -/
def onRoad (scheduled : Byte) : State :=
  let s := hired 0 0 350 0
  { s with
    mem := ((s.mem.write 0x2C00 127).write 0x2C01 1).write 0x2C04 scheduled,
    mtc := { s.mtc with totals := { s.mtc.totals with shiftOpen := true } },
    frc := { s.frc with
      clock := ⟨2024, 2, 29, 3599⟩, clockSet := true, scheduled := 1,
      hire := { s.frc.hire with tariff := { s.frc.hire.tariff with number := 1 } } },
    cps := { s.cps with bank := s.cps.bank.set 6 1 } }

theorem witness_CalendarAdvancesAndSchedules_switch :
    let after := fun s : State => { s with frc := { s.frc with clock := ⟨2024, 2, 29, 3600⟩ } }
    let due := onRoad 0
    (due.frc.clockTimerRunning = true ∧ due.frc.clock.valid = true ∧ (due.frc.clock.seconds + 1) % 60 = 0 ∧
      due.mtc.meter = .hired ∧ due.mtc.totals.shiftOpen = true) ∧
      Switched due (after due) ∧ (SwitchDue (onRoad 2) (after (onRoad 2)) ∧ ¬Switched (onRoad 2) (after (onRoad 2))) ∧
      ¬SwitchDue (onRoad 1) (after (onRoad 1)) := by
  delta Switched SwitchDue; decide +kernel

theorem witness_ClockIsSet :
    let good := frame 0x32 0xFFFF [24, 2, 29, 1, 0x51, 0x7F]
    let bad := frame 0x32 0x0101 [24, 2, 30, 0, 0, 0]
    let wrong := posted base 0x07 (clockParams 13)
    (∀ s ∈ [base, onRoad 0],
      let set := posted s 0x07 (clockParams 2)
      (set.mem.Wf ∧ HeadIs .setClock 0 [] set ∧ (paramClock set 0).valid = true) ∧
        (Accepted 0x32 good .all s ∧ acceptBaseTime s = true ∧ (parseTime good.body).valid = true)) ∧
      (base.mtc.meter = .off ∧ (onRoad 0).mtc.meter = .hired) ∧
      (wrong.mem.Wf ∧ HeadIs .setClock 0 [] wrong ∧ (paramClock wrong 0).valid = false) ∧
      (Accepted 0x32 bad .individual base ∧ (parseTime bad.body).valid = false) := by
  delta HeadIs Accepted; decide +kernel

/-- Outside any group rewrite, with the scheduled tariff kept by an evaluation and changed by one. -/
theorem witness_RewritesOnce :
    base.wpt.rewriting = 0 ∧ (onRoad 1).wpt.rewriting = 0 ∧ scheduledNow (onRoad 1) = (onRoad 1).frc.scheduled ∧
      scheduledNow (onRoad 0) ≠ (onRoad 0).frc.scheduled := by decide +kernel

/-! Witnesses: the meter controller. -/

/-- A trip log in which every entry is written, of given send states and released or not, the oldest first. -/
def logged (order : List (Fin 24)) (f : Fin 24 → SendState × Bool) (s : State) : State :=
  { s with
    mtc := { s.mtc with
      ageOrder := order,
      tripLog := Vector.ofFn fun i =>
        { TripRecord.empty with written := true, sendState := (f i).1, released := (f i).2 } } }

/-- The trip log as the four ways of R39 find it: an EMPTY entry 0; entry 1 released and SENT beside an older SENT one;
entry 3 SENT and nothing released; the oldest, entry 23, QUEUED, and nothing settled. -/
def logsOfR39 : List ((Fin 24 × Bool) × (State → State)) :=
  [((0, false), id),
   ((1, false), logged [3, 1] fun i => if i = 1 then (.sent, true) else if i = 3 then (.sent, false) else (.unsent, true)),
   ((3, false), logged [1, 3] fun i => if i = 3 then (.sent, false) else (.unsent, true)),
   ((23, true), logged [23, 0] fun _ => (.queued, true))]

theorem witness_HireOpensATrip :
    let good := fun s : State =>
      (windowTariff s (s.frc.override.getD (scheduledNow s))).valid = true ∧ 3 ≤ s.phase.stagesEnded
    let asked := fun s : State =>
      s.mem.Wf ∧ HeadIs .meterKey 0 [] s ∧ param8 s 0 8 = 0 ∧ hostMeterControl s = true
    let bids := withOffer (metered .vacant .bidding) 7 (offer7 .bidSent)
    let vacant := metered .vacant .available
    (∀ s ∈ [vacant, bids, metered .payment .hired], good s ∧ good (posted s 0x03 [0]) ∧ asked (posted s 0x03 [0])) ∧
      (vacant.mtc.meter = .vacant ∧ vacant.dsc.status ∈ [DispatchStatus.available, .onBreak, .assigned] ∧ HasRoom vacant) ∧
      (bids.mtc.meter = .vacant ∧ bids.dsc.status = .bidding ∧ HasRoom bids ∧
        (bids.oft.entries.get (7 : Fin 8)).state.bidding = true ∧
        ∀ x, x ≠ (7 : Fin 8) → (bids.oft.entries.get x).state.bidding = false) ∧
      ∀ row ∈ logsOfR39, TripEntryIs row.1.1 row.1.2 (row.2 (metered .payment .hired)) := by
  delta HasRoom HeadIs TripEntryIs; decide +kernel

theorem witness_StopAndPayMoveTheMeter :
    let table := [(MeterState.hired, MeterKey.stop, 1, MeterState.stopped), (.stopped, .stop, 1, .hired),
      (.hired, .pay, 2, .payment), (.stopped, .pay, 2, .payment)]
    ∀ row ∈ table,
      let s := metered row.1 .hired
      let t := posted s 0x03 [byteOf row.2.2.1]
      ((s.mtc.meter, row.2) ∈ table ∧ 3 ≤ s.phase.stagesEnded) ∧
        ((t.mtc.meter, row.2) ∈ table ∧ t.mem.Wf ∧ HeadIs .meterKey 0 [] t ∧
          param8 t 0 8 = row.2.2.1 ∧ hostMeterControl t = true) := by
  delta HeadIs; decide +kernel

/-- A hire waiting in PAYMENT with its hold ended. -/
def paying : State :=
  let s := metered .payment .hired
  { s with mtc := { s.mtc with holdEnded := true } }

theorem witness_ClearClosesTheTrip :
    let asked := posted paying 0x03 [3]
    ({ paying with mtc := { paying.mtc with holdTimer := some 2 } } : State).mtc.holdTimer = some 2 ∧
      (∀ row ∈ logsOfR39, ∀ s ∈ [row.2 paying, row.2 asked],
        3 ≤ s.phase.stagesEnded ∧ s.mtc.meter = .payment ∧ s.mtc.holdEnded = true ∧
          s.dsc.status = .hired ∧ HasRoom s ∧ TripEntryIs row.1.1 row.1.2 s) ∧
      (asked.mem.Wf ∧ HeadIs .meterKey 0 [] asked ∧ param8 asked 0 8 = 3 ∧ hostMeterControl asked = true) := by
  delta HasRoom HeadIs TripEntryIs; decide +kernel

theorem witness_RefusedPressIsIgnored :
    let payment := metered .payment .hired
    let vacant := metered .vacant .available
    let invalid : State := { vacant with frc := { vacant.frc with override := some 3 } }
    let key := fun (s : State) (k : Byte) => posted s 0x03 [k]
    ((base.mtc.meter, MeterKey.hire) = (MeterState.off, MeterKey.hire)) ∧
      (payment.mtc.meter = .payment ∧ payment.mtc.holdEnded = false) ∧
      (extraLimit base 0 ≤ base.mtc.trip.extraCounts.get 0) ∧
      (3 ≤ invalid.phase.stagesEnded ∧ invalid.mtc.meter = .vacant ∧ invalid.frc.override = some 3 ∧
        (windowTariff invalid 3).valid = false) ∧
      (∀ row ∈ [(key base 0, 0), (key vacant 1, 1), (key payment 2, 2), (key base 3, 3), (key payment 3, 3),
          (key invalid 0, 0)],
        row.1.mem.Wf ∧ HeadIs .meterKey 0 [] row.1 ∧ hostMeterControl row.1 = true ∧ param8 row.1 0 8 = row.2) ∧
      (windowTariff (key invalid 0) 3).valid = false := by
  delta HeadIs; decide +kernel

/-- A hire with extras item 7 worth 9 and allowed once, and the fare at its headroom for it. -/
def withExtra (item : Nat) : State :=
  let s := metered .payment .hired
  { s with
    mem := (s.mem.write (0x2C80 + 16 * item) 9).write (0x2C80 + 16 * item + 2) 1,
    frc := { s.frc with hire := { s.frc.hire with fare := 999990 } } }

theorem witness_ExtraIsAdded :
    let s := withExtra 0
    let t := posted (withExtra 7) 0x04 [7]
    (3 ≤ s.phase.stagesEnded ∧ s.mtc.meter.tripOpen = true ∧ s.mtc.trip.extraCounts.get 0 < extraLimit s 0 ∧
      s.frc.hire.fare + s.mtc.trip.extrasSum + extraValue s 0 ≤ 999999) ∧
      (t.mem.Wf ∧ HeadIs .addExtra 0 [] t ∧ param8 t 0 8 = (7 : Fin 8).val ∧ hostMeterControl t = true ∧
        t.mtc.meter.tripOpen = true ∧ t.mtc.trip.extraCounts.get (7 : Fin 8) < extraLimit t 7 ∧
        t.frc.hire.fare + t.mtc.trip.extrasSum + extraValue t 7 ≤ 999999) := by
  delta HeadIs; decide +kernel

theorem witness_RefusedPressIsIgnored_extras :
    let asked := fun s : State => posted s 0x04 [7]
    let vacant := asked (metered .vacant .available)
    let dear := asked { withExtra 7 with frc := { base.frc with hire := { base.frc.hire with fare := 999991 } } }
    let counted := asked { withExtra 7 with mtc := { (withExtra 7).mtc with trip :=
      { Trip.zero with extraCounts := Trip.zero.extraCounts.set 7 1 } } }
    (∀ s ∈ [asked base, vacant, dear, counted], s.mem.Wf ∧ HeadIs .addExtra 0 [] s ∧ hostMeterControl s = true ∧
      param8 s 0 8 = (7 : Fin 8).val) ∧
      (vacant.mtc.meter = .vacant ∧ dear.mtc.meter.tripOpen = true ∧ counted.mtc.meter.tripOpen = true) ∧
      (dear.mtc.trip.extraCounts.get (7 : Fin 8) < extraLimit dear 7 ∧
        999999 < dear.frc.hire.fare + dear.mtc.trip.extrasSum + extraValue dear 7) ∧
      extraLimit counted 7 ≤ counted.mtc.trip.extraCounts.get (7 : Fin 8) := by
  delta HeadIs; decide +kernel

theorem witness_SelectTariffSetsTheOverride :
    (∀ s ∈ [posted (metered .vacant .available) 0x05 [3], posted base 0x05 [0]],
      s.mem.Wf ∧ HeadIs .selectTariff 0 [] s ∧ s.emc.state = .quiet ∧ hostMeterControl s = true ∧ param8 s 0 8 ≤ 3) ∧
      (let s := posted (metered .vacant .available) 0x05 [3]
       s.mtc.meter = .vacant ∧ s.frc.fareGroup.number = shownTariff s) := by
  delta HeadIs; decide +kernel

theorem witness_ShiftOpens :
    let s := posted base 0x01 [1, 0]
    s.mem.Wf ∧ HeadIs .shiftOpen 0 [] s ∧ s.emc.state = .quiet ∧ paramN s 0 8 2 ≠ 0 ∧ s.mtc.meter = .off ∧
      s.cps.failed = false ∧ writeOutstanding s .calibration = false ∧ s.dsc.status = .offDuty ∧ HasRoom s := by
  delta HeadIs HasRoom; decide +kernel

theorem witness_ShiftCloses :
    let s := posted (metered .vacant .onBreak) 0x02 []
    s.mem.Wf ∧ HeadIs .shiftClose 0 [] s ∧ s.emc.state = .quiet ∧ s.mtc.meter = .vacant ∧ s.dsc.status = .onBreak ∧
      HasRoom s := by
  delta HeadIs HasRoom; decide +kernel

/-- A trip log whose entry 23 is written. -/
def withTrip : State :=
  { base with
    mtc := { base.mtc with
      tripLog := base.mtc.tripLog.set 23 { TripRecord.empty with written := true, sendState := .queued } } }

theorem witness_TripIsReleased :
    let past := posted withTrip 0x06 [24]
    let empty := posted withTrip 0x06 [22]
    let full := posted withTrip 0x06 [23]
    (past.mem.Wf ∧ HeadIs .releaseTrip 0 [] past ∧ 23 < param8 past 0 8) ∧
      (empty.mem.Wf ∧ HeadIs .releaseTrip 0 [] empty ∧ param8 empty 0 8 = (22 : Fin 24).val ∧
        (empty.mtc.tripLog.get (22 : Fin 24)).written = false) ∧
      (full.mem.Wf ∧ HeadIs .releaseTrip 0 [] full ∧ param8 full 0 8 = (23 : Fin 24).val ∧
        (full.mtc.tripLog.get (23 : Fin 24)).written = true) := by
  delta HeadIs; decide +kernel

/-! Witnesses: the store. -/

/-- The part with writes waiting. -/
def waiting (ks : List StoreKind) (last : Bool) : State :=
  { base with cps := { base.cps with queue := ks, lastWasCommit := last } }

theorem witness_StoreWriteBegins :
    let others := fun s : State => s.cps.queue.filter fun x => x != .meter
    let afterCommit := waiting [.meter, .tariffs] true
    let commit := waiting [.settings, .meter] false
    let other := waiting [.settings, .calibration] false
    (3 ≤ base.phase.stagesEnded) ∧
      (afterCommit.cps.writing = none ∧ afterCommit.cps.lastWasCommit = true ∧
        (others afterCommit).head? = some .tariffs) ∧
      (commit.cps.writing = none ∧ commit.cps.lastWasCommit = false ∧ StoreKind.meter ∈ commit.cps.queue) ∧
      (other.cps.writing = none ∧ StoreKind.meter ∉ other.cps.queue ∧ (others other).head? = some .settings) := by
  decide

theorem witness_MeterCommitCompletes :
    let first : List (Option (Fin 24)) := [some 23, none]
    let s := writing (.meter (commitOf .vacant .quiet) first true) 0
    s.cps.writing = some (.meter (commitOf .vacant .quiet) first true) ∧
      s.txq.frames.length + first.length + 1 ≤ 16 := by decide +kernel

/-- A commit that carried for the first time a record whose entry has been reused sets channel TRIP all the same (R45). -/
theorem test_reused_entry_sets_trip :
    (match exec .meterCommitComplete (writing (.meter (commitOf .vacant .quiet) [none] false) 0) with
     | .next t => t.atc.pending
     | _ => 0#16) = 0x0100#16 := by decide +kernel

theorem witness_OtherWritesEnd :
    (writing (.calibration []) 0).cps.writing = some (.calibration []) ∧
      (∀ hand ∈ [0#8, 2#8, 3#8],
        ((writing (.tariffs []) hand).mem.Wf ∧ (writing (.tariffs []) hand).cps.writing = some (.tariffs []) ∧
          (writing (.tariffs []) hand).cps.tariffRecord = some 0 ∧ handField (writing (.tariffs []) hand) 0 = hand) ∧
        ((writing (.settings []) hand).mem.Wf ∧ (writing (.settings []) hand).cps.writing = some (.settings []) ∧
          (writing (.settings []) hand).cps.settingsRecord = some 0 ∧
          handField (writing (.settings []) hand) 0 = hand)) ∧
      (∀ job ∈ [StoreJob.tariffs [], .settings []],
        let s : State := { base with cps := { base.cps with writing := some job } }
        s.cps.writing = some job ∧ s.cps.tariffRecord = none ∧ s.cps.settingsRecord = none) ∧
      (StoreJob.calibration []).kind = .calibration := by decide +kernel

/-! Witnesses: the dispatch status controller. -/

/-- A fix in the slot with a hand value: latitude 90 degrees' bound is not passed, speed and heading 0, a date. -/
def slot (hand month : Byte) : State :=
  { base with mem := (base.mem.write 0x50 hand).writeBytes 0x5E (littleEndian 2 2024 ++ [month, 29]) }

theorem witness_PositionFixIsTaken :
    ((slot 0 2).phase = .ready ∧ (slot 0 2).mem.Wf ∧ (slot 0 2).mem.read 0x50 = 0#8 ∧
      (slotFix (slot 0 2).mem).valid = true ∧ HasRoom (slot 0 2)) ∧
      ((slot 0 13).mem.Wf ∧ (slot 0 13).mem.read 0x50 = 0#8 ∧ (slotFix (slot 0 13).mem).valid = false) ∧
      ((slot 1 2).phase = .ready ∧ (slot 1 2).mem.read 0x50 ≠ 0#8) := by
  delta HasRoom; decide +kernel

theorem witness_StatusRequestsAreJudged :
    ∀ row ∈ [(RequestKind.setBreak, 0x10#8, DispatchStatus.available), (.setAvailable, 0x11#8, .onBreak),
        (.noShow, 0x12#8, .assigned)],
      let s := posted (metered .vacant row.2.2) row.2.1 []
      let other := posted (metered .hired .hired) row.2.1 []
      let locked := called .alerting other
      (s.mem.Wf ∧ HeadIs row.1 0 [] s ∧ s.emc.state = .quiet ∧ s.dsc.status = row.2.2 ∧ HasRoom s) ∧
        (other.mem.Wf ∧ HeadIs row.1 0 [] other ∧ other.emc.state = .quiet ∧ other.dsc.status ≠ row.2.2) ∧
        (locked.mem.Wf ∧ HeadIs row.1 0 [] locked ∧ locked.emc.state ≠ .quiet) := by
  delta HeadIs HasRoom; decide +kernel

theorem witness_ZoneInfoAndPollAreTaken :
    Accepted 0x31 (frame 0x31 0x0101 [0, 255]) .individual base ∧
      (Accepted 0x30 (frame 0x30 0xFFFF [7]) .all base ∧ HasRoom base) := by
  delta Accepted HasRoom; decide +kernel

/-! Witnesses: the offer table. -/

/-- An AVAILABLE cab. -/
def free : State := metered .vacant .available

/-- The first blocks of the pool linked each to the next. -/
def linked (n : Nat) (s : State) : State :=
  { s with mem := (List.range n).foldl (fun m b => m.write (blockBase b) (byteOf (b + 1))) s.mem }

/-- An OFFER of number 7 for zone 0 to an address, with details of a length. -/
def offerTo (address number n : Nat) : RxFrame :=
  frame 0x10 address ([0, byteOf number, 0, 60, 0] ++ List.replicate n 65)

theorem witness_OfferIsStored :
    let taken := fun (s : State) (n : Nat) =>
      let o := parseOffer (offerTo 0x0101 7 n).body
      s.mem.Wf ∧ Accepted 0x10 (offerTo 0x0101 7 n) .individual s ∧ o.number = 7 ∧ o.details.length = n ∧
        s.emc.state = .quiet ∧ s.dsc.status = .available ∧
        (∀ x : Fin 8, (s.oft.entries.get x).state ≠ .empty → (s.oft.entries.get x).number ≠ o.number) ∧
        (s.oft.entries.get (0 : Fin 8)).state = .empty ∧
        (∀ x, x < (0 : Fin 8) → (s.oft.entries.get x).state ≠ .empty)
    let marked := fun n : Nat => { linked 2 free with mst := { free.mst with freeCount := n } }
    let blocks := chainFrom (linked 2 free).mem.read 0 2
    let allHeld : State := { free with oft := { free.oft with entries := Vector.replicate 8 (offer7 .lost) } }
    taken free 0 ∧ (taken (marked 14) 31 ∧ 2 + offerMark (marked 14) ≤ 14 ∧ blocks.Nodup) ∧
      (taken (marked 13) 31 ∧ 13 < 2 + offerMark (marked 13)) ∧
      (Accepted 0x10 (offerTo 0x0101 0 0) .individual free ∧ (parseOffer (offerTo 0x0101 0 0).body).number = 0) ∧
      (Accepted 0x10 (offerTo 0xFFFF 7 0) .all free ∧ inReach free 0 = false) ∧
      (∀ st ∈ [OfferState.open, .lost], let s := withOffer free 3 (offer7 st)
        Accepted 0x10 (offerTo 0x0101 7 0) .individual s ∧ offerWithNumber s 7 = some 3) ∧
      (Accepted 0x10 (offerTo 0x0101 8 0) .individual allHeld ∧
        ∀ x : Fin 8, (allHeld.oft.entries.get x).state ≠ .empty ∧ (allHeld.oft.entries.get x).number ≠ 8) := by
  delta Accepted
  exact ⟨by decide +kernel, by decide +kernel, by decide +kernel, by decide +kernel, by decide +kernel, by decide +kernel, by decide +kernel⟩

theorem witness_OfferTimersRun :
    let s := withOffer free 0 { offer7 .open with windowRemaining := 2 }
    let t := withOffer (metered .vacant .bidding) 0 { offer7 .bidSent with awardRemaining := 2 }
    ((s.oft.entries.get (0 : Fin 8)).state = .open ∧ 1 < (s.oft.entries.get (0 : Fin 8)).windowRemaining) ∧
      ((t.oft.entries.get (0 : Fin 8)).state = .bidSent ∧ 1 < (t.oft.entries.get (0 : Fin 8)).awardRemaining) := by
  decide +kernel

theorem witness_AcceptStartsABid :
    let s := posted (withOffer free 7 (offer7 .open)) 0x20 [7]
    let late := posted (withOffer free 7 (offer7 .expired)) 0x20 [7]
    (s.mem.Wf ∧ HeadIs .acceptOffer 0 [] s ∧ s.emc.state = .quiet ∧ param8 s 0 8 = (7 : Fin 8).val ∧
      (s.oft.entries.get (7 : Fin 8)).state = .open ∧ (∀ x : Fin 8, (s.oft.entries.get x).state.bidding = false) ∧
      s.dsc.status = .available ∧ s.ale.link ≠ .lost ∧ HasRoom s) ∧
      (late.mem.Wf ∧ HeadIs .acceptOffer 0 [] late ∧ late.emc.state = .quiet ∧
        param8 late 0 8 = (7 : Fin 8).val ∧ (late.oft.entries.get (7 : Fin 8)).state = .expired) := by
  delta HeadIs HasRoom; decide +kernel

theorem witness_DeclineIsJudged :
    let past := posted free 0x21 [8]
    (past.mem.Wf ∧ HeadIs .declineOffer 0 [] past ∧ 7 < param8 past 0 8) ∧
      ∀ st ∈ [OfferState.expired, .empty, .open],
        let s := posted (withOffer free 7 (offer7 st)) 0x21 [7]
        s.mem.Wf ∧ HeadIs .declineOffer 0 [] s ∧ param8 s 0 8 = (7 : Fin 8).val ∧
          (s.oft.entries.get (7 : Fin 8)).state = st := by
  delta HeadIs; decide +kernel

theorem witness_OfferIsReleased :
    (∀ st ∈ [OfferState.empty, .awarded, .lost],
      let s := posted (withOffer free 7 (offer7 st)) 0x22 [7]
      s.mem.Wf ∧ HeadIs .releaseOffer 0 [] s ∧ param8 s 0 8 = (7 : Fin 8).val ∧
        (s.oft.entries.get (7 : Fin 8)).state = st ∧ s.oft.assignment ≠ some 7) ∧
      (let held := withOffer free 7 { offer7 .awarded with firstBlock := 223, blockCount := 1 }
       let s : State := { posted held 0x22 [7] with oft := { held.oft with assignment := some 7 } }
       s.mem.Wf ∧ HeadIs .releaseOffer 0 [] s ∧ s.oft.assignment = some 7 ∧
         (1 ≤ (held.oft.entries.get (7 : Fin 8)).blockCount ∧ (held.oft.entries.get (7 : Fin 8)).firstBlock < 224)) := by
  delta HeadIs; decide +kernel

/-- A cab bidding for offer 7 in entry 0. -/
def bidding (st : OfferState) : State :=
  queued [bidFrame] (withOffer (metered .vacant .bidding) 0 { offer7 st with bidFrame := .queued })

/-- An AWARD of offer 7 to a cab, and a WITHDRAW of it. -/
def awardFrame (cab : Nat) : RxFrame := frame 0x11 0xFFFF ([0, 7] ++ bigEndian16 cab)

/-- A WITHDRAW of offer 7. -/
def withdrawFrame : RxFrame := frame 0x12 0xFFFF [0, 7]

theorem witness_BidEndsOnTheBasesSide :
    let s := bidding .bidSent
    let t := withOffer free 0 (offer7 .open)
    ((s.oft.entries.get (0 : Fin 8)).state = .bidSent ∧ s.dsc.status = .bidding ∧
      newestFrame s.txq.frames (fun f => f.kind == .bid && f.hasOrigin (.offer 0 7)) = some bidFrame) ∧
      (∀ u ∈ [s, t],
        (Accepted 0x11 (awardFrame 0x0102) .all u ∧
          offerWithNumber u (bodyWord (awardFrame 0x0102).body 0) = some 0 ∧
          bodyWord (awardFrame 0x0102).body 2 ≠ cabAddress u) ∧
        (Accepted 0x12 withdrawFrame .all u ∧ offerWithNumber u (bodyWord withdrawFrame.body 0) = some 0)) ∧
      (s.oft.entries.get (0 : Fin 8)).state.bidding = true ∧ (t.oft.entries.get (0 : Fin 8)).state = .open := by
  delta Accepted; decide +kernel

theorem witness_BidEndsOnTheBasesSide_terminal :
    let assigned := withOffer { metered .vacant .assigned with oft := { Oft.atReset with assignment := some 0 } } 0
      (offer7 .awarded)
    let loose := withOffer free 0 (offer7 .awarded)
    (∀ u ∈ [assigned, loose, withOffer free 0 (offer7 .declined), base],
      Accepted 0x11 (awardFrame 0x0102) .all u ∧ bodyWord (awardFrame 0x0102).body 2 ≠ cabAddress u ∧
        Accepted 0x12 withdrawFrame .all u) ∧
      (assigned.oft.assignment = some 0 ∧ assigned.dsc.status = .assigned ∧ HasRoom assigned) ∧
      (offerWithNumber loose 7 = some 0 ∧ loose.oft.assignment ≠ some 0) ∧ offerWithNumber base 7 = none := by
  delta Accepted HasRoom; decide +kernel

theorem witness_AwardIsJudged :
    let s := bidding .bidQueued
    let late := withOffer free 0 (offer7 .expired)
    let hiredCab := withOffer (metered .hired .hired) 0 (offer7 .declined)
    let refused := [hiredCab, withOffer (metered .vacant .assigned) 7 (offer7 .open), withOffer base 7 (offer7 .lost),
      withOffer free 0 { offer7 .declined with refusePending := true }, withOffer free 0 (offer7 .withdrawn)]
    (∀ u ∈ refused ++ [withOffer free 0 (offer7 .awarded), s, late, base],
      Accepted 0x11 (awardFrame 0x0101) .all u ∧ bodyWord (awardFrame 0x0101).body 2 = cabAddress u ∧
        u.emc.state = .quiet ∧ HasRoom u) ∧
      (∀ u ∈ [s, late, hiredCab], offerWithNumber u (bodyWord (awardFrame 0x0101).body 0) = some 0) ∧
      ((s.oft.entries.get (0 : Fin 8)).state.bidding = true ∧ s.dsc.status = .bidding) ∧
      ((late.oft.entries.get (0 : Fin 8)).state = .expired ∧ late.dsc.status = .available) ∧
      (∀ u ∈ refused, (offerWithNumber u 7).isSome = true) ∧
      ((hiredCab.oft.entries.get (0 : Fin 8)).state = .declined ∧ hiredCab.dsc.status = .hired ∧
        (hiredCab.oft.entries.get (0 : Fin 8)).refusePending = false) ∧
      offerWithNumber base (bodyWord (awardFrame 0x0101).body 0) = none := by
  delta Accepted HasRoom; decide +kernel

/-! Witnesses: the message store. -/

/-- A TEXT of message 9 from sender 1: a class and part byte, and a text of a length. -/
def messageFrame (code : Byte) (n : Nat) : RxFrame := frame 0x20 0x0101 ([0, 9, 0, 1, code] ++ List.replicate n 65)

/-- An inbox with every entry in a state and of a class, oldest 23, each with one block of its own. -/
def inboxFull (st : InboxState) (c : MessageClass) (s : State) : State :=
  { s with
    mst := { s.mst with
      storeOrder := [23, 0],
      inbox := Vector.ofFn fun i =>
        { InboxEntry.empty with state := st, cls := c, number := 20, firstBlock := 200 + i.val, blockCount := 1 } } }

/-- A first part of message 9 from sender 1 in entry 4, awaiting its second part or not. -/
def firstPart (awaiting : Bool) (s : State) : State :=
  { s with
    mst := { s.mst with
      inbox := s.mst.inbox.set 4 { InboxEntry.empty with
        state := .read, number := 9, sender := 1, awaiting := awaiting, firstBlock := 100, blockCount := 1, length := 30 } } }

theorem witness_TextIsStored :
    let arrives := fun (code : Byte) (n : Nat) (c : MessageClass) (p : PartCode) (s : State) =>
      let x := parseText (messageFrame code n).body
      s.mem.Wf ∧ Accepted 0x20 (messageFrame code n) .individual s ∧ x.cls = some c ∧ x.part = some p ∧
        x.number = 9 ∧ x.sender = 1 ∧ HasRoom s ∧ x.text.length = n
    let few := fun n : Nat => { linked 2 base with mst := { base.mst with freeCount := n } }
    let blocks := fun n : Nat => chainFrom (linked 2 base).mem.read 0 n
    (arrives 0x00 0 .routine .only base ∧ matchingMessage base 9 1 = none ∧ IsLowestEmpty 0 base) ∧
      (arrives 0x12 31 .emergency .first (few 1) ∧ GrantIs .emergency 2 1 1 (few 1) ∧ (blocks 1).Nodup) ∧
      (arrives 0x00 31 .routine .only (few 50) ∧ GrantIs .routine 2 50 2 (few 50) ∧ (blocks 2).Nodup) ∧
      (arrives 0x00 31 .routine .only (few 49) ∧ GrantRefused .routine 2 49 (few 49)) ∧
      (arrives 0x01 1 .priority .only (few 0) ∧ GrantRefused .priority 1 0 (few 0)) ∧
      (arrives 0x20 1 .routine .second base ∧ matchingMessage base 9 1 = none) := by
  delta Accepted IsLowestEmpty HasRoom GrantIs GrantRefused; dsimp only
  exact ⟨by decide +kernel, by decide +kernel, by decide +kernel, by decide +kernel, by decide +kernel, by decide +kernel⟩

theorem witness_TextIsStored_parts :
    ∀ b ∈ [true, false],
      let s := firstPart b base
      let scarce : State := { base with mst := { base.mst with freeCount := 48 } }
      (Accepted 0x20 (messageFrame 0x20 1) .individual s ∧ Accepted 0x20 (messageFrame 0x10 1) .individual s) ∧
        matchingMessage s 9 1 = some 4 ∧ (s.mst.inbox.get (4 : Fin 24)).awaiting = b ∧
        (chainBlocks s.mem 100 1 ++ chainFrom s.mem.read s.mst.freeHead 1).Nodup ∧ GrantIs .routine 1 224 1 s ∧
        GrantRefused .routine 1 48 scarce := by
  delta Accepted GrantIs GrantRefused; decide +kernel

theorem witness_TextIsStored_victims :
    let read := inboxFull .read .routine base
    let new := inboxFull .new .routine base
    let busy := inboxFull .replying .priority base
    IsVictim .routine 23 read ∧ IsVictim .priority 23 read ∧ IsVictim .emergency 23 new ∧ NoEntryFor .routine new ∧
      NoEntryFor .emergency busy ∧ (∀ s ∈ [read, new, busy], matchingMessage s 9 1 = none) ∧
      (1 ≤ (read.mst.inbox.get (23 : Fin 24)).blockCount ∧ (read.mst.inbox.get (23 : Fin 24)).firstBlock < 224 ∧
        GrantIs .routine 1 225 1 read ∧
        (chainFrom (freedByte read 223 1) (freedHead read 223 1) 1).Nodup) := by
  delta IsVictim NoEntryFor GrantIs
  exact ⟨by decide +kernel, by decide +kernel, by decide +kernel, by decide +kernel, by decide +kernel, by decide +kernel, by decide +kernel⟩

theorem witness_TextIsStored_unknown :
    (parseText (frame 0x20 0x0101 [0, 0, 0, 1, 0]).body).number = 0 ∧ (parseText (messageFrame 0x03 0).body).cls = none ∧
      (parseText (messageFrame 0x30 0).body).part = none ∧ Accepted 0x20 (messageFrame 0x30 0) .individual base := by
  delta Accepted; decide +kernel

theorem witness_TextIsSent :
    let send := posted base 0x30 [1, 0, 63, 48]
    let wrong := posted base 0x30 [1, 0, 64, 0]
    let reply := fun st => posted (withMessage base 23 st) 0x31 [23, 0, 63, 48]
    (send.mem.Wf ∧ HeadIs .sendText 0 [] send ∧ paramN send 0 8 2 ≠ 0 ∧ param8 send 0 10 ≤ 63 ∧
      param8 send 0 11 ≤ 48 ∧ HasRoom send) ∧
      (wrong.mem.Wf ∧ HeadIs .sendText 0 [] wrong ∧ 63 < param8 wrong 0 10) ∧
      ∀ st ∈ [InboxState.new, .read, .replied],
        (reply st).mem.Wf ∧ HeadIs .reply 0 [] (reply st) ∧ param8 (reply st) 0 8 = (23 : Fin 24).val ∧
          param8 (reply st) 0 10 ≤ 63 ∧ param8 (reply st) 0 11 ≤ 48 ∧ HasRoom (reply st) ∧
          ((reply st).mst.inbox.get (23 : Fin 24)).state = st := by
  delta HeadIs HasRoom; decide +kernel

/-- A frame sent in cycle 255 with sequence 15. -/
def sent (f : Frame) : Frame := { f with inFlight := true, sequence := some 15, sendingCycle := 255 }

/-- A RECEIPT frame. -/
def receiptFrame : Frame := newFrame .receipt [.receipts] (.fixed (.receipt 1 2 true false))

/-- Fifteen RECEIPT frames and then a TRIP frame: a full queue. -/
def full : List Frame :=
  List.replicate 15 (newFrame .receipt [.receipts] (.fixed (.receipt 1 2 true false))) ++ tripFrame :: []

/-- Fifteen RECEIPT frames, the first as many as given in front of another frame, which is the newest of its class. -/
def fullAround (n : Nat) (f : Frame) : List Frame := full.take n ++ f :: full.take (15 - n)

theorem witness_FullQueueIsJudged :
    let receipts := queued (List.replicate 16 (newFrame .receipt [.receipts] (.fixed (.receipt 1 2 true false))))
    let send := receipts (posted base 0x30 [1, 0, 63, 48])
    let reply := fun st => receipts (posted (withMessage base 23 st) 0x31 [23, 0, 63, 48])
    let accept := receipts (posted (withOffer free 7 (offer7 .open)) 0x20 [7])
    (send.mem.Wf ∧ HeadIs .sendText 0 [] send ∧ paramN send 0 8 2 ≠ 0 ∧ param8 send 0 10 ≤ 63 ∧
      param8 send 0 11 ≤ 48 ∧ send.txq.frames.length = 16) ∧
      (∀ st ∈ [InboxState.new, .read],
        (reply st).mem.Wf ∧ HeadIs .reply 0 [] (reply st) ∧ param8 (reply st) 0 8 = (23 : Fin 24).val ∧
          param8 (reply st) 0 10 ≤ 63 ∧ param8 (reply st) 0 11 ≤ 48 ∧
          ((reply st).mst.inbox.get (23 : Fin 24)).state = st) ∧
      (accept.mem.Wf ∧ HeadIs .acceptOffer 0 [] accept ∧ accept.emc.state = .quiet ∧
        param8 accept 0 8 = (7 : Fin 8).val ∧ (accept.oft.entries.get (7 : Fin 8)).state = .open ∧
        (∀ x, (accept.oft.entries.get x).state.bidding = false) ∧ accept.dsc.status = .available ∧
        accept.ale.link ≠ .lost ∧ ∀ g ∈ accept.txq.frames, g.kind.cls ≤ 1) := by
  delta HeadIs; decide +kernel

/-- The POLL's victims are a TRIP and a TEXT frame; the victims of an EMERGENCY frame a BID of a cab that bids, and the TEXT
of a request in work. -/
theorem witness_FullQueueIsJudged_displaced :
    let called := fun s : State => { s with emc := { s.emc with updateTimer := some 10 } }
    let texting := { posted base 0x30 [1, 0] with mem := (base.mem.write 0x100 2).write 0x101 0x30 }
    let least := fun (v : Frame) (before after : List Frame) (s : State) =>
      s.txq.frames.length = 16 ∧ s.txq.frames = before ++ v :: after ∧ v.inFlight = false ∧
        (∀ g ∈ s.txq.frames, g.inFlight = false → g.kind.cls ≤ v.kind.cls) ∧
        (∀ g ∈ after, g.inFlight = true ∨ g.kind.cls < v.kind.cls) ∧ ∀ g ∈ s.txq.frames, g.cls ≠ 0
    (∀ row ∈ [(tripFrame, base), (textFrame, texting)],
      let s := called (queued (fullAround 15 row.1) row.2)
      least row.1 (full.take 15) [] s ∧ Accepted 0x30 (frame 0x30 0x0101 [7]) .individual s ∧
        kindWaiting s .pollReply = false ∧ 2 ≤ row.1.kind.cls ∧ s.emc.updateTimer = some 10) ∧
      (let s := called (queued (List.replicate 15 (sent receiptFrame) ++ [bidFrame]) (bidding .bidQueued))
       least bidFrame (List.replicate 15 (sent receiptFrame)) [] s ∧ s.emc.updateTimer = some 10) ∧
      (let s := queued (fullAround 15 textFrame) texting
       textFrame.origins = [{ origin := .record 0, detached := false }] ∧ s.mem.Wf ∧ kindByte s 0 = 0x30#8 ∧
         handField s 0 = 2#8 ∧ 3 ≤ s.phase.stagesEnded ∧ s.emc.state = .quiet ∧ s.emc.alarmReleased = true ∧
         ∀ x : Fin 8, (s.oft.entries.get x).state ≠ .open ∧ (s.oft.entries.get x).state.bidding = false) := by
  delta Accepted; decide +kernel

theorem witness_FullQueueIsJudged_origins :
    tripFrame.HasItsOrigins ∧ textFrame.HasItsOrigins ∧ bidFrame.HasItsOrigins := ⟨trivial, trivial, trivial⟩

theorem witness_MessageIsReadAndDeleted :
    let mark := fun st => posted (withMessage base 23 st) 0x32 [23]
    let delete := fun st => posted (withMessage base 23 st) 0x33 [23]
    let held := inboxFull .read .priority base
    (∀ st ∈ [InboxState.new, .replied],
      (mark st).mem.Wf ∧ param8 (mark st) 0 8 = (23 : Fin 24).val ∧ HeadIs .markRead 0 [] (mark st) ∧
        ((mark st).mst.inbox.get (23 : Fin 24)).state = st) ∧
      (∀ st ∈ [InboxState.empty, .new, .replying, .replied],
        (delete st).mem.Wf ∧ param8 (delete st) 0 8 = (23 : Fin 24).val ∧ HeadIs .deleteMsg 0 [] (delete st) ∧
          ((delete st).mst.inbox.get (23 : Fin 24)).state = st) ∧
      (let s := posted held 0x33 [23]
       s.mem.Wf ∧ HeadIs .deleteMsg 0 [] s ∧ param8 s 0 8 = (23 : Fin 24).val ∧
         (s.mst.inbox.get (23 : Fin 24)).state = .read ∧ (s.mst.inbox.get (23 : Fin 24)).firstBlock = 223) := by
  delta HeadIs; decide +kernel

/-! Witnesses: the emergency controller. -/

/-- An emergency frame in the queue, in flight or not. -/
def alertFrame (inFlight : Bool) : Frame := { newFrame .emergency [.emergency] .live with inFlight := inFlight }

theorem witness_PressRaisesACall :
    (∀ e ∈ [EmergencyState.quiet, .alerting, .acked, .cancelling], ∀ fs ∈ [[], [alertFrame false], [alertFrame true]],
      let s := posted (queued fs (called e base)) 0x40 []
      HasRoom s ∧ (∀ x : Fin 8, (s.oft.entries.get x).state.bidding = false) ∧
        3 ≤ s.phase.stagesEnded ∧ s.mem.Wf ∧ HeadIs .emergencyRaise 0 [] s) ∧
      (let s := posted (bidding .bidSent) 0x40 []
       HasRoom s ∧ s.dsc.status = .bidding ∧ s.txq.frames.length ≤ 14 ∧ s.emc.state = .quiet ∧
         (s.oft.entries.get (0 : Fin 8)).state.bidding = true ∧
         (∀ x, x ≠ (0 : Fin 8) → (s.oft.entries.get x).state.bidding = false) ∧ s.mem.Wf ∧
         HeadIs .emergencyRaise 0 [] s) := by
  delta HeadIs HasRoom; decide +kernel

/-- The alarm active level set to a value, the line released since the last press or not. -/
def alarmSet (level : Byte) (released : Bool) : State :=
  { base with mem := base.mem.write 0x2E12 level, emc := { base.emc with alarmReleased := released } }

theorem witness_PressRaisesACall_line :
    (∀ row ∈ [(0#8, false), (1#8, true), (2#8, true), (255#8, true)], ∀ b ∈ [true, false],
      row.2 = settingFlag (alarmSet row.1 b) 0x12 ∧ 3 ≤ (alarmSet row.1 b).phase.stagesEnded ∧
        (alarmSet row.1 b).emc.alarmReleased = b) ∧
      ({ base with phase := .stage2 } : State).phase.stagesEnded < 3 ∧
      ({ base with phase := .stage3 } : State).phase.stagesEnded = 3 := by decide +kernel

/-- How a part stands to the ALARM line after a command: its emergency count, its press count and whether it is released. -/
def alarmAfter (c : Instr) (s : State) : Option (Nat × Nat × Bool) :=
  match exec c s with
  | .next t => some (t.emc.count, t.emc.presses, t.emc.alarmReleased)
  | _ => none

/-- R108: with the default LOW a line low for 0.5 s raises a call, once; a line that stands high raises none; and with the
level HIGH it is the other way round. -/
theorem test_alarm_level :
    alarmAfter (.alarmPress false) (alarmSet 0 true) = some (1, 1, false) ∧
      alarmAfter (.alarmPress false) (alarmSet 0 false) = some (0, 0, false) ∧
      alarmAfter (.alarmPress true) (alarmSet 0 false) = some (0, 0, true) ∧
      alarmAfter (.alarmPress true) (alarmSet 1 true) = some (1, 1, false) := by decide +kernel

/-- A call with wrong codes counted and a cancel request with a code. -/
def cancelling (e : EmergencyState) (wrong : Nat) (code : List Byte) : State :=
  let s := posted (called e base) 0x41 code
  { s with emc := { s.emc with wrongCodes := wrong } }

theorem witness_CancelIsJudged :
    (∀ s ∈ [cancelling .quiet 0 [0], cancelling .acked 3 [0], cancelling .alerting 2 (littleEndian 2 4711),
        cancelling .acked 1 [0], cancelling .alerting 2 [0]],
      (s.mem.Wf ∧ HeadIs .emergencyCancel 0 [] s ∧ HasRoom s) ∧ HasRoom (queued [alertFrame true] s)) ∧
      paramN (cancelling .alerting 2 (littleEndian 2 4711)) 0 8 2 = 4711 ∧
      paramN (cancelling .acked 1 [0]) 0 8 2 ≠ 4711 := by
  delta HeadIs HasRoom; decide +kernel

theorem witness_CallIsUpdatedAndEnded :
    let s : State := { called .acked base with emc := { (called .acked base).emc with updateTimer := some 10 } }
    let alerting := queued [alertFrame false] (called .alerting base)
    (s.emc.updateTimer = some 10 ∧ (∀ f ∈ s.txq.frames, f.cls ≠ 0) ∧ HasRoom s) ∧
      (∀ b, (queued [alertFrame b] s).txq.frames.find? (fun g => g.cls == 0) = some (alertFrame b)) ∧
      (QueueLaw alerting ∧ alerting.emc.state = .alerting ∧
        Accepted 0x40 (frame 0x40 0x0101 []) .individual alerting ∧
        Accepted 0x41 (frame 0x41 0x0101 []) .individual alerting) ∧
      (Accepted 0x40 (frame 0x40 0xFFFF []) .all base ∧ Accepted 0x41 (frame 0x41 0xFFFF []) .all base) ∧
      (∀ e ∈ [EmergencyState.quiet, .acked, .cancelling], Accepted 0x40 (frame 0x40 0x0101 []) .individual (called e base)) ∧
      Accepted 0x41 (frame 0x41 0x0101 []) .individual base ∧ base.emc.state = .quiet := by
  delta QueueLaw Accepted HasRoom; decide +kernel

/-! Witnesses: the air link. -/

theorem witness_ReceiverJudgesFrames :
    let hunting : State := { base with ale := { base.ale with receiver := .hunting } }
    let bad := { frame 0x30 0x0101 [7] with crc := 0 }
    let foreign := frame 0x30 0x0103 [7]
    let unknown := frame 0x99 0x0101 []
    (hunting.ale.receiver = .hunting ∧ base.ale.receiver = .collecting ∧ 120 < (121#8).toNat) ∧
      (bad.body.length ≤ 120 ∧ crc16 (frameBytes 0x30 bad) ≠ bad.crc) ∧
      (crc16 (frameBytes 0x30 foreign) = foreign.crc ∧ foreign.fleet.toNat = fleetId base ∧
        fixedFields 0x30 ≠ none ∧ addressing base foreign.address.toNat = none) ∧
      (crc16 (frameBytes 0x99 unknown) = unknown.crc ∧ unknown.fleet.toNat = fleetId base ∧
        fixedFields 0x99 = none) := by decide +kernel

/-- A CYCLE body: number, contention slots, priority, reserved cabs, ack entries (R132). -/
def cycleBody (n contention : Byte) (reserved : List Nat) (acks : List (Nat × Byte)) : List Byte :=
  [n, contention, 0, byteOf reserved.length, byteOf acks.length] ++ (reserved.map bigEndian16).flatten ++
  (acks.map fun a => bigEndian16 a.1 ++ [a.2]).flatten

/-- A CYCLE frame to every cab. -/
def cycle (n contention : Byte) (reserved : List Nat) (acks : List (Nat × Byte)) : RxFrame :=
  frame 0x01 0xFFFF (cycleBody n contention reserved acks)

theorem witness_CycleTakesTheWatch :
    ∀ link ∈ [LinkState.up, .lost],
      let s : State := { base with ale := { base.ale with link := link } }
      Accepted 0x01 (cycle 255 12 [] [(0x0101, 15)]) .all s ∧ s.txq.frames = [] ∧ s.txq.stray ≤ 65535 ∧
        s.dsc.upSeen = true ∧ s.mtc.totals.reportState ≠ .unsent ∧
        (∀ e : Fin 24, (s.mtc.tripLog.get e).sendState ≠ .unsent) ∧ s.ale.link = link := by
  delta Accepted; decide +kernel

/-- A part that wakes to its first UP with an UNSENT shift and the oldest trips UNSENT. -/
def waking (trips : Nat) (status : DispatchStatus) : State :=
  let s := logged ((List.finRange 24).reverse) (fun i => (if 24 ≤ i.val + trips then .unsent else .sent, false)) base
  { s with
    mtc := { s.mtc with totals := { s.mtc.totals with reportState := .unsent } },
    mem := s.mem.write 0x2E14 1, ale := { s.ale with link := .hunt },
    dsc := { s.dsc with upSeen := false, status := status } }

theorem witness_CycleTakesTheWatch_wakes :
    let quiet := cycle 0 0 [0x0102] [(0x0101, 15)]
    ∀ row ∈ [(14, DispatchStatus.available), (24, .offDuty), (0, .offDuty)],
      let s := waking row.1 row.2
      Accepted 0x01 quiet .all s ∧ s.txq.frames = [] ∧ s.ale.link ≠ .up ∧ NoSlot (parseCycle quiet.body) s ∧
        s.mtc.ageOrder.Nodup ∧ tripReporting s = true ∧
        (s.mtc.ageOrder.filter fun e => (s.mtc.tripLog.get e).sendState == .unsent).length = row.1 := by
  delta Accepted NoSlot; decide +kernel

/-- A REPLY frame of inbox entry 23 and record 1. -/
def replyFrame : Frame := newFrame .text [.inbox 23, .record 1] (.fixed (.text 1 0 0 []))

/-- A part with record 1 a REPLY of entry 23 in work. -/
def replying (s : State) : State :=
  let t := withMessage s 23 .replying
  { t with mem := ((t.mem.write 0x140 2).write 0x141 0x31).write 0x148 23 }

/-- A frame sent in cycle 255 with sequence 14. -/
def sentBefore (f : Frame) : Frame := { sent f with sequence := some 14 }

/-- The frames whose outcomes reach an origin, and one that no origin hears any more. -/
def heardFrames : List Frame :=
  [tripFrame, textFrame, replyFrame, bidFrame, receiptFrame, newFrame .refuse [.offer 0 7] (.fixed (.refuse 7 .hired)),
   newFrame .refuse [.refusals] (.fixed (.refuse 7 .noOffer)), newFrame .status [.dispatch] .live,
   newFrame .pollReply [.dispatch] .live, newFrame .shift [.lastShift] (.fixed (.shift 1 .zero .zero Totals.zero)),
   { tripFrame with origins := [{ origin := .trip 5, detached := true }] }]

theorem witness_CycleSendsAndSettles_origins :
    (∀ x ∈ heardFrames, (sentBefore x).HasItsOrigins) ∧ heardFrames.getLast?.map Frame.hasHearer = some false := by
  refine ⟨fun x h => ?_, by decide⟩
  simp only [heardFrames, List.mem_cons, List.not_mem_nil, or_false] at h
  rcases h with h | h | h | h | h | h | h | h | h | h | h <;> subst h <;> exact trivial

/-- An EMERGENCY_CANCEL frame. -/
def cancelFrame : Frame := newFrame .emergencyCancel [.emergency] (.fixed (.emergencyCancel 1 .zero 0))

/-- The queue of a CYCLE cut at the frames it settles, and the queue that is left cut at the frames it may send. -/
structure CycleCut where
  call   : Option Frame
  before : List Frame
  other  : Option Frame
  after  : List Frame
  first  : Option Frame
  flying : List Frame
  head   : Option Frame
  rest   : List Frame

/-- The queue of a cut. -/
def CycleCut.queue (k : CycleCut) : List Frame := k.call.toList ++ k.before ++ k.other.toList ++ k.after

/-- What CycleSendsAndSettles asks of the state. -/
def meetsCycle (s : State) (f : RxFrame) : Bool :=
  decide (s.ale.receiver = .collecting ∧ judgeFrame s 0x01 f = .accepted .all ∧ addressGood s = true ∧
    s.txq.stray ≤ 65535) &&
  decide (s.dsc.upSeen = true ∧ s.mtc.totals.reportState ≠ .unsent ∧
    ∀ e : Fin 24, (s.mtc.tripLog.get e).sendState ≠ .unsent)

/-- The register has a next value from every value (R142). -/
theorem witness_CycleSendsAndSettles_random (x : Word16) : RandomNext x (stepRng x) := by
  have low : ∀ i : Fin 15, (0x8000#16).getLsbD i.val = false := by decide
  unfold RandomNext stepRng
  generalize (x.getLsbD 0 ^^ x.getLsbD 2 ^^ x.getLsbD 3 ^^ x.getLsbD 5) = bit
  refine ⟨by cases bit <;> simp, fun i h => ?_⟩
  have := low ⟨i, h⟩
  cases bit <;> simp_all [Nat.add_comm]

/-- What CycleSendsAndSettles asks of the frames it settles, but for the origins of `other`, which
witness_CycleSendsAndSettles_origins shows. -/
def CycleCut.settlesIn (k : CycleCut) (s : State) (f : RxFrame) : Bool :=
  decide (s.txq.frames = k.queue) &&
  decide (∀ g ∈ k.call, g.inFlight = true ∧ g.kind.cls = 0 ∧ g.origins = [{ origin := .emergency, detached := false }] ∧
    s.txq.frames.length ≤ 16 ∧ ∀ h ∈ k.before ++ k.other.toList ++ k.after, h.kind.cls ≠ 0) &&
  decide (∀ g ∈ k.other, g.inFlight = true) &&
  decide (∀ g ∈ k.call.toList ++ k.other.toList, (g.sequence.any fun q => decide (q ≤ 15)) = true) &&
  decide (k.call = none ∨ k.call.bind Frame.sequence ≠ k.other.bind Frame.sequence) &&
  decide (∀ g ∈ k.before ++ k.after, g.inFlight = true → attemptFate (parseCycle f.body) s g = .unanswered ∧
    ∀ h ∈ k.call.toList ++ k.other.toList, g.sequence ≠ h.sequence)

/-- What CycleSendsAndSettles asks of the queue that is left. -/
def CycleCut.sendsIn (k : CycleCut) (s : State) (f : RxFrame) : Bool :=
  let c := parseCycle f.body
  let r := stepRng s.ale.rng
  decide (k.call.toList.flatMap (leftOfCall c s r) ++ k.before.map passedOver ++
    k.other.toList.flatMap (leftOfOther c s r) ++ k.after.map passedOver =
      k.first.toList ++ k.flying ++ k.head.toList ++ k.rest) &&
  decide (∀ g ∈ k.first, g.inFlight = false ∧ g.kind.cls = 0) &&
  decide (∀ g ∈ k.head, g.inFlight = false ∧ g.kind.cls ≠ 0) && decide (∀ g ∈ k.flying, g.inFlight = true) &&
  decide (∀ g ∈ k.rest, g.inFlight = true ∨ g.kind.cls ≠ 0) && decide (k.head = none → k.rest = [])

/-- The hypotheses of CycleSendsAndSettles together. -/
def CycleCut.meets (k : CycleCut) (s : State) (f : RxFrame) : Bool :=
  meetsCycle s f && k.settlesIn s f && k.sendsIn s f

/-- The fates of the two frames settled. -/
def CycleCut.fates (k : CycleCut) (s : State) (f : RxFrame) : List AttemptFate :=
  (k.call.toList ++ k.other.toList).map (attemptFate (parseCycle f.body) s)

/-- A CYCLE that acknowledges sequence 14 to this cab twice, 15 to another cab, and 3, which nothing bears, to this cab. -/
def mixedAcks : RxFrame := cycle 1 0 [] [(0x0102, 15), (0x0101, 0x1E), (0x0101, 14), (0x0101, 3)]

/-- Every frame that reaches an origin is acknowledged beside the ack of another cab, a stray one and one listed twice, with a
class 0 frame in flight unanswered, and its attempt fails below and at the limit. -/
theorem witness_CycleSendsAndSettles :
    ∀ x ∈ heardFrames, ∀ link ∈ [LinkState.up, .fading],
      let y := sentBefore x
      let z := sent (alertFrame true)
      let up := replying (bidding .bidSent)
      let base := { up with ale := { up.ale with link := link } }
      let waiting := newFrame .status [.dispatch] .live
      (let s := queued [z, waiting, y] base
       let k : CycleCut := ⟨some z, [waiting], some y, [], none, [z], some waiting, []⟩
       k.meets s mixedAcks = true ∧ k.fates s mixedAcks = [.unanswered, .acknowledged] ∧
         straysAfter (parseCycle mixedAcks.body) s 1 = 2) ∧
      (let spent := { y with attempts := 5 }
       let s := queued [spent, waiting] base
       let k : CycleCut := ⟨none, [], some spent, [waiting], none, [], some waiting, []⟩
       k.meets s (cycle 2 0 [] [(0x0101, 14)]) = true ∧ k.fates s (cycle 2 0 [] [(0x0101, 14)]) = [.spent]) := by decide +kernel

/-- Frames left to be sent: a TRIP frame whose attempt has failed waits as the head itself, with its random backoff; both
frames in flight are acknowledged at once and a TEXT behind them is the head; a call's alert has failed and is the class 0
frame to send. -/
theorem witness_CycleSendsAndSettles_sends :
    let trip := sentBefore tripFrame
    let alert := sent (alertFrame true)
    let missed := cycle 2 12 [0x0101] [(0x0102, 14)]
    let both := cycle 0 12 [] [(0x0101, 14), (0x0101, 15)]
    (let s := queued [trip] base
     let k : CycleCut := ⟨none, [], some trip, [], none, [], some (trip.retried (stepRng s.ale.rng)), []⟩
     k.meets s missed = true ∧ k.fates s missed = [.failed]) ∧
    (let s := queued [alert, trip, textFrame] (called .alerting base)
     let k : CycleCut := ⟨some alert, [], some trip, [textFrame], none, [], some textFrame, []⟩
     k.meets s both = true ∧ k.fates s both = [.acknowledged, .acknowledged] ∧ straysAfter (parseCycle both.body) s 2 = 0) ∧
    (let s := queued [alert, trip, textFrame] (called .alerting base)
     let retried := { alert.retried (stepRng s.ale.rng) with backoff := 0 }
     let failed := trip.retried (stepRng s.ale.rng)
     let k : CycleCut := ⟨some alert, [], some trip, [textFrame], some retried, [], some failed, [textFrame]⟩
     k.meets s missed = true ∧ k.fates s missed = [.failed, .failed]) := by
  decide +kernel

/-- A BID goes out for the first time in the CYCLE that acknowledges a REFUSE of another entry. -/
theorem witness_CycleSendsAndSettles_bid :
    let refuse := sentBefore (newFrame .refuse [.offer 1 8] (.fixed (.refuse 8 .hired)))
    let acked := cycle 1 12 [0x0101] [(0x0101, 14)]
    let s := queued [refuse, bidFrame] (bidding .bidQueued)
    let k : CycleCut := ⟨none, [], some refuse, [bidFrame], none, [], some bidFrame, []⟩
    (k.meets s acked = true ∧ k.fates s acked = [.acknowledged] ∧ refuse.kind ≠ .bid) ∧
      (otherSlot (parseCycle acked.body) s bidFrame 1 = some 0 ∧ headHeldBack [bidFrame] = false ∧ bidFrame.sequence = none) ∧
      (s.oft.entries.get (0 : Fin 8)).state = .bidQueued ∧ (s.oft.entries.get (0 : Fin 8)).number = 7 := by
  decide +kernel

/-- A class 0 frame in flight alone meets each state of the emergency controller, acknowledged, or at the limit. -/
theorem witness_CycleSendsAndSettles_calls :
    ∀ x ∈ [sent (alertFrame true), sent cancelFrame], ∀ e ∈ [EmergencyState.alerting, .acked, .cancelling],
      (let s := called e (queued [x] base)
       let acked := cycle 1 0 [] [(0x0101, 15)]
       (Accepted 0x01 acked .all s ∧ addressGood s = true ∧ s.ale.link = .up) ∧
         (x.inFlight = true ∧ x.kind.cls = 0 ∧ x.origins = [{ origin := .emergency, detached := false }] ∧
           x.sequence = some 15) ∧
         attemptFate (parseCycle acked.body) s x = .acknowledged ∧
         callEnds (parseCycle acked.body) s x = (x.kind == .emergencyCancel && e == .cancelling)) ∧
      (let y := { x with attempts := 255 }
       let s := called e (queued [y] base)
       let missed := cycle 2 0 [] []
       Accepted 0x01 missed .all s ∧ attemptFate (parseCycle missed.body) s y = .spent) := by
  delta Accepted; decide +kernel

theorem witness_CycleSendsAndSettles_slots :
    let draw := parseCycle (cycleBody 0 12 [] [])
    let first := parseCycle [0, 12, 1, 0, 0]
    let own := parseCycle (cycleBody 0 0 [0x0101] [])
    let alert := alertFrame false
    (firstSlot first base alert 1 = some 0 ∧ otherSlot first base receiptFrame 13 = some 2) ∧
      (firstSlot draw base alert 13 = some 1 ∧ otherSlot draw base receiptFrame 23 = some 11) ∧
      (firstSlot draw base { alert with backoff := 1 } 13 = none ∧
        firstSlot draw (called .alerting base) { alert with backoff := 1 } 13 = some 1) ∧
      (firstSlot own base alert 1 = some 0 ∧ otherSlot own base { receiptFrame with backoff := 15 } 1 = some 0) ∧
      (sequenceTaken [sent tripFrame, receiptFrame] 15 receiptFrame = 0 ∧
        sequenceTaken [sent tripFrame, receiptFrame] 14 receiptFrame = 14) := by decide +kernel

/-- The cab address is 0 and a CYCLE reaches every cab. -/
theorem witness_CycleSendsAndSettles_badAddress :
    let s := queued [sent tripFrame] { base with mem := (base.mem.write 0x2E02 0).write 0x2E03 0 }
    Accepted 0x01 (cycle 1 12 [] [(0, 15)]) .all s ∧ s.ale.link = .up ∧ addressGood s = false := by
  delta Accepted; decide +kernel

/-- Slot 16 assigned to the frame with sequence 15. -/
def slotAssigned : State :=
  let s := queued [sent receiptFrame] base
  { s with ale := { s.ale with assignments := [⟨16, 19200, 15⟩] } }

/-- A transmission in progress. -/
def keyed : State :=
  { base with
    ale := { base.ale with transmission := some ⟨0x1234, .receipt, 0x0101, 15, false, .receipt 1 2 true false⟩ } }

/-- A BID transmission of offer 7 whose sequence and text are in range, with a number of two bytes. -/
theorem witness_SlotsAndTransmissions_onTheAir :
    let x : Transmission := ⟨0x1234, .bid, 0x0101, 15, false, .bid 7 40 true .zero⟩
    x.sequence ≤ 15 ∧ x.body.characters.length ≤ 48 ∧ ⟨2, 7⟩ ∈ x.body.numbers := by
  refine ⟨by decide, by decide, List.mem_cons_self ..⟩

theorem witness_SlotsAndTransmissions :
    let held := fun x : Frame => x.inFlight && x.sequence == some 15
    let early : State := { slotAssigned with phase := .stage4 }
    (∀ s ∈ [slotAssigned, early], s.ale.assignments.find? (fun b => b.slot == 16) = some ⟨16, 19200, 15⟩ ∧
      s.txq.frames.find? held = some (sent receiptFrame)) ∧
      ((sent receiptFrame).body = .fixed (.receipt 1 2 true false) ∧ addressGood slotAssigned = true ∧
        slotAssigned.phase = .ready ∧ slotAssigned.ale.transmission = none) ∧
      (queued [] slotAssigned).txq.frames.find? held = none ∧ keyed.ale.transmission ≠ none := by decide +kernel

/-- The three live kinds have a body at their slot, and a TRIP frame has one while its entry is not detached. -/
theorem witness_SlotsAndTransmissions_bodies :
    let bodiless := { tripFrame with origins := [{ origin := .trip 5, detached := true }] }
    (∀ f ∈ [newFrame .status [.dispatch] .live, newFrame .pollReply [.dispatch] .live, alertFrame false, tripFrame],
      let s := queued [sent f] slotAssigned
      s.txq.frames.find? (fun x => x.inFlight && x.sequence == some 15) = some (sent f) ∧
        (bodyAtSlot s (sent f)).isSome = true ∧ (sent f).origins.length ≤ 1) ∧
      (let s := queued [sent bodiless] slotAssigned
       s.txq.frames.find? (fun x => x.inFlight && x.sequence == some 15) = some (sent bodiless) ∧
         (bodyAtSlot s (sent bodiless)).isSome = false) := by decide +kernel

/-- A part whose link is about to be LOST. -/
def fading (s : State) : State := { s with ale := { s.ale with link := .fading, lossExpiry := some 200 } }

theorem witness_LinkFadesAndIsLost :
    let up : State := { base with ale := { base.ale with fadeExpiry := some 60 } }
    let stale := fun f : Frame => !f.inFlight && (f.kind == .bid || f.kind == .refuse || f.kind == .pollReply)
    let poll := newFrame .pollReply [.dispatch] .live
    let refuse := fun o => newFrame .refuse [o] (.fixed (.refuse 7 .noOffer))
    (up.ale.fadeExpiry = some 60 ∧ up.ale.link = .up) ∧
      (∀ x ∈ [poll, refuse (.offer 0 7), refuse .refusals, bidFrame],
        let s := fading (queued [x, tripFrame] (withOffer base 0 { offer7 .lost with refusePending := true }))
        s.ale.lossExpiry = some 200 ∧ s.ale.link = .fading ∧ s.txq.frames.filter stale = [x] ∧
          ∀ e : Fin 8, (s.oft.entries.get e).state.bidding = false) ∧
      (∀ x ∈ [bidFrame, sent bidFrame],
        let s := fading (queued [x] (bidding .bidSent))
        BidLaw s ∧ (s.oft.entries.get (0 : Fin 8)).state.bidding = true ∧
          (s.oft.entries.get (0 : Fin 8)).bidFrame ≠ .none ∧ s.txq.frames = [x] ∧ x.kind = .bid ∧
          x.hasOrigin (.offer 0 7) = true) := by
  delta BidLaw; decide +kernel

theorem witness_RadioRestarts :
    let s := queued full (posted base 0x50 [])
    let t := queued [alertFrame true, bidFrame, receiptFrame, tripFrame, replyFrame]
      (posted (replying (called .alerting (bidding .bidSent))) 0x50 [])
    (s.mem.Wf ∧ HeadIs .radioRestart 0 [] s) ∧ (t.mem.Wf ∧ HeadIs .radioRestart 0 [] t) ∧
      (HasOrigin (.trip 5) t ∧ HasOrigin (.record 1) t ∧ HasOrigin (.inbox 23) t ∧ HasOfferOrigin 0 false t ∧
        internalCodes t = [0xB1] ∧ handField t 1 = 2#8 ∧ kindByte t 1 = 0x31#8 ∧ param8 t 1 8 = 23 ∧
        t.txq.frames.filter (fun f => f.hasOrigin .emergency) = [alertFrame true]) ∧
      (s.txq.frames.filter (fun f => f.hasOrigin .emergency) = [] ∧ ¬HasOrigin .lastShift s) := by
  delta HeadIs HasOrigin HasOfferOrigin; decide +kernel

theorem witness_HostWriteIsJudged_registers :
    let hand := fun v : Byte => ({ base with mem := base.mem.write 0x4C0 v } : State)
    (recordBase 0 = 0x100 ∧ laneOffset 0x80#13 false = recordBase 0 ∧ laneOffset 0x260#13 false = recordBase 15) ∧
      (handField (hand 4) 15 = 4#8 ∧ handField (hand 1) 15 ≠ 4#8 ∧ (hand 4).mem.Wf) ∧
      (laneOffset 0x28#13 false = 0x50 ∧ laneOffset 0x1801#13 false = 0x3002 ∧ laneOffset 0x1803#13 false = 0x3006 ∧
        laneOffset 0x1801#13 true = 0x3003 ∧ laneOffset 0x1803#13 true = 0x3007) := by decide +kernel

/-- Writes of both bytes: into a record's kind and hand field, into the slot's, and over bytes that are dropped. -/
theorem witness_HostWriteIsJudged_both :
    laneOffset 0x80#13 true = 0x101 ∧ (∀ a ∈ [0x51, 0x101, 0x102, 0x103], TakenQuietly base a) ∧
      ∀ a ∈ [0x3000, 0x3001], IsDropped base a := by
  delta TakenQuietly IsDropped; decide +kernel

theorem witness_HostWriteIsJudged_bothBusy :
    let s := writing (.tariffs []) 2
    IsDropped s 0x101 ∧ windowByte s 0x101 = 0#8 := by
  delta IsDropped; decide +kernel

/-! Witnesses: the window port and the attention controller. -/

theorem witness_HostWriteIsJudged_taken :
    ∀ a ∈ [0x51, 0x65, 0x101, 0x13F, 0x4FF, 0x2B00, 0x2CFF], TakenQuietly base a := by
  delta TakenQuietly; decide +kernel

theorem witness_HostWriteIsJudged_dropped :
    ∀ a ∈ [0x00, 0x4F, 0x66, 0xFF, 0x500, 0x2AFF, 0x2D00, 0x2DFF, 0x2F00, 0x3001, 0x3004, 0x3005, 0x3008, 0x3FFF],
      IsDropped base a := by
  delta IsDropped; decide +kernel

theorem witness_HostWriteIsJudged_locked : IsDropped (slot 1 2) 0x51 ∧ IsDropped (metered .hired .hired) 0x2B00 := by
  delta IsDropped; decide +kernel

theorem witness_HostWriteIsJudged :
    base.phase = .ready ∧ base.mem.Wf ∧ windowByte base 0x3FFF = 0#8 ∧ windowByte base 0x3001 ≠ 0#8 ∧
      laneOffset 0x1FFF#13 true = 0x3FFF ∧ laneOffset 0x1700#13 false = 0x2E00 ∧ State.reset.phase ≠ .ready := by
  decide +kernel

theorem witness_RecordsArePostedAndCancelled :
    let hand := fun v : Byte => ({ base with mem := (base.mem.write 0x100 v).write 0x101 0x30 } : State)
    let unknown := posted base 0x7F []
    (∀ v ∈ [0#8, 1#8, 2#8, 4#8], (hand v).phase = .ready ∧ (hand v).mem.Wf ∧ handField (hand v) 0 = v) ∧
      (kindByte (hand 2) 0 = 0x30#8 ∧ textFrame.origins = [{ origin := .record 0, detached := false }] ∧
        textFrame.inFlight = false ∧ (sent textFrame).inFlight = true ∧
        (sent textFrame).origins = textFrame.origins) ∧
      (∀ g ∈ [tripFrame, { sent textFrame with origins := [{ origin := .record 0, detached := true }] }, replyFrame],
        g.hasOrigin (.record 0) = false) ∧
      (unknown.mem.Wf ∧ unknown.wpt.posted = [0] ∧ requestKindOf (kindByte unknown 0).toNat = none) := by
  decide +kernel

theorem witness_RecordsArePostedAndCancelled_owners :
    (let s := replying base
     s.phase = .ready ∧ s.mem.Wf ∧ handField s 1 = 2#8 ∧ kindByte s 1 = 0x31#8 ∧ param8 s 1 8 = (23 : Fin 24).val ∧
       replyFrame.origins =
         [{ origin := .inbox 23, detached := false }, { origin := .record 1, detached := false }] ∧
       ∀ g ∈ [tripFrame, textFrame], g.hasOrigin (.record 1) = false) ∧
      ∀ row ∈ [(StoreKind.tariffs, 0x60#8, some 0, none), (.settings, 0x61#8, none, some 0)],
        let cps := { base.cps with queue := [row.1], tariffRecord := row.2.2.1, settingsRecord := row.2.2.2 }
        let s : State := { base with mem := (base.mem.write 0x100 2).write 0x101 row.2.1, cps := cps }
        s.phase = .ready ∧ s.mem.Wf ∧ handField s 0 = 2#8 ∧ kindByte s 0 = row.2.1 ∧ row.1 ∈ s.cps.queue ∧
          s.cps.writing = none := by decide +kernel

theorem witness_PortResets :
    let s := queued [textFrame, replyFrame, sent replyFrame] (replying base)
    s.phase = .ready ∧ s.mem.Wf ∧ (textFrame.inFlight = false ∧ replyFrame.inFlight = false) ∧
      (sent replyFrame).inFlight = true ∧ replyFrame.origins.any recordLink = true := by decide +kernel

/-- The part with pending channels. -/
def pendingBits (p : Word16) : State := { base with atc := { base.atc with pending := p } }

theorem witness_AttendGivesTheHighest :
    (base.phase = .ready ∧ IsPresentable (pendingBits 0x8001) 15 ∧
      ∀ m, 15 < m → m < 16 → ¬IsPresentable (pendingBits 0x8001) m) ∧
      (∀ n, n < 16 → ¬IsPresentable base n) ∧ State.reset.phase ≠ .ready := by
  refine ⟨⟨by decide, ⟨by decide, by decide +kernel, fun h => absurd h (by decide +kernel)⟩, fun m h h' => by omega⟩,
    fun n _ h => ?_, by decide⟩
  have : base.atc.pending.getLsbD n = false := by
    show (0#16).getLsbD n = false
    simp
  exact absurd h.1 (by simp [this])

theorem witness_DoneClearsInService :
    base.phase = .ready ∧ (0xFF0F#16).toNat % 256 < 16 ∧ 15 < (0x0010#16).toNat % 256 := by decide

/-! Witnesses: the calibration port, the store's requests and start-up. -/

theorem witness_CalibrationPortRuns :
    (base.phase = .ready ∧ base.cps.run = none ∧ base.cps.bank.length = 64) ∧
      (∀ x ∈ [CalTransaction.awaitPointer, .writing, .reading],
        ∀ p ∈ [0x00, 0x07, 0x08, 0x0F, 0x10, 0x3D, 0x3E, 0x40, 0x41, 0x4A, 0x7F, 0x80, 0xA7, 0xA8, 0xFF],
          (running x [] p).cps.run.map (fun run => (run.transaction, run.capturedTotals.length)) = some (x, 40) ∧
            (running x [] p).cps.pointer = p) := by decide +kernel

theorem witness_CalibrationPortRuns_end :
    (running .released (base.cps.bank.take 62) 0).cps.run.isSome = true ∧
      (running .released [] 0).cps.run.map (fun run => run.staging) ≠ some (base.cps.bank.take 62) ∧
      (running .released [] 0).mtc.meter = .off := by decide +kernel

/-- Four valid tariffs in the window. -/
def fourTariffs : State :=
  { base with
    mem := [0, 1, 2, 3].foldl (fun m t => Memory.writeBytes m (0x2B00 + 64 * t) tariffRecord) base.mem }

theorem witness_StoreRequestsAreJudged :
    let s := posted fourTariffs 0x60 []
    let locked := called .cancelling s
    let lock : State := { s with cps := { s.cps with bank := s.cps.bank.set 4 1 } }
    let open' : State := { s with mtc := { s.mtc with meter := .payment } }
    let busy : State := { s with cps := { s.cps with queue := [.tariffs] } }
    let invalid := posted base 0x60 []
    let keep := posted base 0x61 []
    (∀ u ∈ [s, locked, lock, open', busy, invalid], u.mem.Wf ∧ HeadIs .storeTariffs 0 [] u) ∧
      (s.emc.state = .quiet ∧ tariffLock s = false ∧ s.cps.queue = [] ∧ s.cps.writing = none ∧
        ∀ n, n ≤ 3 → (windowTariff s n).valid = true) ∧
      tariffLock lock = true ∧ (windowTariff invalid 0).valid = true ∧ (windowTariff invalid 1).valid = false ∧
      (keep.mem.Wf ∧ HeadIs .storeSettings 0 [] keep ∧ keep.emc.state = .quiet) := by
  delta HeadIs
  refine ⟨by decide +kernel, ⟨by decide, by decide +kernel, by decide, by decide, fun n h => ?_⟩, by decide +kernel,
    by decide +kernel, by decide +kernel, by decide +kernel⟩
  have : n = 0 ∨ n = 1 ∨ n = 2 ∨ n = 3 := by omega
  rcases this with h | h | h | h <;> subst h <;> decide +kernel

theorem witness_StartUpRunsItsStages :
    let at' := fun (p : Phase) => ({ base with phase := p } : State)
    let stored := fun (m : MeterState) (e : EmergencyState) =>
      ({ base with phase := .stage2, cps := { base.cps with store := { Store.empty with meter := some (commitOf m e) } } } :
        State)
    State.reset.phase = .off ∧ State.reset.cps.store.calibration = none ∧ (at' .stage1).cps.store.tariffs = none ∧
      (at' .stage2).cps.store.meter = none ∧
      (∀ m ∈ [MeterState.off, .hired, .payment], ∀ e ∈ [EmergencyState.quiet, .cancelling],
        (stored m e).phase = .stage2 ∧ (stored m e).cps.failed = false ∧
          (stored m e).cps.store.meter = some (commitOf m e)) ∧
      (let s : State := { stored .hired .acked with cps := { (stored .hired .acked).cps with failed := true } }
       s.phase = .stage2 ∧ s.cps.failed = true ∧ s.cps.store.meter = some (commitOf .hired .acked)) ∧
      (at' .stage3).phase = .stage3 ∧ (at' .stage4).phase = .stage4 := by decide +kernel

theorem witness_RequestsAreRefused :
    let barred := fun s : State => ({ s with cps := { s.cps with bank := s.cps.bank.set 5 0 } } : State)
    let failedBank := fun s : State => ({ s with cps := { s.cps with failed := true } } : State)
    let busy := fun s : State => ({ s with cps := { s.cps with queue := [.calibration] } } : State)
    (∀ row ∈ [(RequestKind.shiftOpen, 0x01#8), (.shiftClose, 0x02#8), (.selectTariff, 0x05#8), (.setBreak, 0x10#8),
        (.setAvailable, 0x11#8), (.noShow, 0x12#8), (.acceptOffer, 0x20#8), (.storeTariffs, 0x60#8),
        (.storeSettings, 0x61#8)],
      let s := called .acked (posted base row.2 [])
      s.mem.Wf ∧ HeadIs row.1 0 [] s ∧ s.emc.state ≠ .quiet) ∧
      (∀ row ∈ [(RequestKind.meterKey, 0x03#8, 3), (.addExtra, 0x04#8, 7), (.selectTariff, 0x05#8, 3),
          (.acceptOffer, 0x20#8, 7), (.declineOffer, 0x21#8, 7), (.releaseOffer, 0x22#8, 7), (.reply, 0x31#8, 23),
          (.markRead, 0x32#8, 23), (.deleteMsg, 0x33#8, 23)],
        ∀ e ∈ [EmergencyState.quiet, .acked],
        let s := called e (posted base row.2.1 [byteOf (row.2.2 + 1)])
        s.mem.Wf ∧ HeadIs row.1 0 [] s ∧ s.emc.state = e ∧
          hostMeterControl s = true ∧ hostMeterControl (barred s) = false ∧ row.2.2 < param8 s 0 8) ∧
      (let s := posted base 0x31 [0, 0, 63, 49]
       s.mem.Wf ∧ HeadIs .reply 0 [] s ∧ 48 < param8 s 0 11) ∧
      (∀ s ∈ [posted base 0x01 [0, 0], failedBank (posted base 0x01 [1, 0]), busy (posted base 0x01 [1, 0])],
        s.mem.Wf ∧ HeadIs .shiftOpen 0 [] s ∧ s.emc.state = .quiet ∧ s.mtc.meter = .off) ∧
      writeOutstanding (busy base) .calibration = true ∧
      (let s := posted (metered .vacant .assigned) 0x02 []
       s.mem.Wf ∧ HeadIs .shiftClose 0 [] s ∧ s.emc.state = .quiet ∧ s.dsc.status = .assigned) := by
  delta HeadIs; decide +kernel

end Sys2Proof.Tests
end

section
/-! SUPPORT. The rules by which a proof about a request speaks: which parts an operation keeps, what the settings and
the condition flags depend on, what an operation raises, and what a prompt answer writes. -/

namespace Sys2Proof.Machine

/-! What an operation keeps. -/

/-- Two steps together keep what both keep. -/
theorem Keeps.trans {l m : List Part} {s t u : State} (h : Keeps l s t) (h' : Keeps m t u) : Keeps (l ++ m) s u := by
  intro p hp
  obtain ⟨hl, hm⟩ := not_or.mp (mt List.mem_append.mpr hp)
  have hst := h p hl
  have htu := h' p hm
  cases p <;> exact Eq.trans htu hst

/-- Naming more parts as changed says less. -/
theorem Keeps.mono {l m : List Part} {s t : State} (h : Keeps l s t) (hlm : l ⊆ m) : Keeps m s t :=
  fun p hp => h p fun hl => hp (hlm hl)

theorem modMem_keeps (f : Memory → Memory) (s : State) : Keeps [.mem] s (s.modMem f) := by
  intro p hp
  cases p with
  | mem => exact absurd (List.mem_singleton.mpr rfl) hp
  | _ => rfl

theorem modOft_keeps (f : Oft → Oft) (s : State) : Keeps [.oft] s (s.modOft f) := by
  intro p hp
  cases p with
  | oft => exact absurd (List.mem_singleton.mpr rfl) hp
  | _ => rfl

theorem modWpt_keeps (f : Wpt → Wpt) (s : State) : Keeps [.wpt] s (s.modWpt f) := by
  intro p hp
  cases p with
  | wpt => exact absurd (List.mem_singleton.mpr rfl) hp
  | _ => rfl

theorem modAtc_keeps (f : Atc → Atc) (s : State) : Keeps [.atc] s (s.modAtc f) := by
  intro p hp
  cases p with
  | atc => exact absurd (List.mem_singleton.mpr rfl) hp
  | _ => rfl

theorem modPins_keeps (f : Pins → Pins) (s : State) : Keeps [.pins] s (s.modPins f) := by
  intro p hp
  cases p with
  | pins => exact absurd (List.mem_singleton.mpr rfl) hp
  | _ => rfl

theorem leaveList_keeps (rest : List (Fin 16)) (s : State) : Keeps [.wpt] s (leaveList rest s) := modWpt_keeps _ s

theorem driveLines_keeps (s : State) : Keeps [.pins] s (driveLines s) := modPins_keeps _ s

/-- An operation that changes the attention state alone. -/
theorem keeps_of_atc {s t : State} (h : t = { s with atc := t.atc }) : Keeps [.atc] s t := by
  rw [h]
  exact modAtc_keeps (fun _ => t.atc) s

theorem setChannel_keeps (c : Channel) (s : State) : Keeps [.atc] s (setChannel c s) := keeps_of_atc (setChannel_eq c s)

theorem rejudge_keeps (s : State) : Keeps [.atc] s (rejudge s) := keeps_of_atc (rejudge_eq s)

theorem updateOffer_keeps (e : Fin 8) (f : OfferEntry → OfferEntry) (s : State) :
    Keeps [.oft, .atc] s (updateOffer e f s) :=
  (modOft_keeps _ s).trans (rejudge_keeps _)

theorem answer_keeps (r : Fin 16) (x : Result) (w : Nat) (s : State) : Keeps [.mem, .atc] s (answer r x w s) :=
  (((modMem_keeps _ s).trans (modMem_keeps _ _)).trans (setChannel_keeps _ _)).mono (by decide)

/-! The settings and the condition flags. -/

/-- The bytes of the fleet settings region are the same (R159). -/
def SameSettings (s t : State) : Prop := ∀ o, t.mem.read (0x2E00 + o) = s.mem.read (0x2E00 + o)

section
variable {s t : State}

theorem SameSettings.of_mem (h : t.mem = s.mem) : SameSettings s t := fun o => by rw [h]

theorem SameSettings.settingFlag (h : SameSettings s t) (o : Nat) : settingFlag t o = settingFlag s o := by
  simp only [Machine.settingFlag, setting, h o]

theorem SameSettings.changeReported (h : SameSettings s t) : ChangeReported t ↔ ChangeReported s := by
  simp only [ChangeReported, h.settingFlag]

theorem SameSettings.isEnabled (h : SameSettings s t) (c : Channel) : IsEnabled t c ↔ IsEnabled s c := by
  simp only [IsEnabled, channelEnables, setting16, Memory.readNat, Memory.readBytes, Nat.add_assoc, h _]

/-- The parts that neither the condition flags nor the phase stand in; window memory is among them, of which the flags
read the settings alone (R158). -/
def besideFlags : List Part := [.mem, .frc, .txq, .wpt, .atc, .cps, .pins, .choices, .pending]

/-- The condition flags come from MTC, DSC, OFT, MST, EMC, ALE and the routine mark (R158). -/
theorem conditionFlags_congr (hk : Keeps besideFlags s t) (hs : SameSettings s t) :
    conditionFlags t = conditionFlags s := by
  have hmtc : t.mtc = s.mtc := hk .mtc (by decide)
  have hdsc : t.dsc = s.dsc := hk .dsc (by decide)
  have hoft : t.oft = s.oft := hk .oft (by decide)
  have hmst : t.mst = s.mst := hk .mst (by decide)
  have hemc : t.emc = s.emc := hk .emc (by decide)
  have hale : t.ale = s.ale := hk .ale (by decide)
  have hmark : routineMark t = routineMark s := by simp only [routineMark, setting, hs 0x06]
  simp only [conditionFlags, offerOpen, unread, poolLow, hmtc, hdsc, hoft, hmst, hemc, hale, hmark]

theorem matchNowA_congr (hk : Keeps besideFlags s t) (hs : SameSettings s t) : matchNowA t = matchNowA s := by
  simp only [matchNowA, conditionFlags_congr hk hs, hs 0x1D]

theorem matchNowB_congr (hk : Keeps besideFlags s t) (hs : SameSettings s t) : matchNowB t = matchNowB s := by
  simp only [matchNowB, conditionFlags_congr hk hs, hs 0x20]

end

/-! What an operation raises. -/

theorem Channel.number_lt (c : Channel) : c.number < 16 := by cases c <;> decide

theorem Channel.number_inj {c d : Channel} : c.number = d.number ↔ c = d := by
  cases c <;> cases d <;> decide

/-- A bit of a pending word after another is set in it. -/
theorem pendingBit_or (p : Word16) (c d : Channel) :
    (p ||| 1#16 <<< c.number).getLsbD d.number = true ↔ p.getLsbD d.number = true ∨ d = c := by
  have hd := d.number_lt
  have hshift : c.number ≤ d.number ∧ d.number - c.number = 0 ↔ d.number = c.number := by omega
  rw [← Channel.number_inj]
  simp [hd, hshift]

/-- A channel that is set becomes pending if it is enabled, and no other does (R173). -/
theorem isPending_setChannel (c d : Channel) (s : State) :
    IsPending (setChannel c s) d ↔ IsPending s d ∨ (d = c ∧ IsEnabled s c) := by
  unfold setChannel
  split_ifs with hc
  · exact (pendingBit_or s.atc.pending c d).trans (or_congr_right (and_iff_left hc).symm)
  · simp [IsEnabled, hc]

/-- Setting a channel changes the pending word alone. -/
theorem setChannel_atc (c : Channel) (s : State) :
    (setChannel c s).atc = { s.atc with pending := (setChannel c s).atc.pending } := by
  unfold setChannel
  split_ifs <;> rfl

theorem setChannel_raises (c : Channel) (s : State) : Raises [c] s (setChannel c s) := by
  refine ⟨setChannel_atc c s, fun d => (isPending_setChannel c d s).trans (or_congr_right ?_)⟩
  rw [List.mem_singleton]
  exact and_congr_right fun hd => by rw [hd]

/-- A judgement takes the match results of a READY part and changes no other field but the pending word (R176). -/
theorem rejudge_atc (s : State) :
    (rejudge s).atc = { s.atc with
      pending := (rejudge s).atc.pending,
      matchA := if s.phase = .ready then matchNowA s else s.atc.matchA,
      matchB := if s.phase = .ready then matchNowB s else s.atc.matchB } := by
  unfold rejudge
  split_ifs
  · exact setChannel_atc .pattern (takeMatches s)
  · rfl
  · rfl

/-- A judgement sets channel PATTERN for a reported change of a READY part, and no other channel (R177). -/
theorem isPending_rejudge (c : Channel) (s : State) :
    IsPending (rejudge s) c ↔
      IsPending s c ∨ (c = .pattern ∧ IsEnabled s .pattern ∧ s.phase = .ready ∧ matchChangeReported s = true) := by
  unfold rejudge
  split_ifs with hready hreported
  · exact (isPending_setChannel .pattern c (takeMatches s)).trans
      (or_congr_right (and_congr_right fun _ => (and_iff_left ⟨hready, hreported⟩).symm))
  · simp [hreported, IsPending, takeMatches]
  · simp [hready]

theorem changeReported_of_matchChangeReported {s : State} (h : matchChangeReported s = true) : ChangeReported s := by
  simp only [matchChangeReported, Bool.or_eq_true, Bool.and_eq_true] at h
  exact h.imp And.right And.right

/-- A judgement raises channel PATTERN alone, as R177 says. -/
theorem rejudge_raisesJudged (s : State) : RaisesJudged [] s (rejudge s) := by
  have hmem : SameSettings s (rejudge s) := .of_mem (rejudge_mem s)
  have hflags : Keeps besideFlags s (rejudge s) := (rejudge_keeps s).mono (by decide)
  have hA := congrArg Atc.matchA (rejudge_atc s)
  have hB := congrArg Atc.matchB (rejudge_atc s)
  refine ⟨?_, fun c hc => ?_, fun h => ?_, fun h => ?_, fun hready hen hm => ?_, fun hready => ?_, fun hready => ?_⟩
  · rw [rejudge_atc]
  · simp [isPending_rejudge, hc]
  · exact (isPending_rejudge ..).mpr (.inl h)
  · refine ((isPending_rejudge ..).mp h).imp_right fun ⟨_, hen, hready, hreported⟩ => ?_
    exact ⟨hen, changeReported_of_matchChangeReported hreported, hready⟩
  · refine (isPending_rejudge ..).mpr (.inr ⟨rfl, hen, hready, ?_⟩)
    simpa only [MatchReported, matchChangeReported, hmem.settingFlag, hA, hB, if_pos hready, Bool.or_eq_true,
      Bool.and_eq_true, bne_iff_ne] using hm
  · rw [hA, hB, if_pos hready, if_pos hready, matchNowA_congr hflags hmem, matchNowB_congr hflags hmem]
    exact ⟨rfl, rfl⟩
  · rw [hA, hB, if_neg hready, if_neg hready]
    exact ⟨rfl, rfl⟩

/-- Channels other than PATTERN that are raised after a judgement, with the settings and the condition flags as they
were judged, join what it raises. -/
theorem RaisesJudged.then_raises {cs ds : List Channel} {s t u : State} (hj : RaisesJudged cs s t) (hr : Raises ds t u)
    (hd : Channel.pattern ∉ ds) (hst : SameSettings s t) (htu : SameSettings t u) (hk : Keeps besideFlags t u) :
    RaisesJudged (cs ++ ds) s u := by
  obtain ⟨hatc, hset, hkeep, honly, hpattern, htaken, hheld⟩ := hj
  obtain ⟨hratc, hrset⟩ := hr
  have hA : u.atc.matchA = t.atc.matchA := by rw [hratc]
  have hB : u.atc.matchB = t.atc.matchB := by rw [hratc]
  have hpat : IsPending u .pattern ↔ IsPending t .pattern := by simp [hrset, hd]
  refine ⟨?_, fun c hc => ?_, fun h => hpat.mpr (hkeep h), fun h => honly (hpat.mp h), fun hready hen hm => ?_,
    fun hready => ?_, fun hready => ?_⟩
  · rw [hratc, hatc]
  · rw [hrset, hset c hc, hst.isEnabled, List.mem_append, or_and_right, or_assoc]
  · refine hpat.mpr (hpattern hready hen ?_)
    simpa only [MatchReported, hA, hB, htu.settingFlag] using hm
  · rw [hA, hB, matchNowA_congr hk htu, matchNowB_congr hk htu]
    exact htaken hready
  · rw [hA, hB]
    exact hheld hready

/-! One offer entry. -/

section
variable (e : Fin 8) (f : OfferEntry → OfferEntry) (s : State)

@[simp] theorem updateOffer_mem : (updateOffer e f s).mem = s.mem := updateOffer_keeps e f s .mem (by decide)

theorem updateOffer_oft :
    (updateOffer e f s).oft = { s.oft with entries := s.oft.entries.set e.val (f (s.oft.entries.get e)) e.isLt } :=
  rejudge_keeps _ .oft (by decide)

@[simp] theorem updateOffer_entry : (updateOffer e f s).oft.entries.get e = f (s.oft.entries.get e) := by
  simp [updateOffer_oft, Vector.get_eq_getElem]

theorem updateOffer_onlyOffer : OnlyOffer e s (updateOffer e f s) := by
  refine ⟨by rw [updateOffer_oft], fun x hx => ?_⟩
  simp only [updateOffer_oft, Vector.get_eq_getElem]
  exact Vector.getElem_set_ne _ _ fun h => hx (Fin.ext h.symm)

theorem updateOffer_raisesJudged : RaisesJudged [] s (updateOffer e f s) := rejudge_raisesJudged (s.modOft _)

end

/-! The answer of a prompt request. -/

section
variable {s : State} (h : s.mem.Wf) (r : Fin 16) (x : Result) (w : Nat)

theorem answer_mem (s : State) :
    (answer r x w s).mem = (s.mem.writeBytes (recordBase r + 4) (answerBytes x 0#8 w)).write (recordBase r) 4#8 :=
  setChannel_mem ..

include h

/-- An answer writes the bytes of an answer alone. -/
theorem answer_onlyAnswerBytes : OnlyAnswerBytes r s (answer r x w s) := by
  intro a ha
  obtain ⟨hhand, hrest⟩ := not_or.mp ha
  rw [answer_mem, Memory.read_write_other (Memory.wf_writeBytes h ..) _ hhand]
  refine Memory.read_writeBytes_other h _ ?_
  simp only [answerBytes, List.length_append, length_littleEndian, List.length_cons, List.length_nil]
  omega

/-- The bytes of an answer read as they were written, and the hand field is ANSWERED. -/
theorem answer_answered : Answered r x 0#8 w (answer r x w s) := by
  have hbyte : ∀ i (hi : i < (answerBytes x 0#8 w).length),
      (answer r x w s).mem.read (recordBase r + 4 + i) = (answerBytes x 0#8 w)[i] := fun i hi => by
    rw [answer_mem, Memory.read_write_other (Memory.wf_writeBytes h ..) _ (by omega)]
    exact Memory.read_writeBytes h _ _ i hi
  refine ⟨?_, hbyte 0 (by simp [answerBytes]), hbyte 1 (by simp [answerBytes]), ?_⟩
  · rw [handField, answer_mem]
    exact Memory.read_write_same (Memory.wf_writeBytes h ..) _ _
  · have h2 := hbyte 2 (by simp [answerBytes])
    have h3 := hbyte 3 (by simp [answerBytes])
    simp only [Memory.readBytes, littleEndian]
    exact congrArg₂ (fun a b => [a, b]) h2 h3

/-- No record reaches into the settings region (R157). -/
theorem answer_sameSettings : SameSettings s (answer r x w s) := fun o =>
  answer_onlyAnswerBytes h r x w _ (by
    have := r.isLt
    simp only [IsAnswerByte, recordBase]
    omega)

/-- An answer raises channel REQUEST (R165). -/
theorem answer_raises : Raises [.request] s (answer r x w s) := by
  let written := setHand r 4#8 (s.modMem fun m => m.writeBytes (recordBase r + 4) (answerBytes x 0#8 w))
  have hs : SameSettings s written := fun o => by
    rw [← answer_sameSettings h r x w o, answer_mem]
    rfl
  obtain ⟨hatc, hset⟩ := setChannel_raises .request written
  exact ⟨hatc, fun c => (hset c).trans (by rw [hs.isEnabled]; rfl)⟩

end

/-! A request that leaves the list and is answered. -/

/-- The lines at the end of an arrival, its pins otherwise kept (R176). -/
theorem driveLines_onlyLines {s t : State} (h : t.pins = s.pins) : OnlyLines s (driveLines t) := by
  rw [OnlyLines, ← h]
  rfl

/-- The record at the head of the list leaves it; a kind that R122 does not lock comes to its owner (R164). -/
theorem takeRequest_unlocked {k : RequestKind} {r : Fin 16} {rest : List (Fin 16)} {s : State} (hk : k.locked = false)
    (h : HeadIs k r rest s) (owner : Fin 16 → State → State) :
    takeRequest k owner s = owner r (leaveList rest s) := by
  obtain ⟨hposted, hkind⟩ := h
  simp [takeRequest, hposted, hkind, serveRequest, hk]

/-- A request has left the list and been answered, and nothing else has been done. -/
def AnsweredAlone (r : Fin 16) (rest : List (Fin 16)) (result : Result) (word : Nat) (s t : State) : Prop :=
  AnsweredPromptly r rest result word s t ∧ OnlyList s t ∧ Raises [.request] s t ∧
  Keeps [.mem, .wpt, .atc, .pins] s t ∧ OnlyLines s t

/-- Work on a request between its leaving the list and its answer that neither writes memory nor touches the port leaves
the answer prompt. -/
theorem answeredPromptly_of_work {s work : State} {rest : List (Fin 16)} (h : s.mem.Wf) (hmem : work.mem = s.mem)
    (hwpt : work.wpt = (leaveList rest s).wpt) (r : Fin 16) (x : Result) (w : Nat) :
    AnsweredPromptly r rest x w s (driveLines (answer r x w work)) ∧ OnlyList s (driveLines (answer r x w work)) := by
  have hw : work.mem.Wf := hmem ▸ h
  have hport : (answer r x w work).wpt = (leaveList rest s).wpt := (answer_keeps r x w work .wpt (by decide)).trans hwpt
  refine ⟨⟨answer_answered hw r x w, fun a ha => ?_, congrArg Wpt.posted hport⟩, ?_⟩
  · exact (answer_onlyAnswerBytes hw r x w a ha).trans (by rw [hmem])
  · show (answer r x w work).wpt = { s.wpt with posted := (answer r x w work).wpt.posted }
    rw [hport]
    rfl

theorem answer_alone {s : State} (h : s.mem.Wf) (r : Fin 16) (rest : List (Fin 16)) (x : Result) (w : Nat) :
    AnsweredAlone r rest x w s (driveLines (answer r x w (leaveList rest s))) := by
  have hk := (leaveList_keeps rest s).trans (answer_keeps r x w _)
  obtain ⟨hprompt, hlist⟩ := answeredPromptly_of_work (work := leaveList rest s) h rfl rfl r x w
  exact ⟨hprompt, hlist, answer_raises (s := leaveList rest s) h r x w,
    (hk.trans (driveLines_keeps _)).mono (by decide), driveLines_onlyLines (hk .pins (by decide))⟩

end Sys2Proof.Machine
end

section
/-! DECLINE_OFFER is judged by the entry's state (R72). -/

namespace Sys2Proof.Machine

/-- The owner's answer to a DECLINE_OFFER at the head of the list ends the command. -/
theorem completes_declineOffer {r : Fin 16} {rest : List (Fin 16)} {s : State} (h : HeadIs .declineOffer r rest s)
    {post : State → Prop} (hpost : post (driveLines (ownDeclineOffer r (leaveList rest s)))) :
    Completes .declineOffer s post := by
  have hexec : exec .declineOffer s = execDeclineOffer s := rfl
  exact ⟨_, by rw [hexec, execDeclineOffer, takeRequest_unlocked rfl h], hpost⟩

section
variable {r : Fin 16} {s : State}

theorem ownDeclineOffer_range (h : 7 < param8 s r 8) : ownDeclineOffer r s = answer r .refusedRange 0 s :=
  dif_neg (by omega)

theorem ownDeclineOffer_entry {e : Fin 8} (h : param8 s r 8 = e.val) : ownDeclineOffer r s = declineEntry r e s := by
  have he : (⟨param8 s r 8, h ▸ e.isLt⟩ : Fin 8) = e := Fin.ext h
  rw [ownDeclineOffer, dif_pos (h ▸ e.isLt), he]

variable {e : Fin 8}

theorem declineEntry_open (h : (s.oft.entries.get e).state = .open) :
    declineEntry r e s = answer r .done OfferState.declined.code (endOffer e .declined .none s) := by
  simp only [declineEntry, h]

theorem declineEntry_expired (h : (s.oft.entries.get e).state = .expired) :
    declineEntry r e s = answer r .tooLate (s.oft.entries.get e).state.code s := by
  simp only [declineEntry, h]

theorem declineEntry_refused (hx : (s.oft.entries.get e).state ≠ .expired) (ho : (s.oft.entries.get e).state ≠ .open) :
    declineEntry r e s = answer r .refusedState (s.oft.entries.get e).state.code s := by
  unfold declineEntry
  split
  next h => exact absurd h ho
  next h => exact absurd h hx
  all_goals rfl

end

/-- An answer alone leaves the offer table, so that its word may be read from the entry after it. -/
theorem AnsweredAlone.entry_after {r : Fin 16} {rest : List (Fin 16)} {x : Result} {e : Fin 8} {s t : State}
    (h : AnsweredAlone r rest x (s.oft.entries.get e).state.code s t) :
    AnsweredAlone r rest x (t.oft.entries.get e).state.code s t := by
  obtain ⟨hprompt, hlist, hraises, hkeeps, hlines⟩ := h
  have hoft : t.oft = s.oft := hkeeps .oft (by decide)
  rw [hoft]
  exact ⟨hprompt, hlist, hraises, hkeeps, hlines⟩

/-- The decline of an OPEN entry: the entry ends, and the request is answered with its new state (R72). -/
theorem declineOpen_effect {s : State} (hwf : s.mem.Wf) (r : Fin 16) (rest : List (Fin 16)) (e : Fin 8) :
    let t := driveLines (answer r .done OfferState.declined.code (endOffer e .declined .none (leaveList rest s)))
    t.oft.entries.get e = (s.oft.entries.get e).ended .declined .none ∧ OnlyOffer e s t ∧
      AnsweredPromptly r rest .done (t.oft.entries.get e).state.code s t ∧ OnlyList s t ∧
      RaisesJudged [.request] s t ∧ Keeps [.mem, .oft, .wpt, .atc, .pins] s t ∧ OnlyLines s t := by
  intro t
  let listed := leaveList rest s
  let ended := endOffer e .declined .none listed
  let answered := answer r .done OfferState.declined.code ended
  have hmem : ended.mem = s.mem := updateOffer_mem e _ listed
  have hends : Keeps [.oft, .atc] listed ended := updateOffer_keeps e _ listed
  have hanswers : Keeps [.mem, .atc] ended answered := answer_keeps r .done _ ended
  have hall := ((leaveList_keeps rest s).trans hends).trans hanswers
  have hoft : t.oft = ended.oft := hanswers .oft (by decide)
  have hentry : t.oft.entries.get e = (s.oft.entries.get e).ended .declined .none := by
    rw [hoft]
    exact updateOffer_entry e _ listed
  have honly : OnlyOffer e s t := by
    rw [OnlyOffer, hoft]
    exact updateOffer_onlyOffer e _ listed
  obtain ⟨hprompt, hlist⟩ :=
    answeredPromptly_of_work (rest := rest) hwf hmem (hends .wpt (by decide)) r .done OfferState.declined.code
  have hraises : RaisesJudged [.request] listed answered :=
    (updateOffer_raisesJudged e _ listed).then_raises (answer_raises (hmem ▸ hwf) r .done _) (by decide)
      (.of_mem hmem) (answer_sameSettings (hmem ▸ hwf) r .done _) (hanswers.mono (by decide))
  refine ⟨hentry, honly, ?_, hlist, hraises, (hall.trans (driveLines_keeps _)).mono (by decide),
    driveLines_onlyLines (hall .pins (by decide))⟩
  rw [hentry]
  exact hprompt

/-- Settles O35: it holds. The list's head is served by its owner, since R122 locks no DECLINE_OFFER; the refusals are
answers alone, and an OPEN entry ends before its answer. -/
theorem declineIsJudged : Obligations.DeclineIsJudged := by
  intro s r rest hwf hhead
  refine ⟨fun hrange => completes_declineOffer hhead ?_, fun e he => ⟨fun hx => completes_declineOffer hhead ?_,
    fun hx ho => completes_declineOffer hhead ?_, fun ho => completes_declineOffer hhead ?_⟩⟩
  · rw [ownDeclineOffer_range (s := leaveList rest s) hrange]
    exact answer_alone hwf r rest .refusedRange 0
  · rw [ownDeclineOffer_entry (s := leaveList rest s) he, declineEntry_expired (s := leaveList rest s) hx]
    exact (answer_alone hwf r rest .tooLate _).entry_after
  · rw [ownDeclineOffer_entry (s := leaveList rest s) he, declineEntry_refused (s := leaveList rest s) hx ho]
    exact (answer_alone hwf r rest .refusedState _).entry_after
  · rw [ownDeclineOffer_entry (s := leaveList rest s) he, declineEntry_open (s := leaveList rest s) ho]
    exact declineOpen_effect hwf r rest e

end Sys2Proof.Machine
end

section
/-! SUPPORT. The attention controller seen from the host: one bit of a flag word, what presentable and highest mean, and
what a read of ATTEND and a write to DONE leave. -/

namespace Sys2Proof.Machine

/-- A step that changes nothing keeps every part. -/
theorem Keeps.refl (l : List Part) (s : State) : Keeps l s s := fun p _ => by cases p <;> rfl

/-! One bit of a flag word. -/

theorem getLsbD_bit {n m : Nat} (h : m < 16) : (1#16 <<< n).getLsbD m = (m == n) := by
  have hbit : (1#16 <<< n).getLsbD m = (decide (n < 16) && n == m) := BitVec.getLsbD_twoPow n m
  rw [hbit, Bool.eq_iff_iff]
  simp only [Bool.and_eq_true, decide_eq_true_eq, beq_iff_eq]
  omega

theorem getLsbD_setBit (w : Word16) {n m : Nat} (h : m < 16) :
    (w ||| 1#16 <<< n).getLsbD m = (w.getLsbD m || m == n) := by
  rw [BitVec.getLsbD_or, getLsbD_bit h]

theorem getLsbD_clearBit (w : Word16) {n m : Nat} (h : m < 16) :
    (w &&& ~~~(1#16 <<< n)).getLsbD m = (w.getLsbD m && m != n) := by
  simp only [BitVec.getLsbD_and, BitVec.getLsbD_not, getLsbD_bit h, h, decide_true, Bool.true_and, bne]

/-! The highest presentable channel. -/

theorem inServiceFrom_eq_false_iff (s : State) (n : Nat) :
    inServiceFrom s n = false ↔ ∀ m, n ≤ m → m < 16 → s.atc.inService.getLsbD m = false := by
  simp only [inServiceFrom, List.any_eq_false, List.mem_range, Bool.and_eq_true, decide_eq_true_eq, not_and,
    Bool.not_eq_true]
  exact forall_congr' fun m => forall_comm

/-- The presentable channels of the model are those of R174. -/
theorem presentable_iff (s : State) (n : Nat) : presentable s n = true ↔ IsPresentable s n := by
  simp only [presentable, IsPresentable, Bool.and_eq_true, Bool.or_eq_true, Bool.not_eq_true',
    inServiceFrom_eq_false_iff, and_assoc, imp_iff_not_or, Bool.not_eq_true]

theorem presentable_eq_false_iff (s : State) (n : Nat) : presentable s n = false ↔ ¬IsPresentable s n := by
  rw [← presentable_iff, Bool.not_eq_true]

/-- A search from `k - 1` down to 0 finds the greatest number below `k` of which the predicate holds. -/
theorem find?_reverse_range {p : Nat → Bool} {n : Nat} (hp : p n = true) :
    ∀ {k : Nat}, n < k → (∀ m, n < m → m < k → p m = false) → (List.range k).reverse.find? p = some n
  | k + 1, hn, habove => by
    rw [List.range_succ, List.reverse_append, List.reverse_singleton, List.singleton_append]
    obtain rfl | hlt := Nat.eq_or_lt_of_le (Nat.le_of_lt_succ hn)
    · exact List.find?_cons_of_pos hp
    · rw [List.find?_cons_of_neg (by simp [habove k hlt (Nat.lt_succ_self k)])]
      exact find?_reverse_range hp hlt fun m hnm hmk => habove m hnm (Nat.lt_succ_of_lt hmk)

theorem highestPresentable_eq_some {s : State} {n : Nat} (hn : n < 16) (hp : IsPresentable s n)
    (habove : ∀ m, n < m → m < 16 → ¬IsPresentable s m) : highestPresentable s = some n :=
  find?_reverse_range ((presentable_iff s n).mpr hp) hn fun m hnm hm =>
    (presentable_eq_false_iff s m).mpr (habove m hnm hm)

theorem highestPresentable_eq_none {s : State} (h : ∀ n, n < 16 → ¬IsPresentable s n) : highestPresentable s = none := by
  refine List.find?_eq_none.mpr fun n hn => ?_
  rw [presentable_iff]
  exact h n (List.mem_range.mp (List.mem_reverse.mp hn))

/-! A read of ATTEND. -/

section
variable {s : State}

theorem readAttend_some {n : Nat} (hready : s.phase = .ready) (h : highestPresentable s = some n) :
    readAttend s = takeChannel n (returnWord (BitVec.ofNat 16 n) s) := by
  simp only [readAttend, if_pos hready, h]

theorem readAttend_none (hready : s.phase = .ready) (h : highestPresentable s = none) :
    readAttend s = returnWord 0x00FF#16 s := by
  simp only [readAttend, if_pos hready, h]

theorem readAttend_notReady (h : s.phase ≠ .ready) : readAttend s = returnWord 0#16 s := if_neg h

end

theorem returnWord_keeps (v : Word16) (s : State) : Keeps [.pins] s (returnWord v s) := modPins_keeps _ s

theorem takeChannel_keeps (n : Nat) (s : State) : Keeps [.atc] s (takeChannel n s) := modAtc_keeps _ s

theorem takeChannel_pending (n : Nat) (s : State) {m : Nat} (hm : m < 16) :
    (takeChannel n s).atc.pending.getLsbD m = (s.atc.pending.getLsbD m && m != n) :=
  getLsbD_clearBit s.atc.pending hm

/-- The channel taken is in service with tracking on, and only then (R174). -/
theorem takeChannel_inService (n : Nat) (s : State) {m : Nat} (hm : m < 16) :
    (takeChannel n s).atc.inService.getLsbD m = (s.atc.inService.getLsbD m || (serviceTracking s && m == n)) := by
  simp only [takeChannel, State.modAtc_atc]
  cases serviceTracking s with
  | false => simp
  | true => exact getLsbD_setBit s.atc.inService hm

/-- The host reads a word; of the pins, the notification lines alone may differ besides. -/
def ReturnsWord (v : Word16) (s t : State) : Prop :=
  t.pins = { s.pins with hostData := v, noteA := lineAsserted t false, noteB := lineAsserted t true }

theorem driveLines_returnsWord {v : Word16} {s t : State} (h : t.pins = (returnWord v s).pins) :
    ReturnsWord v s (driveLines t) :=
  driveLines_onlyLines (s := returnWord v s) h

/-- A read that takes no channel changes nothing but the word read. -/
theorem returnWord_alone (v : Word16) (s : State) :
    ReturnsWord v s (driveLines (returnWord v s)) ∧ Keeps [.pins] s (driveLines (returnWord v s)) :=
  ⟨driveLines_returnsWord rfl, ((returnWord_keeps v s).trans (driveLines_keeps _)).mono (by decide)⟩

theorem completes_attendRead {s : State} {post : State → Prop} (h : post (driveLines (readAttend s))) :
    Completes .attendRead s post :=
  ⟨_, rfl, h⟩

/-! A write to DONE. -/

section
variable {b : Byte} (s : State)

theorem writeDone_above (h : 15 < b.toNat) : writeDone b s = s := if_neg (by omega)

theorem writeDone_keeps : Keeps [.atc] s (writeDone b s) := by
  unfold writeDone
  split_ifs
  · exact modAtc_keeps _ s
  · exact Keeps.refl _ s

/-- A write to DONE changes the in-service word alone (R175). -/
theorem writeDone_atc : (writeDone b s).atc = { s.atc with inService := (writeDone b s).atc.inService } := by
  unfold writeDone
  split_ifs <;> rfl

theorem writeDone_inService (hb : b.toNat < 16) {m : Nat} (hm : m < 16) :
    (writeDone b s).atc.inService.getLsbD m = (s.atc.inService.getLsbD m && m != b.toNat) := by
  rw [writeDone, if_pos hb]
  exact getLsbD_clearBit s.atc.inService hm

/-- A pending and unmasked channel with no higher channel in service is presentable after its DONE (R174, R175). -/
theorem writeDone_presents (hb : b.toNat < 16) (hpending : s.atc.pending.getLsbD b.toNat = true)
    (hmask : (channelMasks s).testBit b.toNat = true)
    (habove : ∀ m, b.toNat < m → m < 16 → s.atc.inService.getLsbD m = false) :
    IsPresentable (writeDone b s) b.toNat := by
  have hmem : (writeDone b s).mem = s.mem := writeDone_keeps s .mem (by decide)
  refine ⟨by rwa [writeDone_atc], by rwa [channelMasks, setting16, hmem], fun _ m hle hm => ?_⟩
  rw [writeDone_inService s hb hm]
  obtain rfl | hlt := Nat.eq_or_lt_of_le hle
  · simp
  · simp [habove m hlt hm]

end

/-- The low byte of the word names the channel. -/
theorem toNat_lowByte (data : Word16) : (data.setWidth 8 : Byte).toNat = data.toNat % 256 := BitVec.toNat_setWidth 8 data

theorem completes_doneWrite {s : State} {data : Word16} {post : State → Prop} (hready : s.phase = .ready)
    (h : post (driveLines (writeDone (data.setWidth 8) s))) : Completes (.doneWrite data) s post := by
  have hexec : exec (.doneWrite data) s = execDoneWrite data s := rfl
  exact ⟨_, by rw [hexec, execDoneWrite, if_pos hready], h⟩

end Sys2Proof.Machine
end

section
/-! ATTEND gives the highest presentable channel, and DONE ends its service (R174, R175). -/

namespace Sys2Proof.Machine

/-- Settles O55: it holds. The model's search from channel 15 down finds the highest presentable channel, and taking it
changes one bit of each flag word. -/
theorem attendGivesTheHighest : Obligations.AttendGivesTheHighest := by
  refine fun s => ⟨fun n hready hn hp habove => completes_attendRead ?_, fun hready hnone => completes_attendRead ?_,
    fun hready => completes_attendRead ?_⟩
  · rw [readAttend_some hready (highestPresentable_eq_some hn hp habove)]
    let read := returnWord (BitVec.ofNat 16 n) s
    have hkeeps := ((returnWord_keeps _ s).trans (takeChannel_keeps n read)).trans (driveLines_keeps _)
    exact ⟨driveLines_returnsWord rfl, rfl, fun m hm => takeChannel_pending n read hm,
      fun m hm => takeChannel_inService n read hm, hkeeps.mono (by decide)⟩
  · rw [readAttend_none hready (highestPresentable_eq_none hnone)]
    exact returnWord_alone 0x00FF#16 s
  · rw [readAttend_notReady hready]
    exact returnWord_alone 0#16 s

/-- Settles O56: it holds. With no higher channel in service and its own flag cleared, nothing in service stands in the
way of the channel that was done. -/
theorem doneClearsInService : Obligations.DoneClearsInService := by
  intro s data hready n
  have hn : (data.setWidth 8 : Byte).toNat = n := toNat_lowByte data
  have hkeeps := writeDone_keeps (b := data.setWidth 8) s
  refine ⟨fun hlt => completes_doneWrite hready ?_, fun hgt => completes_doneWrite hready ?_⟩
  · rw [← hn] at hlt ⊢
    exact ⟨writeDone_atc s, fun m hm => writeDone_inService s hlt hm, writeDone_presents s hlt,
      (hkeeps.trans (driveLines_keeps _)).mono (by decide), driveLines_onlyLines (hkeeps .pins (by decide))⟩
  · rw [writeDone_above s (hn ▸ hgt)]
    exact ⟨driveLines_keeps s, driveLines_onlyLines rfl⟩

end Sys2Proof.Machine
end

section
/-! SUPPORT. The effect of a command before the notification lines are driven, and how a law of the part follows from it. -/

namespace Sys2Proof.Machine

/-- What a command does before the lines are driven at its end: the state that `exec` hands to `driveLines`. -/
def effect (c : Instr) (s : State) : State :=
  match c with
  | .pulseEdge => countPulse s
  | .meterSecondExpiry => if s.frc.meterTimerRunning then endMeterSecond s else s
  | .calendarSecondExpiry => if s.frc.clockTimerRunning then endCalendarSecond s else s
  | .setClock => takeRequest .setClock ownSetClock s
  | .time f => receiveFrame 0x32 f (fun _ t => takeTime (parseTime f.body) t) s
  | .keyPress k => if inputsWatched s then (pressKey k false s).2 else s
  | .meterKey => takeRequest .meterKey ownMeterKey s
  | .addExtra => takeRequest .addExtra ownAddExtra s
  | .selectTariff => takeRequest .selectTariff ownSelectTariff s
  | .paymentHoldExpiry => endHold s
  | .shiftOpen => takeRequest .shiftOpen ownShiftOpen s
  | .shiftClose => takeRequest .shiftClose ownShiftClose s
  | .releaseTrip => takeRequest .releaseTrip ownReleaseTrip s
  | .storeWriteBegin => beginNextWrite s
  | .meterCommitComplete => finishMeterCommit s
  | .calibrationWriteComplete => finishCalibrationWrite s
  | .tariffWriteComplete => finishTariffWrite s
  | .settingsWriteComplete => finishSettingsWrite s
  | .storeWriteFailed => failCurrentWrite s
  | .positionFixPost => if s.phase = .ready then writeSlotHand 1#8 s else s
  | .setBreak => takeRequest .setBreak ownSetBreak s
  | .setAvailable => takeRequest .setAvailable ownSetAvailable s
  | .noShow => takeRequest .noShow ownNoShow s
  | .zoneInfo f => receiveFrame 0x31 f (fun _ t => takeZoneInfo (bodyByte f.body 0).toNat (bodyByte f.body 1).toNat t) s
  | .poll f => receiveFrame 0x30 f (fun _ t => takePoll (bodyByte f.body 0) t) s
  | .offer f => receiveFrame 0x10 f (fun how t => takeOffer how (parseOffer f.body) t) s
  | .offerWindowExpiry e => expireOffer e s
  | .acceptOffer => takeRequest .acceptOffer ownAcceptOffer s
  | .declineOffer => takeRequest .declineOffer ownDeclineOffer s
  | .releaseOffer => takeRequest .releaseOffer ownReleaseOffer s
  | .awardWaitExpiry e => expireAwardWait e s
  | .award f => receiveFrame 0x11 f (fun _ t => takeAward (bodyWord f.body 0) (bodyWord f.body 2) t) s
  | .withdraw f => receiveFrame 0x12 f (fun _ t => takeWithdraw (bodyWord f.body 0) t) s
  | .text f => receiveFrame 0x20 f (fun how t => takeText how (parseText f.body) t) s
  | .sendText => takeRequest .sendText ownSendText s
  | .reply => takeRequest .reply ownReply s
  | .markRead => takeRequest .markRead ownMarkRead s
  | .deleteMsg => takeRequest .deleteMsg ownDeleteMsg s
  | .alarmPress high => if inputsWatched s then judgeAlarm (s.modPins fun p => { p with alarm := high }) else s
  | .emergencyRaise => takeRequest .emergencyRaise ownEmergencyRaise s
  | .emergencyCancel => takeRequest .emergencyCancel ownEmergencyCancel s
  | .updateTimerExpiry => expireUpdateTimer s
  | .emergencyAck f => receiveFrame 0x40 f takeEmergencyAck s
  | .emergencyClear f => receiveFrame 0x41 f takeEmergencyClear s
  | .rxFrameAbandon => abandonFrame s
  | .cycleFrame f modemReady => receiveFrame 0x01 f (fun _ t => takeCycle (parseCycle f.body) modemReady t) s
  | .slotStart slot modemReady => startSlot slot modemReady s
  | .transmissionEnd => finishTransmission s
  | .modemReadyFall => fallModemReady s
  | .txcStall => cutOff 2 s
  | .fadeExpiry => fade s
  | .lossExpiry => loseLink s
  | .radioRestart => takeRequest .radioRestart ownRadioRestart s
  | .hostWindowWrite wordAddress data low high => hostWrite (busBytes wordAddress data low high) s
  | .requestPost r => if s.phase = .ready then writeHand r 1#8 s else s
  | .requestCancel r => if s.phase = .ready then writeHand r 3#8 s else s
  | .unknownKind => takeUnknown s
  | .portReset => if s.phase = .ready then resetPort s else s
  | .attendRead => readAttend s
  | .doneWrite data => if s.phase = .ready then writeDone (data.setWidth 8) s else s
  | .calRunStart address read => startRun address read s
  | .calPointerWrite byte => setPointer byte s
  | .calDataWrite byte calEnable => takeDataByte byte calEnable s
  | .calDataRead acknowledged => readDataByte acknowledged s
  | .calStop calEnable => endRun calEnable s
  | .calBusIdleTimeout calEnable => endRun calEnable s
  | .storeTariffs => takeRequest .storeTariffs ownStoreTariffs s
  | .storeSettings => takeRequest .storeSettings ownStoreSettings s
  | .powerLoss => volatileCleared .off s
  | .resetNAssert => if s.phase = .off then s else volatileCleared .held s
  | .startUp => if s.phase = .off ∨ s.phase = .held then stage1 s else s
  | .startupWindow => if s.phase = .stage1 then stage2 s else s
  | .startupRecovery => if s.phase = .stage2 then stage3 s else s
  | .startupRadio => if s.phase = .stage3 then stage4 s else s
  | .startupReady => if s.phase = .stage4 then stage5 s else s
  | .syncFound bits => judgeSync bits s
  | .rxLengthFormatError length => takeBadLength length s
  | .rxFrameDropped kind f => takeDropped kind.toNat f s
  | .offerRemainingRewrite e => stepRemaining e s

/-- Every command ends in its effect with the lines driven (R176). -/
theorem exec_eq_effect (c : Instr) (s : State) : exec c s = .next (driveLines (effect c s)) := by
  cases c <;> rfl

/-- A step is idle, or it is the effect of the command at the front. -/
theorem step_cases {s t : State} (h : step s = .next t) :
    t = s ∨ ∃ c rest, s.pending = c :: rest ∧ t = driveLines (effect c { s with pending := rest }) := by
  unfold step at h
  split at h
  next => exact .inl (Host.Outcome.next.inj h).symm
  next c rest hp =>
    rw [exec_eq_effect] at h
    exact .inr ⟨c, rest, hp, (Host.Outcome.next.inj h).symm⟩

/-- A law that reads neither the queue of commands nor the notification lines, and that the effect of every command keeps,
is kept by every step. -/
theorem law_step {P : State → Prop} (hpending : ∀ s l, P s → P { s with pending := l })
    (hlines : ∀ s, P s → P (driveLines s)) (heffect : ∀ c s, P s → P (effect c s)) (s t : State) (hs : P s)
    (h : step s = .next t) : P t := by
  obtain rfl | ⟨c, rest, -, rfl⟩ := step_cases h
  · exact hs
  · exact hlines _ (heffect c _ (hpending s rest hs))

/-- A request's arrival keeps a law when the leaving of the list, the refusal by the lock and the owner's work do. -/
theorem takeRequest_law {P : State → Prop} {k : RequestKind} {owner : Fin 16 → State → State} {s : State} (hs : P s)
    (h : ∀ r rest, s.wpt.posted = r :: rest → requestKindOf (kindByte s r).toNat = some k →
      P (serveRequest k r owner (leaveList rest s))) : P (takeRequest k owner s) := by
  unfold takeRequest
  split
  next => exact hs
  next r rest hposted =>
    split_ifs with hkind
    exacts [h r rest hposted hkind, hs]

/-- The serving of a request keeps a law that an answer and its owner's work keep. -/
theorem serveRequest_law {P : State → Prop} {k : RequestKind} {r : Fin 16} {owner : Fin 16 → State → State} {s : State}
    (hanswer : P (answer r .refusedLocked 0 s)) (howner : P (owner r s)) : P (serveRequest k r owner s) := by
  unfold serveRequest
  split_ifs
  exacts [hanswer, howner]

/-- The arrival of a frame keeps a law that its reception, the counts of a failed check and its delivery keep. -/
theorem receiveFrame_law {P : State → Prop} {kind : Nat} {f : RxFrame} {deliver : Addressing → State → State} {s : State}
    (hs : P s)
    (hdrop : s.ale.receiver = .collecting → ∀ fate, P (dropFrame fate (resumeHunting s)))
    (hdeliver : s.ale.receiver = .collecting → ∀ how, judgeFrame s kind f = .accepted how → P (deliver how (resumeHunting s))) :
    P (receiveFrame kind f deliver s) := by
  unfold receiveFrame
  split_ifs with hc
  · split
    next how hj => exact hdeliver hc how hj
    next => exact hdrop hc _
  · exact hs

end Sys2Proof.Machine
end

section
/-! SUPPORT. What the shared operations leave as it was, as rules for `simp`. Each mask blanks the parts that a family of
operations may change; one equation of masks says of an operation that it changes nothing else, and the family's list of
parts follows from it. -/

namespace Sys2Proof.Machine

/-! The families, from the one that changes least to the one that changes most. -/

/-- Everything that the outcome of a frame outside class 0 cannot change (R156). -/
def State.maskOutcome (s : State) : State :=
  { s.maskAttention with
    mem := [], oft := { s.oft with entries := Vector.replicate 8 OfferEntry.empty },
    dsc := { s.dsc with status := .offDuty }, mst := { s.mst with inbox := Vector.replicate 24 InboxEntry.empty },
    mtc := { s.mtc with
      tripLog := Vector.replicate 24 TripRecord.empty, totals := { s.mtc.totals with reportState := .notReported } },
    cps := { s.cps with queue := [] } }

/-- Everything that no move of the queue's frames can change either. -/
def State.maskFrames (s : State) : State := { s.maskOutcome with txq := { s.txq with frames := [] } }

/-- Everything that no change of the dispatch status can change either (R49, R83). -/
def State.maskStatus (s : State) : State :=
  { s.maskFrames with
    dsc := { s.maskFrames.dsc with heldReason := .change, queuePosition := 0 },
    oft := { s.maskFrames.oft with assignment := none } }

/-- Everything that no ask and no outcome of an emergency-class frame can change. -/
def State.maskCall (s : State) : State := { s.maskFrames with emc := Emc.atReset }

/-- Everything that no press of the alarm can change. -/
def State.maskPress (s : State) : State := { s.maskStatus with emc := Emc.atReset }

/-- Everything that no event of the air link can change. -/
def State.maskLink (s : State) : State :=
  { s.maskPress with
    ale := Ale.atReset, pins := Pins.atReset, choices := 0, txq := Txq.atReset,
    dsc := { s.maskPress.dsc with upSeen := false } }

section
variable {s t : State}

theorem maskOutcome_of_attention (h : t.maskAttention = s.maskAttention) : t.maskOutcome = s.maskOutcome :=
  (congrArg State.maskOutcome h :)

theorem maskFrames_of_outcome (h : t.maskOutcome = s.maskOutcome) : t.maskFrames = s.maskFrames :=
  (congrArg State.maskFrames h :)

theorem maskStatus_of_frames (h : t.maskFrames = s.maskFrames) : t.maskStatus = s.maskStatus :=
  (congrArg State.maskStatus h :)

theorem maskCall_of_frames (h : t.maskFrames = s.maskFrames) : t.maskCall = s.maskCall :=
  (congrArg State.maskCall h :)

theorem maskPress_of_call (h : t.maskCall = s.maskCall) : t.maskPress = s.maskPress :=
  (congrArg State.maskPress h :)

theorem maskPress_of_status (h : t.maskStatus = s.maskStatus) : t.maskPress = s.maskPress :=
  (congrArg State.maskPress h :)

theorem maskLink_of_press (h : t.maskPress = s.maskPress) : t.maskLink = s.maskLink :=
  (congrArg State.maskLink h :)

end

/-- The parts an attention operation leaves. -/
@[simp] abbrev AttentionKept (s t : State) : Prop :=
  t.phase = s.phase ∧ t.mem = s.mem ∧ t.frc = s.frc ∧ t.mtc = s.mtc ∧ t.dsc = s.dsc ∧ t.oft = s.oft ∧ t.mst = s.mst ∧
  t.emc = s.emc ∧ t.ale = s.ale ∧ t.txq = s.txq ∧ t.wpt = s.wpt ∧ t.cps = s.cps ∧ t.pins = s.pins ∧
  t.choices = s.choices ∧ t.pending = s.pending

/-- The parts an answer leaves. -/
@[simp] abbrev AnswerKept (s t : State) : Prop :=
  t.phase = s.phase ∧ t.frc = s.frc ∧ t.mtc = s.mtc ∧ t.dsc = s.dsc ∧ t.oft = s.oft ∧ t.mst = s.mst ∧
  t.emc = s.emc ∧ t.ale = s.ale ∧ t.txq = s.txq ∧ t.wpt = s.wpt ∧ t.cps = s.cps ∧ t.pins = s.pins ∧
  t.choices = s.choices ∧ t.pending = s.pending

/-- The parts an event of the air link leaves. -/
@[simp] abbrev LinkKept (s t : State) : Prop :=
  (t.phase = s.phase ∧ t.frc = s.frc ∧ t.wpt = s.wpt ∧ t.pending = s.pending) ∧
  (t.mtc.meter = s.mtc.meter ∧ t.mtc.trip = s.mtc.trip ∧ t.mtc.holdTimer = s.mtc.holdTimer ∧
    t.mtc.holdEnded = s.mtc.holdEnded ∧ t.mtc.ageOrder = s.mtc.ageOrder ∧ t.mtc.uncommitted = s.mtc.uncommitted ∧
    t.mtc.shiftFrameDue = s.mtc.shiftFrameDue ∧ t.mtc.windowLog = s.mtc.windowLog ∧
    t.mtc.windowTotals = s.mtc.windowTotals) ∧
  (t.mtc.totals.shiftOpen = s.mtc.totals.shiftOpen ∧ t.mtc.totals.driver = s.mtc.totals.driver ∧
    t.mtc.totals.openTime = s.mtc.totals.openTime ∧ t.mtc.totals.shift = s.mtc.totals.shift ∧
    t.mtc.totals.lastDriver = s.mtc.totals.lastDriver ∧ t.mtc.totals.lastOpenTime = s.mtc.totals.lastOpenTime ∧
    t.mtc.totals.lastCloseTime = s.mtc.totals.lastCloseTime ∧ t.mtc.totals.last = s.mtc.totals.last ∧
    t.mtc.totals.lifetime = s.mtc.totals.lifetime ∧ t.mtc.totals.shifts = s.mtc.totals.shifts ∧
    t.mtc.totals.metresBase = s.mtc.totals.metresBase) ∧
  (t.dsc.zone = s.dsc.zone ∧ t.dsc.zoneKnown = s.dsc.zoneKnown ∧ t.dsc.lastFix = s.dsc.lastFix ∧
    t.dsc.fixRejected = s.dsc.fixRejected ∧ t.dsc.pollReference = s.dsc.pollReference) ∧
  t.oft.missed = s.oft.missed ∧
  (t.mst.storeOrder = s.mst.storeOrder ∧ t.mst.freeHead = s.mst.freeHead ∧ t.mst.freeCount = s.mst.freeCount ∧
    t.mst.refused = s.mst.refused ∧ t.mst.lostUnread = s.mst.lostUnread) ∧
  (t.cps.bank = s.cps.bank ∧ t.cps.failed = s.cps.failed ∧ t.cps.pointer = s.cps.pointer ∧ t.cps.run = s.cps.run ∧
    t.cps.store = s.cps.store ∧ t.cps.writing = s.cps.writing ∧ t.cps.lastWasCommit = s.cps.lastWasCommit ∧
    t.cps.tariffRecord = s.cps.tariffRecord ∧ t.cps.settingsRecord = s.cps.settingsRecord)

/-- The parts a press of the alarm leaves. -/
@[simp] abbrev PressKept (s t : State) : Prop :=
  LinkKept s t ∧ t.ale = s.ale ∧ t.pins = s.pins ∧ t.choices = s.choices ∧ t.txq.stray = s.txq.stray ∧
  t.dsc.upSeen = s.dsc.upSeen

/-- The parts an ask or an outcome of an emergency-class frame leaves. -/
@[simp] abbrev CallKept (s t : State) : Prop :=
  PressKept s t ∧ t.dsc.heldReason = s.dsc.heldReason ∧ t.dsc.queuePosition = s.dsc.queuePosition ∧
  t.oft.assignment = s.oft.assignment

/-- The parts a change of the dispatch status leaves. -/
@[simp] abbrev StatusKept (s t : State) : Prop := PressKept s t ∧ t.emc = s.emc

/-- The parts a move of the queue's frames leaves. -/
@[simp] abbrev FramesKept (s t : State) : Prop := CallKept s t ∧ t.emc = s.emc

/-- The parts the outcome of a frame outside class 0 leaves. -/
@[simp] abbrev OutcomeKept (s t : State) : Prop := FramesKept s t ∧ t.txq = s.txq

section
variable {s t : State}

theorem linkKept_of_mask (h : t.maskLink = s.maskLink) : LinkKept s t :=
  ⟨⟨(congrArg State.phase h :), (congrArg State.frc h :), (congrArg State.wpt h :), (congrArg State.pending h :)⟩,
    ⟨(congrArg (·.mtc.meter) h :), (congrArg (·.mtc.trip) h :), (congrArg (·.mtc.holdTimer) h :), (congrArg (·.mtc.holdEnded) h :),
      (congrArg (·.mtc.ageOrder) h :), (congrArg (·.mtc.uncommitted) h :), (congrArg (·.mtc.shiftFrameDue) h :),
      (congrArg (·.mtc.windowLog) h :), (congrArg (·.mtc.windowTotals) h :)⟩,
    ⟨(congrArg (·.mtc.totals.shiftOpen) h :), (congrArg (·.mtc.totals.driver) h :), (congrArg (·.mtc.totals.openTime) h :),
      (congrArg (·.mtc.totals.shift) h :), (congrArg (·.mtc.totals.lastDriver) h :), (congrArg (·.mtc.totals.lastOpenTime) h :),
      (congrArg (·.mtc.totals.lastCloseTime) h :), (congrArg (·.mtc.totals.last) h :), (congrArg (·.mtc.totals.lifetime) h :),
      (congrArg (·.mtc.totals.shifts) h :), (congrArg (·.mtc.totals.metresBase) h :)⟩,
    ⟨(congrArg (·.dsc.zone) h :), (congrArg (·.dsc.zoneKnown) h :), (congrArg (·.dsc.lastFix) h :), (congrArg (·.dsc.fixRejected) h :),
      (congrArg (·.dsc.pollReference) h :)⟩,
    (congrArg (·.oft.missed) h :),
    ⟨(congrArg (·.mst.storeOrder) h :), (congrArg (·.mst.freeHead) h :), (congrArg (·.mst.freeCount) h :), (congrArg (·.mst.refused) h :),
      (congrArg (·.mst.lostUnread) h :)⟩,
    ⟨(congrArg (·.cps.bank) h :), (congrArg (·.cps.failed) h :), (congrArg (·.cps.pointer) h :), (congrArg (·.cps.run) h :),
      (congrArg (·.cps.store) h :), (congrArg (·.cps.writing) h :), (congrArg (·.cps.lastWasCommit) h :),
      (congrArg (·.cps.tariffRecord) h :), (congrArg (·.cps.settingsRecord) h :)⟩⟩

theorem pressKept_of_mask (h : t.maskPress = s.maskPress) : PressKept s t :=
  ⟨linkKept_of_mask (maskLink_of_press h), (congrArg State.ale h :), (congrArg State.pins h :), (congrArg State.choices h :),
    (congrArg (·.txq.stray) h :), (congrArg (·.dsc.upSeen) h :)⟩

theorem callKept_of_mask (h : t.maskCall = s.maskCall) : CallKept s t :=
  ⟨pressKept_of_mask (maskPress_of_call h), (congrArg (·.dsc.heldReason) h :), (congrArg (·.dsc.queuePosition) h :),
    (congrArg (·.oft.assignment) h :)⟩

theorem statusKept_of_mask (h : t.maskStatus = s.maskStatus) : StatusKept s t :=
  ⟨pressKept_of_mask (maskPress_of_status h), (congrArg State.emc h :)⟩

theorem framesKept_of_mask (h : t.maskFrames = s.maskFrames) : FramesKept s t :=
  ⟨callKept_of_mask (maskCall_of_frames h), (congrArg State.emc h :)⟩

theorem outcomeKept_of_mask (h : t.maskOutcome = s.maskOutcome) : OutcomeKept s t :=
  ⟨framesKept_of_mask (maskFrames_of_outcome h), (congrArg State.txq h :)⟩

theorem attentionKept_of_eq (h : t = { s with atc := t.atc }) : AttentionKept s t := by
  rw [h]
  simp

end

/-! The attention state. -/

section
variable (s : State)

@[simp] theorem setChannel_kept (c : Channel) : AttentionKept s (setChannel c s) :=
  attentionKept_of_eq (setChannel_eq c s)

@[simp] theorem rejudge_kept : AttentionKept s (rejudge s) := attentionKept_of_eq (rejudge_eq s)

@[simp] theorem recordFault_kept (f : FaultId) (d : Nat) : AttentionKept s (recordFault f d s) :=
  attentionKept_of_eq (recordFault_eq f d s)

@[simp] theorem takeMatches_kept : AttentionKept s (takeMatches s) := attentionKept_of_eq rfl

/-! Memory and the answers. -/

@[simp] theorem setHand_kept (r : Fin 16) (v : Byte) : AnswerKept s (setHand r v s) := by simp [setHand]

@[simp] theorem writeAnswer_kept (r : Fin 16) (x : Result) (d : Byte) (w : Nat) : AnswerKept s (writeAnswer r x d w s) := by
  simp [writeAnswer]

@[simp] theorem answer_kept (r : Fin 16) (x : Result) (w : Nat) : AnswerKept s (answer r x w s) := writeAnswer_kept ..

@[simp] theorem answerWork_kept (r : Fin 16) (x : Result) (reason w : Nat) :
    AnswerKept s (answerWork r x reason w s) := by
  unfold answerWork
  split_ifs
  exacts [writeAnswer_kept .., writeAnswer_kept .., by simp]

@[simp] theorem routeToRecord_kept (o : TxOutcome) (r : Fin 16) : AnswerKept s (routeToRecord o r s) := by
  cases o <;> exact answerWork_kept ..

/-! The parts of one block. -/

@[simp] theorem updateOffer_kept (e : Fin 8) (f : OfferEntry → OfferEntry) : OutcomeKept s (updateOffer e f s) := by
  simp [updateOffer]

@[simp] theorem updateInbox_kept (i : Fin 24) (f : InboxEntry → InboxEntry) : OutcomeKept s (updateInbox i f s) := by
  simp [updateInbox]

@[simp] theorem updateTripRecord_kept (t : Fin 24) (f : TripRecord → TripRecord) :
    OutcomeKept s (updateTripRecord t f s) := by
  simp [updateTripRecord]

@[simp] theorem leaveBidding_kept : OutcomeKept s (leaveBidding s) := by
  unfold leaveBidding
  split_ifs <;> simp

/-- The parts that an ask of the store leaves: all but its queue. -/
@[simp] abbrev AskKept (s t : State) : Prop :=
  t.phase = s.phase ∧ t.mem = s.mem ∧ t.frc = s.frc ∧ t.mtc = s.mtc ∧ t.dsc = s.dsc ∧ t.oft = s.oft ∧ t.mst = s.mst ∧
  t.emc = s.emc ∧ t.ale = s.ale ∧ t.txq = s.txq ∧ t.wpt = s.wpt ∧ t.atc = s.atc ∧ t.pins = s.pins ∧
  t.choices = s.choices ∧ t.pending = s.pending ∧ t.cps.bank = s.cps.bank ∧ t.cps.failed = s.cps.failed ∧
  t.cps.pointer = s.cps.pointer ∧ t.cps.run = s.cps.run ∧ t.cps.store = s.cps.store ∧ t.cps.writing = s.cps.writing ∧
  t.cps.lastWasCommit = s.cps.lastWasCommit ∧ t.cps.tariffRecord = s.cps.tariffRecord ∧
  t.cps.settingsRecord = s.cps.settingsRecord

@[simp] theorem requestWrite_kept (k : StoreKind) : AskKept s (requestWrite k s) := by simp [requestWrite]

@[simp] theorem requestCommit_kept : AskKept s (requestCommit s) := by simp [requestCommit]

@[simp] theorem routeToOffer_kept (k : UplinkKind) (o : TxOutcome) (e : Fin 8) (n : Nat) :
    OutcomeKept s (routeToOffer k o e n s) := by
  unfold routeToOffer
  simp only
  split_ifs
  · simp
  · simp
  · cases o <;> simp
  · cases o <;> simp

end

/-! Steps that each keep a family's parts keep them together, one after the other and in a fold. -/

section
variable {s t u : State}

theorem maskOutcome_of_kept (h : OutcomeKept s t) : t.maskOutcome = s.maskOutcome := by
  simp_all [State.maskOutcome, State.maskAttention]

theorem OutcomeKept.trans (h : OutcomeKept s t) (h' : OutcomeKept t u) : OutcomeKept s u :=
  outcomeKept_of_mask ((maskOutcome_of_kept h').trans (maskOutcome_of_kept h))

theorem OutcomeKept.foldl {β : Type} {f : State → β → State} (h : ∀ t x, OutcomeKept t (f t x)) (xs : List β) (s : State) :
    OutcomeKept s (xs.foldl f s) :=
  outcomeKept_of_mask (foldl_keeps State.maskOutcome f (fun t x => maskOutcome_of_kept (h t x)) xs s)

theorem maskFrames_of_kept (h : FramesKept s t) : t.maskFrames = s.maskFrames := by
  simp_all [State.maskFrames, State.maskOutcome, State.maskAttention]

theorem FramesKept.trans (h : FramesKept s t) (h' : FramesKept t u) : FramesKept s u :=
  framesKept_of_mask ((maskFrames_of_kept h').trans (maskFrames_of_kept h))

theorem FramesKept.foldl {β : Type} {f : State → β → State} (h : ∀ t x, FramesKept t (f t x)) (xs : List β) (s : State) :
    FramesKept s (xs.foldl f s) :=
  framesKept_of_mask (foldl_keeps State.maskFrames f (fun t x => maskFrames_of_kept (h t x)) xs s)

theorem maskStatus_of_kept (h : StatusKept s t) : t.maskStatus = s.maskStatus := by
  simp_all [State.maskStatus, State.maskFrames, State.maskOutcome, State.maskAttention]

theorem StatusKept.trans (h : StatusKept s t) (h' : StatusKept t u) : StatusKept s u :=
  statusKept_of_mask ((maskStatus_of_kept h').trans (maskStatus_of_kept h))

theorem StatusKept.foldl {β : Type} {f : State → β → State} (h : ∀ t x, StatusKept t (f t x)) (xs : List β) (s : State) :
    StatusKept s (xs.foldl f s) :=
  statusKept_of_mask (foldl_keeps State.maskStatus f (fun t x => maskStatus_of_kept (h t x)) xs s)

theorem maskCall_of_kept (h : CallKept s t) : t.maskCall = s.maskCall := by
  simp_all [State.maskCall, State.maskFrames, State.maskOutcome, State.maskAttention]

theorem CallKept.trans (h : CallKept s t) (h' : CallKept t u) : CallKept s u :=
  callKept_of_mask ((maskCall_of_kept h').trans (maskCall_of_kept h))

theorem CallKept.foldl {β : Type} {f : State → β → State} (h : ∀ t x, CallKept t (f t x)) (xs : List β) (s : State) :
    CallKept s (xs.foldl f s) :=
  callKept_of_mask (foldl_keeps State.maskCall f (fun t x => maskCall_of_kept (h t x)) xs s)

theorem maskLink_of_kept (h : LinkKept s t) : t.maskLink = s.maskLink := by
  simp_all [State.maskLink, State.maskPress, State.maskStatus, State.maskFrames, State.maskOutcome, State.maskAttention]

theorem LinkKept.trans (h : LinkKept s t) (h' : LinkKept t u) : LinkKept s u :=
  linkKept_of_mask ((maskLink_of_kept h').trans (maskLink_of_kept h))

theorem LinkKept.foldl {β : Type} {f : State → β → State} (h : ∀ t x, LinkKept t (f t x)) (xs : List β) (s : State) :
    LinkKept s (xs.foldl f s) :=
  linkKept_of_mask (foldl_keeps State.maskLink f (fun t x => maskLink_of_kept (h t x)) xs s)

end

/-! The outcomes and the queue. -/

section
variable (s : State)

@[simp] theorem routeToOrigin_kept (f : Frame) (o : TxOutcome) (g : Origin) : OutcomeKept s (routeToOrigin f o g s) := by
  unfold routeToOrigin
  cases g <;> cases o <;> simp

@[simp] theorem routeOutcome_kept (f : Frame) (o : TxOutcome) : OutcomeKept s (routeOutcome f o s) := by
  refine OutcomeKept.foldl (fun t l => ?_) _ _
  split_ifs <;> simp

@[simp] theorem joinQueue_kept (f : Frame) : FramesKept s (joinQueue f s) := by
  unfold joinQueue
  split_ifs
  · simp
  · split <;> simp

@[simp] theorem askLive_kept (k : UplinkKind) : FramesKept s (askLive k s) := by
  unfold askLive
  split_ifs <;> simp

@[simp] theorem askStatusFrame_kept (x : StatusReason) : StatusKept s (askStatusFrame x s) := by simp [askStatusFrame]

@[simp] theorem removeWaiting_kept (p : Frame → Bool) : FramesKept s (removeWaiting p s) := by
  unfold removeWaiting
  split_ifs <;> simp

@[simp] theorem detachOrigin_kept (o : Origin) : FramesKept s (detachOrigin o s) := by simp [detachOrigin]

/-! The offer table and the dispatch status. -/

@[simp] theorem queueRefuse_kept (e : Fin 8) (x : RefuseReason) : FramesKept s (queueRefuse e x s) := by
  unfold queueRefuse
  simp only
  split_ifs <;> simp

@[simp] theorem queueRefuseUnknown_kept (n : Nat) (x : RefuseReason) : FramesKept s (queueRefuseUnknown n x s) :=
  joinQueue_kept ..

@[simp] theorem settleBid_kept (e : Fin 8) (c : Option RefuseReason) : FramesKept s (settleBid e c s) := by
  unfold settleBid
  cases c <;> simp only <;> split_ifs <;> simp

@[simp] theorem endOffer_kept (e : Fin 8) (x : OfferState) (y : OfferReason) : OutcomeKept s (endOffer e x y s) :=
  updateOffer_kept ..

@[simp] theorem endBid_kept (e : Fin 8) (x : OfferState) (y : OfferReason) (c : Option RefuseReason) :
    FramesKept s (endBid e x y c s) := by
  simp [endBid]

@[simp] theorem streetHire_kept : FramesKept s (streetHire s) := by
  unfold streetHire
  split <;> simp

@[simp] theorem reportStatus_kept (x y : DispatchStatus) : StatusKept s (reportStatus x y s) := by
  unfold reportStatus
  simp only
  split_ifs <;> simp

@[simp] theorem setStatus_kept (x : DispatchStatus) (y : StatusReason) : StatusKept s (setStatus x y s) := by
  unfold setStatus
  simp only
  split_ifs <;> simp

@[simp] theorem requestStatus_kept (x : DispatchStatus) (l : List DispatchStatus) :
    StatusKept s (requestStatus x l s) := by
  unfold requestStatus
  split_ifs <;> simp

@[simp] theorem reportMeter_kept (x y : MeterState) : StatusKept s (reportMeter x y s) := by
  unfold reportMeter
  split <;> simp

@[simp] theorem withdrawForEmergency_kept : StatusKept s (withdrawForEmergency s) := by
  have h : StatusKept s (offerIndices.foldl (fun t e =>
      if (t.oft.entries.get e).state = .open then setChannel .offerResult (endOffer e .withdrawn .emergency t)
      else t) s) := StatusKept.foldl (fun t e => by split_ifs <;> simp) _ _
  unfold withdrawForEmergency
  simp only
  split
  · exact h.trans (by simp)
  · exact h

@[simp] theorem loseBidToLink_kept : StatusKept s (loseBidToLink s) := by
  unfold loseBidToLink
  split <;> simp

@[simp] theorem queueReceipt_kept (n c : Nat) (a b : Bool) : FramesKept s (queueReceipt n c a b s) := joinQueue_kept ..

@[simp] theorem receiptStored_kept (how : Addressing) (n c : Nat) (a : Bool) :
    FramesKept s (receiptStored how n c a s) := by
  unfold receiptStored
  split_ifs <;> simp

@[simp] theorem queueTripFrame_kept (t : Fin 24) : FramesKept s (queueTripFrame t s) := joinQueue_kept ..

@[simp] theorem queueShiftFrame_kept : FramesKept s (queueShiftFrame s) := by simp [queueShiftFrame]

@[simp] theorem requeueTrip_kept (t : Fin 24) : FramesKept s (requeueTrip t s) := by
  unfold requeueTrip
  split_ifs <;> simp

@[simp] theorem requeueReports_kept : FramesKept s (requeueReports s) := by
  have h : FramesKept s (if tripReporting s then s.mtc.ageOrder.foldl (fun t e => requeueTrip e t) s else s) := by
    split_ifs
    · exact FramesKept.foldl (fun t e => requeueTrip_kept t e) _ _
    · simp
  unfold requeueReports
  simp only
  generalize (if tripReporting s then s.mtc.ageOrder.foldl (fun t e => requeueTrip e t) s else s) = t at h
  split_ifs
  · exact h.trans (queueShiftFrame_kept t)
  · exact h

/-! The emergency controller. -/

@[simp] theorem setEmergency_kept (x : EmergencyState) : CallKept s (setEmergency x s) := by simp [setEmergency]

@[simp] theorem askEmergency_kept (k : EmergencyKind) : CallKept s (askEmergency k s) := by
  unfold askEmergency
  split
  · simp
  · split_ifs <;> simp

@[simp] theorem startUpdateTimer_kept : CallKept s (startUpdateTimer s) := by simp [startUpdateTimer]

@[simp] theorem stopUpdateTimer_kept : CallKept s (stopUpdateTimer s) := by simp [stopUpdateTimer]

@[simp] theorem returnToQuiet_kept : CallKept s (returnToQuiet s) := by simp [returnToQuiet]

@[simp] theorem emergencyOutcome_kept (k : UplinkKind) (o : TxOutcome) : CallKept s (emergencyOutcome k o s) := by
  unfold emergencyOutcome
  split <;> simp

@[simp] theorem queueOwed_kept : CallKept s (queueOwed s) := by
  unfold queueOwed
  split <;> simp

@[simp] theorem deliverOutcome_kept (f : Frame) (o : TxOutcome) : CallKept s (deliverOutcome f o s) := by
  unfold deliverOutcome
  split_ifs <;> simp

@[simp] theorem failFrames_kept (gone : Frame → Bool) (x : FailReason) : CallKept s (failFrames gone x s) := by
  have h : CallKept s (modFrames (fun fs => fs.filter fun f => !gone f) s) := by simp
  exact h.trans (CallKept.foldl (fun t f => deliverOutcome_kept t f _) _ _)

@[simp] theorem countPress_kept : CallKept s (countPress s) := by simp [countPress]

@[simp] theorem raiseCall_kept : PressKept s (raiseCall s) := by simp [raiseCall]

@[simp] theorem pressAlarm_kept : PressKept s (pressAlarm s) := by
  unfold pressAlarm
  split <;> simp

@[simp] theorem judgeAlarm_kept : PressKept s (judgeAlarm s) := by
  obtain ⟨-, -, h⟩ | ⟨-, -, h⟩ | ⟨-, h⟩ := judgeAlarm_cases s <;> rw [h] <;> simp

/-! The message store. -/

/-- The parts that a grant or a return of blocks leaves. -/
@[simp] abbrev BlocksKept (s t : State) : Prop :=
  t.phase = s.phase ∧ t.frc = s.frc ∧ t.mtc = s.mtc ∧ t.dsc = s.dsc ∧ t.oft = s.oft ∧ t.mst.inbox = s.mst.inbox ∧
  t.mst.storeOrder = s.mst.storeOrder ∧ t.mst.refused = s.mst.refused ∧ t.mst.lostUnread = s.mst.lostUnread ∧
  t.emc = s.emc ∧ t.ale = s.ale ∧ t.txq = s.txq ∧ t.wpt = s.wpt ∧ t.cps = s.cps ∧ t.pins = s.pins ∧
  t.choices = s.choices ∧ t.pending = s.pending

@[simp] theorem grantBlocks_kept (n : Nat) : BlocksKept s (grantBlocks n s) := by
  unfold grantBlocks
  simp only
  split_ifs <;> simp

@[simp] theorem freeChain_kept (first n : Nat) : BlocksKept s (freeChain first n s) := by
  unfold freeChain
  simp only
  split_ifs <;> simp

@[simp] theorem replaceVictim_kept (i : Fin 24) :
    (replaceVictim i s).phase = s.phase ∧ (replaceVictim i s).frc = s.frc ∧ (replaceVictim i s).mtc = s.mtc ∧
    (replaceVictim i s).dsc = s.dsc ∧ (replaceVictim i s).oft = s.oft ∧ (replaceVictim i s).mst.inbox = s.mst.inbox ∧
    (replaceVictim i s).mst.refused = s.mst.refused ∧ (replaceVictim i s).emc = s.emc ∧
    (replaceVictim i s).ale = s.ale ∧ (replaceVictim i s).txq = s.txq ∧ (replaceVictim i s).wpt = s.wpt ∧
    (replaceVictim i s).cps = s.cps ∧ (replaceVictim i s).pins = s.pins ∧
    (replaceVictim i s).choices = s.choices ∧ (replaceVictim i s).pending = s.pending := by
  simp [replaceVictim]

/-! The fare computer. -/

/-- The parts that the pulses, the charge, the drops, the fare group and the schedule leave. -/
@[simp] abbrev FareKept (s t : State) : Prop :=
  (t.phase = s.phase ∧ t.mem = s.mem ∧ t.mtc = s.mtc ∧ t.dsc = s.dsc ∧ t.oft = s.oft ∧ t.mst = s.mst ∧
    t.emc = s.emc ∧ t.ale = s.ale ∧ t.txq = s.txq ∧ t.pins = s.pins ∧ t.choices = s.choices ∧ t.pending = s.pending) ∧
  (t.frc.clock = s.frc.clock ∧ t.frc.clockSet = s.frc.clockSet ∧ t.frc.clockTimerRunning = s.frc.clockTimerRunning ∧
    t.frc.meterTimerRunning = s.frc.meterTimerRunning ∧ t.frc.override = s.frc.override) ∧
  (t.wpt.posted = s.wpt.posted ∧ t.wpt.droppedWrites = s.wpt.droppedWrites ∧ t.wpt.illegalHands = s.wpt.illegalHands) ∧
  (t.cps.bank = s.cps.bank ∧ t.cps.failed = s.cps.failed ∧ t.cps.pointer = s.cps.pointer ∧ t.cps.run = s.cps.run ∧
    t.cps.store = s.cps.store ∧ t.cps.writing = s.cps.writing ∧ t.cps.lastWasCommit = s.cps.lastWasCommit ∧
    t.cps.tariffRecord = s.cps.tariffRecord ∧ t.cps.settingsRecord = s.cps.settingsRecord)

@[simp] theorem countUpdate_kept (w : Wpt) :
    w.countUpdate.posted = w.posted ∧ w.countUpdate.rewriting = w.rewriting ∧
    w.countUpdate.droppedWrites = w.droppedWrites ∧ w.countUpdate.illegalHands = w.illegalHands := by
  simp [Wpt.countUpdate]

/-- The parts that the beginning or the end of a group rewrite leaves. -/
@[simp] abbrev RewriteKept (s t : State) : Prop :=
  t.phase = s.phase ∧ t.mem = s.mem ∧ t.frc = s.frc ∧ t.mtc = s.mtc ∧ t.dsc = s.dsc ∧ t.oft = s.oft ∧ t.mst = s.mst ∧
  t.emc = s.emc ∧ t.ale = s.ale ∧ t.txq = s.txq ∧ t.atc = s.atc ∧ t.cps = s.cps ∧ t.pins = s.pins ∧
  t.choices = s.choices ∧ t.pending = s.pending ∧ t.wpt.posted = s.wpt.posted ∧
  t.wpt.droppedWrites = s.wpt.droppedWrites ∧ t.wpt.illegalHands = s.wpt.illegalHands

@[simp] theorem beginRewrite_kept : RewriteKept s (beginRewrite s) := by
  unfold beginRewrite
  by_cases h : s.wpt.rewriting = 0 <;> simp [h]

@[simp] theorem endRewrite_kept : RewriteKept s (endRewrite s) := by
  unfold endRewrite
  by_cases h : s.wpt.rewriting = 1 <;> simp [h]

@[simp] theorem rewriteFareGroup_kept : FareKept s (rewriteFareGroup s) := by simp [rewriteFareGroup, groupRewrite]

@[simp] theorem discardExcess_kept : FareKept s (discardExcess s) := by
  unfold discardExcess
  simp only
  split_ifs <;> simp

@[simp] theorem assignPulses_kept (n : Nat) : FareKept s (assignPulses n s) := by
  unfold assignPulses
  split <;> simp

@[simp] theorem countSecond_kept : FareKept s (countSecond s) := by
  unfold countSecond
  split <;> simp

@[simp] theorem closePulses_kept : FareKept s (closePulses s) := by simp [closePulses]

@[simp] theorem takeDrops_kept (n : Nat) (a : Int) : FareKept s (takeDrops n a s) := by simp [takeDrops]

@[simp] theorem settle_kept : FareKept s (settle s) := by
  unfold settle
  simp only
  split_ifs <;> simp

@[simp] theorem chargeSecond_kept (n : Nat) : FareKept s (chargeSecond n s) := by
  unfold chargeSecond
  split_ifs <;> simp

@[simp] theorem chargeExpiry_kept (n : Nat) : FareKept s (chargeExpiry n s) := by
  unfold chargeExpiry
  split_ifs <;> simp

@[simp] theorem settleSwitch_kept : FareKept s (settleSwitch s) := by
  unfold settleSwitch
  split_ifs <;> simp

@[simp] theorem switchTariff_kept (n : Nat) : FareKept s (switchTariff n s) := by
  unfold switchTariff
  split_ifs <;> simp [replaceRates]

@[simp] theorem changeSchedule_kept (n : Nat) : FareKept s (changeSchedule n s) := by
  unfold changeSchedule
  split <;> (try split_ifs) <;> simp

@[simp] theorem evaluateSchedule_kept : FareKept s (evaluateSchedule s) := by
  unfold evaluateSchedule
  split_ifs <;> simp

@[simp] theorem endMeterSecond_kept : FareKept s (endMeterSecond s) := by
  unfold endMeterSecond
  simp only
  split_ifs <;> simp

/-! The ends of an arrival. -/

@[simp] theorem driveLines_kept :
    (driveLines s).phase = s.phase ∧ (driveLines s).mem = s.mem ∧ (driveLines s).frc = s.frc ∧
    (driveLines s).mtc = s.mtc ∧ (driveLines s).dsc = s.dsc ∧ (driveLines s).oft = s.oft ∧
    (driveLines s).mst = s.mst ∧ (driveLines s).emc = s.emc ∧ (driveLines s).ale = s.ale ∧
    (driveLines s).txq = s.txq ∧ (driveLines s).wpt = s.wpt ∧ (driveLines s).atc = s.atc ∧
    (driveLines s).cps = s.cps ∧ (driveLines s).choices = s.choices ∧ (driveLines s).pending = s.pending := by
  simp [driveLines]

/-- The parts that the leaving of the posted-order list leaves. -/
@[simp] theorem leaveList_kept (rest : List (Fin 16)) :
    (leaveList rest s).phase = s.phase ∧ (leaveList rest s).mem = s.mem ∧ (leaveList rest s).frc = s.frc ∧
    (leaveList rest s).mtc = s.mtc ∧ (leaveList rest s).dsc = s.dsc ∧ (leaveList rest s).oft = s.oft ∧
    (leaveList rest s).mst = s.mst ∧ (leaveList rest s).emc = s.emc ∧ (leaveList rest s).ale = s.ale ∧
    (leaveList rest s).txq = s.txq ∧ (leaveList rest s).atc = s.atc ∧ (leaveList rest s).cps = s.cps ∧
    (leaveList rest s).pins = s.pins ∧ (leaveList rest s).choices = s.choices ∧
    (leaveList rest s).pending = s.pending ∧ (leaveList rest s).wpt = { s.wpt with posted := rest } := by
  simp [leaveList]

/-- The parts that the end of a reception leaves, and what it makes of the engine (R126). -/
@[simp] theorem resumeHunting_kept :
    (resumeHunting s).phase = s.phase ∧ (resumeHunting s).mem = s.mem ∧ (resumeHunting s).frc = s.frc ∧
    (resumeHunting s).mtc = s.mtc ∧ (resumeHunting s).dsc = s.dsc ∧ (resumeHunting s).oft = s.oft ∧
    (resumeHunting s).mst = s.mst ∧ (resumeHunting s).emc = s.emc ∧ (resumeHunting s).txq = s.txq ∧
    (resumeHunting s).wpt = s.wpt ∧ (resumeHunting s).atc = s.atc ∧ (resumeHunting s).cps = s.cps ∧
    (resumeHunting s).pins = s.pins ∧ (resumeHunting s).choices = s.choices ∧
    (resumeHunting s).pending = s.pending ∧
    (resumeHunting s).ale = { s.ale with receiver := .hunting, window := none } := by
  simp [resumeHunting]

end

end Sys2Proof.Machine
end

section
/-! SUPPORT. What the operations of the blocks leave, up to the commands themselves: the phase, the queue of commands and
the parts that other blocks own. -/

namespace Sys2Proof.Machine

section
variable (s : State)

/-! The meter controller. -/

/-- The meter commit that a write carries. -/
def StoreJob.commit : StoreJob → Option MeterCommit
  | .meter c _ _ => some c
  | .calibration _ | .tariffs _ | .settings _ => none

@[simp] theorem StoreJob.commit_forgetTrip (t : Fin 24) (j : StoreJob) : (StoreJob.forgetTrip t j).commit = j.commit := by
  cases j <;> rfl

@[simp] theorem StoreJob.commit_forgetShift (j : StoreJob) : j.forgetShift.commit = j.commit := by
  cases j <;> rfl

/-- The parts that no command of the meter controller or the fare computer changes. -/
@[simp] abbrev MeterKept (s t : State) : Prop :=
  (t.phase = s.phase ∧ t.emc = s.emc ∧ t.ale = s.ale ∧ t.pins = s.pins ∧ t.choices = s.choices ∧
    t.pending = s.pending) ∧
  (t.frc.clockTimerRunning = s.frc.clockTimerRunning ∧ t.frc.meterTimerRunning = s.frc.meterTimerRunning) ∧
  (t.mtc.windowLog = s.mtc.windowLog ∧ t.mtc.windowTotals = s.mtc.windowTotals) ∧
  (t.dsc.zone = s.dsc.zone ∧ t.dsc.zoneKnown = s.dsc.zoneKnown ∧ t.dsc.lastFix = s.dsc.lastFix ∧
    t.dsc.fixRejected = s.dsc.fixRejected ∧ t.dsc.pollReference = s.dsc.pollReference ∧
    t.dsc.upSeen = s.dsc.upSeen) ∧
  (t.oft.missed = s.oft.missed ∧ t.txq.stray = s.txq.stray) ∧
  (t.mst.storeOrder = s.mst.storeOrder ∧ t.mst.freeHead = s.mst.freeHead ∧ t.mst.freeCount = s.mst.freeCount ∧
    t.mst.refused = s.mst.refused ∧ t.mst.lostUnread = s.mst.lostUnread) ∧
  (t.wpt.posted = s.wpt.posted ∧ t.wpt.droppedWrites = s.wpt.droppedWrites ∧
    t.wpt.illegalHands = s.wpt.illegalHands) ∧
  (t.cps.bank = s.cps.bank ∧ t.cps.failed = s.cps.failed ∧ t.cps.pointer = s.cps.pointer ∧ t.cps.run = s.cps.run ∧
    t.cps.store = s.cps.store ∧ t.cps.writing.bind StoreJob.commit = s.cps.writing.bind StoreJob.commit ∧
    t.cps.lastWasCommit = s.cps.lastWasCommit ∧ t.cps.tariffRecord = s.cps.tariffRecord ∧
    t.cps.settingsRecord = s.cps.settingsRecord)

@[simp] theorem meterChange_kept (x : MeterState) : MeterKept s (meterChange x s) := by simp [meterChange]

@[simp] theorem refreshMetres_kept : MeterKept s (refreshMetres s) := by simp [refreshMetres]

@[simp] theorem countTrip_kept : MeterKept s (countTrip s) := by simp [countTrip]

@[simp] theorem writeTripRecord_kept (t : Fin 24) (r : TripRecord) : MeterKept s (writeTripRecord t r s) := by
  simp [writeTripRecord, Option.bind_map]

@[simp] theorem loseTrip_kept (t : Fin 24) : MeterKept s (loseTrip t s) := by
  unfold loseTrip
  simp only
  split_ifs <;> simp

@[simp] theorem closeTrip_kept : MeterKept s (closeTrip s) := by
  unfold closeTrip
  simp only
  split_ifs <;> simp

/-- The parts that the closing of a trip leaves. -/
@[simp] abbrev RecordKept (s t : State) : Prop :=
  (t.mem = s.mem ∧ t.frc = s.frc ∧ t.dsc = s.dsc ∧ t.oft = s.oft ∧ t.mst = s.mst ∧ t.wpt = s.wpt ∧ t.atc = s.atc) ∧
  (t.mtc.meter = s.mtc.meter ∧ t.mtc.trip = s.mtc.trip ∧ t.mtc.holdTimer = s.mtc.holdTimer ∧
    t.mtc.holdEnded = s.mtc.holdEnded ∧ t.mtc.shiftFrameDue = s.mtc.shiftFrameDue) ∧
  (t.mtc.totals.shiftOpen = s.mtc.totals.shiftOpen ∧ t.mtc.totals.driver = s.mtc.totals.driver ∧
    t.mtc.totals.openTime = s.mtc.totals.openTime ∧ t.mtc.totals.reportState = s.mtc.totals.reportState ∧
    t.mtc.totals.lastDriver = s.mtc.totals.lastDriver ∧ t.mtc.totals.lastOpenTime = s.mtc.totals.lastOpenTime ∧
    t.mtc.totals.lastCloseTime = s.mtc.totals.lastCloseTime ∧ t.mtc.totals.last = s.mtc.totals.last ∧
    t.mtc.totals.shifts = s.mtc.totals.shifts ∧ t.mtc.totals.metresBase = s.mtc.totals.metresBase)

@[simp] theorem refreshMetres_record :
    RecordKept s (refreshMetres s) ∧ (refreshMetres s).txq = s.txq ∧ (refreshMetres s).cps = s.cps ∧
    (refreshMetres s).mtc.tripLog = s.mtc.tripLog ∧ (refreshMetres s).mtc.ageOrder = s.mtc.ageOrder ∧
    (refreshMetres s).mtc.uncommitted = s.mtc.uncommitted := by
  simp [refreshMetres]

@[simp] theorem countTrip_record :
    RecordKept s (countTrip s) ∧ (countTrip s).txq = s.txq ∧ (countTrip s).cps = s.cps ∧
    (countTrip s).mtc.tripLog = s.mtc.tripLog ∧ (countTrip s).mtc.ageOrder = s.mtc.ageOrder ∧
    (countTrip s).mtc.uncommitted = s.mtc.uncommitted := by
  simp [countTrip]

@[simp] theorem writeTripRecord_record (t : Fin 24) (r : TripRecord) :
    RecordKept s (writeTripRecord t r s) ∧ (writeTripRecord t r s).txq = s.txq := by
  simp [writeTripRecord]

@[simp] theorem detachOrigin_record (o : Origin) :
    RecordKept s (detachOrigin o s) ∧ (detachOrigin o s).cps = s.cps ∧ (detachOrigin o s).mtc = s.mtc := by
  simp [detachOrigin]

@[simp] theorem loseTrip_record (t : Fin 24) :
    RecordKept s (loseTrip t s) ∧ (loseTrip t s).cps = s.cps ∧ (loseTrip t s).mtc.tripLog = s.mtc.tripLog ∧
    (loseTrip t s).mtc.ageOrder = s.mtc.ageOrder ∧ (loseTrip t s).mtc.uncommitted = s.mtc.uncommitted := by
  unfold loseTrip
  simp only
  split_ifs <;> simp

@[simp] theorem closeTrip_record : RecordKept s (closeTrip s) := by
  unfold closeTrip
  simp only
  split_ifs <;> simp

@[simp] theorem startHire_kept (n : Nat) : MeterKept s (startHire n s) := by simp [startHire]

@[simp] theorem openTrip_kept : MeterKept s (openTrip s) := by simp [openTrip]

@[simp] theorem startHold_kept : MeterKept s (startHold s) := by simp [startHold]

@[simp] theorem stopHold_kept : MeterKept s (stopHold s) := by simp [stopHold]

@[simp] theorem chooseTariff_kept : MeterKept s (chooseTariff s).1 := by
  unfold chooseTariff
  split <;> simp

@[simp] theorem pressHire_kept (request : Bool) : MeterKept s (pressHire request s).2 := by
  unfold pressHire
  split
  iterate 2
    simp only
    split_ifs <;> simp
  all_goals simp

@[simp] theorem pressStop_kept : MeterKept s (pressStop s).2 := by
  unfold pressStop
  split <;> simp

@[simp] theorem pressPay_kept : MeterKept s (pressPay s).2 := by
  unfold pressPay
  split <;> simp

@[simp] theorem pressClear_kept : MeterKept s (pressClear s).2 := by
  unfold pressClear
  split <;> (try split_ifs) <;> simp

@[simp] theorem takeExtra_kept (i : Fin 8) : MeterKept s (takeExtra i s) := by simp [takeExtra]

@[simp] theorem pressExtra_kept (i : Fin 8) : MeterKept s (pressExtra i s).2 := by
  unfold pressExtra
  split_ifs <;> simp

@[simp] theorem pressKey_kept (k : MeterKey) (request : Bool) : MeterKept s (pressKey k request s).2 := by
  cases k
  exacts [pressHire_kept s request, pressStop_kept s, pressPay_kept s, pressClear_kept s, pressExtra_kept s 0]

@[simp] theorem ownMeterKey_kept (r : Fin 16) : MeterKept s (ownMeterKey r s) := by
  unfold ownMeterKey
  split_ifs
  · split <;> simp [answerKey]
  · simp

@[simp] theorem ownAddExtra_kept (r : Fin 16) : MeterKept s (ownAddExtra r s) := by
  unfold ownAddExtra
  split_ifs <;> simp [answerExtra]

@[simp] theorem setOverride_kept (n : Nat) : MeterKept s (setOverride n s) := by
  unfold setOverride
  simp only
  split_ifs <;> simp

@[simp] theorem ownSelectTariff_kept (r : Fin 16) : MeterKept s (ownSelectTariff r s) := by
  unfold ownSelectTariff
  split_ifs <;> simp

@[simp] theorem endHold_kept : MeterKept s (endHold s) := by
  unfold endHold
  split_ifs <;> simp

@[simp] theorem openShift_kept (driver : Nat) : MeterKept s (openShift driver s) := by simp [openShift]

@[simp] theorem ownShiftOpen_kept (r : Fin 16) : MeterKept s (ownShiftOpen r s) := by
  unfold ownShiftOpen
  split_ifs <;> simp

@[simp] theorem detachLastShift_kept : MeterKept s (detachLastShift s) := by
  unfold detachLastShift
  split_ifs <;> simp

@[simp] theorem closeShift_kept : MeterKept s (closeShift s) := by simp [closeShift, Option.bind_map]

@[simp] theorem ownShiftClose_kept (r : Fin 16) : MeterKept s (ownShiftClose r s) := by
  unfold ownShiftClose
  split_ifs <;> simp

@[simp] theorem ownReleaseTrip_kept (r : Fin 16) : MeterKept s (ownReleaseTrip r s) := by
  unfold ownReleaseTrip
  split_ifs <;> simp

/-! The clock. -/

@[simp] theorem rewriteClockAndEvaluate_kept (change : Frc → Frc)
    (h : ∀ f, (change f).clockTimerRunning = f.clockTimerRunning ∧ (change f).meterTimerRunning = f.meterTimerRunning) :
    MeterKept s (rewriteClockAndEvaluate change s) := by
  unfold rewriteClockAndEvaluate
  simp only
  split_ifs <;> simp [h]

/-- The parts that a change of the clock with the evaluation it calls for leaves. -/
@[simp] abbrev ClockKept (s t : State) : Prop :=
  (t.mem = s.mem ∧ t.mtc = s.mtc ∧ t.dsc = s.dsc ∧ t.oft = s.oft ∧ t.mst = s.mst ∧ t.txq = s.txq ∧
    t.wpt.posted = s.wpt.posted) ∧
  t.cps.writing = s.cps.writing

@[simp] theorem rewriteClockAndEvaluate_clock (change : Frc → Frc) : ClockKept s (rewriteClockAndEvaluate change s) := by
  unfold rewriteClockAndEvaluate
  simp only
  split_ifs <;> simp

@[simp] theorem setClockTo_clock (t : Stamp) : ClockKept s (setClockTo t s) := rewriteClockAndEvaluate_clock s _

@[simp] theorem setClockTo_kept (t : Stamp) : MeterKept s (setClockTo t s) := by
  exact rewriteClockAndEvaluate_kept s _ fun _ => by simp

@[simp] theorem tick_kept (f : Frc) :
    f.tick.pulseCounter = f.pulseCounter ∧ f.tick.meterTimerRunning = f.meterTimerRunning ∧ f.tick.hire = f.hire ∧
    f.tick.shiftPulses = f.shiftPulses ∧ f.tick.scheduled = f.scheduled ∧ f.tick.override = f.override ∧
    f.tick.clock = f.clock.nextSecond ∧ f.tick.clockSet = f.clockSet ∧
    f.tick.clockTimerRunning = f.clockTimerRunning ∧ f.tick.fareGroup = f.fareGroup := by
  simp [Frc.tick]

@[simp] theorem endCalendarSecond_kept : MeterKept s (endCalendarSecond s) := by
  unfold endCalendarSecond
  simp only
  split_ifs <;> simp [groupRewrite]

@[simp] theorem ownSetClock_kept (r : Fin 16) : MeterKept s (ownSetClock r s) := by
  unfold ownSetClock
  split_ifs <;> simp

@[simp] theorem countPulse_kept : MeterKept s (countPulse s) := by
  unfold countPulse
  split_ifs <;> simp

/-! The phase and the queue of commands, through every other operation. -/

/-- The phase and the queue of commands are as they were. -/
@[simp] abbrev CoreKept (s t : State) : Prop := t.phase = s.phase ∧ t.pending = s.pending

/-- The parts that no command outside the fare computer, the meter controller and the store changes. -/
@[simp] abbrev BlockKept (s t : State) : Prop :=
  (t.phase = s.phase ∧ t.pending = s.pending ∧ t.frc = s.frc ∧ t.wpt.updateCount = s.wpt.updateCount ∧
    t.wpt.rewriting = s.wpt.rewriting) ∧
  (t.mtc.meter = s.mtc.meter ∧ t.mtc.trip = s.mtc.trip ∧ t.mtc.holdTimer = s.mtc.holdTimer ∧
    t.mtc.holdEnded = s.mtc.holdEnded ∧ t.mtc.ageOrder = s.mtc.ageOrder ∧ t.mtc.uncommitted = s.mtc.uncommitted ∧
    t.mtc.shiftFrameDue = s.mtc.shiftFrameDue ∧ t.mtc.windowLog = s.mtc.windowLog ∧
    t.mtc.windowTotals = s.mtc.windowTotals) ∧
  (t.mtc.totals.shiftOpen = s.mtc.totals.shiftOpen ∧ t.mtc.totals.driver = s.mtc.totals.driver ∧
    t.mtc.totals.openTime = s.mtc.totals.openTime ∧ t.mtc.totals.shift = s.mtc.totals.shift ∧
    t.mtc.totals.lastDriver = s.mtc.totals.lastDriver ∧ t.mtc.totals.lastOpenTime = s.mtc.totals.lastOpenTime ∧
    t.mtc.totals.lastCloseTime = s.mtc.totals.lastCloseTime ∧ t.mtc.totals.last = s.mtc.totals.last ∧
    t.mtc.totals.lifetime = s.mtc.totals.lifetime ∧ t.mtc.totals.shifts = s.mtc.totals.shifts ∧
    t.mtc.totals.metresBase = s.mtc.totals.metresBase) ∧
  (t.cps.bank = s.cps.bank ∧ t.cps.failed = s.cps.failed ∧ t.cps.pointer = s.cps.pointer ∧ t.cps.run = s.cps.run ∧
    t.cps.store = s.cps.store ∧ t.cps.writing = s.cps.writing ∧ t.cps.lastWasCommit = s.cps.lastWasCommit)

@[simp] theorem takeTime_kept (t : Stamp) : CoreKept s (takeTime t s) := by
  unfold takeTime
  split_ifs <;> simp [countFormatError]

@[simp] theorem beginNextWrite_kept : CoreKept s (beginNextWrite s) := by
  unfold beginNextWrite
  split_ifs
  · split <;> simp [beginWrite, removeWrite]
  · simp

@[simp] theorem sendCarriedTrip_kept (t : Fin 24) : CoreKept s (sendCarriedTrip t s) := by
  unfold sendCarriedTrip
  simp only
  split_ifs <;> simp

@[simp] theorem reportCarriedTrip_kept (x : Option (Fin 24)) : CoreKept s (reportCarriedTrip x s) := by
  cases x <;> simp [reportCarriedTrip]

@[simp] theorem rewriteMirrors_kept (c : MeterCommit) : CoreKept s (rewriteMirrors c s) := by
  simp [rewriteMirrors, groupRewrite]

theorem CoreKept.foldl {β : Type} {f : State → β → State} (h : ∀ t x, CoreKept t (f t x)) (xs : List β) (s : State) :
    CoreKept s (xs.foldl f s) :=
  ⟨foldl_keeps State.phase f (fun t x => (h t x).1) xs s, foldl_keeps State.pending f (fun t x => (h t x).2) xs s⟩

/-- The parts that the end of a store write leaves. -/
@[simp] theorem endWrite_kept (k : StoreKind) (change : Store → Store) :
    (endWrite k change s).phase = s.phase ∧ (endWrite k change s).mem = s.mem ∧ (endWrite k change s).frc = s.frc ∧
    (endWrite k change s).mtc = s.mtc ∧ (endWrite k change s).dsc = s.dsc ∧ (endWrite k change s).oft = s.oft ∧
    (endWrite k change s).mst = s.mst ∧ (endWrite k change s).emc = s.emc ∧ (endWrite k change s).ale = s.ale ∧
    (endWrite k change s).txq = s.txq ∧ (endWrite k change s).wpt = s.wpt ∧ (endWrite k change s).atc = s.atc ∧
    (endWrite k change s).pins = s.pins ∧ (endWrite k change s).choices = s.choices ∧
    (endWrite k change s).pending = s.pending := by
  simp [endWrite]

theorem BlockKept.refl (s : State) : BlockKept s s := by simp

theorem BlockKept.trans {s t u : State} (h : BlockKept s t) (h' : BlockKept t u) : BlockKept s u := by
  simp_all

theorem BlockKept.foldl {β : Type} {f : State → β → State} (h : ∀ t x, BlockKept t (f t x)) (xs : List β) (s : State) :
    BlockKept s (xs.foldl f s) :=
  foldl_invariant (BlockKept s) f (fun t x ht => ht.trans (h t x)) xs s (BlockKept.refl s)

@[simp] theorem completeMeterCommit_kept (c : MeterCommit) (first : List (Option (Fin 24))) (due : Bool) :
    CoreKept s (completeMeterCommit c first due s) := by
  have h := CoreKept.foldl (fun t e => reportCarriedTrip_kept t e) first
    (rewriteMirrors c (endWrite .meter (fun st => { st with meter := some c }) s))
  unfold completeMeterCommit
  simp only
  split_ifs <;> simp [reportCarriedShift, h]

@[simp] theorem finishMeterCommit_kept : CoreKept s (finishMeterCommit s) := by
  unfold finishMeterCommit
  split <;> simp

@[simp] theorem answerTariffs_kept (x : Result) : CoreKept s (answerTariffs x s) := by
  unfold answerTariffs
  split <;> simp

@[simp] theorem answerSettings_kept (x : Result) : CoreKept s (answerSettings x s) := by
  unfold answerSettings
  split <;> simp

@[simp] theorem failCurrentWrite_kept : CoreKept s (failCurrentWrite s) := by
  unfold failCurrentWrite
  split
  · next job _ => cases job <;> simp [failWrite, afterFailure, StoreJob.kind]
  · simp

@[simp] theorem finishCalibrationWrite_kept : CoreKept s (finishCalibrationWrite s) := by
  unfold finishCalibrationWrite
  split <;> simp

@[simp] theorem finishTariffWrite_kept : CoreKept s (finishTariffWrite s) := by
  unfold finishTariffWrite
  split <;> simp

@[simp] theorem finishSettingsWrite_kept : CoreKept s (finishSettingsWrite s) := by
  unfold finishSettingsWrite
  split <;> simp

@[simp] theorem zoneChange_kept (z : Nat) : BlockKept s (zoneChange z s) := by
  unfold zoneChange
  simp only
  split_ifs <;> simp

@[simp] theorem takeFix_kept : BlockKept s (takeFix s) := by
  unfold takeFix
  simp only
  split_ifs <;> simp

@[simp] theorem illegalHand_kept (d : Nat) : BlockKept s (illegalHand d s) := by simp [illegalHand]

@[simp] theorem writeSlotHand_kept (b : Byte) : BlockKept s (writeSlotHand b s) := by
  unfold writeSlotHand
  split_ifs <;> simp

@[simp] theorem moveStatus_kept (r : Fin 16) (x y : DispatchStatus) (z : StatusReason) :
    BlockKept s (moveStatus r x y z s) := by
  unfold moveStatus
  split_ifs <;> simp

@[simp] theorem takeZoneInfo_kept (z p : Nat) : BlockKept s (takeZoneInfo z p s) := by
  unfold takeZoneInfo
  split_ifs <;> simp

@[simp] theorem takePoll_kept (b : Byte) : BlockKept s (takePoll b s) := by simp [takePoll]

@[simp] theorem storeDetails_kept (e : Fin 8) (d : List Byte) : BlockKept s (storeDetails e d s) := by
  unfold storeDetails
  simp only
  split <;> simp

@[simp] theorem takeOffer_kept (how : Addressing) (o : OfferFields) : BlockKept s (takeOffer how o s) := by
  unfold takeOffer
  split_ifs
  · simp [countFormatError]
  · split
    · unfold repeatOffer
      split_ifs <;> simp
    · split <;> simp [storeOffer]
  · simp

@[simp] theorem expireOffer_kept (e : Fin 8) : BlockKept s (expireOffer e s) := by
  unfold expireOffer
  split_ifs <;> simp

@[simp] theorem startBid_kept (e : Fin 8) : BlockKept s (startBid e s) := by simp [startBid]

@[simp] theorem ownAcceptOffer_kept (r : Fin 16) : BlockKept s (ownAcceptOffer r s) := by
  unfold ownAcceptOffer
  split_ifs
  · split <;> simp
  · simp

@[simp] theorem ownDeclineOffer_kept (r : Fin 16) : BlockKept s (ownDeclineOffer r s) := by
  unfold ownDeclineOffer
  split_ifs
  · unfold declineEntry
    split <;> simp
  · simp

@[simp] theorem ownReleaseOffer_kept (r : Fin 16) : BlockKept s (ownReleaseOffer r s) := by
  unfold ownReleaseOffer
  split_ifs <;> simp [releaseEntry]

@[simp] theorem expireAwardWait_kept (e : Fin 8) : BlockKept s (expireAwardWait e s) := by
  unfold expireAwardWait
  split_ifs <;> simp

@[simp] theorem withdrawOthers_kept (e : Fin 8) : OutcomeKept s (withdrawOthers e s) := by
  refine OutcomeKept.foldl (fun t i => ?_) _ _
  split_ifs <;> simp

@[simp] theorem takeOwnAward_kept (e : Fin 8) : BlockKept s (takeOwnAward e s) := by
  unfold takeOwnAward
  split <;> (try split_ifs) <;> simp [awardBid, honourAward, refuseAward, endBidFrame, assign]

@[simp] theorem takeOtherAward_kept (e : Fin 8) : BlockKept s (takeOtherAward e s) := by
  unfold takeOtherAward
  split <;> simp [endBidByBase]

@[simp] theorem takeAward_kept (n a : Nat) : BlockKept s (takeAward n a s) := by
  unfold takeAward
  split <;> split_ifs <;> simp

@[simp] theorem takeWithdraw_kept (n : Nat) : BlockKept s (takeWithdraw n s) := by
  unfold takeWithdraw
  split
  · simp
  · split
    case h_4 =>
      unfold withdrawAwarded
      simp only
      split_ifs <;> simp
    all_goals simp [endBidByBase]

@[simp] theorem refuseText_kept (how : Addressing) (f : TextFields) : BlockKept s (refuseText how f s) := by
  unfold refuseText
  simp only
  split_ifs <;> simp

@[simp] theorem storeMessage_kept (i : Fin 24) (v : Bool) (g n : Nat) (how : Addressing) (f : TextFields)
    (c : MessageClass) (p : PartCode) : BlockKept s (storeMessage i v g n how f c p s) := by
  unfold storeMessage
  simp only
  cases v <;> simp only [if_true, if_false, Bool.false_eq_true] <;> split_ifs <;> simp

@[simp] theorem takeNewMessage_kept (how : Addressing) (f : TextFields) (c : MessageClass) (p : PartCode) :
    BlockKept s (takeNewMessage how f c p s) := by
  unfold takeNewMessage
  split
  · simp
  · simp only
    split <;> simp

@[simp] theorem appendSecond_kept (i : Fin 24) (how : Addressing) (f : TextFields) :
    BlockKept s (appendSecond i how f s) := by
  unfold appendSecond
  simp only
  split <;> simp

@[simp] theorem takeText_kept (how : Addressing) (f : TextFields) : BlockKept s (takeText how f s) := by
  unfold takeText
  split
  · split
    · simp [countFormatError]
    · split
      · split <;> simp
      · split
        · split <;> simp
        · simp
  · simp [countFormatError]

@[simp] theorem ownSendText_kept (r : Fin 16) : BlockKept s (ownSendText r s) := by
  unfold ownSendText
  split_ifs <;> simp [takeIntoWork]

@[simp] theorem ownReply_kept (r : Fin 16) : BlockKept s (ownReply r s) := by
  unfold ownReply
  split_ifs <;> simp [startReply, takeIntoWork]

@[simp] theorem ownMarkRead_kept (r : Fin 16) : BlockKept s (ownMarkRead r s) := by
  unfold ownMarkRead
  split_ifs <;> simp

@[simp] theorem ownDeleteMsg_kept (r : Fin 16) : BlockKept s (ownDeleteMsg r s) := by
  unfold ownDeleteMsg
  split_ifs
  · split <;> simp [deleteEntry]
  · simp

@[simp] theorem ownEmergencyRaise_kept (r : Fin 16) : BlockKept s (ownEmergencyRaise r s) := by simp [ownEmergencyRaise]

@[simp] theorem countWrongCode_kept : CallKept s (countWrongCode s) := by
  unfold countWrongCode
  simp only
  split_ifs <;> simp

@[simp] theorem cancelCall_kept : CallKept s (cancelCall s) := by simp [cancelCall]

@[simp] theorem ownEmergencyCancel_kept (r : Fin 16) : BlockKept s (ownEmergencyCancel r s) := by
  unfold ownEmergencyCancel
  split_ifs <;> simp

@[simp] theorem expireUpdateTimer_kept : CallKept s (expireUpdateTimer s) := by
  unfold expireUpdateTimer
  split_ifs <;> simp

@[simp] theorem takeEmergencyAck_kept (how : Addressing) : CallKept s (takeEmergencyAck how s) := by
  unfold takeEmergencyAck
  split_ifs <;> simp [acknowledgeCall]

@[simp] theorem takeEmergencyClear_kept (how : Addressing) : CallKept s (takeEmergencyClear how s) := by
  unfold takeEmergencyClear
  split_ifs <;> simp

/-! The air link. -/

@[simp] theorem reportFirstUp_kept : LinkKept s (reportFirstUp s) := by
  unfold reportFirstUp
  simp only
  split_ifs <;> simp

@[simp] theorem reportUp_kept : LinkKept s (reportUp s) := by
  unfold reportUp
  simp only
  split_ifs <;> simp

@[simp] theorem linkChange_kept (x : LinkState) : LinkKept s (linkChange x s) := by
  unfold linkChange
  split_ifs
  · simp
  · cases x <;> simp [dropAssignments]

@[simp] theorem failAttempt_kept (q : Option Nat) : CallKept s (failAttempt q s) := by
  unfold failAttempt
  split
  · simp
  · simp only
    split_ifs <;> simp

@[simp] theorem takeAck_kept (n q : Nat) : LinkKept s (takeAck n q s) := by
  unfold takeAck
  split <;> simp

@[simp] theorem takeCycleAcks_kept (n : Nat) (acks : List Nat) : LinkKept s (takeCycleAcks n acks s) := by
  have hacks := LinkKept.foldl (fun t q => takeAck_kept t n q) acks s
  refine LinkKept.trans ?_ (LinkKept.foldl (fun t q => (failAttempt_kept t q).1.1) _ _)
  exact hacks.trans (by simp)

@[simp] theorem reportFirstTransmission_kept (f : Frame) : OutcomeKept s (reportFirstTransmission f s) := by
  refine OutcomeKept.foldl (fun t l => ?_) _ _
  split <;> (try split_ifs) <;> simp

@[simp] theorem handOver_kept (p : Frame → Bool) (k : Nat) (m : SlotMap) : LinkKept s (handOver p k m s) := by
  unfold handOver
  split
  · simp
  · simp only
    split_ifs <;> simp

@[simp] theorem sendClassZero_kept (m : SlotMap) : LinkKept s (sendClassZero m s).1 := by
  unfold sendClassZero
  split
  · simp
  · split <;> simp

@[simp] theorem sendHead_kept (m : SlotMap) : LinkKept s (sendHead m s) := by
  unfold sendHead
  split_ifs
  · simp
  · split
    · simp
    · split <;> simp

@[simp] theorem offerSlots_kept (m : SlotMap) : LinkKept s (offerSlots m s) := by
  unfold offerSlots
  split_ifs <;> simp

@[simp] theorem startWatch_kept : LinkKept s (startWatch s) := by simp [startWatch]

@[simp] theorem takeCycle_kept (c : Cycle) (ready : Bool) : LinkKept s (takeCycle c ready s) := by
  unfold takeCycle
  simp only
  split_ifs <;> simp

@[simp] theorem transmit_kept (f : Frame) (q : Nat) (b : UplinkBody) : LinkKept s (transmit f q b s) := by
  simp [transmit]

@[simp] theorem beginSlot_kept (a : Assignment) : LinkKept s (beginSlot a s) := by
  unfold beginSlot
  split
  · simp
  · split_ifs
    · simp
    · simp
    · split <;> simp

@[simp] theorem startSlot_kept (k : Nat) (ready : Bool) : LinkKept s (startSlot k ready s) := by
  unfold startSlot
  split <;> simp

@[simp] theorem endTransmission_kept (b : Bool) : LinkKept s (endTransmission b s) := by simp [endTransmission]

@[simp] theorem finishTransmission_kept : LinkKept s (finishTransmission s) := by
  unfold finishTransmission
  split <;> simp

@[simp] theorem cutOff_kept (d : Nat) : LinkKept s (cutOff d s) := by
  unfold cutOff
  split_ifs <;> simp

@[simp] theorem fallModemReady_kept : LinkKept s (fallModemReady s) := by simp [fallModemReady]

@[simp] theorem fade_kept : LinkKept s (fade s) := by
  unfold fade
  simp only
  split_ifs <;> simp

@[simp] theorem loseLink_kept : LinkKept s (loseLink s) := by
  unfold loseLink
  simp only
  split_ifs <;> simp

@[simp] theorem restartEngine_kept : LinkKept s (restartEngine s) := by simp [restartEngine, dropAssignments]

@[simp] theorem ownRadioRestart_kept (r : Fin 16) : LinkKept s (ownRadioRestart r s) := by simp [ownRadioRestart]

@[simp] theorem dropFrame_kept (fate : Fate) : LinkKept s (dropFrame fate s) := by
  cases fate <;> simp [dropFrame, countCrcError, countFormatError]

@[simp] theorem judgeSync_kept (bits : BitVec 24) : LinkKept s (judgeSync bits s) := by
  unfold judgeSync
  split_ifs <;> simp

@[simp] theorem takeBadLength_kept (b : Byte) : LinkKept s (takeBadLength b s) := by
  unfold takeBadLength
  split_ifs <;> simp [countFormatError]

@[simp] theorem takeDropped_kept (kind : Nat) (f : RxFrame) : LinkKept s (takeDropped kind f s) := by
  unfold takeDropped
  split_ifs
  · split <;> simp
  · simp

@[simp] theorem abandonFrame_kept : LinkKept s (abandonFrame s) := by
  unfold abandonFrame
  split_ifs <;> simp

@[simp] theorem stepRemaining_kept (e : Fin 8) : OutcomeKept s (stepRemaining e s) := by
  unfold stepRemaining
  simp only
  split_ifs <;> simp

/-! The window port, the attention controller and the calibration port. -/

@[simp] theorem cancelText_kept (r : Fin 16) : FramesKept s (cancelText r s) := by
  unfold cancelText
  simp only
  split
  · simp
  · next f _ =>
    split_ifs
    · simp
    · have hanswer : ∀ s₂ w, FramesKept s s₂ → FramesKept s (writeAnswer r .cancelled 0#8 w s₂) :=
        fun s₂ w h => h.trans (by simp)
      refine hanswer _ _ ((removeWaiting_kept s _).trans (OutcomeKept.foldl (fun t l => ?_) _ _).1)
      cases hl : l.origin <;> simp

@[simp] theorem cancelStore_kept (r : Fin 16) : BlockKept s (cancelStore r s) := by
  unfold cancelStore
  split_ifs <;> simp [removeWrite]

@[simp] theorem cancelArrival_kept (r : Fin 16) : BlockKept s (cancelArrival r s) := by
  unfold cancelArrival
  split_ifs <;> simp

@[simp] theorem writeHand_kept (r : Fin 16) (b : Byte) : BlockKept s (writeHand r b s) := by
  unfold writeHand
  simp only
  split_ifs <;> simp

@[simp] theorem portResetQueue_kept : FramesKept s (portResetQueue s) := by
  have h : FramesKept s (modFrames (fun fs => (fs.filter fun f => !(!f.inFlight && f.origins.any recordLink)).map
      Frame.detachRecords) s) := by simp
  refine h.trans (OutcomeKept.foldl (fun t f => OutcomeKept.foldl (fun u l => ?_) _ _) _ _).1
  cases hl : l.origin <;> simp

@[simp] theorem deriveAttention_kept : AttentionKept s (deriveAttention s) := by
  unfold deriveAttention
  simp only
  split_ifs <;> simp

@[simp] theorem resetPort_kept : BlockKept s (resetPort s) := by simp [resetPort]

@[simp] theorem writeDone_kept (b : Byte) : AttentionKept s (writeDone b s) := by
  unfold writeDone
  split_ifs <;> simp

@[simp] theorem settingsWritten_kept (b : State) : AttentionKept s (settingsWritten b s) := by
  unfold settingsWritten
  simp only
  split_ifs <;> simp

@[simp] theorem storeBytes_kept (bytes : List (Nat × Byte)) (v : Nat → Verdict) : AnswerKept s (storeBytes bytes v s) := by
  unfold storeBytes
  refine foldl_invariant (fun t => AnswerKept s t) _ (fun t x h => ?_) bytes s (by simp)
  split_ifs <;> simp_all

@[simp] theorem dropByte_kept (o : Nat) (b : Byte) : BlockKept s (dropByte o b s) := by
  unfold dropByte
  split_ifs <;> simp

@[simp] theorem byteEffect_kept (v : Verdict) (o : Nat) (b : Byte) : BlockKept s (byteEffect v o b s) := by
  unfold byteEffect
  split <;> (try split_ifs) <;> simp

@[simp] theorem hostWrite_kept (bytes : List (Nat × Byte)) : BlockKept s (hostWrite bytes s) := by
  unfold hostWrite
  simp only
  split_ifs
  · simp
  · have h := BlockKept.foldl (fun t x => byteEffect_kept t (judgeByte s x.1) x.1 x.2) bytes
      (settingsWritten s (storeBytes bytes (judgeByte s) s))
    exact BlockKept.trans (by simp) h
  · have h := BlockKept.foldl (fun t x => byteEffect_kept t (judgeByte s x.1) x.1 x.2) bytes
      (storeBytes bytes (judgeByte s) s)
    exact BlockKept.trans (by simp) h

@[simp] theorem readAttend_kept : BlockKept s (readAttend s) := by
  unfold readAttend
  split_ifs
  · split <;> simp [takeChannel, returnWord]
  · simp [returnWord]

/-- The parts that no event of the calibration port changes. -/
@[simp] abbrev PortKept (s t : State) : Prop :=
  t.phase = s.phase ∧ t.mem = s.mem ∧ t.frc = s.frc ∧ t.mtc = s.mtc ∧ t.dsc = s.dsc ∧ t.oft = s.oft ∧ t.mst = s.mst ∧
  t.emc = s.emc ∧ t.ale = s.ale ∧ t.txq = s.txq ∧ t.wpt = s.wpt ∧ t.choices = s.choices ∧ t.pending = s.pending ∧
  t.pins.key = s.pins.key ∧ t.cps.failed = s.cps.failed ∧ t.cps.store = s.cps.store ∧ t.cps.writing = s.cps.writing ∧
  t.cps.lastWasCommit = s.cps.lastWasCommit ∧ t.cps.tariffRecord = s.cps.tariffRecord ∧
  t.cps.settingsRecord = s.cps.settingsRecord

@[simp] theorem startRun_kept (a : BitVec 7) (b : Bool) : PortKept s (startRun a b s) := by
  unfold startRun
  split_ifs <;> simp [calAcknowledge]

@[simp] theorem setPointer_kept (b : Byte) : PortKept s (setPointer b s) := by
  unfold setPointer
  split <;> (try split_ifs) <;> simp [calAcknowledge]

@[simp] theorem writeStaging_kept (run : CalRun) (b : Byte) (e : Bool) : PortKept s (writeStaging run b e s) := by
  unfold writeStaging
  split_ifs <;> simp

@[simp] theorem takeDataByte_kept (b : Byte) (e : Bool) : PortKept s (takeDataByte b e s) := by
  unfold takeDataByte
  split <;> (try split_ifs) <;> simp [calAcknowledge, raisePointer, sampleCalEnable]

@[simp] theorem readDataByte_kept (a : Bool) : PortKept s (readDataByte a s) := by
  unfold readDataByte
  split <;> (try split_ifs) <;> simp [raisePointer]

@[simp] theorem endRun_kept (e : Bool) : PortKept s (endRun e s) := by
  unfold endRun
  split
  · simp
  · simp only
    split_ifs <;> simp [sampleCalEnable]

@[simp] theorem ownStoreTariffs_kept (r : Fin 16) : BlockKept s (ownStoreTariffs r s) := by
  unfold ownStoreTariffs
  split_ifs
  · simp
  · simp
  · simp
  · split <;> simp [takeIntoWork]

@[simp] theorem ownStoreSettings_kept (r : Fin 16) : BlockKept s (ownStoreSettings r s) := by
  unfold ownStoreSettings
  split_ifs <;> simp [takeIntoWork]

@[simp] theorem takeUnknown_kept : BlockKept s (takeUnknown s) := by
  unfold takeUnknown
  split <;> (try split_ifs) <;> simp

end

/-- A request whose owner leaves the phase and the queue of commands leaves them too. -/
theorem takeRequest_core {owner : Fin 16 → State → State} (h : ∀ r t, CoreKept t (owner r t)) (k : RequestKind)
    (s : State) : CoreKept s (takeRequest k owner s) := by
  refine takeRequest_law (P := CoreKept s) ⟨rfl, rfl⟩ fun r rest _ _ => serveRequest_law (by simp) ?_
  have := h r (leaveList rest s)
  simpa using this

/-- A frame whose delivery leaves the phase and the queue of commands leaves them too. -/
theorem receiveFrame_core {deliver : Addressing → State → State} (h : ∀ how t, CoreKept t (deliver how t)) (kind : Nat)
    (f : RxFrame) (s : State) : CoreKept s (receiveFrame kind f deliver s) := by
  refine receiveFrame_law (P := CoreKept s) ⟨rfl, rfl⟩ (fun _ fate => by simp) fun _ how _ => ?_
  have := h how (resumeHunting s)
  simpa using this

/-- A request leaves the parts of the fare computer, the meter controller and the store that its owner leaves. -/
theorem takeRequest_block {owner : Fin 16 → State → State} (h : ∀ r t, BlockKept t (owner r t)) (k : RequestKind)
    (s : State) : BlockKept s (takeRequest k owner s) :=
  takeRequest_law (P := BlockKept s) (BlockKept.refl s) fun r rest _ _ =>
    serveRequest_law (by simp) (BlockKept.trans (by simp) (h r (leaveList rest s)))

/-- A frame leaves the parts of the fare computer, the meter controller and the store that its delivery leaves. -/
theorem receiveFrame_block {deliver : Addressing → State → State} (h : ∀ how t, BlockKept t (deliver how t)) (kind : Nat)
    (f : RxFrame) (s : State) : BlockKept s (receiveFrame kind f deliver s) :=
  receiveFrame_law (P := BlockKept s) (BlockKept.refl s) (fun _ fate => by simp) fun _ how _ =>
    BlockKept.trans (by simp) (h how (resumeHunting s))

end Sys2Proof.Machine
end

section
/-! SUPPORT. What the start-up stages leave. -/

namespace Sys2Proof.Machine

section
variable (s : State)

/-- What a loss of power or RESET_N leaves of the state: the store, the free choices and the queue of commands (R183). -/
@[simp] theorem volatileCleared_core (p : Phase) :
    (volatileCleared p s).phase = p ∧ (volatileCleared p s).cps.store = s.cps.store ∧
    (volatileCleared p s).choices = s.choices ∧ (volatileCleared p s).pending = s.pending := by
  simp [volatileCleared, Cps.atReset]

@[simp] theorem stage1_core :
    (stage1 s).phase = .stage1 ∧ (stage1 s).cps.store = s.cps.store ∧ (stage1 s).choices = s.choices ∧
    (stage1 s).pending = s.pending := by
  simp [stage1]

@[simp] theorem recordCalInvalid_kept : AttentionKept s (recordCalInvalid s) := by
  unfold recordCalInvalid
  split_ifs <;> simp

@[simp] theorem stage2_core : (stage2 s).phase = .stage2 ∧ (stage2 s).pending = s.pending := by simp [stage2]

/-- The parts that the report of a recovery leaves: all but the attention state and the store's queue. -/
@[simp] theorem reportRecovery_kept :
    ((reportRecovery s).phase = s.phase ∧ (reportRecovery s).mem = s.mem ∧ (reportRecovery s).frc = s.frc ∧
      (reportRecovery s).mtc = s.mtc ∧ (reportRecovery s).dsc = s.dsc ∧ (reportRecovery s).oft = s.oft ∧
      (reportRecovery s).mst = s.mst ∧ (reportRecovery s).emc = s.emc ∧ (reportRecovery s).ale = s.ale ∧
      (reportRecovery s).txq = s.txq ∧ (reportRecovery s).wpt = s.wpt ∧ (reportRecovery s).pins = s.pins ∧
      (reportRecovery s).choices = s.choices ∧ (reportRecovery s).pending = s.pending) ∧
    ((reportRecovery s).cps.bank = s.cps.bank ∧ (reportRecovery s).cps.failed = s.cps.failed ∧
      (reportRecovery s).cps.pointer = s.cps.pointer ∧ (reportRecovery s).cps.run = s.cps.run ∧
      (reportRecovery s).cps.store = s.cps.store ∧ (reportRecovery s).cps.writing = s.cps.writing ∧
      (reportRecovery s).cps.lastWasCommit = s.cps.lastWasCommit ∧
      (reportRecovery s).cps.tariffRecord = s.cps.tariffRecord ∧
      (reportRecovery s).cps.settingsRecord = s.cps.settingsRecord) := by
  unfold reportRecovery
  split <;> simp

/-- The parts that the recovery of the emergency controller leaves: all but its own, the attention state and the store's
queue. -/
@[simp] theorem recoverEmergency_kept :
    ((recoverEmergency s).phase = s.phase ∧ (recoverEmergency s).mem = s.mem ∧ (recoverEmergency s).frc = s.frc ∧
      (recoverEmergency s).mtc = s.mtc ∧ (recoverEmergency s).dsc = s.dsc ∧ (recoverEmergency s).oft = s.oft ∧
      (recoverEmergency s).mst = s.mst ∧ (recoverEmergency s).ale = s.ale ∧ (recoverEmergency s).txq = s.txq ∧
      (recoverEmergency s).wpt = s.wpt ∧ (recoverEmergency s).pins = s.pins ∧
      (recoverEmergency s).choices = s.choices ∧ (recoverEmergency s).pending = s.pending) ∧
    ((recoverEmergency s).cps.bank = s.cps.bank ∧ (recoverEmergency s).cps.failed = s.cps.failed ∧
      (recoverEmergency s).cps.pointer = s.cps.pointer ∧ (recoverEmergency s).cps.run = s.cps.run ∧
      (recoverEmergency s).cps.store = s.cps.store ∧ (recoverEmergency s).cps.writing = s.cps.writing ∧
      (recoverEmergency s).cps.lastWasCommit = s.cps.lastWasCommit ∧
      (recoverEmergency s).cps.tariffRecord = s.cps.tariffRecord ∧
      (recoverEmergency s).cps.settingsRecord = s.cps.settingsRecord) := by
  unfold recoverEmergency
  simp only
  split_ifs <;> simp

/-- The parts that start-up stage 3 leaves. -/
@[simp] theorem stage3_kept :
    ((stage3 s).phase = .stage3 ∧ (stage3 s).mem = s.mem ∧ (stage3 s).oft = s.oft ∧ (stage3 s).mst = s.mst ∧
      (stage3 s).ale = s.ale ∧ (stage3 s).txq = s.txq ∧ (stage3 s).wpt = s.wpt ∧ (stage3 s).pins = s.pins ∧
      (stage3 s).choices = s.choices ∧ (stage3 s).pending = s.pending) ∧
    ((stage3 s).cps.bank = s.cps.bank ∧ (stage3 s).cps.failed = s.cps.failed ∧
      (stage3 s).cps.pointer = s.cps.pointer ∧ (stage3 s).cps.run = s.cps.run ∧
      (stage3 s).cps.store = s.cps.store ∧ (stage3 s).cps.writing = s.cps.writing ∧
      (stage3 s).cps.lastWasCommit = s.cps.lastWasCommit ∧ (stage3 s).cps.tariffRecord = s.cps.tariffRecord ∧
      (stage3 s).cps.settingsRecord = s.cps.settingsRecord) := by
  unfold stage3
  simp only
  split_ifs <;> simp [recoverMeter, startHold]

@[simp] theorem judgeAddressAtStart_kept : AttentionKept s (judgeAddressAtStart s) := by
  unfold judgeAddressAtStart
  split_ifs <;> simp

/-- The parts that start-up stage 4 leaves. -/
@[simp] theorem stage4_kept :
    (stage4 s).phase = .stage4 ∧ (stage4 s).frc = s.frc ∧ (stage4 s).wpt = s.wpt ∧ (stage4 s).pins = s.pins ∧
    (stage4 s).choices = s.choices ∧ (stage4 s).pending = s.pending := by
  unfold stage4
  simp only
  split_ifs <;> simp

/-- The parts that start-up stage 5 leaves. -/
@[simp] theorem stage5_kept :
    (stage5 s).phase = .ready ∧ (stage5 s).mem = s.mem ∧ (stage5 s).frc = s.frc ∧ (stage5 s).mtc = s.mtc ∧
    (stage5 s).dsc = s.dsc ∧ (stage5 s).oft = s.oft ∧ (stage5 s).mst = s.mst ∧ (stage5 s).emc = s.emc ∧
    (stage5 s).ale = s.ale ∧ (stage5 s).txq = s.txq ∧ (stage5 s).wpt = { s.wpt with updateCount := 0 } ∧
    (stage5 s).cps = s.cps ∧ (stage5 s).pins = s.pins ∧ (stage5 s).choices = s.choices ∧
    (stage5 s).pending = s.pending := by
  simp [stage5]

end

end Sys2Proof.Machine
end

section
/-! PROOF. The step and the part as delivered (O1, O2), and the completion of every command (O3). -/

open Sys2Proof Sys2Proof.Machine

/-- Settles O1. -/
theorem stepTakesTheFrontCommand : Obligations.StepTakesTheFrontCommand := by
  refine ⟨fun c rest s => rfl, fun s hs => ?_⟩
  simp [step, hs]

/-- Settles O2. -/
theorem resetIsThePartAsDelivered : Obligations.ResetIsThePartAsDelivered :=
  ⟨rfl, rfl, rfl, rfl, rfl, rfl, rfl, rfl, rfl, rfl, rfl, rfl⟩

namespace Sys2Proof.Machine

/-- No command changes the queue of commands. -/
@[simp] theorem effect_pending (c : Instr) (s : State) : (effect c s).pending = s.pending := by
  have hrequest : ∀ k owner, (∀ r t, CoreKept t (owner r t)) → (takeRequest k owner s).pending = s.pending :=
    fun k owner h => (takeRequest_core h k s).2
  have hframe : ∀ kind f deliver, (∀ how t, CoreKept t (deliver how t)) →
      (receiveFrame kind f deliver s).pending = s.pending := fun kind f deliver h => (receiveFrame_core h kind f s).2
  cases c with
  | setClock | meterKey | addExtra | selectTariff | shiftOpen | shiftClose | releaseTrip | setBreak | setAvailable | noShow
  | acceptOffer | declineOffer | releaseOffer | sendText | reply | markRead | deleteMsg | emergencyRaise
  | emergencyCancel | radioRestart | storeTariffs | storeSettings =>
    exact hrequest _ _ fun r t => by simp [ownSetBreak, ownSetAvailable, ownNoShow]
  | time f | zoneInfo f | poll f | offer f | award f | withdraw f | text f | emergencyAck f | emergencyClear f
  | cycleFrame f modemReady =>
    exact hframe _ f _ fun how t => by simp
  | meterSecondExpiry | calendarSecondExpiry | keyPress | alarmPress | positionFixPost | requestPost | requestCancel
  | portReset | doneWrite | resetNAssert | startUp | startupWindow | startupRecovery | startupRadio | startupReady =>
    simp only [effect]
    split_ifs <;> simp
  | _ => simp [effect]

/-- The lines are judged from what the driving of them leaves. -/
@[simp] theorem lineAsserted_driveLines (s : State) (b : Bool) : lineAsserted (driveLines s) b = lineAsserted s b := rfl

/-- A command completes in its effect with the lines driven. -/
theorem completes_iff {c : Instr} {s : State} {post : State → Prop} :
    Completes c s post ↔ post (driveLines (effect c s)) := by
  simp [Completes, exec_eq_effect]

end Sys2Proof.Machine

/-- Settles O3: the queue of commands is in no command's effect, and the lines are driven last. -/
theorem everyCommandCompletes : Obligations.EveryCommandCompletes := by
  intro c s
  refine completes_iff.mpr ⟨by simp, rfl, rfl, fun hphase => ?_⟩
  have hphase' : (effect c s).phase ≠ .ready := by simpa using hphase
  simp [driveLines, lineAsserted, hphase']

end

section
/-! SUPPORT. A law that every shared operation keeps is kept by every command: the commands are put together from the shared
operations once, for any such law. -/

namespace Sys2Proof.Machine

/-! The counts of each block that `RangeLaw` names. -/

@[simp] abbrev Dsc.SameCounts (d d' : Dsc) : Prop :=
  d'.zone = d.zone ∧ d'.queuePosition = d.queuePosition ∧ d'.fixRejected = d.fixRejected

@[simp] abbrev Mst.SameCounts (m m' : Mst) : Prop := m'.refused = m.refused ∧ m'.lostUnread = m.lostUnread

@[simp] abbrev Ale.SameCounts (a a' : Ale) : Prop :=
  a'.crcErrors = a.crcErrors ∧ a'.formatErrors = a.formatErrors ∧ a'.lastCycle = a.lastCycle ∧ a'.rng = a.rng ∧
  a'.sequence = a.sequence

@[simp] abbrev Wpt.SameCounts (w w' : Wpt) : Prop := w'.droppedWrites = w.droppedWrites ∧ w'.illegalHands = w.illegalHands

@[simp] abbrev Emc.SameCounts (e e' : Emc) : Prop :=
  e'.count = e.count ∧ e'.presses = e.presses ∧ e'.wrongCodes = e.wrongCodes ∧ e'.code = e.code ∧
  e'.updateTimer = e.updateTimer

/-- The counts of the call are in their ranges (R106). -/
def Emc.inRange (e : Emc) : Prop :=
  e.count ≤ 65535 ∧ e.presses ≤ 255 ∧ e.wrongCodes ≤ 3 ∧ e.code ≤ 9999 ∧ ∀ n, e.updateTimer = some n → 10 ≤ n ∧ n ≤ 300

/-- The counts of the dispatch controller are in their ranges (R55). -/
def Dsc.inRange (d : Dsc) : Prop := d.zone ≤ 255 ∧ d.queuePosition ≤ 255 ∧ d.fixRejected ≤ 65535

/-- The count of missed offers is in its range (R67). -/
def Oft.inRange (t : Oft) : Prop := t.missed ≤ 65535

/-- The counts of the message store are in their ranges (R92). -/
def Mst.inRange (m : Mst) : Prop := m.refused ≤ 65535 ∧ m.lostUnread ≤ 65535

/-- The registers of the air link are in their ranges (R128, R141, R142). -/
def Ale.inRange (a : Ale) : Prop :=
  a.crcErrors ≤ 65535 ∧ a.formatErrors ≤ 65535 ∧ a.lastCycle ≤ 255 ∧ a.rng ≠ 0#16 ∧ a.sequence ≤ 15

/-- The counts of the window port are in their ranges (R160, R163). -/
def Wpt.inRange (w : Wpt) : Prop := w.droppedWrites ≤ 65535 ∧ w.illegalHands ≤ 65535

/-- The entries of the fault ring are in their ranges (R178). -/
def Atc.inRange (a : Atc) : Prop := ∀ i, (a.ring.get i).repeats ≤ 255 ∧ (a.ring.get i).detail ≤ 65535

/-- The calibration pointer is in its range (R180). -/
def Cps.inRange (c : Cps) : Prop := c.pointer ≤ 255

/-- A law that the shared operations keep. `kept` names those that never touch what it speaks of, `shared` those that may. -/
structure OpsKeep (P : State → Prop) : Prop where
  kept : ∀ s : State,
    ((∀ f, (P (s.modFrc f) ↔ P s)) ∧ (∀ f, (P (s.modMtc f) ↔ P s)) ∧
      (∀ f, (∀ d, Dsc.SameCounts d (f d)) → (P (s.modDsc f) ↔ P s)) ∧
      (∀ f, (∀ t, (f t).missed = t.missed) → (P (s.modOft f) ↔ P s)) ∧
      (∀ f, (∀ m, Mst.SameCounts m (f m)) → (P (s.modMst f) ↔ P s)) ∧ (∀ f, (∀ e, Emc.SameCounts e (f e)) → (P (s.modEmc f) ↔ P s)) ∧
      (∀ f, (∀ a, Ale.SameCounts a (f a)) → (P (s.modAle f) ↔ P s)) ∧
      (∀ f, (∀ w, Wpt.SameCounts w (f w)) → (P (s.modWpt f) ↔ P s)) ∧
      (∀ f, (∀ a, (f a).ring = a.ring) → (P (s.modAtc f) ↔ P s)) ∧
      (∀ f, (∀ c, (f c).pointer = c.pointer) → (P (s.modCps f) ↔ P s)) ∧ (∀ f, (P (s.modPins f) ↔ P s)) ∧ (∀ p, P { s with phase := p } ↔ P s) ∧
      (∀ l, P { s with pending := l } ↔ P s)) ∧
    ((∀ c, (P (setChannel c s) ↔ P s)) ∧ (P (rejudge s) ↔ P s) ∧
      (∀ k, (P (requestWrite k s) ↔ P s)) ∧ (P (requestCommit s) ↔ P s) ∧ (P (takeMatches s) ↔ P s)) ∧
    ((∀ e f, (P (updateOffer e f s) ↔ P s)) ∧ (∀ i f, (P (updateInbox i f s) ↔ P s)) ∧
      (∀ t f, (P (updateTripRecord t f s) ↔ P s))) ∧
    ((P (rewriteFareGroup s) ↔ P s) ∧ (P (beginRewrite s) ↔ P s) ∧ (P (endRewrite s) ↔ P s)) ∧
    ((∀ x, (P (setEmergency x s) ↔ P s)) ∧ (∀ b, (P (endTransmission b s) ↔ P s)))
  shared : ∀ s : State, P s →
    ((∀ r x w, P (answer r x w s)) ∧ (∀ r x y w, P (answerWork r x y w s)) ∧ (∀ r x d w, P (writeAnswer r x d w s)) ∧
      (∀ r v, P (setHand r v s)) ∧ (∀ n m, P (freeChain n m s)) ∧ (∀ e d, P (storeDetails e d s)) ∧
      (∀ how f, P (takeText how f s)) ∧ (∀ f d, P (recordFault f d s)) ∧ P (evaluateSchedule s) ∧ P (endMeterSecond s)) ∧
    ((∀ f, (∀ d : Dsc, d.inRange → (f d).inRange) → P (s.modDsc f)) ∧
      (∀ f, (∀ t : Oft, t.inRange → (f t).inRange) → P (s.modOft f)) ∧
      (∀ f, (∀ m : Mst, m.inRange → (f m).inRange) → P (s.modMst f)) ∧
      (∀ f, (∀ a : Ale, a.inRange → (f a).inRange) → P (s.modAle f)) ∧
      (∀ f, (∀ w : Wpt, w.inRange → (f w).inRange) → P (s.modWpt f)) ∧
      (∀ f, (∀ a : Atc, a.inRange → (f a).inRange) → P (s.modAtc f)) ∧
      (∀ f, (∀ c : Cps, c.inRange → (f c).inRange) → P (s.modCps f)) ∧
      (∀ f, (∀ e : Emc, e.inRange → (f e).inRange) → P (s.modEmc f)) ∧ (s.emc.wrongCodes < 3 → P (countWrongCode s))) ∧
    ((∀ e, P (joinQueue (bidFrame e s) s)) ∧ (∀ os d n r t, P (joinQueue (textFrame os d n r t) s)) ∧
      P (askLive .pollReply s) ∧ (∀ x, P (askStatusFrame x s)) ∧ (∀ p, P (removeWaiting p s)) ∧
      (∀ p, P (modFrames (fun fs => withoutNewest fs p) s)) ∧ (∀ o, P (detachOrigin o s)) ∧
      (∀ e x, P (queueRefuse e x s)) ∧ (∀ n x, P (queueRefuseUnknown n x s)) ∧ (∀ t, P (queueTripFrame t s)) ∧
      P (queueShiftFrame s) ∧ P (portResetQueue s) ∧ P (s.modTxq fun _ => Txq.atReset)) ∧
    ((∀ e x y c, P (endBid e x y c s)) ∧ (∀ x l, P (requestStatus x l s)) ∧ (∀ x y, P (setStatus x y s)) ∧
      (∀ x, P (meterChange x s)) ∧ P (closeTrip s)) ∧
    ((∀ k, P (askEmergency k s)) ∧ P (returnToQuiet s) ∧ P (pressAlarm s) ∧ (∀ g x, P (failFrames g x s)) ∧
      (∀ x, P (linkChange x s)) ∧ (∀ n acks, P (takeCycleAcks n acks s)) ∧ (∀ m : SlotMap, m.number ≤ 255 → P (offerSlots m s)))
  memory : ∀ (s : State) (g : Memory → Memory), (∀ m : Memory, m.Wf → (g m).Wf) → P s → P (s.modMem g)
  cleared : ∀ (p : Phase) (s : State), P (volatileCleared p s)

theorem ring_reset : Atc.atReset.inRange := by
  unfold Atc.inRange
  decide

/-- The seed of the random register is not 0 (R142). -/
theorem radioSeed_ne_zero (s : State) : radioSeed s ≠ 0#16 := by
  unfold radioSeed
  simp only
  split_ifs with h
  exacts [by decide, h]

/-- The random register never reaches 0 (R142). -/
theorem stepRng_ne_zero {r : Word16} (h : r ≠ 0#16) : stepRng r ≠ 0#16 := fun hzero => by
  have hshift : r >>> 1 = 0#16 := (BitVec.or_eq_zero_iff.mp hzero).1
  have hsmall : r.toNat / 2 = 0 := by simpa [Nat.shiftRight_eq_div_pow] using congrArg BitVec.toNat hshift
  have hone : r = 1#16 := BitVec.eq_of_toNat_eq (by
    have hne : r.toNat ≠ 0 := fun hr => h (BitVec.eq_of_toNat_eq hr)
    show r.toNat = 1
    omega)
  rw [hone] at hzero
  exact absurd hzero (by decide)

section
variable {P : State → Prop} (hP : OpsKeep P) {s : State}
include hP

omit hP in
theorem clamp_le {low high x : Nat} (h : low ≤ high) : clamp low high x ≤ high := by
  unfold clamp
  omega

omit hP in
theorem le_clamp {low high x : Nat} : low ≤ clamp low high x := by
  unfold clamp
  omega

omit hP in
theorem satAdd_le (bound a b : Nat) : satAdd bound a b ≤ bound := Nat.min_le_left _ _

/-! Changes of a block's counts within their ranges. -/

section
variable (h : P s)
include h

theorem OpsKeep.dscMoved {f} (hf : ∀ d : Dsc, d.inRange → (f d).inRange) : P (s.modDsc f) := by
  obtain ⟨-, ⟨hmoved, -⟩, -⟩ := hP.shared s h
  exact hmoved f hf

theorem OpsKeep.oftMoved {f} (hf : ∀ t : Oft, t.inRange → (f t).inRange) : P (s.modOft f) := by
  obtain ⟨-, ⟨-, hmoved, -⟩, -⟩ := hP.shared s h
  exact hmoved f hf

theorem OpsKeep.mstMoved {f} (hf : ∀ m : Mst, m.inRange → (f m).inRange) : P (s.modMst f) := by
  obtain ⟨-, ⟨-, -, hmoved, -⟩, -⟩ := hP.shared s h
  exact hmoved f hf

theorem OpsKeep.aleMoved {f} (hf : ∀ a : Ale, a.inRange → (f a).inRange) : P (s.modAle f) := by
  obtain ⟨-, ⟨-, -, -, hmoved, -⟩, -⟩ := hP.shared s h
  exact hmoved f hf

theorem OpsKeep.wptMoved {f} (hf : ∀ w : Wpt, w.inRange → (f w).inRange) : P (s.modWpt f) := by
  obtain ⟨-, ⟨-, -, -, -, hmoved, -⟩, -⟩ := hP.shared s h
  exact hmoved f hf

theorem OpsKeep.atcMoved {f} (hf : ∀ a : Atc, a.inRange → (f a).inRange) : P (s.modAtc f) := by
  obtain ⟨-, ⟨-, -, -, -, -, hmoved, -⟩, -⟩ := hP.shared s h
  exact hmoved f hf

theorem OpsKeep.cpsMoved {f} (hf : ∀ c : Cps, c.inRange → (f c).inRange) : P (s.modCps f) := by
  obtain ⟨-, ⟨-, -, -, -, -, -, hmoved, -⟩, -⟩ := hP.shared s h
  exact hmoved f hf

theorem OpsKeep.emcMoved {f} (hf : ∀ e : Emc, e.inRange → (f e).inRange) : P (s.modEmc f) := by
  obtain ⟨-, ⟨-, -, -, -, -, -, -, hmoved, -⟩, -⟩ := hP.shared s h
  exact hmoved f hf

theorem startUpdateTimer_closed : P (startUpdateTimer s) :=
  hP.emcMoved h fun _ ⟨hcount, hpresses, hwrong, hcode, _⟩ => ⟨hcount, hpresses, hwrong, hcode, fun n hn => by
    obtain rfl := Option.some.inj hn
    exact ⟨le_clamp, clamp_le (by decide)⟩⟩

theorem stopUpdateTimer_closed : P (stopUpdateTimer s) :=
  hP.emcMoved h fun _ ⟨hcount, hpresses, hwrong, hcode, _⟩ => ⟨hcount, hpresses, hwrong, hcode, fun _ hn => absurd hn.symm
    (Option.some_ne_none _)⟩

theorem countFormatError_closed : P (countFormatError s) :=
  hP.aleMoved h fun _ ⟨hcrc, _, hcycle, hrng, hsequence⟩ => ⟨hcrc, satAdd_le _ _ _, hcycle, hrng, hsequence⟩

theorem countCrcError_closed : P (countCrcError s) :=
  hP.aleMoved h fun _ ⟨_, hformat, hcycle, hrng, hsequence⟩ => ⟨satAdd_le _ _ _, hformat, hcycle, hrng, hsequence⟩

end

/-- A fault, the evaluation of the schedule and the end of a meter second. -/
theorem OpsKeep.faulted (h : P s) :
    (∀ f d, P (recordFault f d s)) ∧ P (evaluateSchedule s) ∧ P (endMeterSecond s) := by
  simp [hP.shared, h]

/-- The operations that are put together from the kept ones alone. -/
theorem OpsKeep.derived (s : State) :
    ((∀ g, (P (modTotals g s) ↔ P s)) ∧ (∀ g, (P (modTrip g s) ↔ P s)) ∧ (∀ n, (P (startHire n s) ↔ P s)) ∧
      (P (openTrip s) ↔ P s) ∧ (P (startHold s) ↔ P s) ∧ (P (stopHold s) ↔ P s) ∧ (P (refreshMetres s) ↔ P s)) ∧
    ((∀ k g, (P (endWrite k g s) ↔ P s)) ∧ (∀ e x y, (P (endOffer e x y s) ↔ P s)) ∧
      (∀ rest, (P (leaveList rest s) ↔ P s)) ∧ (P (resumeHunting s) ↔ P s)) := by
  refine ⟨?_, ?_⟩ <;>
    simp [hP.kept, modTotals, modTrip, startHire, openTrip, startHold, stopHold, refreshMetres, endWrite, endOffer,
      leaveList, resumeHunting]

/-- A change of the clock with the evaluation of the schedule. -/
theorem OpsKeep.clock (h : P s) : (∀ g, P (rewriteClockAndEvaluate g s)) ∧ ∀ t, P (setClockTo t s) := by
  have hclock : ∀ g, P (rewriteClockAndEvaluate g s) := fun g => by
    have hevaluated : ∀ t, P t → P (evaluateSchedule t) := fun t ht => (hP.faulted ht).2.1
    unfold rewriteClockAndEvaluate
    simp only
    split_ifs <;> simp [hP.kept, hevaluated, h]
  exact ⟨hclock, fun t => hclock _⟩

theorem illegalHand_closed {d} (h : P s) : P (illegalHand d s) := by
  have hcounted : P (s.modWpt fun w => { w with illegalHands := satAdd u16Max w.illegalHands 1 }) :=
    hP.wptMoved h fun _ ⟨hdropped, _⟩ => ⟨hdropped, satAdd_le _ _ _⟩
  exact (hP.faulted hcounted).1 _ _

/-! The commands of the fare computer and the meter controller. -/

theorem endCalendarSecond_closed (h : P s) : P (endCalendarSecond s) := by
  unfold endCalendarSecond groupRewrite
  split
  · simp only
    split_ifs <;> simp [hP.kept, hP.derived, hP.shared, hP.clock, h]
  · simp [hP.kept, hP.derived, hP.shared, h]

theorem takeTime_closed {t} (h : P s) : P (takeTime t s) := by
  unfold takeTime
  split_ifs <;> simp [hP.kept, hP.clock, h, countFormatError_closed hP]

theorem chooseTariff_closed (h : P s) : P (chooseTariff s).1 := by
  unfold chooseTariff
  split <;> simp [hP.kept, hP.derived, hP.shared, h]

theorem pressHire_closed {request} (h : P s) : P (pressHire request s).2 := by
  have hchosen := chooseTariff_closed hP h
  unfold pressHire
  split
  case h_1 | h_2 =>
    simp only
    split_ifs <;> simp [hP.kept, hP.derived, hP.shared, hchosen]
  all_goals exact h

theorem pressKey_closed {k request} (h : P s) : P (pressKey k request s).2 := by
  cases k with
  | hire => exact pressHire_closed hP h
  | stop =>
    change P (pressStop s).2
    unfold pressStop
    split <;> simp [hP.kept, hP.derived, hP.shared, h]
  | pay =>
    change P (pressPay s).2
    unfold pressPay
    split <;> simp [hP.kept, hP.derived, hP.shared, h]
  | clear =>
    change P (pressClear s).2
    unfold pressClear
    split <;> (try split_ifs) <;> simp [hP.kept, hP.derived, hP.shared, h]
  | extra =>
    change P (pressExtra 0 s).2
    unfold pressExtra
    split_ifs <;> simp [hP.kept, hP.derived, hP.shared, h, takeExtra]

theorem pressExtra_closed {i} (h : P s) : P (pressExtra i s).2 := by
  unfold pressExtra
  split_ifs <;> simp [hP.kept, hP.derived, hP.shared, h, takeExtra]

theorem ownMeterKey_closed {r} (h : P s) : P (ownMeterKey r s) := by
  have hkey : ∀ k, P (pressKey k true s).2 := fun k => pressKey_closed hP h
  unfold ownMeterKey answerKey
  split_ifs
  · split <;> simp [hP.kept, hP.derived, hP.shared, h, hkey]
  · simp [hP.kept, hP.derived, hP.shared, h]

theorem ownAddExtra_closed {r} (h : P s) : P (ownAddExtra r s) := by
  have hextra : ∀ i, P (pressExtra i s).2 := fun i => pressExtra_closed hP h
  unfold ownAddExtra answerExtra
  split_ifs <;> simp [hP.kept, hP.derived, hP.shared, h, hextra]

theorem setOverride_closed {n} (h : P s) : P (setOverride n s) := by
  unfold setOverride
  simp only
  split_ifs <;> simp [hP.kept, hP.derived, hP.shared, h]

theorem ownSelectTariff_closed {r} (h : P s) : P (ownSelectTariff r s) := by
  unfold ownSelectTariff
  split_ifs <;> simp [hP.kept, hP.derived, hP.shared, h, setOverride_closed hP h]

theorem ownShiftOpen_closed {r} (h : P s) : P (ownShiftOpen r s) := by
  unfold ownShiftOpen openShift
  split_ifs <;> simp [hP.kept, hP.derived, hP.shared, h]

theorem closeShift_closed (h : P s) : P (closeShift s) := by
  have hdetached : P (detachLastShift (refreshMetres s)) := by
    unfold detachLastShift
    split_ifs <;> simp [hP.kept, hP.derived, hP.shared, h]
  simp [hP.kept, hP.derived, hP.shared, closeShift, hdetached]

theorem ownShiftClose_closed {r} (h : P s) : P (ownShiftClose r s) := by
  unfold ownShiftClose
  split_ifs <;> simp [hP.kept, hP.derived, hP.shared, h, closeShift_closed hP h]

theorem ownReleaseTrip_closed {r} (h : P s) : P (ownReleaseTrip r s) := by
  unfold ownReleaseTrip
  split_ifs <;> simp [hP.kept, hP.derived, hP.shared, h]

theorem ownSetClock_closed {r} (h : P s) : P (ownSetClock r s) := by
  unfold ownSetClock
  split_ifs <;> simp [hP.kept, hP.derived, hP.shared, hP.clock, h]

/-! The store's writes. -/

theorem beginNextWrite_closed (h : P s) : P (beginNextWrite s) := by
  unfold beginNextWrite
  split_ifs
  · split <;> simp [hP.kept, hP.derived, hP.shared, h, beginWrite, removeWrite]
  · exact h

theorem reportCarriedTrip_closed {x} (h : P s) : P (reportCarriedTrip x s) := by
  cases x with
  | none => simp [hP.kept, hP.derived, hP.shared, reportCarriedTrip, h]
  | some t =>
    unfold reportCarriedTrip sendCarriedTrip
    simp only
    split_ifs <;> simp [hP.kept, hP.derived, hP.shared, h]

theorem completeMeterCommit_closed {c first due} (h : P s) : P (completeMeterCommit c first due s) := by
  have hmirrors : P (rewriteMirrors c (endWrite .meter (fun st => { st with meter := some c }) s)) := by
    simp [hP.kept, hP.derived, h, rewriteMirrors, groupRewrite, endWrite]
  have htrips := foldl_invariant P (fun t e => reportCarriedTrip e t)
    (fun t e ht => reportCarriedTrip_closed hP ht) first _ hmirrors
  unfold completeMeterCommit reportCarriedShift
  simp only
  split_ifs <;> simp [hP.kept, hP.derived, hP.shared, htrips]

theorem finishMeterCommit_closed (h : P s) : P (finishMeterCommit s) := by
  unfold finishMeterCommit
  split
  exacts [completeMeterCommit_closed hP h, h]

theorem answerTariffs_closed {x} (h : P s) : P (answerTariffs x s) := by
  unfold answerTariffs
  split <;> simp [hP.kept, hP.derived, hP.shared, h]

theorem answerSettings_closed {x} (h : P s) : P (answerSettings x s) := by
  unfold answerSettings
  split <;> simp [hP.kept, hP.derived, hP.shared, h]

theorem failCurrentWrite_closed (h : P s) : P (failCurrentWrite s) := by
  have hended : ∀ k : StoreKind, P (recordFault .writeFailed k.code (endWrite k id s)) := fun k => by
    simp [hP.kept, hP.derived, hP.shared, h, endWrite]
  unfold failCurrentWrite failWrite afterFailure
  split
  · split
    exacts [((hP.kept _).2.1.2.2.2.1).mpr (hended _), ((hP.kept _).2.1.2.2.1 _).mpr (hended _),
      answerTariffs_closed hP (hended _), answerSettings_closed hP (hended _)]
  · exact h

theorem finishOtherWrite_closed (h : P s) :
    P (finishCalibrationWrite s) ∧ P (finishTariffWrite s) ∧ P (finishSettingsWrite s) := by
  have hended : ∀ k change, P (endWrite k change s) := fun k change => by simp [hP.kept, hP.derived, hP.shared, h, endWrite]
  unfold finishCalibrationWrite finishTariffWrite finishSettingsWrite
  refine ⟨?_, ?_, ?_⟩ <;> split <;>
    simp [h, hended, answerTariffs_closed hP, answerSettings_closed hP]

/-! Position, zone and status. -/

theorem writeByte_closed {a v} (h : P s) : P (s.modMem fun m => m.write a v) :=
  hP.memory s _ (fun _ hm => Memory.wf_write hm a v) h

theorem zoneChange_closed {z} (hz : z ≤ 255) (h : P s) : P (zoneChange z s) := by
  have hmoved : P (s.modDsc fun d => { d with zone := z, zoneKnown := true, queuePosition := 0 }) :=
    hP.dscMoved h fun _ ⟨_, _, hrejected⟩ => ⟨hz, Nat.zero_le _, hrejected⟩
  unfold zoneChange
  simp only
  split_ifs <;> simp [hP.shared, hmoved]

theorem takeFix_closed (h : P s) : P (takeFix s) := by
  have hfreed : P (s.modMem fun m => m.write 0x50 0#8) := writeByte_closed hP h
  have hrejected := hP.dscMoved hfreed (f := fun d => { d with fixRejected := satAdd u16Max d.fixRejected 1 })
    fun _ ⟨hzone, hposition, _⟩ => ⟨hzone, hposition, satAdd_le _ _ _⟩
  have hzone : (slotFix s.mem).zone ≤ 255 := Nat.le_of_lt_succ (s.mem.read 0x51).isLt
  unfold takeFix
  simp only
  split_ifs <;> simp [hP.kept, zoneChange_closed hP hzone, hfreed, hrejected]

theorem writeSlotHand_closed {b} (h : P s) : P (writeSlotHand b s) := by
  unfold writeSlotHand
  split_ifs <;> simp [h, takeFix_closed hP, illegalHand_closed hP]

theorem moveStatus_closed {r x y z} (h : P s) : P (moveStatus r x y z s) := by
  unfold moveStatus
  split_ifs <;> simp [hP.kept, hP.derived, hP.shared, h]

theorem takeZoneInfo_closed {z p} (hp : p ≤ 255) (h : P s) : P (takeZoneInfo z p s) := by
  have hmoved : P (s.modDsc fun d => { d with queuePosition := p }) :=
    hP.dscMoved h fun _ ⟨hzone, _, hrejected⟩ => ⟨hzone, hp, hrejected⟩
  unfold takeZoneInfo
  split_ifs <;> simp [hP.kept, hmoved, h]

/-! Offers. -/

theorem takeOffer_closed {how o} (h : P s) : P (takeOffer how o s) := by
  have hmissed : P (s.modOft fun t => { t with missed := satAdd u16Max t.missed 1 }) :=
    hP.oftMoved h fun _ _ => satAdd_le _ _ _
  unfold takeOffer repeatOffer
  split_ifs
  · exact countFormatError_closed hP h
  · split
    · split_ifs <;> simp [hP.kept, hP.derived, hP.shared, h]
    · split
      · simp [hP.kept, hP.derived, hP.shared, h, storeOffer]
      · exact hmissed
  · exact h

theorem expireOffer_closed {e} (h : P s) : P (expireOffer e s) := by
  unfold expireOffer
  split_ifs <;> simp [hP.kept, hP.derived, hP.shared, h]

theorem startBid_closed {e} (h : P s) : P (startBid e s) := by simp [hP.kept, hP.derived, hP.shared, startBid, h]

theorem ownAcceptOffer_closed {r} (h : P s) : P (ownAcceptOffer r s) := by
  unfold ownAcceptOffer
  split_ifs
  · split <;> simp [hP.kept, hP.derived, hP.shared, h, startBid_closed hP]
  · simp [hP.kept, hP.derived, hP.shared, h]

theorem ownDeclineOffer_closed {r} (h : P s) : P (ownDeclineOffer r s) := by
  unfold ownDeclineOffer declineEntry
  split_ifs
  · split <;> simp [hP.kept, hP.derived, hP.shared, h]
  · simp [hP.kept, hP.derived, hP.shared, h]

theorem ownReleaseOffer_closed {r} (h : P s) : P (ownReleaseOffer r s) := by
  unfold ownReleaseOffer releaseEntry
  split_ifs <;> simp [hP.kept, hP.derived, hP.shared, h]

theorem endBidByBase_closed {e x y} (h : P s) : P (endBidByBase e x y s) := by simp [hP.kept, hP.derived, hP.shared, endBidByBase, h]

theorem expireAwardWait_closed {e} (h : P s) : P (expireAwardWait e s) := by
  unfold expireAwardWait
  split_ifs <;> simp [hP.kept, hP.derived, hP.shared, h]

theorem withdrawOthers_closed {e} (h : P s) : P (withdrawOthers e s) :=
  foldl_invariant P _ (fun t i ht => by split_ifs <;> simp [hP.kept, hP.derived, hP.shared, ht]) _ _ h

theorem takeOwnAward_closed {e} (h : P s) : P (takeOwnAward e s) := by
  have hended : P (endBidFrame e (endOffer e .awarded .none s)) := by
    have hframes := ((hP.shared _ (((hP.derived s).2.2.1 e .awarded .none).mpr h)).2.2.1.2.2.2.2.2.1
      (isBidOf e ((endOffer e .awarded .none s).oft.entries.get e).number))
    simpa [endBidFrame, hP.kept] using hframes
  have hothers : ∀ {t}, P t → P (withdrawOthers e t) := withdrawOthers_closed hP
  have hassigned : ∀ t, P t → P (assign e t) := fun t ht => by simp [assign, hP.kept, ht]
  have hbid : P (awardBid e s) := by
    have hbegun := hassigned _ hended
    simp [awardBid, hP.kept, hP.shared, hbegun, hothers]
  have hlate : P (honourAward e s) := by
    have hbegun := hothers (hassigned _ (((hP.derived s).2.2.1 e .awarded .none).mpr h))
    simp [honourAward, hP.kept, hP.shared, hbegun]
  have hrefused : P (refuseAward e s) := by simp [refuseAward, hP.shared, h]
  unfold takeOwnAward
  split <;> (try split_ifs) <;> assumption

theorem takeOtherAward_closed {e} (h : P s) : P (takeOtherAward e s) := by
  unfold takeOtherAward
  split <;> simp [hP.kept, hP.derived, hP.shared, h, endBidByBase_closed hP]

theorem takeAward_closed {n a} (h : P s) : P (takeAward n a s) := by
  unfold takeAward
  split <;> split_ifs <;> simp [hP.kept, hP.derived, hP.shared, h, takeOwnAward_closed hP, takeOtherAward_closed hP]

theorem takeWithdraw_closed {n} (h : P s) : P (takeWithdraw n s) := by
  unfold takeWithdraw
  split
  · exact h
  · split
    case h_4 =>
      unfold withdrawAwarded
      simp only
      split_ifs <;> simp [hP.kept, hP.derived, hP.shared, h]
    all_goals simp [hP.kept, hP.derived, hP.shared, h, endBidByBase_closed hP]

/-! Messages. -/

theorem ownSendText_closed {r} (h : P s) : P (ownSendText r s) := by
  unfold ownSendText takeIntoWork
  split_ifs <;> simp [hP.kept, hP.derived, hP.shared, h]

theorem ownReply_closed {r} (h : P s) : P (ownReply r s) := by
  unfold ownReply startReply takeIntoWork
  split_ifs <;> simp [hP.kept, hP.derived, hP.shared, h]

theorem ownMarkRead_closed {r} (h : P s) : P (ownMarkRead r s) := by
  unfold ownMarkRead
  split_ifs <;> simp [hP.kept, hP.derived, hP.shared, h]

theorem ownDeleteMsg_closed {r} (h : P s) : P (ownDeleteMsg r s) := by
  unfold ownDeleteMsg deleteEntry
  split_ifs
  · split <;> simp [hP.kept, hP.derived, hP.shared, h]
  · simp [hP.kept, hP.derived, hP.shared, h]

/-! The emergency controller. -/

theorem ownEmergencyCancel_closed {r} (h : P s) : P (ownEmergencyCancel r s) := by
  have hwrong : s.emc.wrongCodes < 3 → P (countWrongCode s) := by
    obtain ⟨-, ⟨-, -, -, -, -, -, -, -, hcounted⟩, -⟩ := hP.shared s h
    exact hcounted
  have hcalled : P (cancelCall s) := by
    have hstopped := stopUpdateTimer_closed hP (s := setEmergency .cancelling s) (by simp [hP.kept, h])
    simp [cancelCall, hP.shared, hstopped]
  unfold ownEmergencyCancel
  split_ifs with hstate hlocked hcode
  · simp [hP.shared, h]
  · simp [hP.shared, hcalled]
  · have hcounted := hwrong (by omega)
    simp [hP.shared, hcounted]
  · simp [hP.shared, h]

theorem expireUpdateTimer_closed (h : P s) : P (expireUpdateTimer s) := by
  unfold expireUpdateTimer
  split_ifs
  exacts [h, startUpdateTimer_closed hP (by simp [hP.shared, h])]

theorem takeEmergencyAck_closed {how} (h : P s) : P (takeEmergencyAck how s) := by
  have hacked : P (removeWaiting waitingAlert (setEmergency .acked s)) := by simp [hP.kept, hP.shared, h]
  unfold takeEmergencyAck acknowledgeCall
  split_ifs
  exacts [startUpdateTimer_closed hP (by simp [hP.kept, hacked]), h]

theorem takeEmergencyClear_closed {how} (h : P s) : P (takeEmergencyClear how s) := by
  unfold takeEmergencyClear
  split_ifs <;> simp [hP.kept, hP.derived, hP.shared, h]

/-! The air link. -/

omit hP in
/-- The number of a cycle is a byte. -/
theorem parseCycle_number (b : List Byte) : (parseCycle b).number ≤ 255 := Nat.le_of_lt_succ (bodyByte b 0).isLt

theorem takeCycle_closed {c : Cycle} {ready} (hc : c.number ≤ 255) (h : P s) : P (takeCycle c ready s) := by
  have hacks : ∀ t : State, P t → ∀ acks, P (if addressGood t then takeCycleAcks c.number acks t else t) :=
    fun t ht acks => by split_ifs <;> simp [hP.shared, ht]
  have hsend : ∀ t : State, P t → P (if ready then if addressGood t then offerSlots (layOutSlots c (cabAddress t)) t else t
      else recordFault .modemNotReady 0 t) := fun t ht => by
    split_ifs
    exacts [by simp [hP.shared, ht, layOutSlots, hc], ht, (hP.faulted ht).1 _ _]
  have hstepped : P (s.modAle fun a => { a with rng := stepRng a.rng }) :=
    hP.aleMoved h fun _ ⟨hcrc, hformat, hcycle, hrng, hsequence⟩ => ⟨hcrc, hformat, hcycle, stepRng_ne_zero hrng, hsequence⟩
  have hup : P (linkChange .up (startWatch (s.modAle fun a => { a with rng := stepRng a.rng }))) := by
    simp [hP.shared, hP.kept, startWatch, hstepped]
  have hheard := hP.aleMoved hup (f := fun a => { a with lastCycle := c.number, cycleHeard := true, assignments := [] })
    fun _ ⟨hcrc, hformat, _, hrng, hsequence⟩ => ⟨hcrc, hformat, hc, hrng, hsequence⟩
  exact hsend _ (((hP.kept _).1.2.2.2.2.2.2.2.2.2.2.1 _).mpr (hacks _ hheard _))

theorem beginSlot_closed {a} (h : P s) : P (beginSlot a s) := by
  unfold beginSlot transmit
  split
  · exact h
  · split_ifs
    · simp [hP.kept, hP.derived, hP.shared, h]
    · exact h
    · split <;> simp [hP.kept, hP.derived, hP.shared, h]

theorem startSlot_closed {k ready} (h : P s) : P (startSlot k ready s) := by
  unfold startSlot
  split
  exacts [h, beginSlot_closed hP (by simp [hP.kept, hP.derived, hP.shared, h])]

theorem cutOff_closed {d} (h : P s) : P (cutOff d s) := by
  unfold cutOff
  split_ifs <;> simp [hP.kept, hP.derived, hP.shared, h]

theorem finishTransmission_closed (h : P s) : P (finishTransmission s) := by
  unfold finishTransmission endTransmission
  split <;> simp [hP.kept, hP.derived, hP.shared, h]

theorem fade_closed (h : P s) : P (fade s) := by
  unfold fade
  simp only
  split_ifs <;> simp [hP.kept, hP.derived, hP.shared, h]

theorem loseLink_closed (h : P s) : P (loseLink s) := by
  unfold loseLink
  simp only
  split_ifs <;> simp [hP.kept, hP.derived, hP.shared, h]

theorem ownRadioRestart_closed {r} (h : P s) : P (ownRadioRestart r s) := by
  have hrestart : ∀ t : State, P t → P (restartEngine t) := fun t ht => by
    have hcut : P (endTransmission (txdAfterCut t) (dropAssignments t)) := by simp [hP.kept, dropAssignments, ht]
    have hbegun := hP.aleMoved hcut (f := fun a => { a with
      receiver := .hunting, window := none, fadeExpiry := none, lossExpiry := none, cycleHeard := false, sequence := 0 })
      fun _ ⟨hcrc, hformat, hcycle, hrng, _⟩ => ⟨hcrc, hformat, hcycle, hrng, Nat.zero_le _⟩
    simp [hP.shared, restartEngine, hbegun]
  have hfailed : P (failFrames (fun _ => true) .reset s) := by simp [hP.shared, h]
  simp [ownRadioRestart, hP.shared, hrestart, hfailed]

theorem stepRemaining_closed {e} (h : P s) : P (stepRemaining e s) := by
  unfold stepRemaining
  simp only
  split_ifs <;> simp [hP.kept, hP.derived, hP.shared, h]

/-! The window port and the calibration port. -/


theorem cancelText_closed {r} (h : P s) : P (cancelText r s) := by
  have hleft : ∀ p, P (removeWaiting p s) := fun p => by simp [hP.shared, h]
  have hanswer : ∀ t : State, P t → ∀ w, P (writeAnswer r .cancelled 0#8 w t) := fun t ht w => by simp [hP.shared, ht]
  unfold cancelText
  simp only
  split
  · exact h
  · split_ifs
    · exact h
    · refine hanswer _ (foldl_invariant P _ (fun t l ht => ?_) _ _ (hleft _)) _
      split <;> simp [hP.kept, hP.derived, hP.shared, ht]

theorem cancelStore_closed {r} (h : P s) : P (cancelStore r s) := by
  unfold cancelStore removeWrite
  split_ifs <;> simp [hP.kept, hP.derived, hP.shared, h]

theorem writeHand_closed {r b} (h : P s) : P (writeHand r b s) := by
  unfold writeHand cancelArrival
  simp only
  split_ifs <;> simp [hP.kept, hP.derived, hP.shared, h, cancelText_closed hP, cancelStore_closed hP, illegalHand_closed hP]

theorem resetPort_closed (h : P s) : P (resetPort s) := by
  have hcleared := hP.memory (s.modWpt fun w => { w with posted := [] }) (fun m => (clearRecords m).write 0x50 0#8)
    (fun m hm => Memory.wf_write (clearRecords_wf hm) 0x50 0#8) (by simp [hP.kept, hP.derived, hP.shared, h])
  have hderived : ∀ t, P t → P (deriveAttention t) := fun t ht => by
    unfold deriveAttention
    simp only
    split_ifs <;> simp [hP.kept, hP.derived, hP.shared, ht]
  unfold resetPort
  exact hderived _ (by simp [hP.kept, hP.derived, hP.shared, hcleared])

theorem dropByte_closed {o b} (h : P s) : P (dropByte o b s) := by
  have hcounted : P (s.modWpt fun w => { w with droppedWrites := satAdd u16Max w.droppedWrites 1 }) :=
    hP.wptMoved h fun _ ⟨_, hhands⟩ => ⟨satAdd_le _ _ _, hhands⟩
  unfold dropByte
  split_ifs
  exacts [h, (hP.faulted hcounted).1 _ _]

theorem writeDone_closed {b} (h : P s) : P (writeDone b s) := by
  unfold writeDone
  split_ifs <;> simp [hP.kept, hP.derived, hP.shared, h]

theorem byteEffect_closed {v o b} (h : P s) : P (byteEffect v o b s) := by
  unfold byteEffect
  split
  case h_6 =>
    split_ifs
    exacts [resetPort_closed hP h, h]
  all_goals simp [h, dropByte_closed hP, writeHand_closed hP, writeSlotHand_closed hP, writeDone_closed hP]

theorem storeBytes_closed {bytes v} (h : P s) : P (storeBytes bytes v s) :=
  foldl_invariant P _ (fun t x ht => by split_ifs <;> simp [ht, writeByte_closed hP]) _ _ h

theorem settingsWritten_closed {before} (h : P s) : P (settingsWritten before s) := by
  unfold settingsWritten
  simp only
  split_ifs <;> simp [hP.kept, hP.derived, hP.shared, h]

theorem hostWrite_closed {bytes} (h : P s) : P (hostWrite bytes s) := by
  have heffects : ∀ t : State, P t →
      P (bytes.foldl (fun t x => byteEffect (judgeByte s x.1) x.1 x.2 t) t) := fun t ht =>
    foldl_invariant P _ (fun t x ht => byteEffect_closed hP ht) _ _ ht
  unfold hostWrite
  simp only
  split_ifs
  · exact h
  · exact heffects _ (settingsWritten_closed hP (storeBytes_closed hP h))
  · exact heffects _ (storeBytes_closed hP h)

theorem ownStoreTariffs_closed {r} (h : P s) : P (ownStoreTariffs r s) := by
  unfold ownStoreTariffs takeIntoWork
  split_ifs
  case neg => split <;> simp [hP.kept, hP.derived, hP.shared, h]
  all_goals simp [hP.kept, hP.derived, hP.shared, h]

theorem ownStoreSettings_closed {r} (h : P s) : P (ownStoreSettings r s) := by
  unfold ownStoreSettings takeIntoWork
  split_ifs <;> simp [hP.kept, hP.derived, hP.shared, h]

theorem leaveList_closed {rest} (h : P s) : P (leaveList rest s) := by simp [leaveList, hP.kept, h]

theorem takeUnknown_closed (h : P s) : P (takeUnknown s) := by
  unfold takeUnknown
  split <;> (try split_ifs) <;> simp [hP.shared, h, leaveList_closed hP]

theorem readAttend_closed (h : P s) : P (readAttend s) := by
  unfold readAttend takeChannel returnWord
  split_ifs
  · split
    · simp [hP.kept, hP.derived, hP.shared, h]
    · simp [hP.kept, hP.derived, hP.shared, h]
  · simp [hP.kept, hP.derived, hP.shared, h]

/-! The calibration port. -/

theorem startRun_closed {a b} (h : P s) : P (startRun a b s) := by
  unfold startRun calAcknowledge
  split_ifs <;> simp [hP.kept, hP.derived, hP.shared, h]

theorem setPointer_closed {b} (h : P s) : P (setPointer b s) := by
  have hset : ∀ run, P (s.modCps fun c => { c with pointer := b.toNat, run := run }) := fun run =>
    hP.cpsMoved h fun _ _ => Nat.le_of_lt_succ b.isLt
  unfold setPointer calAcknowledge
  split <;> (try split_ifs) <;> simp [hP.kept, h, hset]

theorem raisePointer_closed (h : P s) : P (raisePointer s) :=
  hP.cpsMoved h fun _ _ => Nat.le_of_lt_succ (Nat.mod_lt _ (by decide))

theorem takeDataByte_closed {b e} (h : P s) : P (takeDataByte b e s) := by
  have hstaged : ∀ run t, P t → P (writeStaging run b e t) := fun run t ht => by
    unfold writeStaging
    split_ifs <;> simp [hP.kept, hP.derived, hP.shared, ht]
  unfold takeDataByte calAcknowledge sampleCalEnable
  split <;> (try split_ifs) <;> simp [hP.kept, hP.derived, h, hstaged, raisePointer_closed hP]

theorem readDataByte_closed {a} (h : P s) : P (readDataByte a s) := by
  unfold readDataByte
  split <;> (try split_ifs) <;> simp [hP.kept, h, raisePointer_closed hP]

theorem endRun_closed {e} (h : P s) : P (endRun e s) := by
  unfold endRun sampleCalEnable
  split
  · simp [hP.kept, hP.derived, hP.shared, h]
  · simp only
    split_ifs <;> simp [hP.kept, hP.derived, hP.shared, h]

/-! Requests, frames and start-up. -/

theorem takeRequest_closed {k} {owner : Fin 16 → State → State} (howner : ∀ r t, P t → P (owner r t)) (h : P s) :
    P (takeRequest k owner s) :=
  takeRequest_law h fun r rest _ _ =>
    serveRequest_law (by simp [hP.shared, leaveList_closed hP, h]) (howner r _ (leaveList_closed hP h))

theorem dropFrame_closed {fate} (h : P s) : P (dropFrame fate (resumeHunting s)) := by
  have hhunting : P (resumeHunting s) := by simp [hP.derived, h]
  cases fate with
  | crcError => exact countCrcError_closed hP hhunting
  | formatError => exact countFormatError_closed hP hhunting
  | silent | accepted => exact hhunting

theorem receiveFrame_closed {kind f} {deliver : Addressing → State → State} (hdeliver : ∀ how t, P t → P (deliver how t))
    (h : P s) : P (receiveFrame kind f deliver s) :=
  receiveFrame_law h (fun _ _ => dropFrame_closed hP h) fun _ how _ =>
    hdeliver how _ (by simp [resumeHunting, hP.kept, h])

/-- A change of the phase is kept. -/
theorem phase_closed {p : Phase} (h : P s) : P { s with phase := p } := ((hP.kept s).1.2.2.2.2.2.2.2.2.2.2.2.1 p).mpr h

theorem stage2_closed (h : P s) : P (stage2 s) := by
  have hstarted := hP.memory s (fun _ => startMemory s.cps.store) (fun _ _ => startMemory_wf _) h
  have hbegun : P { ((((s.modMem fun _ => startMemory s.cps.store).modOft fun _ => Oft.atReset).modMst
      fun _ => Mst.atStage2).modWpt fun _ => Wpt.atReset).modAtc fun _ => Atc.atReset with phase := .stage2 } := by
    have hempty := hP.oftMoved hstarted (f := fun _ => Oft.atReset) fun _ _ => Nat.zero_le _
    have hfree := hP.mstMoved hempty (f := fun _ => Mst.atStage2) fun _ _ => ⟨Nat.zero_le _, Nat.zero_le _⟩
    have hport := hP.wptMoved hfree (f := fun _ => Wpt.atReset) fun _ _ => ⟨Nat.zero_le _, Nat.zero_le _⟩
    exact phase_closed hP (hP.atcMoved hport fun _ _ => ring_reset)
  have hfault : ∀ t, P t → P (recordCalInvalid t) := fun t ht => by
    unfold recordCalInvalid
    split_ifs <;> simp [hP.kept, hP.derived, hP.shared, ht]
  unfold stage2
  exact hfault _ (((hP.kept _).1.2.1 _).mpr (((hP.kept _).1.1 _).mpr hbegun))

theorem stage3_closed (hrecovered : P (recoverMeter s) → P (recoverEmergency (recoverMeter s))) (h : P s) :
    P (stage3 s) := by
  have hreport : ∀ t, P t → P (reportRecovery t) := fun t ht => by
    unfold reportRecovery
    split <;> simp [hP.kept, hP.derived, hP.shared, ht]
  have hmeter : P (recoverMeter s) := hreport _ (by simp [hP.kept, hP.derived, hP.shared, h])
  have hcall := hrecovered hmeter
  have hheld : ∀ t, P t → P (if t.mtc.meter = .payment then startHold t else t) := fun t ht => by
    split_ifs <;> simp [hP.derived, ht]
  have hplaced := hP.dscMoved hcall
    (f := fun _ => { Dsc.atReset with status := derivedStatus (recoverEmergency (recoverMeter s)).mtc.meter })
    fun _ _ => ⟨Nat.zero_le _, Nat.zero_le _, Nat.zero_le _⟩
  exact phase_closed hP (hheld _ (((hP.kept _).1.1 _).mpr hplaced))

theorem stage4_closed (h : P s) : P (stage4 s) := by
  have hjudged : ∀ t, P t → P (judgeAddressAtStart t) := fun t ht => by
    unfold judgeAddressAtStart
    split_ifs <;> simp [hP.kept, hP.derived, hP.shared, ht]
  have hasked : ∀ t, P t → P (if s.emc.state = .alerting then askEmergency .alert t else t) := fun t ht => by
    split_ifs <;> simp [hP.shared, ht]
  have hemptied : P (s.modTxq fun _ => Txq.atReset) := by simp [hP.shared, h]
  have hbegun := hP.aleMoved hemptied (f := fun _ => { Ale.atReset with receiver := .hunting, rng := radioSeed s })
    fun _ _ => ⟨Nat.zero_le _, Nat.zero_le _, Nat.zero_le _, radioSeed_ne_zero s, Nat.zero_le _⟩
  exact phase_closed hP (hasked _ (hjudged _ hbegun))

theorem stage5_closed (h : P s) : P (stage5 s) := by
  simp [stage5, hP.kept, h]

theorem judgeAlarm_closed (h : P s) : P (judgeAlarm s) := by
  obtain ⟨-, -, hj⟩ | ⟨-, -, hj⟩ | ⟨-, hj⟩ := judgeAlarm_cases s <;> rw [hj] <;> simp [hP.kept, hP.derived, hP.shared, h]

/-- Every command keeps such a law; of the call that stage 3 recovers from the store the law's own proof speaks. -/
theorem effect_closed (c : Instr) (hrecovered : P (recoverMeter s) → P (recoverEmergency (recoverMeter s))) (h : P s) :
    P (effect c s) := by
  cases c with
  | setClock => exact takeRequest_closed hP (fun _ _ => ownSetClock_closed hP) h
  | meterKey => exact takeRequest_closed hP (fun _ _ => ownMeterKey_closed hP) h
  | addExtra => exact takeRequest_closed hP (fun _ _ => ownAddExtra_closed hP) h
  | selectTariff => exact takeRequest_closed hP (fun _ _ => ownSelectTariff_closed hP) h
  | shiftOpen => exact takeRequest_closed hP (fun _ _ => ownShiftOpen_closed hP) h
  | shiftClose => exact takeRequest_closed hP (fun _ _ => ownShiftClose_closed hP) h
  | releaseTrip => exact takeRequest_closed hP (fun _ _ => ownReleaseTrip_closed hP) h
  | setBreak | setAvailable | noShow => exact takeRequest_closed hP (fun _ _ => moveStatus_closed hP) h
  | acceptOffer => exact takeRequest_closed hP (fun _ _ => ownAcceptOffer_closed hP) h
  | declineOffer => exact takeRequest_closed hP (fun _ _ => ownDeclineOffer_closed hP) h
  | releaseOffer => exact takeRequest_closed hP (fun _ _ => ownReleaseOffer_closed hP) h
  | sendText => exact takeRequest_closed hP (fun _ _ => ownSendText_closed hP) h
  | reply => exact takeRequest_closed hP (fun _ _ => ownReply_closed hP) h
  | markRead => exact takeRequest_closed hP (fun _ _ => ownMarkRead_closed hP) h
  | deleteMsg => exact takeRequest_closed hP (fun _ _ => ownDeleteMsg_closed hP) h
  | emergencyRaise => exact takeRequest_closed hP (fun r t ht => by simp [ownEmergencyRaise, hP.shared, ht]) h
  | emergencyCancel => exact takeRequest_closed hP (fun _ _ => ownEmergencyCancel_closed hP) h
  | radioRestart => exact takeRequest_closed hP (fun _ _ => ownRadioRestart_closed hP) h
  | storeTariffs => exact takeRequest_closed hP (fun _ _ => ownStoreTariffs_closed hP) h
  | storeSettings => exact takeRequest_closed hP (fun _ _ => ownStoreSettings_closed hP) h
  | time f => exact receiveFrame_closed hP (fun _ _ => takeTime_closed hP) h
  | zoneInfo f => exact receiveFrame_closed hP (fun _ _ => takeZoneInfo_closed hP (Nat.le_of_lt_succ (bodyByte f.body 1).isLt)) h
  | poll f => exact receiveFrame_closed hP (fun _ t ht => by simp [takePoll, hP.kept, hP.shared, ht]) h
  | offer f => exact receiveFrame_closed hP (fun _ _ => takeOffer_closed hP) h
  | award f => exact receiveFrame_closed hP (fun _ _ => takeAward_closed hP) h
  | withdraw f => exact receiveFrame_closed hP (fun _ _ => takeWithdraw_closed hP) h
  | text f => exact receiveFrame_closed hP (fun _ _ ht => (hP.shared _ ht).1.2.2.2.2.2.2.1 _ _) h
  | emergencyAck f => exact receiveFrame_closed hP (fun _ _ => takeEmergencyAck_closed hP) h
  | emergencyClear f => exact receiveFrame_closed hP (fun _ _ => takeEmergencyClear_closed hP) h
  | cycleFrame f modemReady => exact receiveFrame_closed hP (fun _ _ => takeCycle_closed hP (parseCycle_number f.body)) h
  | meterSecondExpiry => exact iteInduction (fun _ => by simp [hP.kept, hP.derived, hP.shared, h]) fun _ => h
  | calendarSecondExpiry => exact iteInduction (fun _ => endCalendarSecond_closed hP h) fun _ => h
  | keyPress k => exact iteInduction (fun _ => pressKey_closed hP h) fun _ => h
  | alarmPress high => exact iteInduction (fun _ => judgeAlarm_closed hP (by simp [hP.kept, hP.derived, hP.shared, h])) fun _ => h
  | positionFixPost => exact iteInduction (fun _ => writeSlotHand_closed hP h) fun _ => h
  | requestPost r => exact iteInduction (fun _ => writeHand_closed hP h) fun _ => h
  | requestCancel r => exact iteInduction (fun _ => writeHand_closed hP h) fun _ => h
  | portReset => exact iteInduction (fun _ => resetPort_closed hP h) fun _ => h
  | doneWrite data => exact iteInduction (fun _ => writeDone_closed hP h) fun _ => h
  | resetNAssert => exact iteInduction (fun _ => h) fun _ => hP.cleared .held s
  | startUp => exact iteInduction (fun _ => by simp [stage1, hP.kept, hP.cleared]) fun _ => h
  | startupWindow => exact iteInduction (fun _ => stage2_closed hP h) fun _ => h
  | startupRecovery => exact iteInduction (fun _ => stage3_closed hP hrecovered h) fun _ => h
  | startupRadio => exact iteInduction (fun _ => stage4_closed hP h) fun _ => h
  | startupReady => exact iteInduction (fun _ => stage5_closed hP h) fun _ => h
  | storeWriteBegin => exact beginNextWrite_closed hP h
  | meterCommitComplete => exact finishMeterCommit_closed hP h
  | calibrationWriteComplete => exact (finishOtherWrite_closed hP h).1
  | tariffWriteComplete => exact (finishOtherWrite_closed hP h).2.1
  | settingsWriteComplete => exact (finishOtherWrite_closed hP h).2.2
  | storeWriteFailed => exact failCurrentWrite_closed hP h
  | offerWindowExpiry e => exact expireOffer_closed hP h
  | awardWaitExpiry e => exact expireAwardWait_closed hP h
  | updateTimerExpiry => exact expireUpdateTimer_closed hP h
  | slotStart => exact startSlot_closed hP h
  | transmissionEnd => exact finishTransmission_closed hP h
  | modemReadyFall => exact cutOff_closed hP (by simp [hP.kept, hP.derived, hP.shared, h])
  | txcStall => exact cutOff_closed hP h
  | fadeExpiry => exact fade_closed hP h
  | lossExpiry => exact loseLink_closed hP h
  | hostWindowWrite => exact hostWrite_closed hP h
  | unknownKind => exact takeUnknown_closed hP h
  | powerLoss => exact hP.cleared .off s
  | offerRemainingRewrite e => exact stepRemaining_closed hP h
  | pulseEdge => exact iteInduction (fun _ => by simp [hP.kept, hP.derived, hP.shared, h]) fun _ => h
  | paymentHoldExpiry => exact iteInduction (fun _ => h) fun _ => by simp [hP.kept, hP.derived, hP.shared, h]
  | rxFrameAbandon => exact iteInduction (fun _ => by simp [hP.derived, h]) fun _ => h
  | rxLengthFormatError length =>
    exact iteInduction (fun _ => countFormatError_closed hP (by simp [hP.derived, h])) fun _ => h
  | rxFrameDropped kind f =>
    refine iteInduction (fun _ => ?_) fun _ => h
    split
    exacts [h, dropFrame_closed hP h]
  | syncFound bits =>
    exact iteInduction (fun _ => iteInduction (fun _ => by simp [hP.kept, hP.derived, hP.shared, h]) fun _ => by simp [hP.kept, hP.derived, hP.shared, h]) fun _ => h
  | attendRead => exact readAttend_closed hP h
  | calRunStart a b => exact startRun_closed hP h
  | calPointerWrite b => exact setPointer_closed hP h
  | calDataWrite b e => exact takeDataByte_closed hP h
  | calDataRead a => exact readDataByte_closed hP h
  | calStop e => exact endRun_closed hP h
  | calBusIdleTimeout e => exact endRun_closed hP h

end

end Sys2Proof.Machine
end

section
/-! PROOF. Window memory stays canonical (O5). -/

namespace Sys2Proof.Machine

/-- The shared operations keep window memory canonical. -/
theorem memOk_opsKeep : OpsKeep State.MemOk where
  kept s := by
    simp [State.MemOk, updateOffer, updateInbox, updateTripRecord, setEmergency, startUpdateTimer, stopUpdateTimer,
      endTransmission]
  shared s h := by
    have hclosed : (closeTrip s).MemOk := h.of_eq (by simp)
    have hreset : (portResetQueue s).MemOk := by
      refine foldl_invariant State.MemOk _ (fun t f ht => ?_) _ _ (modFrames_memOk h)
      refine foldl_invariant State.MemOk _ (fun u l hu => ?_) _ _ ht
      split
      exacts [updateInbox_memOk hu, hu, hu, hu, hu, hu, hu, hu, hu]
    have hwrong : (countWrongCode s).MemOk := by
      unfold countWrongCode
      simp only
      split_ifs
      exacts [askEmergency_memOk h, h]
    exact ⟨⟨fun _ _ _ => answer_memOk h, fun _ _ _ _ => answerWork_memOk h, fun _ _ _ _ => writeAnswer_memOk h,
        fun _ _ => setHand_memOk h, fun _ _ => freeChain_memOk h, fun _ _ => storeDetails_memOk h, fun _ _ => takeText_memOk h,
        fun _ _ => recordFault_memOk h, h.of_eq (by simp), h.of_eq (by simp)⟩,
      ⟨fun _ _ => h, fun _ _ => h, fun _ _ => h, fun _ _ => h, fun _ _ => h, fun _ _ => h, fun _ _ => h, fun _ _ => h, fun _ => hwrong⟩,
      ⟨fun _ => joinQueue_memOk h, fun _ _ _ _ _ => joinQueue_memOk h, askLive_memOk h, fun _ => askStatusFrame_memOk h,
        fun _ => removeWaiting_memOk h, fun _ => modFrames_memOk h, fun _ => detachOrigin_memOk h,
        fun _ _ => queueRefuse_memOk h, fun _ _ => queueRefuseUnknown_memOk h, fun _ => queueTripFrame_memOk h,
        queueShiftFrame_memOk h, hreset, modTxq_memOk h⟩,
      ⟨fun _ _ _ _ => endBid_memOk h, fun _ _ => requestStatus_memOk h, fun _ _ => setStatus_memOk h,
        fun _ => meterChange_memOk h, hclosed⟩,
      ⟨fun _ => askEmergency_memOk h, returnToQuiet_memOk h, pressAlarm_memOk h, fun _ _ => failFrames_memOk h,
        fun _ => linkChange_memOk h, fun _ _ => takeCycleAcks_memOk h, fun _ _ => offerSlots_memOk h⟩⟩
  memory s g hg h := modMem_memOk h hg
  cleared p s := Memory.wf_nil

end Sys2Proof.Machine

open Sys2Proof Sys2Proof.Machine in
/-- Settles O5: the shared operations keep the canonical form, so every command does. -/
theorem memoryStaysCanonical : Obligations.MemoryStaysCanonical :=
  law_step (fun _ _ hs => hs) (fun _ hs => driveLines_memOk hs) fun c _ hs =>
    effect_closed memOk_opsKeep c (fun hcall => hcall.of_eq (by simp)) hs

end

section
/-! SUPPORT. The meter commits that the store and the write in progress hold, from which a start-up takes values back. -/

namespace Sys2Proof.Machine

/-- The meter commits that the store and the write in progress hold all have a property. -/
def CommitsOk (P : MeterCommit → Prop) (s : State) : Prop :=
  (∀ c, s.cps.store.meter = some c → P c) ∧ ∀ c, s.cps.writing.bind StoreJob.commit = some c → P c

theorem StoreJob.commit_eq_some {j : StoreJob} {c : MeterCommit} (h : j.commit = some c) :
    ∃ first due, j = .meter c first due := by
  cases j with
  | meter c' first due => exact ⟨first, due, by simpa [StoreJob.commit] using h⟩
  | _ => simp [StoreJob.commit] at h

/-- The write in progress carries a commit exactly when it is a meter write of it. -/
theorem writing_commit_iff (w : Option StoreJob) (P : MeterCommit → Prop) :
    (∀ c, w.bind StoreJob.commit = some c → P c) ↔ ∀ c first due, w = some (.meter c first due) → P c := by
  constructor
  · rintro h c first due rfl
    exact h c rfl
  · intro h c hc
    obtain ⟨j, rfl, hj⟩ := Option.bind_eq_some_iff.mp hc
    obtain ⟨first, due, rfl⟩ := StoreJob.commit_eq_some hj
    exact h c first due rfl

section
variable {P : MeterCommit → Prop} {s t : State}

theorem commitsOk_iff : CommitsOk P s ↔
    (∀ c, s.cps.store.meter = some c → P c) ∧ ∀ c first due, s.cps.writing = some (.meter c first due) → P c :=
  and_congr_right fun _ => writing_commit_iff _ P

theorem CommitsOk.of_eq (h : CommitsOk P s) (hstore : t.cps.store = s.cps.store)
    (hwriting : t.cps.writing.bind StoreJob.commit = s.cps.writing.bind StoreJob.commit) : CommitsOk P t := by
  unfold CommitsOk at h ⊢
  rwa [hstore, hwriting]

/-- A block outside the meter controller and the store leaves the commits. -/
theorem CommitsOk.of_block (h : CommitsOk P s) (hk : BlockKept s t) : CommitsOk P t := h.of_eq (by simp [hk]) (by simp [hk])

/-- The commands of the meter controller leave the commits, whatever reports they take back. -/
theorem CommitsOk.of_meter (h : CommitsOk P s) (hk : MeterKept s t) : CommitsOk P t := h.of_eq (by simp [hk]) (by simp [hk])

theorem CommitsOk.of_link (h : CommitsOk P s) (hk : LinkKept s t) : CommitsOk P t := h.of_eq (by simp [hk]) (by simp [hk])

theorem CommitsOk.of_port (h : CommitsOk P s) (hk : PortKept s t) : CommitsOk P t := h.of_eq (by simp [hk]) (by simp [hk])

/-- A write that begins carries the commit of that moment (R45). -/
theorem beginNextWrite_commitsOk (hnow : P (meterCommitNow s)) (h : CommitsOk P s) : CommitsOk P (beginNextWrite s) := by
  have hbegun : ∀ k, CommitsOk P (beginWrite k s) := fun k => by
    refine ⟨h.1, fun c hc => ?_⟩
    cases k <;> simp [beginWrite, storeJobNow, StoreJob.commit] at hc
    exact hc ▸ hnow
  unfold beginNextWrite
  split_ifs
  · split
    exacts [hbegun _, h]
  · exact h

/-- The end of a write leaves no write, and in the store what it held or what was written. -/
theorem endWrite_commitsOk {k : StoreKind} {change : Store → Store} (h : ∀ c, (change s.cps.store).meter = some c → P c) :
    CommitsOk P (endWrite k change s) :=
  ⟨by simpa [endWrite] using h, by simp [endWrite]⟩

theorem finishMeterCommit_commitsOk (h : CommitsOk P s) : CommitsOk P (finishMeterCommit s) := by
  unfold finishMeterCommit
  split
  next c first due hw =>
    have hc : P c := (commitsOk_iff.mp h).2 c first due hw
    have hended : CommitsOk P (endWrite .meter (fun st => { st with meter := some c }) s) :=
      endWrite_commitsOk (by simpa using hc)
    have hmirrors : CommitsOk P (rewriteMirrors c (endWrite .meter (fun st => { st with meter := some c }) s)) :=
      hended.of_eq (by simp [rewriteMirrors, groupRewrite]) (by simp [rewriteMirrors, groupRewrite])
    have htrips := foldl_invariant (CommitsOk P) (fun t e => reportCarriedTrip e t) (fun t e ht => by
      cases e with
      | none => exact ht.of_eq (by simp [reportCarriedTrip]) (by simp [reportCarriedTrip])
      | some e =>
        unfold reportCarriedTrip sendCarriedTrip
        simp only
        split_ifs <;> exact ht.of_eq (by simp) (by simp)) first _ hmirrors
    unfold completeMeterCommit reportCarriedShift
    simp only
    split_ifs
    exacts [htrips.of_eq (by simp) (by simp), htrips]
  next => exact h

theorem answerTariffs_commitsOk {x} (h : CommitsOk P s) : CommitsOk P (answerTariffs x s) := by
  unfold answerTariffs
  split
  exacts [h.of_eq (by simp) (by simp), h]

theorem answerSettings_commitsOk {x} (h : CommitsOk P s) : CommitsOk P (answerSettings x s) := by
  unfold answerSettings
  split
  exacts [h.of_eq (by simp) (by simp), h]

theorem finishOtherWrite_commitsOk (h : CommitsOk P s) :
    CommitsOk P (finishCalibrationWrite s) ∧ CommitsOk P (finishTariffWrite s) ∧ CommitsOk P (finishSettingsWrite s) := by
  unfold finishCalibrationWrite finishTariffWrite finishSettingsWrite
  refine ⟨?_, ?_, ?_⟩ <;> split
  exacts [endWrite_commitsOk h.1, h, answerTariffs_commitsOk (endWrite_commitsOk h.1), h,
    answerSettings_commitsOk (endWrite_commitsOk h.1), h]

theorem failCurrentWrite_commitsOk (h : CommitsOk P s) : CommitsOk P (failCurrentWrite s) := by
  have hended : ∀ k : StoreKind, CommitsOk P (recordFault .writeFailed k.code (endWrite k id s)) := fun k =>
    (endWrite_commitsOk (k := k) (change := id) h.1).of_eq (by simp) (by simp)
  have requested : ∀ {t : State} (k : StoreKind), CommitsOk P t → CommitsOk P (requestWrite k t) := fun k ht =>
    ht.of_eq (by simp) (by simp)
  unfold failCurrentWrite failWrite afterFailure
  split
  · split
    exacts [requested _ (hended _), requested _ (hended _), answerTariffs_commitsOk (hended _),
      answerSettings_commitsOk (hended _)]
  · exact h

theorem volatileCleared_commitsOk (p : Phase) (h : CommitsOk P s) : CommitsOk P (volatileCleared p s) :=
  ⟨by simpa using h.1, by simp [volatileCleared, Cps.atReset]⟩

end

/-- The parts that a write of the store leaves when it begins or ends. -/
@[simp] abbrev WriteKept (s t : State) : Prop :=
  (t.phase = s.phase ∧ t.pending = s.pending ∧ t.frc = s.frc ∧ t.emc = s.emc ∧ t.ale = s.ale ∧ t.pins = s.pins ∧
    t.choices = s.choices ∧ t.wpt.posted = s.wpt.posted ∧ t.wpt.droppedWrites = s.wpt.droppedWrites ∧
    t.wpt.illegalHands = s.wpt.illegalHands ∧ t.txq.stray = s.txq.stray) ∧
  (t.mtc.meter = s.mtc.meter ∧ t.mtc.trip = s.mtc.trip ∧ t.mtc.holdTimer = s.mtc.holdTimer ∧
    t.mtc.holdEnded = s.mtc.holdEnded ∧ t.mtc.ageOrder = s.mtc.ageOrder) ∧
  (t.mtc.totals.shiftOpen = s.mtc.totals.shiftOpen ∧ t.mtc.totals.driver = s.mtc.totals.driver ∧
    t.mtc.totals.openTime = s.mtc.totals.openTime ∧ t.mtc.totals.shift = s.mtc.totals.shift ∧
    t.mtc.totals.lastDriver = s.mtc.totals.lastDriver ∧ t.mtc.totals.lastOpenTime = s.mtc.totals.lastOpenTime ∧
    t.mtc.totals.lastCloseTime = s.mtc.totals.lastCloseTime ∧ t.mtc.totals.last = s.mtc.totals.last ∧
    t.mtc.totals.lifetime = s.mtc.totals.lifetime ∧ t.mtc.totals.shifts = s.mtc.totals.shifts ∧
    t.mtc.totals.metresBase = s.mtc.totals.metresBase) ∧
  (t.dsc.zone = s.dsc.zone ∧ t.dsc.zoneKnown = s.dsc.zoneKnown ∧ t.dsc.lastFix = s.dsc.lastFix ∧
    t.dsc.fixRejected = s.dsc.fixRejected ∧ t.dsc.pollReference = s.dsc.pollReference ∧
    t.dsc.heldReason = s.dsc.heldReason ∧ t.dsc.queuePosition = s.dsc.queuePosition ∧
    t.dsc.upSeen = s.dsc.upSeen ∧ t.oft.missed = s.oft.missed ∧ t.oft.assignment = s.oft.assignment) ∧
  (t.mst.storeOrder = s.mst.storeOrder ∧ t.mst.freeHead = s.mst.freeHead ∧ t.mst.freeCount = s.mst.freeCount ∧
    t.mst.refused = s.mst.refused ∧ t.mst.lostUnread = s.mst.lostUnread) ∧
  (t.cps.bank = s.cps.bank ∧ t.cps.failed = s.cps.failed ∧ t.cps.pointer = s.cps.pointer ∧ t.cps.run = s.cps.run)

theorem WriteKept.trans {s t u : State} (h : WriteKept s t) (h' : WriteKept t u) : WriteKept s u := by simp_all

@[simp] theorem endWrite_cps (s : State) (k : StoreKind) (change : Store → Store) :
    (endWrite k change s).cps =
      { s.cps with writing := none, lastWasCommit := k == .meter, store := change s.cps.store } := rfl

section
variable (s : State)

@[simp] theorem beginNextWrite_write : WriteKept s (beginNextWrite s) := by
  unfold beginNextWrite
  split_ifs
  · split <;> simp [beginWrite, removeWrite]
  · simp

@[simp] theorem reportCarriedTrip_write (x : Option (Fin 24)) : WriteKept s (reportCarriedTrip x s) := by
  cases x with
  | none => simp [reportCarriedTrip]
  | some t =>
    unfold reportCarriedTrip sendCarriedTrip
    simp only
    split_ifs <;> simp

@[simp] theorem finishMeterCommit_write : WriteKept s (finishMeterCommit s) := by
  have hcompleted : ∀ c first due, WriteKept s (completeMeterCommit c first due s) := fun c first due => by
    have htrips : WriteKept s (first.foldl (fun t e => reportCarriedTrip e t)
        (rewriteMirrors c (endWrite .meter (fun st => { st with meter := some c }) s))) :=
      foldl_invariant (WriteKept s) _ (fun t e ht => ht.trans (reportCarriedTrip_write t e)) first _
        (by simp [rewriteMirrors, groupRewrite])
    unfold completeMeterCommit reportCarriedShift
    simp only
    split_ifs
    exacts [htrips.trans (by simp), htrips]
  unfold finishMeterCommit
  split
  exacts [hcompleted .., by simp]

@[simp] theorem answerTariffs_write (x : Result) : WriteKept s (answerTariffs x s) := by
  unfold answerTariffs
  split <;> simp

@[simp] theorem answerSettings_write (x : Result) : WriteKept s (answerSettings x s) := by
  unfold answerSettings
  split <;> simp

@[simp] theorem finishCalibrationWrite_write : WriteKept s (finishCalibrationWrite s) := by
  unfold finishCalibrationWrite
  split <;> simp

@[simp] theorem finishTariffWrite_write : WriteKept s (finishTariffWrite s) := by
  unfold finishTariffWrite
  split <;> simp

@[simp] theorem finishSettingsWrite_write : WriteKept s (finishSettingsWrite s) := by
  unfold finishSettingsWrite
  split <;> simp

@[simp] theorem failCurrentWrite_write : WriteKept s (failCurrentWrite s) := by
  unfold failCurrentWrite failWrite afterFailure
  split
  · split <;> simp
  · simp

end

/-- Which commands act in the fare computer, the meter controller, the store or the start-up. -/
def actsOnMeter : Instr → Bool
  | .pulseEdge | .meterSecondExpiry | .calendarSecondExpiry | .setClock | .time _ | .keyPress _ | .meterKey | .addExtra
  | .selectTariff | .paymentHoldExpiry | .shiftOpen | .shiftClose | .releaseTrip => true
  | _ => false

/-- Which commands act in the store or the start-up. -/
def actsOnStore : Instr → Bool
  | .storeWriteBegin | .meterCommitComplete | .calibrationWriteComplete | .tariffWriteComplete | .settingsWriteComplete
  | .storeWriteFailed | .powerLoss | .resetNAssert | .startUp | .startupWindow | .startupRecovery | .startupRadio
  | .startupReady => true
  | _ => false

/-- Which commands act on the calibration port. -/
def actsOnPort : Instr → Bool
  | .calRunStart .. | .calPointerWrite _ | .calDataWrite .. | .calDataRead _ | .calStop _ | .calBusIdleTimeout _ => true
  | _ => false

/-- The calibration port leaves the parts of the other blocks. -/
theorem effect_portKept {c : Instr} (hc : actsOnPort c = true) (s : State) : PortKept s (effect c s) := by
  cases c <;> simp [actsOnPort] at hc <;> simp [effect]

/-- A command outside the fare computer, the meter controller, the store, the start-up and the calibration port leaves their
parts. -/
theorem effect_blockKept {c : Instr} (hm : actsOnMeter c = false) (hs : actsOnStore c = false) (hp : actsOnPort c = false)
    (s : State) : BlockKept s (effect c s) := by
  have hrequest : ∀ k owner, (∀ r t, BlockKept t (owner r t)) → BlockKept s (takeRequest k owner s) :=
    fun k owner h => takeRequest_block h k s
  have hframe : ∀ kind f deliver, (∀ how t, BlockKept t (deliver how t)) →
      BlockKept s (receiveFrame kind f deliver s) := fun kind f deliver h => receiveFrame_block h kind f s
  cases c with
  | setBreak | setAvailable | noShow | acceptOffer | declineOffer | releaseOffer | sendText | reply | markRead | deleteMsg
  | emergencyRaise | emergencyCancel | radioRestart | storeTariffs | storeSettings =>
    exact hrequest _ _ fun r t => by simp [ownSetBreak, ownSetAvailable, ownNoShow]
  | zoneInfo f | poll f | offer f | award f | withdraw f | text f | emergencyAck f | emergencyClear f
  | cycleFrame f modemReady =>
    exact hframe _ f _ fun how t => by simp
  | alarmPress | positionFixPost | requestPost | requestCancel | portReset | doneWrite =>
    simp only [effect]
    split_ifs <;> simp
  | offerWindowExpiry | awardWaitExpiry | updateTimerExpiry | rxFrameAbandon | slotStart | transmissionEnd | modemReadyFall
  | txcStall | fadeExpiry | lossExpiry | hostWindowWrite | unknownKind | attendRead | syncFound | rxLengthFormatError
  | rxFrameDropped | offerRemainingRewrite =>
    simp [effect]
  | _ => simp [actsOnMeter, actsOnStore, actsOnPort] at hm hs hp

/-- No command puts a commit into the store, or into the write in progress, but one that was there or the one of that
moment. -/
theorem effect_commitsOk {P : MeterCommit → Prop} (c : Instr) {s : State} (hnow : P (meterCommitNow s)) (h : CommitsOk P s) :
    CommitsOk P (effect c s) := by
  have hrequest : ∀ k owner, (∀ r t, MeterKept t (owner r t)) → CommitsOk P (takeRequest k owner s) := fun k owner ho =>
    takeRequest_law h fun r rest _ _ => serveRequest_law (h.of_eq (by simp) (by simp))
      ((CommitsOk.of_eq (t := leaveList rest s) h (by simp) (by simp)).of_meter (ho _ _))
  cases c with
  | setClock => exact hrequest _ _ fun r t => by simp
  | meterKey => exact hrequest _ _ fun r t => by simp
  | addExtra => exact hrequest _ _ fun r t => by simp
  | selectTariff => exact hrequest _ _ fun r t => by simp
  | shiftOpen => exact hrequest _ _ fun r t => by simp
  | shiftClose => exact hrequest _ _ fun r t => by simp
  | releaseTrip => exact hrequest _ _ fun r t => by simp
  | time f =>
    refine receiveFrame_law h (fun _ fate => h.of_eq (by simp) (by simp)) fun _ how _ => ?_
    unfold takeTime
    split_ifs <;> exact h.of_eq (by simp [countFormatError]) (by simp [countFormatError])
  | pulseEdge => exact h.of_meter (countPulse_kept s)
  | meterSecondExpiry => exact iteInduction (fun _ => h.of_eq (by simp) (by simp)) fun _ => h
  | calendarSecondExpiry => exact iteInduction (fun _ => h.of_meter (endCalendarSecond_kept s)) fun _ => h
  | keyPress k => exact iteInduction (fun _ => h.of_meter (pressKey_kept s k false)) fun _ => h
  | paymentHoldExpiry => exact h.of_meter (endHold_kept s)
  | storeWriteBegin => exact beginNextWrite_commitsOk hnow h
  | meterCommitComplete => exact finishMeterCommit_commitsOk h
  | calibrationWriteComplete => exact (finishOtherWrite_commitsOk h).1
  | tariffWriteComplete => exact (finishOtherWrite_commitsOk h).2.1
  | settingsWriteComplete => exact (finishOtherWrite_commitsOk h).2.2
  | storeWriteFailed => exact failCurrentWrite_commitsOk h
  | powerLoss => exact volatileCleared_commitsOk .off h
  | resetNAssert => exact iteInduction (fun _ => h) fun _ => volatileCleared_commitsOk .held h
  | startUp => exact iteInduction (fun _ => (volatileCleared_commitsOk .stage1 h).of_eq rfl rfl) fun _ => h
  | startupWindow => exact iteInduction (fun _ => h.of_eq (by simp [stage2]) (by simp [stage2])) fun _ => h
  | startupRecovery => exact iteInduction (fun _ => h.of_eq (by simp) (by simp)) fun _ => h
  | startupRadio =>
    refine iteInduction (fun _ => ?_) fun _ => h
    unfold stage4
    simp only
    split_ifs <;> exact h.of_eq (by simp) (by simp)
  | startupReady => exact iteInduction (fun _ => h.of_eq (by simp) (by simp)) fun _ => h
  | calRunStart | calPointerWrite | calDataWrite | calDataRead | calStop | calBusIdleTimeout =>
    exact h.of_port (effect_portKept rfl s)
  | _ => exact h.of_block (effect_blockKept rfl rfl rfl s)

end Sys2Proof.Machine
end

section
/-! PROOF. The fare stays within its limit (O6). -/

namespace Sys2Proof.Machine

/-- The hire's rates, accumulator and fare, which no assignment of pulses and no count of a second changes. -/
@[simp] abbrev ChargeKept (h h' : Hire) : Prop :=
  h'.tariff = h.tariff ∧ h'.accumulator = h.accumulator ∧ h'.dropCount = h.dropCount ∧ h'.fare = h.fare ∧
  h'.switchCount = h.switchCount ∧ h'.startingTariff = h.startingTariff ∧ h'.fareLimit = h.fareLimit

section
variable (s : State)

@[simp] theorem discardExcess_charge : ChargeKept s.frc.hire (discardExcess s).frc.hire := by
  unfold discardExcess
  simp only
  split_ifs <;> simp

@[simp] theorem assignPulses_charge (n : Nat) : ChargeKept s.frc.hire (assignPulses n s).frc.hire := by
  unfold assignPulses
  split <;> simp

@[simp] theorem countSecond_charge : ChargeKept s.frc.hire (countSecond s).frc.hire := by
  unfold countSecond
  split <;> simp

@[simp] theorem closePulses_charge : ChargeKept s.frc.hire (closePulses s).frc.hire := by simp [closePulses]

end

/-- The fare group is taken from the window's tariffs, the fare computer, the meter controller and the bank. -/
theorem fareGroupNow_congr {s t : State} (hmem : t.mem = s.mem) (hfrc : t.frc = s.frc) (hmtc : t.mtc = s.mtc)
    (hcps : t.cps = s.cps) : fareGroupNow t = fareGroupNow s := by
  obtain ⟨⟩ := s
  obtain ⟨⟩ := t
  subst hmem hfrc hmtc hcps
  rfl

section
variable (s : State)

@[simp] theorem rewriteFareGroup_frc : (rewriteFareGroup s).frc = { s.frc with fareGroup := fareGroupNow s } := by
  have h : fareGroupNow (beginRewrite s) = fareGroupNow s := fareGroupNow_congr (by simp) (by simp) (by simp) (by simp)
  simp [rewriteFareGroup, groupRewrite, h]

@[simp] theorem meterChange_charge (x : MeterState) : ChargeKept s.frc.hire (meterChange x s).frc.hire := by
  simp [meterChange]

end

/-- The fare plus the extras is within the limit. -/
def FareNow (s : State) : Prop := s.frc.hire.fare + s.mtc.trip.extrasSum ≤ 999999

section
variable {s t : State}

theorem FareNow.of_eq (h : FareNow s) (hfare : t.frc.hire.fare = s.frc.hire.fare)
    (hextras : t.mtc.trip.extrasSum = s.mtc.trip.extrasSum) : FareNow t := by
  unfold FareNow at h ⊢
  rwa [hfare, hextras]

/-- Drops within the headroom keep the fare within the limit. -/
theorem takeDrops_fareNow {n : Nat} {a : Int} (h : FareNow s) (hn : n * s.frc.hire.tariff.dropValue ≤ headroom s) :
    FareNow (takeDrops n a s) := by
  unfold FareNow headroom fareLimit extrasSum at *
  simp only [takeDrops, modHire_frc, modHire_mtc]
  omega

theorem settle_fareNow (h : FareNow s) : FareNow (settle s) := by
  unfold settle
  simp only
  split_ifs with hnone hall hnone'
  · exact h
  · simpa [FareNow] using takeDrops_fareNow h hall
  all_goals simpa [FareNow] using takeDrops_fareNow h (Nat.div_mul_le_self _ _)

theorem chargeExpiry_fareNow {n : Nat} (h : FareNow s) : FareNow (chargeExpiry n s) := by
  unfold chargeExpiry chargeSecond
  split_ifs
  exacts [h, settle_fareNow h, h]

theorem endMeterSecond_fareNow (h : FareNow s) : FareNow (endMeterSecond s) := by
  have hcounted : FareNow (countSecond (closePulses s)) := h.of_eq (by simp) (by simp)
  have hcharged : ∀ t, FareNow t → ∀ n, FareNow (if (chargeExpiry n t).mtc.meter.tripOpen then
      rewriteFareGroup (chargeExpiry n t) else chargeExpiry n t) := fun t ht n => by
    have hcharge : FareNow (chargeExpiry n t) := chargeExpiry_fareNow ht
    split_ifs
    · simpa [FareNow] using hcharge
    · exact hcharge
  unfold endMeterSecond
  refine hcharged _ ?_ _
  split_ifs
  · simpa [FareNow] using hcounted
  · exact hcounted

theorem settleSwitch_fareNow (h : FareNow s) : FareNow (settleSwitch s) := by
  unfold settleSwitch
  split_ifs
  exacts [h, settle_fareNow h]

theorem changeSchedule_fareNow {n : Nat} (h : FareNow s) : FareNow (changeSchedule n s) := by
  have hswitch : ∀ t, FareNow t → FareNow (switchTariff n t) := fun t ht => by
    have hsettled : FareNow (settleSwitch (replaceRates (windowTariff t n) t)) := settleSwitch_fareNow ht
    unfold switchTariff
    split_ifs
    exacts [ht, hsettled.of_eq (by simp) (by simp), ht.of_eq (by simp) (by simp)]
  unfold changeSchedule
  split <;> (try split_ifs)
  exacts [hswitch _ h, h, hswitch _ h, h, h.of_eq (by simp) (by simp), h, h.of_eq (by simp) (by simp), h, h]

theorem evaluateSchedule_fareNow (h : FareNow s) : FareNow (evaluateSchedule s) := by
  unfold evaluateSchedule
  split_ifs
  exacts [h, changeSchedule_fareNow h]

theorem rewriteClockAndEvaluate_fareNow {change : Frc → Frc} (hchange : ∀ f, (change f).hire = f.hire) (h : FareNow s) :
    FareNow (rewriteClockAndEvaluate change s) := by
  have hbegun : FareNow ((beginRewrite s).modFrc change) := h.of_eq (by simp [hchange]) (by simp)
  unfold rewriteClockAndEvaluate
  simp only
  split_ifs
  · exact (evaluateSchedule_fareNow hbegun).of_eq (by simp) (by simp)
  · exact evaluateSchedule_fareNow (hbegun.of_eq (by simp) (by simp))

theorem setClockTo_fareNow {x : Stamp} (h : FareNow s) : FareNow (setClockTo x s) :=
  rewriteClockAndEvaluate_fareNow (fun _ => rfl) h

theorem endCalendarSecond_fareNow (h : FareNow s) : FareNow (endCalendarSecond s) := by
  have hevaluated : FareNow (rewriteClockAndEvaluate Frc.tick s) := rewriteClockAndEvaluate_fareNow (fun _ => rfl) h
  unfold endCalendarSecond
  split
  · simp only
    split_ifs
    · simpa [FareNow] using hevaluated
    · exact hevaluated
  · exact h.of_eq (by simp [groupRewrite]) (by simp [groupRewrite])

/-- A valid tariff's flag fall is within the limit (R7). -/
theorem Tariff.flagFare_le {t : Tariff} (h : t.valid = true) : t.flagFare ≤ 99999 := by
  simp only [Tariff.valid, Bool.and_eq_true, decide_eq_true_eq] at h
  omega

/-- A hire under a valid tariff starts within the limit, its extras being 0 (R10, R29). -/
theorem startHire_fareNow {n : Nat} (h : (windowTariff s n).valid = true) : FareNow (openTrip (startHire n s)) := by
  have := Tariff.flagFare_le h
  simp [FareNow, openTrip, startHire, Trip.zero]
  omega

theorem windowTariff_congr (h : t.mem = s.mem) (n : Nat) : windowTariff t n = windowTariff s n := by
  simp [windowTariff, h]

/-- An extra is taken within the fare limit alone (R33). -/
theorem pressExtra_fareNow {i : Fin 8} (h : FareNow s) : FareNow (pressExtra i s).2 := by
  unfold pressExtra
  split_ifs with hopen hrefused
  · exact h
  · have hwithin : ¬fareLimit < s.frc.hire.fare + extrasSum s + extraValue s i.val := fun hover =>
      hrefused (by simp [extraRefused, hover])
    simp only [fareLimit, extrasSum] at hwithin
    simp [FareNow, takeExtra]
    omega
  · exact h

theorem pressHire_fareNow {request : Bool} (h : FareNow s) : FareNow (pressHire request s).2 := by
  have hchosen : FareNow (chooseTariff s).1 := by
    unfold chooseTariff
    split
    exacts [h, evaluateSchedule_fareNow h]
  have hstarted : ∀ t n, (windowTariff t n).valid = true → FareNow (meterChange .hired (openTrip (startHire n t))) :=
    fun t n ht => (startHire_fareNow ht).of_eq (by simp) (by simp [meterChange])
  have hclosed : ∀ n, windowTariff (stopHold (closeTrip (chooseTariff s).1)) n = windowTariff (chooseTariff s).1 n :=
    windowTariff_congr (by simp [stopHold])
  have hrefused : ∀ n, FareNow (if request then (chooseTariff s).1 else recordFault .tariffInvalid n (chooseTariff s).1) :=
    fun n => by split_ifs <;> simpa [FareNow] using hchosen
  unfold pressHire
  split
  case h_1 hm =>
    simp only [hm, reduceCtorEq, if_false]
    split
    next hvalid => exact hstarted _ _ hvalid
    next => exact hrefused _
  case h_2 hm =>
    simp only [if_true]
    split
    next hvalid => exact hstarted _ _ ((hclosed _).symm ▸ hvalid)
    next => exact hrefused _
  all_goals exact h

theorem pressKey_fareNow {k : MeterKey} {request : Bool} (h : FareNow s) : FareNow (pressKey k request s).2 := by
  cases k with
  | hire => exact pressHire_fareNow h
  | stop =>
    change FareNow (pressStop s).2
    unfold pressStop
    split <;> simpa [FareNow, meterChange] using h
  | pay =>
    change FareNow (pressPay s).2
    unfold pressPay
    split <;> simpa [FareNow, startHold, meterChange] using h
  | clear =>
    change FareNow (pressClear s).2
    unfold pressClear
    split <;> (try split_ifs) <;> simpa [FareNow, stopHold, meterChange] using h
  | extra => exact pressExtra_fareNow h

theorem ownMeterKey_fareNow {r : Fin 16} (h : FareNow s) : FareNow (ownMeterKey r s) := by
  unfold ownMeterKey answerKey
  split_ifs
  · split
    · simpa [FareNow] using pressKey_fareNow h
    · simpa [FareNow] using h
  · simpa [FareNow] using h

theorem ownAddExtra_fareNow {r : Fin 16} (h : FareNow s) : FareNow (ownAddExtra r s) := by
  unfold ownAddExtra answerExtra
  split
  · split
    · simpa [FareNow] using pressExtra_fareNow h
    · simpa [FareNow] using h
  · simpa [FareNow] using h

theorem ownSelectTariff_fareNow {r : Fin 16} (h : FareNow s) : FareNow (ownSelectTariff r s) := by
  have hset : FareNow (setOverride (param8 s r 8) s) := by
    unfold setOverride
    simp only
    split_ifs <;> simpa [FareNow] using h
  unfold ownSelectTariff
  split_ifs
  · simpa [FareNow] using h
  · simpa [FareNow] using hset
  all_goals simpa [FareNow] using h

theorem ownShiftOpen_fareNow {r : Fin 16} (h : FareNow s) : FareNow (ownShiftOpen r s) := by
  unfold ownShiftOpen
  split_ifs <;> simpa [FareNow, openShift, meterChange] using h

theorem ownShiftClose_fareNow {r : Fin 16} (h : FareNow s) : FareNow (ownShiftClose r s) := by
  have hdetached : ∀ t : State, (detachLastShift t).frc = t.frc ∧ (detachLastShift t).mtc = t.mtc := fun t => by
    unfold detachLastShift
    split_ifs <;> simp
  unfold ownShiftClose
  split_ifs <;> simpa [FareNow, closeShift, meterChange, hdetached] using h

theorem ownReleaseTrip_fareNow {r : Fin 16} (h : FareNow s) : FareNow (ownReleaseTrip r s) := by
  unfold ownReleaseTrip
  split_ifs <;> simpa [FareNow, updateTripRecord] using h

theorem ownSetClock_fareNow {r : Fin 16} (h : FareNow s) : FareNow (ownSetClock r s) := by
  unfold ownSetClock
  split_ifs
  · simpa [FareNow] using setClockTo_fareNow h
  · simpa [FareNow] using h

theorem takeTime_fareNow {x : Stamp} (h : FareNow s) : FareNow (takeTime x s) := by
  unfold takeTime
  split_ifs
  · simpa [FareNow] using setClockTo_fareNow h
  · simpa [FareNow, countFormatError] using h
  · exact h

/-- Stage 3 takes the fare back from a checkpoint within the limit, or starts at 0 (R15, R46). -/
theorem stage3_fareNow (h : CommitsOk (fun c => c.checkpoint.withinLimit) s) : FareNow (stage3 s) := by
  have hfrc : (stage3 s).frc.hire = recoveredHire s := by
    unfold stage3
    simp only
    split_ifs <;> simp [recoverMeter, startHold]
  have htrip : (stage3 s).mtc.trip = recoveredTrip s := by
    unfold stage3
    simp only
    split_ifs <;> simp [recoverMeter, startHold]
  unfold FareNow
  rw [hfrc, htrip]
  unfold recoveredHire recoveredTrip
  split
  next c hfailed hc =>
    have hc' : c.withinLimit := by
      unfold openTripCheckpoint at hc
      split at hc
      · split_ifs at hc
        obtain rfl := Option.some.inj hc
        exact h.1 _ (by assumption)
      · cases hc
    simpa [hfailed, hc, Checkpoint.withinLimit] using hc'
  next hnone =>
    simp [Hire.zero, Trip.zero]

end

/-- The law of R13 is that of the fare and extras now, and of the commits held. -/
theorem fareLaw_iff (s : State) : FareLaw s ↔ FareNow s ∧ CommitsOk (fun c => c.checkpoint.withinLimit) s := by
  rw [commitsOk_iff]
  rfl

theorem FareNow.of_write {s t : State} (h : FareNow s) (hk : WriteKept s t) : FareNow t := h.of_eq (by simp [hk]) (by simp [hk])

theorem FareNow.of_block {s t : State} (h : FareNow s) (hk : BlockKept s t) : FareNow t := h.of_eq (by simp [hk]) (by simp [hk])

theorem FareNow.of_port {s t : State} (h : FareNow s) (hk : PortKept s t) : FareNow t := h.of_eq (by simp [hk]) (by simp [hk])

/-- A part without power, or held in reset, has no fare. -/
theorem volatileCleared_fareNow (p : Phase) (s : State) : FareNow (volatileCleared p s) :=
  Nat.zero_le _

theorem effect_fareNow (c : Instr) {s : State} (h : FareNow s) (hcommits : CommitsOk (fun c => c.checkpoint.withinLimit) s) :
    FareNow (effect c s) := by
  have hrequest : ∀ k owner, (∀ r t, FareNow t → FareNow (owner r t)) → FareNow (takeRequest k owner s) := fun k owner ho =>
    takeRequest_law h fun r rest _ _ => serveRequest_law (h.of_eq (by simp) (by simp)) (ho _ _ (h.of_eq (by simp) (by simp)))
  cases c with
  | setClock => exact hrequest _ _ fun _ _ => ownSetClock_fareNow
  | meterKey => exact hrequest _ _ fun _ _ => ownMeterKey_fareNow
  | addExtra => exact hrequest _ _ fun _ _ => ownAddExtra_fareNow
  | selectTariff => exact hrequest _ _ fun _ _ => ownSelectTariff_fareNow
  | shiftOpen => exact hrequest _ _ fun _ _ => ownShiftOpen_fareNow
  | shiftClose => exact hrequest _ _ fun _ _ => ownShiftClose_fareNow
  | releaseTrip => exact hrequest _ _ fun _ _ => ownReleaseTrip_fareNow
  | time f =>
    exact receiveFrame_law h (fun _ fate => h.of_eq (by simp) (by simp)) fun _ how _ =>
      takeTime_fareNow (h.of_eq (by simp) (by simp))
  | pulseEdge => exact iteInduction (fun _ => h) fun _ => h
  | meterSecondExpiry => exact iteInduction (fun _ => endMeterSecond_fareNow h) fun _ => h
  | calendarSecondExpiry => exact iteInduction (fun _ => endCalendarSecond_fareNow h) fun _ => h
  | keyPress k => exact iteInduction (fun _ => pressKey_fareNow h) fun _ => h
  | paymentHoldExpiry => exact iteInduction (fun _ => h) fun _ => h
  | storeWriteBegin => exact h.of_write (beginNextWrite_write s)
  | meterCommitComplete => exact h.of_write (finishMeterCommit_write s)
  | calibrationWriteComplete => exact h.of_write (finishCalibrationWrite_write s)
  | tariffWriteComplete => exact h.of_write (finishTariffWrite_write s)
  | settingsWriteComplete => exact h.of_write (finishSettingsWrite_write s)
  | storeWriteFailed => exact h.of_write (failCurrentWrite_write s)
  | powerLoss => exact volatileCleared_fareNow .off s
  | resetNAssert => exact iteInduction (fun _ => h) fun _ => volatileCleared_fareNow .held s
  | startUp => exact iteInduction (fun _ => volatileCleared_fareNow .stage1 s) fun _ => h
  | startupWindow => exact iteInduction (fun _ => h.of_eq (by simp [stage2]) (by simp [stage2])) fun _ => h
  | startupRecovery => exact iteInduction (fun _ => stage3_fareNow hcommits) fun _ => h
  | startupRadio =>
    refine iteInduction (fun _ => ?_) fun _ => h
    unfold stage4
    simp only
    split_ifs <;> exact h.of_eq (by simp) (by simp)
  | startupReady => exact iteInduction (fun _ => h.of_eq (by simp) (by simp)) fun _ => h
  | calRunStart | calPointerWrite | calDataWrite | calDataRead | calStop | calBusIdleTimeout =>
    exact h.of_port (effect_portKept rfl s)
  | _ => exact h.of_block (effect_blockKept rfl rfl rfl s)

end Sys2Proof.Machine

open Sys2Proof Sys2Proof.Machine in
/-- Settles O6. -/
theorem fareStaysWithinLimit : Obligations.FareStaysWithinLimit := by
  refine law_step (fun _ _ hs => hs) (fun s hs => ?_) fun c s hs => ?_
  · simpa [FareLaw] using hs
  · rw [fareLaw_iff] at hs ⊢
    exact ⟨effect_fareNow c hs.1 hs.2, effect_commitsOk c hs.1 hs.2⟩

end

section
/-! PROOF. The law of the transmit queue (O7): what the moves of a list of frames keep, and from it what each command keeps. -/

namespace Sys2Proof.Machine

/-! Lists of frames. -/

/-- The law of R144 as a law of the list of frames, without the counts that follow from the others. -/
structure FramesOk (fs : List Frame) : Prop where
  length : fs.length ≤ 16
  sorted : fs.Pairwise fun f g => f.cls ≤ g.cls
  classZero : fs.countP (fun f => f.cls == 0) ≤ 1
  status : fs.countP (fun f => f.kind == .status && !f.inFlight) ≤ 1
  pollReply : fs.countP (fun f => f.kind == .pollReply && !f.inFlight) ≤ 1
  otherInFlight : fs.countP (fun f => f.inFlight && f.cls != 0) ≤ 1

/-- A frame of kind EMERGENCY is of class 0. -/
theorem cls_of_emergency {f : Frame} (h : f.kind = .emergency) : f.cls = 0 := by simp [Frame.cls, h, UplinkKind.cls]

/-- The frames IN_FLIGHT are those of class 0 and those of the others. -/
theorem countP_inFlight_le (fs : List Frame) :
    fs.countP (fun f => f.inFlight) ≤ fs.countP (fun f => f.cls == 0) + fs.countP (fun f => f.inFlight && f.cls != 0) := by
  induction fs with
  | nil => simp
  | cons f fs ih => cases hf : f.inFlight <;> by_cases hc : f.cls = 0 <;> simp [hf, hc] <;> omega

theorem queueLaw_iff (s : State) : QueueLaw s ↔ FramesOk s.txq.frames := by
  constructor
  · rintro ⟨hlength, hsorted, hzero, hstatus, hpoll, -, -, hother⟩
    exact ⟨hlength, hsorted, hzero, hstatus, hpoll, hother⟩
  · rintro ⟨hlength, hsorted, hzero, hstatus, hpoll, hother⟩
    refine ⟨hlength, hsorted, hzero, hstatus, hpoll, ?_, ?_, hother⟩
    · refine (List.countP_mono_left fun f _ hf => ?_).trans hzero
      have hkind : f.kind = .emergency := by simp at hf; exact hf.1
      simpa using cls_of_emergency hkind
    · have := countP_inFlight_le s.txq.frames
      unfold countFrames
      omega

theorem FramesOk.nil : FramesOk [] := ⟨by simp, List.Pairwise.nil, by simp, by simp, by simp, by simp⟩

/-- Frames that leave take nothing from the law. -/
theorem FramesOk.sublist {fs gs : List Frame} (h : FramesOk fs) (hsub : gs.Sublist fs) : FramesOk gs :=
  ⟨hsub.length_le.trans h.length, h.sorted.sublist hsub, (hsub.countP_le).trans h.classZero, (hsub.countP_le).trans h.status,
    (hsub.countP_le).trans h.pollReply, (hsub.countP_le).trans h.otherInFlight⟩

/-- A change of the frames that keeps kind and place keeps the law. -/
theorem FramesOk.map {fs : List Frame} (h : FramesOk fs) {g : Frame → Frame}
    (hg : ∀ f, (g f).kind = f.kind ∧ (g f).inFlight = f.inFlight) : FramesOk (fs.map g) := by
  have hcls : ∀ f, (g f).cls = f.cls := fun f => by simp [Frame.cls, hg]
  refine ⟨by simpa using h.length, ?_, ?_, ?_, ?_, ?_⟩
  · exact List.pairwise_map.mpr (h.sorted.imp fun hle => by simpa [hcls] using hle)
  · simpa [List.countP_map, Function.comp_def, hcls] using h.classZero
  · simpa [List.countP_map, Function.comp_def, hg] using h.status
  · simpa [List.countP_map, Function.comp_def, hg] using h.pollReply
  · simpa [List.countP_map, Function.comp_def, hg, hcls] using h.otherInFlight

theorem withoutNewest_sublist (fs : List Frame) (p : Frame → Bool) : (withoutNewest fs p).Sublist fs := by
  have h := (List.eraseP_sublist (p := p) (l := fs.reverse)).reverse
  rwa [List.reverse_reverse] at h

theorem withoutNewest_length {fs : List Frame} {p : Frame → Bool} {f : Frame} (h : newestFrame fs p = some f) :
    (withoutNewest fs p).length = fs.length - 1 := by
  obtain ⟨hp, hmem⟩ := And.intro (List.find?_some h) (List.mem_of_find?_eq_some h)
  simp [withoutNewest, List.length_eraseP_of_mem hmem hp]

/-- What counts in a queue with a frame more. -/
theorem countP_insertFrame (fs : List Frame) (f : Frame) (p : Frame → Bool) :
    (insertFrame fs f).countP p = fs.countP p + (if p f then 1 else 0) := by
  have h := congrArg (List.countP p) (List.takeWhile_append_dropWhile (p := fun g => decide (g.cls ≤ f.cls)) (l := fs))
  rw [List.countP_append] at h
  rw [insertFrame, List.countP_append, List.countP_cons]
  omega

theorem insertFrame_length (fs : List Frame) (f : Frame) : (insertFrame fs f).length = fs.length + 1 := by
  simpa using countP_insertFrame fs f fun _ => true

theorem insertFrame_sorted {fs : List Frame} (h : fs.Pairwise fun f g => f.cls ≤ g.cls) (f : Frame) :
    (insertFrame fs f).Pairwise fun f g => f.cls ≤ g.cls := by
  induction fs with
  | nil => simp [insertFrame]
  | cons x xs ih =>
    obtain ⟨hx, hxs⟩ := List.pairwise_cons.mp h
    by_cases hle : x.cls ≤ f.cls
    · have hcons : insertFrame (x :: xs) f = x :: insertFrame xs f := by simp [insertFrame, hle]
      rw [hcons]
      refine List.pairwise_cons.mpr ⟨fun g hg => ?_, ih hxs⟩
      have hmem : g ∈ xs ∨ g = f := by
        have hparts := List.takeWhile_append_dropWhile (p := fun g => decide (g.cls ≤ f.cls)) (l := xs)
        simp only [insertFrame, List.mem_append, List.mem_cons] at hg
        rcases hg with hg | rfl | hg
        · exact .inl (hparts ▸ List.mem_append_left _ hg)
        · exact .inr rfl
        · exact .inl (hparts ▸ List.mem_append_right _ hg)
      rcases hmem with hmem | rfl
      exacts [hx g hmem, hle]
    · have hcons : insertFrame (x :: xs) f = f :: x :: xs := by simp [insertFrame, hle]
      rw [hcons]
      refine List.pairwise_cons.mpr ⟨fun g hg => ?_, h⟩
      rcases List.mem_cons.mp hg with rfl | hg
      · omega
      · have := hx g hg
        omega

/-- A frame may join: of class 0 and of a live kind there is none WAITING yet. -/
structure Fits (f : Frame) (fs : List Frame) : Prop where
  waiting : f.inFlight = false
  classZero : f.cls = 0 → ∀ g ∈ fs, g.cls ≠ 0
  live : f.kind = .status ∨ f.kind = .pollReply → ∀ g ∈ fs, g.kind = f.kind → g.inFlight = true

theorem Fits.sublist {f : Frame} {fs gs : List Frame} (h : Fits f fs) (hsub : gs.Sublist fs) : Fits f gs :=
  ⟨h.waiting, fun hf g hg => h.classZero hf g (hsub.subset hg), fun hf g hg => h.live hf g (hsub.subset hg)⟩

/-- A frame that may join a queue with room keeps the law (R143, R144). -/
theorem FramesOk.insert {fs : List Frame} {f : Frame} (h : FramesOk fs) (hroom : fs.length < 16) (hfits : Fits f fs) :
    FramesOk (insertFrame fs f) := by
  have hlive : ∀ k, (k = .status ∨ k = .pollReply) → fs.countP (fun g => g.kind == k && !g.inFlight) ≤ 1 →
      (insertFrame fs f).countP (fun g => g.kind == k && !g.inFlight) ≤ 1 := fun k hk hle => by
    rw [countP_insertFrame]
    by_cases hf : f.kind = k
    · have hnone : fs.countP (fun g => g.kind == k && !g.inFlight) = 0 :=
        List.countP_eq_zero.mpr fun g hg => by
          have := hfits.live (hf ▸ hk) g hg
          grind
      split_ifs <;> omega
    · simpa [hf] using hle
  refine ⟨by rw [insertFrame_length]; omega, insertFrame_sorted h.sorted f, ?_, hlive _ (.inl rfl) h.status,
    hlive _ (.inr rfl) h.pollReply, ?_⟩
  · rw [countP_insertFrame]
    by_cases hf : f.cls = 0
    · have hnone : fs.countP (fun g => g.cls == 0) = 0 :=
        List.countP_eq_zero.mpr fun g hg => by simpa using hfits.classZero hf g hg
      split_ifs <;> omega
    · simpa [hf] using h.classZero
  · rw [countP_insertFrame, hfits.waiting]
    simpa using h.otherInFlight

/-- The first frame of a kind is changed at its place. -/
theorem modifyFirst_eq {fs : List Frame} {p : Frame → Bool} {f : Frame} (g : Frame → Frame) (h : fs.find? p = some f) :
    ∃ a b, fs = a ++ f :: b ∧ modifyFirst p g fs = a ++ g f :: b := by
  induction fs with
  | nil => simp at h
  | cons x xs ih =>
    by_cases hx : p x = true
    · obtain rfl : x = f := by simpa [hx] using h
      exact ⟨[], xs, rfl, by simp [modifyFirst, hx]⟩
    · obtain ⟨a, b, hab, hmod⟩ := ih (by simpa [hx] using h)
      exact ⟨x :: a, b, by simp [hab], by simp [modifyFirst, hx, hmod]⟩

/-- A change of one frame that keeps its kind keeps the law if the counts by place stay. -/
theorem FramesOk.modify {fs : List Frame} {p : Frame → Bool} {f : Frame} {g : Frame → Frame} (h : FramesOk fs)
    (hfind : fs.find? p = some f) (hkind : (g f).kind = f.kind)
    (hlive : f.kind = .status ∨ f.kind = .pollReply → (g f).inFlight = false → ∀ x ∈ fs, x.kind = f.kind → x.inFlight = true)
    (hother : f.cls ≠ 0 → (g f).inFlight = true → ∀ x ∈ fs, x.cls ≠ 0 → x.inFlight = false) :
    FramesOk (modifyFirst p g fs) := by
  obtain ⟨a, b, rfl, hmod⟩ := modifyFirst_eq g hfind
  have hcls : (g f).cls = f.cls := by simp [Frame.cls, hkind]
  rw [hmod]
  have hcount : ∀ q : Frame → Bool, (q (g f) = true → ∀ x ∈ a ++ f :: b, q x = false) → (a ++ f :: b).countP q ≤ 1 →
      (a ++ g f :: b).countP q ≤ 1 := fun q hq hle => by
    rw [List.countP_append, List.countP_cons] at hle ⊢
    by_cases hg : q (g f) = true
    · have hnone := List.countP_eq_zero.mpr fun x hx => by simpa using hq hg x hx
      rw [List.countP_append, List.countP_cons] at hnone
      rw [if_pos hg]
      omega
    · rw [if_neg hg]
      omega
  refine ⟨by simpa using h.length, ?_, ?_, ?_, ?_, ?_⟩
  · have hsorted := h.sorted
    simp only [List.pairwise_append, List.pairwise_cons, List.mem_cons] at hsorted ⊢
    simpa [hcls] using hsorted
  · have hzero := h.classZero
    rw [List.countP_append, List.countP_cons] at hzero ⊢
    rwa [hcls]
  · refine hcount _ (fun hq x hx => ?_) h.status
    obtain ⟨hk, hw⟩ : f.kind = .status ∧ (g f).inFlight = false := by simpa [hkind] using hq
    have := hlive (.inl hk) hw x hx
    grind
  · refine hcount _ (fun hq x hx => ?_) h.pollReply
    obtain ⟨hk, hw⟩ : f.kind = .pollReply ∧ (g f).inFlight = false := by simpa [hkind] using hq
    have := hlive (.inr hk) hw x hx
    grind
  · refine hcount _ (fun hq x hx => ?_) h.otherInFlight
    obtain ⟨hw, hc⟩ : (g f).inFlight = true ∧ f.cls ≠ 0 := by simpa [hcls] using hq
    have := hother hc hw x hx
    grind

/-- With the frame of class 0 gone there is none left. -/
theorem FramesOk.eraseClassZero {fs : List Frame} (h : FramesOk fs) : ∀ g ∈ fs.eraseP (fun f => f.cls == 0), g.cls ≠ 0 := by
  have hcount : (fs.eraseP fun f => f.cls == 0).countP (fun f => f.cls == 0) = 0 := by
    have hone := h.classZero
    by_cases hany : ∃ f ∈ fs, (f.cls == 0) = true
    · obtain ⟨f, hf, hzero⟩ := hany
      obtain ⟨a, l, r, -, ha, rfl, herase⟩ := List.exists_of_eraseP (p := fun f : Frame => f.cls == 0) hf hzero
      rw [List.countP_append, List.countP_cons, if_pos ha] at hone
      rw [herase, List.countP_append]
      omega
    · exact List.countP_eq_zero.mpr fun f hf hzero => hany ⟨f, List.eraseP_subset hf, hzero⟩
  intro g hg
  simpa using List.countP_eq_zero.mp hcount g hg

/-! The operations of the queue. -/

/-- The law of the queue, of a state. -/
def QueueOk (s : State) : Prop := FramesOk s.txq.frames

theorem QueueOk.of_eq {s t : State} (h : QueueOk s) (ht : t.txq.frames = s.txq.frames) : QueueOk t := by
  unfold QueueOk at h ⊢
  rwa [ht]

section
variable {s : State}

/-- The operations that leave the queue: their rules, gathered for `simp`. -/
@[simp] theorem kept_queueOk (s : State) :
    ((∀ f, (QueueOk (s.modFrc f) ↔ QueueOk s)) ∧ (∀ f, (QueueOk (s.modMtc f) ↔ QueueOk s)) ∧
      (∀ f, (QueueOk (s.modDsc f) ↔ QueueOk s)) ∧ (∀ f, (QueueOk (s.modOft f) ↔ QueueOk s)) ∧
      (∀ f, (QueueOk (s.modMst f) ↔ QueueOk s)) ∧ (∀ f, (QueueOk (s.modEmc f) ↔ QueueOk s)) ∧
      (∀ f, (QueueOk (s.modAle f) ↔ QueueOk s)) ∧ (∀ f, (QueueOk (s.modWpt f) ↔ QueueOk s)) ∧
      (∀ f, (QueueOk (s.modAtc f) ↔ QueueOk s)) ∧ (∀ f, (QueueOk (s.modCps f) ↔ QueueOk s)) ∧
      (∀ f, (QueueOk (s.modPins f) ↔ QueueOk s)) ∧ (∀ f, (QueueOk (s.modMem f) ↔ QueueOk s)) ∧
      (∀ g, (QueueOk (modTotals g s) ↔ QueueOk s)) ∧ (∀ g, (QueueOk (modTrip g s) ↔ QueueOk s))) ∧
    ((∀ c, (QueueOk (setChannel c s) ↔ QueueOk s)) ∧ (QueueOk (rejudge s) ↔ QueueOk s) ∧
      (∀ f d, (QueueOk (recordFault f d s) ↔ QueueOk s)) ∧ (∀ k, (QueueOk (requestWrite k s) ↔ QueueOk s)) ∧
      (QueueOk (requestCommit s) ↔ QueueOk s) ∧ (∀ d, (QueueOk (illegalHand d s) ↔ QueueOk s)) ∧
      (∀ rest, (QueueOk (leaveList rest s) ↔ QueueOk s)) ∧ (QueueOk (resumeHunting s) ↔ QueueOk s)) ∧
    ((∀ r v, (QueueOk (setHand r v s) ↔ QueueOk s)) ∧ (∀ r x w, (QueueOk (answer r x w s) ↔ QueueOk s)) ∧
      (∀ r x d w, (QueueOk (writeAnswer r x d w s) ↔ QueueOk s)) ∧
      (∀ r x y w, (QueueOk (answerWork r x y w s) ↔ QueueOk s)) ∧ (∀ f o, (QueueOk (routeOutcome f o s) ↔ QueueOk s))) ∧
    ((∀ e f, (QueueOk (updateOffer e f s) ↔ QueueOk s)) ∧ (∀ i f, (QueueOk (updateInbox i f s) ↔ QueueOk s)) ∧
      (∀ e x y, (QueueOk (endOffer e x y s) ↔ QueueOk s)) ∧ (∀ t f, (QueueOk (updateTripRecord t f s) ↔ QueueOk s)) ∧
      (QueueOk (leaveBidding s) ↔ QueueOk s) ∧ (∀ e, (QueueOk (withdrawOthers e s) ↔ QueueOk s)) ∧
      (∀ n m, (QueueOk (freeChain n m s) ↔ QueueOk s)) ∧ (∀ n, (QueueOk (grantBlocks n s) ↔ QueueOk s)) ∧
      (∀ i, (QueueOk (replaceVictim i s) ↔ QueueOk s))) ∧
    ((QueueOk (rewriteFareGroup s) ↔ QueueOk s) ∧ (QueueOk (evaluateSchedule s) ↔ QueueOk s) ∧
      (∀ n, (QueueOk (startHire n s) ↔ QueueOk s)) ∧ (QueueOk (openTrip s) ↔ QueueOk s) ∧
      (QueueOk (startHold s) ↔ QueueOk s) ∧ (QueueOk (stopHold s) ↔ QueueOk s) ∧ (QueueOk (refreshMetres s) ↔ QueueOk s) ∧
      (QueueOk (closePulses s) ↔ QueueOk s) ∧ (QueueOk (countTrip s) ↔ QueueOk s) ∧
      (∀ t r, (QueueOk (writeTripRecord t r s) ↔ QueueOk s))) ∧
    ((∀ x, (QueueOk (setEmergency x s) ↔ QueueOk s)) ∧ (QueueOk (startUpdateTimer s) ↔ QueueOk s) ∧
      (QueueOk (stopUpdateTimer s) ↔ QueueOk s) ∧ (∀ b, (QueueOk (endTransmission b s) ↔ QueueOk s)) ∧
      (∀ k g, (QueueOk (endWrite k g s) ↔ QueueOk s))) := by
  simp [QueueOk, illegalHand, startHire, openTrip, startHold, stopHold, setEmergency, startUpdateTimer, stopUpdateTimer,
    endTransmission]

/-- Frames leave the queue. -/
theorem modFrames_sublist_queueOk {g : List Frame → List Frame} (hg : ∀ fs, (g fs).Sublist fs) (h : QueueOk s) :
    QueueOk (modFrames g s) :=
  FramesOk.sublist h (hg _)

/-- A new frame of a kind that may join. -/
theorem newFrame_fits {k : UplinkKind} {os : List Origin} {b : FrameBody} {fs : List Frame}
    (hzero : k.cls = 0 → ∀ g ∈ fs, g.cls ≠ 0)
    (hlive : k = .status ∨ k = .pollReply → ∀ g ∈ fs, g.kind = k → g.inFlight = true) : Fits (newFrame k os b) fs :=
  ⟨rfl, hzero, hlive⟩

/-- A frame of a kind that is neither of class 0 nor live always may. -/
theorem newFrame_fits_of_kind {k : UplinkKind} (os : List Origin) (b : FrameBody) (fs : List Frame)
    (hk : k.cls ≠ 0 ∧ k ≠ .status ∧ k ≠ .pollReply) : Fits (newFrame k os b) fs :=
  newFrame_fits (fun h => absurd h hk.1) fun h => by simp [hk] at h

theorem joinQueue_queueOk {f : Frame} (hf : Fits f s.txq.frames) (h : QueueOk s) : QueueOk (joinQueue f s) := by
  unfold joinQueue
  split_ifs with hroom
  · exact FramesOk.insert h hroom hf
  · split
    next v hv =>
      have hlength := withoutNewest_length hv
      have hne : s.txq.frames ≠ [] := fun hnil => by simp [hnil, newestFrame] at hv
      have hpos : 0 < s.txq.frames.length := List.length_pos_iff.mpr hne
      have hle := h.length
      have hsub := withoutNewest_sublist s.txq.frames (displaceable s.txq.frames f.cls)
      unfold QueueOk
      simp only [modFrames, State.modTxq_txq, routeOutcome_kept]
      exact FramesOk.insert (FramesOk.sublist h hsub) (by omega) (hf.sublist hsub)
    next => simpa using h

theorem askLive_queueOk {k : UplinkKind} (hk : k.cls ≠ 0) (h : QueueOk s) : QueueOk (askLive k s) := by
  unfold askLive
  split_ifs with hw
  · exact h
  · refine joinQueue_queueOk (newFrame_fits (fun hc => absurd hc hk) fun _ g hg hgk => ?_) h
    by_contra hwaiting
    exact hw (List.any_eq_true.mpr ⟨g, hg, by simp [hgk, hwaiting]⟩)

theorem askEmergency_queueOk {k : EmergencyKind} (h : QueueOk s) : QueueOk (askEmergency k s) := by
  have hfits : ∀ fs : List Frame, (∀ g ∈ fs, g.cls ≠ 0) → Fits (emergencyFrame k s) fs := fun fs hfs => by
    cases k <;> exact newFrame_fits (fun _ => hfs) fun hk => by simp at hk
  unfold askEmergency
  split
  next hnone =>
    exact joinQueue_queueOk (hfits _ fun g hg => by simpa using List.find?_eq_none.mp hnone g hg) h
  next g hg =>
    split_ifs
    · simpa using h
    · exact h
    · have hlength := List.length_eraseP_of_mem (p := fun f : Frame => f.cls == 0) (List.mem_of_find?_eq_some hg)
        (List.find?_some (p := fun f : Frame => f.cls == 0) hg)
      have hpos := List.length_pos_of_mem (List.mem_of_find?_eq_some hg)
      have hle := h.length
      exact FramesOk.insert (FramesOk.sublist h (List.eraseP_sublist)) (by omega) (hfits _ (FramesOk.eraseClassZero h))

theorem removeWaiting_queueOk {p : Frame → Bool} (h : QueueOk s) : QueueOk (removeWaiting p s) := by
  unfold removeWaiting
  split_ifs
  exacts [modFrames_sublist_queueOk (fun fs => withoutNewest_sublist fs p) h, h]

theorem detachOrigin_queueOk {o : Origin} (h : QueueOk s) : QueueOk (detachOrigin o s) :=
  FramesOk.sublist (FramesOk.map h (g := Frame.detach o) fun _ => ⟨rfl, rfl⟩) List.filter_sublist

theorem portResetQueue_queueOk (h : QueueOk s) : QueueOk (portResetQueue s) := by
  refine foldl_invariant QueueOk _ (fun t f ht => foldl_invariant QueueOk _ (fun u l hu => ?_) _ _ ht) _ _
    (FramesOk.map (FramesOk.sublist h List.filter_sublist) (g := Frame.detachRecords) fun _ => ⟨rfl, rfl⟩)
  split <;> simpa using hu

/-- The asks whose frame is of a kind that may always join. -/
theorem asks_queueOk (h : QueueOk s) :
    (∀ t, QueueOk (queueTripFrame t s)) ∧ QueueOk (queueShiftFrame s) ∧
    (∀ e x, QueueOk (queueRefuse e x s)) ∧ (∀ n x, QueueOk (queueRefuseUnknown n x s)) ∧
    (∀ n c a b, QueueOk (queueReceipt n c a b s)) ∧ (∀ x, QueueOk (askStatusFrame x s)) := by
  have hshift : QueueOk (modTotals (fun g => { g with reportState := .queued }) s) := by simpa using h
  have hmarked : ∀ e : Fin 8, QueueOk (updateOffer e (fun x => { x with refusePending := true }) s) := fun e => by
    simpa using h
  refine ⟨fun t => ?_, ?_, fun e x => ?_, fun n x => ?_, fun n c a b => ?_, fun x => ?_⟩
  · exact joinQueue_queueOk (newFrame_fits_of_kind _ _ _ (by decide)) h
  · exact joinQueue_queueOk (newFrame_fits_of_kind _ _ _ (by decide)) hshift
  · unfold queueRefuse
    simp only
    split_ifs
    exacts [h, joinQueue_queueOk (newFrame_fits_of_kind _ _ _ (by decide)) (hmarked e)]
  · exact joinQueue_queueOk (newFrame_fits_of_kind _ _ _ (by decide)) h
  · exact joinQueue_queueOk (newFrame_fits_of_kind _ _ _ (by decide)) h
  · exact askLive_queueOk (by decide) (by simpa using h)

theorem settleBid_queueOk {e : Fin 8} {c : Option RefuseReason} (h : QueueOk s) : QueueOk (settleBid e c s) := by
  have hremoved : ∀ t : State, QueueOk t → ∀ bf p, QueueOk (if bf = BidFrame.none then t else removeWaiting p t) :=
    fun t ht bf p => by split_ifs; exacts [ht, removeWaiting_queueOk ht]
  have hmarked : ∀ g : OfferEntry → OfferEntry, QueueOk (updateOffer e g s) := fun g => by simpa using h
  unfold settleBid
  cases c with
  | none => exact hremoved _ (hmarked _) _ _
  | some reason =>
    have hleft := hremoved _ (hmarked fun x => { x with
      awardRemaining := 0,
      bidFrame := bidFrameAfter (s.oft.entries.get e).bidFrame
        (removalOf s.txq.frames (isBidOf e (s.oft.entries.get e).number)) }) (s.oft.entries.get e).bidFrame
      (isBidOf e (s.oft.entries.get e).number)
    exact iteInduction (fun _ => (asks_queueOk hleft).2.2.1 e reason) fun _ => hleft

theorem endBid_queueOk {e x y c} (h : QueueOk s) : QueueOk (endBid e x y c s) :=
  settleBid_queueOk (by simpa using h)

theorem streetHire_queueOk (h : QueueOk s) : QueueOk (streetHire s) := by
  unfold streetHire
  split
  · simpa using endBid_queueOk h
  · exact h

theorem setStatus_queueOk {x y} (h : QueueOk s) : QueueOk (setStatus x y s) := by
  have hreport : ∀ t : State, QueueOk t → ∀ old new, QueueOk (reportStatus old new t) := fun t ht old new => by
    have hnone : QueueOk (if old = .assigned then t.modOft fun o => { o with assignment := none } else t) := by
      split_ifs <;> simpa using ht
    exact iteInduction (fun _ => streetHire_queueOk hnone) fun _ => hnone
  have hasked : ∀ t : State, QueueOk t → QueueOk (setChannel .status (askStatusFrame y t)) := fun t ht => by
    simpa using (asks_queueOk ht).2.2.2.2.2 y
  unfold setStatus
  refine iteInduction (fun _ => h) fun _ => hreport _ (iteInduction (fun _ => hasked _ ?_) fun _ => ?_) _ _
  · simpa using h
  · simpa using h

theorem requestStatus_queueOk {x l} (h : QueueOk s) : QueueOk (requestStatus x l s) := by
  unfold requestStatus
  split_ifs
  exacts [setStatus_queueOk h, h]

theorem meterChange_queueOk {x} (h : QueueOk s) : QueueOk (meterChange x s) := by
  have hreport : ∀ t : State, QueueOk t → ∀ old, QueueOk (reportMeter old x t) := fun t ht old => by
    unfold reportMeter
    split
    all_goals first | exact setStatus_queueOk ht | exact ht
  unfold meterChange
  have := hreport (rewriteFareGroup (rejudge ((closePulses s).modMtc fun m => { m with meter := x }))) (by simpa using h)
    s.mtc.meter
  simpa using this

theorem loseTrip_queueOk {t} (h : QueueOk s) : QueueOk (loseTrip t s) := by
  unfold loseTrip
  simp only
  split_ifs
  exacts [detachOrigin_queueOk (by simpa using h), by simpa using h]

theorem closeTrip_queueOk (h : QueueOk s) : QueueOk (closeTrip s) := by
  unfold closeTrip
  simp only
  split_ifs
  · simpa using loseTrip_queueOk (by simpa using h)
  · simpa using h

theorem receiptStored_queueOk {how n c a} (h : QueueOk s) : QueueOk (receiptStored how n c a s) := by
  unfold receiptStored
  split_ifs
  exacts [(asks_queueOk h).2.2.2.2.1 _ _ _ _, h]

theorem requeueReports_queueOk (h : QueueOk s) : QueueOk (requeueReports s) := by
  have hone : ∀ (t : State) (e : Fin 24), QueueOk t → QueueOk (requeueTrip e t) := fun t e ht => by
    unfold requeueTrip
    split_ifs
    exacts [(asks_queueOk (by simpa using ht)).1 _, ht]
  have htrips : QueueOk (if tripReporting s then s.mtc.ageOrder.foldl (fun t e => requeueTrip e t) s else s) :=
    iteInduction (fun _ => foldl_invariant QueueOk _ (fun t e ht => hone t e ht) _ _ h) fun _ => h
  unfold requeueReports
  exact iteInduction (fun _ => (asks_queueOk htrips).2.1) fun _ => htrips

theorem returnToQuiet_queueOk (h : QueueOk s) : QueueOk (returnToQuiet s) := by
  have := removeWaiting_queueOk (p := fun f => f.cls == 0)
    (s := (setEmergency .quiet s).modEmc fun e => { e with updateTimer := none, owed := none }) (by simpa using h)
  simpa [returnToQuiet] using this

theorem deliverOutcome_queueOk {f o} (h : QueueOk s) : QueueOk (deliverOutcome f o s) := by
  have howed : ∀ t : State, QueueOk t → QueueOk (queueOwed t) := fun t ht => by
    unfold queueOwed
    split
    exacts [askEmergency_queueOk (by simpa using ht), ht]
  have houtcome : QueueOk (emergencyOutcome f.kind o s) := by
    unfold emergencyOutcome
    split
    exacts [by simpa using h, askEmergency_queueOk h, returnToQuiet_queueOk h, askEmergency_queueOk h, h]
  unfold deliverOutcome
  split_ifs
  exacts [howed _ houtcome, by simpa using h]

theorem failFrames_queueOk {g x} (h : QueueOk s) : QueueOk (failFrames g x s) :=
  foldl_invariant QueueOk _ (fun _ _ ht => deliverOutcome_queueOk ht) _ _
    (modFrames_sublist_queueOk (fun _ => List.filter_sublist) h)

/-- The operations that may change the queue and keep its law: their rules, gathered for `simp`. -/
@[simp] theorem shared_queueOk (h : QueueOk s) :
    ((∀ p, QueueOk (removeWaiting p s)) ∧ (∀ o, QueueOk (detachOrigin o s)) ∧ (∀ t, QueueOk (queueTripFrame t s)) ∧
      QueueOk (queueShiftFrame s) ∧ (∀ e x, QueueOk (queueRefuse e x s)) ∧ (∀ n x, QueueOk (queueRefuseUnknown n x s)) ∧
      (∀ n c a b, QueueOk (queueReceipt n c a b s)) ∧ (∀ x, QueueOk (askStatusFrame x s)) ∧
      (∀ k, QueueOk (askEmergency k s))) ∧
    ((∀ e x y c, QueueOk (endBid e x y c s)) ∧ (∀ x y, QueueOk (setStatus x y s)) ∧ (∀ x l, QueueOk (requestStatus x l s)) ∧
      (∀ x, QueueOk (meterChange x s)) ∧ QueueOk (closeTrip s) ∧ (∀ how n c a, QueueOk (receiptStored how n c a s)) ∧
      QueueOk (requeueReports s) ∧ QueueOk (returnToQuiet s) ∧ (∀ f o, QueueOk (deliverOutcome f o s)) ∧
      (∀ g x, QueueOk (failFrames g x s))) :=
  ⟨⟨fun _ => removeWaiting_queueOk h, fun _ => detachOrigin_queueOk h, (asks_queueOk h).1, (asks_queueOk h).2.1,
      (asks_queueOk h).2.2.1, (asks_queueOk h).2.2.2.1, (asks_queueOk h).2.2.2.2.1, (asks_queueOk h).2.2.2.2.2,
      fun _ => askEmergency_queueOk h⟩,
    ⟨fun _ _ _ _ => endBid_queueOk h, fun _ _ => setStatus_queueOk h, fun _ _ => requestStatus_queueOk h,
      fun _ => meterChange_queueOk h, closeTrip_queueOk h, fun _ _ _ _ => receiptStored_queueOk h, requeueReports_queueOk h,
      returnToQuiet_queueOk h, fun _ _ => deliverOutcome_queueOk h, fun _ _ => failFrames_queueOk h⟩⟩

end

end Sys2Proof.Machine
end

section
/-! PROOF. The shared operations, and so all commands, keep the law of the transmit queue (O7). -/

namespace Sys2Proof.Machine

section
variable {s : State}

theorem withdrawForEmergency_queueOk (h : QueueOk s) : QueueOk (withdrawForEmergency s) := by
  have hopen := foldl_invariant QueueOk (fun t e =>
      if (t.oft.entries.get e).state = .open then setChannel .offerResult (endOffer e .withdrawn .emergency t) else t)
    (fun t e ht => by split_ifs <;> simpa using ht) offerIndices s h
  unfold withdrawForEmergency
  simp only
  split
  · exact requestStatus_queueOk (by simp [hopen])
  · exact hopen

theorem pressAlarm_queueOk (h : QueueOk s) : QueueOk (pressAlarm s) := by
  have hcounted : QueueOk (countPress s) := by simp [countPress, h]
  have hraised : QueueOk (raiseCall s) := by
    unfold raiseCall
    exact withdrawForEmergency_queueOk (askEmergency_queueOk (by simp [h]))
  unfold pressAlarm
  split
  · exact hraised
  · simp [hcounted]
  · simp [hcounted]
  · exact withdrawForEmergency_queueOk (askEmergency_queueOk (by simp [hcounted]))

theorem loseBidToLink_queueOk (h : QueueOk s) : QueueOk (loseBidToLink s) := by
  unfold loseBidToLink
  split <;> simp [h]

theorem reportUp_queueOk (h : QueueOk s) : QueueOk (reportUp s) := by
  have hfirst : ∀ t : State, QueueOk t → QueueOk (reportFirstUp t) := fun t ht => by
    unfold reportFirstUp
    simp only
    split_ifs
    exacts [ht, by simp [ht], askLive_queueOk (by decide) (by simp [ht])]
  have hchosen : QueueOk { s with choices := s.choices + 1 } := h
  unfold reportUp
  simp only
  split_ifs
  exacts [requeueReports_queueOk (hfirst _ hchosen), hfirst _ (requeueReports_queueOk hchosen),
    hfirst _ (requeueReports_queueOk h)]

theorem linkChange_queueOk {x} (h : QueueOk s) : QueueOk (linkChange x s) := by
  unfold linkChange
  split_ifs
  · exact h
  · cases x with
    | up => exact reportUp_queueOk (by simpa using h)
    | lost => exact failFrames_queueOk (loseBidToLink_queueOk (by simpa using h))
    | fading | hunt => simpa [dropAssignments] using h

theorem failAttempt_queueOk {q} (h : QueueOk s) : QueueOk (failAttempt q s) := by
  unfold failAttempt
  split
  next => exact h
  next f hf =>
    have hp := List.find?_some hf
    have hinflight : f.inFlight = true := by simp [inFlightWith] at hp; exact hp.1
    have hgone : QueueOk (modFrames (fun fs => fs.eraseP (inFlightWith q)) s) :=
      modFrames_sublist_queueOk (fun fs => List.eraseP_sublist) h
    have hretry : ∀ a b, (f.kind = .status ∨ f.kind = .pollReply → kindWaiting s f.kind = false) →
        QueueOk (modFrames (modifyFirst (inFlightWith q) fun g => { g with attempts := a, backoff := b, inFlight := false })
          s) := fun a b hlive =>
      FramesOk.modify h hf rfl (fun hk _ x hx hxk => by
        have := List.any_eq_false.mp (hlive hk) x hx
        simpa [hxk] using this) fun _ hw => by simp at hw
    simp only
    split_ifs with hcall horphan hlimit hwaiting
    · exact hretry _ _ fun hk => by simp [hcall.1] at hk
    · exact hgone
    · exact deliverOutcome_queueOk hgone
    · exact hgone
    · exact hretry _ _ fun hk => by simpa [hk] using hwaiting

theorem takeAck_queueOk {n q} (h : QueueOk s) : QueueOk (takeAck n q s) := by
  unfold takeAck
  split
  · exact deliverOutcome_queueOk (modFrames_sublist_queueOk (fun fs => List.eraseP_sublist) h)
  · exact h

theorem takeCycleAcks_queueOk {n acks} (h : QueueOk s) : QueueOk (takeCycleAcks n acks s) := by
  have hacks := foldl_invariant QueueOk (fun t q => takeAck n q t) (fun t q ht => takeAck_queueOk ht) acks s h
  have hcounted : QueueOk (modFrames (fun fs => fs.map countBackoff) (acks.foldl (fun t q => takeAck n q t) s)) :=
    FramesOk.map hacks fun f => by unfold countBackoff; split_ifs <;> exact ⟨rfl, rfl⟩
  exact foldl_invariant QueueOk _ (fun t q ht => failAttempt_queueOk ht) _ _ hcounted

theorem handOver_queueOk {p k m} (h : QueueOk s)
    (hother : ∀ f, s.txq.frames.find? p = some f → f.cls ≠ 0 → ∀ x ∈ s.txq.frames, x.cls ≠ 0 → x.inFlight = false) :
    QueueOk (handOver p k m s) := by
  unfold handOver
  split
  next => exact h
  next f hf =>
    have hreported : ∀ t : State, QueueOk t → QueueOk (reportFirstTransmission f t) := fun t ht => ht.of_eq (by simp)
    have hmoved : ∀ (n : Nat) (q : Option Nat) (a : Ale → Ale), QueueOk ((modFrames (modifyFirst p fun g =>
        { g with inFlight := true, sendingCycle := n, sequence := q }) s).modAle a) := fun n q a =>
      FramesOk.modify h hf rfl (fun _ hw => by simp at hw) fun hc _ => hother f hf hc
    exact iteInduction (fun _ => hreported _ (hmoved _ _ _)) fun _ => hmoved _ _ _

theorem offerSlots_queueOk {m} (h : QueueOk s) : QueueOk (offerSlots m s) := by
  have hzero : QueueOk (sendClassZero m s).1 := by
    unfold sendClassZero
    split
    next => exact h
    next f hf =>
      split
      · exact h
      · refine handOver_queueOk h fun g hg hc => absurd ?_ hc
        have := List.find?_some hg
        simp [waitingClassZero] at this
        exact this.1
  have hhead : ∀ t : State, QueueOk t → QueueOk (sendHead m t) := fun t ht => by
    unfold sendHead
    split_ifs with hbusy
    · exact ht
    · split
      · exact ht
      · split
        · exact ht
        · refine handOver_queueOk ht fun _ _ _ x hx hxc => ?_
          by_contra hxf
          exact hbusy (List.any_eq_true.mpr ⟨x, hx, by simp [hxc, hxf]⟩)
  unfold offerSlots
  split_ifs
  exacts [hzero, hhead _ hzero]

theorem refuseText_queueOk {how f} (h : QueueOk s) : QueueOk (refuseText how f s) := by
  unfold refuseText
  simp only
  split_ifs <;> simp [h]

theorem storeMessage_queueOk {i v g n how f c p} (h : QueueOk s) : QueueOk (storeMessage i v g n how f c p s) := by
  unfold storeMessage
  simp only
  cases v <;> simp only [if_true, if_false, Bool.false_eq_true] <;> split_ifs <;> simp [h]

theorem takeText_queueOk {how f} (h : QueueOk s) : QueueOk (takeText how f s) := by
  have hnew : ∀ c p, QueueOk (takeNewMessage how f c p s) := fun c p => by
    unfold takeNewMessage
    split
    · exact refuseText_queueOk h
    · simp only
      split
      exacts [refuseText_queueOk h, storeMessage_queueOk h]
  have hsecond : ∀ i, QueueOk (appendSecond i how f s) := fun i => by
    unfold appendSecond
    simp only
    split <;> simp [h, refuseText_queueOk]
  unfold takeText
  split
  · split
    · exact h
    · split
      · split
        exacts [refuseText_queueOk h, hnew _ _]
      · split
        · split
          exacts [hsecond _, h]
        · exact receiptStored_queueOk h
  · exact h

end

/-- The shared operations keep the law of the queue. -/
theorem queueOk_opsKeep : OpsKeep QueueOk where
  kept s := by
    have hphase : ∀ p, QueueOk { s with phase := p } ↔ QueueOk s := fun p => Iff.rfl
    have hpending : ∀ l, QueueOk { s with pending := l } ↔ QueueOk s := fun l => Iff.rfl
    have hmatches : QueueOk (takeMatches s) ↔ QueueOk s := Iff.rfl
    have hrewrite : (QueueOk (beginRewrite s) ↔ QueueOk s) ∧ (QueueOk (endRewrite s) ↔ QueueOk s) := by simp [QueueOk]
    simp [hphase, hpending, hmatches, hrewrite]
  shared s h := by
    have hdetails : ∀ e d, QueueOk (storeDetails e d s) := fun e d => by
      unfold storeDetails
      simp only
      split <;> simp [h]
    have hwrong : QueueOk (countWrongCode s) := by
      unfold countWrongCode
      simp only
      split_ifs
      exacts [by simp [h], h]
    exact ⟨⟨by simp [h], by simp [h], by simp [h], by simp [h], by simp [h], hdetails, fun _ _ => takeText_queueOk h,
        by simp [h], by simp [h], h.of_eq (by simp)⟩,
      ⟨fun _ _ => h, fun _ _ => h, fun _ _ => h, fun _ _ => h, fun _ _ => h, fun _ _ => h, fun _ _ => h, fun _ _ => h, fun _ => hwrong⟩,
      ⟨fun _ => joinQueue_queueOk (newFrame_fits_of_kind _ _ _ (by decide)) h,
        fun _ _ _ _ _ => joinQueue_queueOk (newFrame_fits_of_kind _ _ _ (by decide)) h, askLive_queueOk (by decide) h,
        by simp [h], by simp [h], fun p => modFrames_sublist_queueOk (fun fs => withoutNewest_sublist fs p) h, by simp [h],
        by simp [h], by simp [h], by simp [h], by simp [h], portResetQueue_queueOk h, FramesOk.nil⟩,
      ⟨by simp [h], by simp [h], by simp [h], by simp [h], by simp [h]⟩,
      ⟨by simp [h], by simp [h], pressAlarm_queueOk h, by simp [h], fun _ => linkChange_queueOk h,
        fun _ _ => takeCycleAcks_queueOk h, fun _ _ => offerSlots_queueOk h⟩⟩
  memory s g _ h := h
  cleared p s := FramesOk.nil

end Sys2Proof.Machine

open Sys2Proof Sys2Proof.Machine in
/-- Settles O7: the moves of the queue keep its law, so the shared operations and every command do. -/
theorem queueKeepsItsLaw : Obligations.QueueKeepsItsLaw := by
  refine law_step (fun _ _ hs => hs) (fun _ hs => hs) fun c s hs => ?_
  rw [queueLaw_iff] at hs ⊢
  refine effect_closed queueOk_opsKeep c (fun hcall => ?_) hs
  unfold recoverEmergency
  simp only
  split_ifs <;> simp [hcall]

end

section
/-! SUPPORT. Laws of window memory, of the offer table, of the inbox, of the block count and of the posted-order list: such a
law is kept by every operation that moves offer and inbox entries within their states only. -/

namespace Sys2Proof.Machine

/-- The parts that these laws speak of. -/
def tableView (s : State) :
    Phase × Memory × Vector OfferEntry 8 × Vector InboxEntry 24 × Nat × List (Fin 16) :=
  (s.phase, s.mem, s.oft.entries, s.mst.inbox, s.mst.freeCount, s.wpt.posted)

/-- A change of an offer entry that holds an offer before and after it: the same offer with the same blocks, its timers
within their ranges. -/
structure OfferMoves (x y : OfferEntry) : Prop where
  held : y.state ≠ .empty
  number : y.number = x.number
  blocks : y.blockCount = x.blockCount
  window : x.windowRemaining ≤ 60 → y.windowRemaining ≤ 60
  award : x.awardRemaining ≤ 120 → y.awardRemaining ≤ 120

/-- A law that no such move breaks, nor the outcome of a frame, nor the answer to a request being worked on. -/
structure TablesKeep (P : State → Prop) : Prop where
  congr : ∀ {s t}, tableView t = tableView s → P s → P t
  outcome : ∀ s f o, P s → P (routeOutcome f o s)
  work : ∀ s r x y w, P s → P (answerWork r x y w s)
  offer : ∀ s e g, (s.oft.entries.get e).state ≠ .empty → OfferMoves (s.oft.entries.get e) (g (s.oft.entries.get e)) →
    P s → P (updateOffer e g s)
  inbox : ∀ s i g, (g (s.mst.inbox.get i)).blockCount = (s.mst.inbox.get i).blockCount →
    ((g (s.mst.inbox.get i)).state = .empty → (s.mst.inbox.get i).state = .empty) → P s → P (updateInbox i g s)

section
variable {P : State → Prop} (hP : TablesKeep P) {s : State}
include hP

/-! The queue. -/

theorem joinQueue_tables {f} (h : P s) : P (joinQueue f s) := by
  unfold joinQueue
  split_ifs
  · exact hP.congr (by simp [tableView]) h
  · split
    next v _ =>
      have hleft : P (modFrames (fun fs => withoutNewest fs (displaceable fs f.cls)) s) :=
        hP.congr (by simp [tableView]) h
      exact hP.congr (by simp [tableView]) (hP.outcome _ v (.failed .displaced) hleft)
    next => exact hP.outcome _ _ _ h

theorem askLive_tables {k} (h : P s) : P (askLive k s) := by
  unfold askLive
  split_ifs
  exacts [h, joinQueue_tables hP h]

theorem askStatusFrame_tables {x} (h : P s) : P (askStatusFrame x s) :=
  askLive_tables hP (hP.congr (by simp [tableView]) h)

theorem removeWaiting_tables {p} (h : P s) : P (removeWaiting p s) := by
  unfold removeWaiting
  split_ifs
  exacts [hP.congr (by simp [tableView]) h, h]

theorem detachOrigin_tables {o} (h : P s) : P (detachOrigin o s) := hP.congr (by simp [tableView, detachOrigin]) h

theorem queueTripFrame_tables {t} (h : P s) : P (queueTripFrame t s) := joinQueue_tables hP h

theorem queueShiftFrame_tables (h : P s) : P (queueShiftFrame s) :=
  joinQueue_tables hP (hP.congr (by simp [tableView]) h)

/-! The offer table. -/

theorem queueRefuse_tables {e x} (he : (s.oft.entries.get e).state ≠ .empty) (h : P s) : P (queueRefuse e x s) := by
  unfold queueRefuse
  simp only
  split_ifs
  exacts [h, joinQueue_tables hP (hP.offer s e _ he ⟨he, rfl, rfl, id, id⟩ h)]

/-- A non-empty entry stays so as its offer ends or its bid frame changes. -/
theorem endOffer_tables {e x y} (hx : x ≠ .empty) (he : (s.oft.entries.get e).state ≠ .empty) (h : P s) :
    P (endOffer e x y s) :=
  hP.offer s e _ he ⟨hx, rfl, rfl, fun _ => Nat.zero_le _, fun _ => Nat.zero_le _⟩ h

theorem settleBid_tables {e c} (he : (s.oft.entries.get e).state ≠ .empty) (h : P s) : P (settleBid e c s) := by
  have hremoved : ∀ t p bf, P t ∧ (t.oft.entries.get e).state ≠ .empty →
      P (if bf = BidFrame.none then t else removeWaiting p t) ∧
      ((if bf = BidFrame.none then t else removeWaiting p t).oft.entries.get e).state ≠ .empty := fun t p bf ht => by
    split_ifs
    · exact ht
    · refine ⟨removeWaiting_tables hP ht.1, ?_⟩
      unfold removeWaiting
      split_ifs <;> simpa using ht.2
  have hmarked : ∀ g : OfferEntry → OfferEntry, OfferMoves (s.oft.entries.get e) (g (s.oft.entries.get e)) →
      P (updateOffer e g s) ∧ ((updateOffer e g s).oft.entries.get e).state ≠ .empty := fun g hg =>
    ⟨hP.offer s e g he hg h, by rw [updateOffer_entry]; exact hg.held⟩
  have hleft := hremoved _ (isBidOf e (s.oft.entries.get e).number) (s.oft.entries.get e).bidFrame (hmarked
    (fun x => { x with
      awardRemaining := 0,
      bidFrame := bidFrameAfter (s.oft.entries.get e).bidFrame
        (removalOf s.txq.frames (isBidOf e (s.oft.entries.get e).number)) })
    ⟨he, rfl, rfl, id, fun _ => Nat.zero_le _⟩)
  unfold settleBid
  cases c with
  | none => exact hleft.1
  | some reason => exact iteInduction (fun _ => queueRefuse_tables hP hleft.2 hleft.1) fun _ => hleft.1

theorem endBid_tables {e x y c} (hx : x ≠ .empty) (he : (s.oft.entries.get e).state ≠ .empty) (h : P s) :
    P (endBid e x y c s) :=
  settleBid_tables hP (by rw [endOffer, updateOffer_entry]; exact hx) (endOffer_tables hP hx he h)

omit hP in
/-- A bidding entry holds an offer. -/
theorem biddingEntry_held {e} (h : biddingEntry s = some e) : (s.oft.entries.get e).state ≠ .empty := by
  have hb := List.find?_some h
  intro hempty
  simp [hempty, OfferState.bidding] at hb

theorem streetHire_tables (h : P s) : P (streetHire s) := by
  unfold streetHire
  split
  next e he =>
    exact hP.congr (by simp [tableView]) (endBid_tables hP (e := e) (x := .withdrawn) (y := .hired) (c := some .hired)
      (by decide) (biddingEntry_held he) h)
  next => exact h

theorem setStatus_tables {x y} (h : P s) : P (setStatus x y s) := by
  have hreport : ∀ t, P t → ∀ old new, P (reportStatus old new t) := fun t ht old new => by
    have hnone : P (if old = .assigned then t.modOft fun o => { o with assignment := none } else t) := by
      split_ifs
      exacts [hP.congr (by simp [tableView]) ht, ht]
    exact iteInduction (fun _ => streetHire_tables hP hnone) fun _ => hnone
  have hasked : ∀ t, P t → P (setChannel .status (askStatusFrame y t)) := fun t ht =>
    hP.congr (by simp [tableView]) (askStatusFrame_tables hP (x := y) ht)
  have hchanged : ∀ g, P (rejudge (s.modDsc g)) := fun g => hP.congr (by simp [tableView]) h
  unfold setStatus
  exact iteInduction (fun _ => h) fun _ => hreport _ (iteInduction (fun _ => hasked _ (hchanged _)) fun _ => hchanged _) _ _

theorem requestStatus_tables {x l} (h : P s) : P (requestStatus x l s) := by
  unfold requestStatus
  split_ifs
  exacts [setStatus_tables hP h, h]

theorem meterChange_tables {x} (h : P s) : P (meterChange x s) := by
  have hreport : ∀ t, P t → ∀ old, P (reportMeter old x t) := fun t ht old => by
    unfold reportMeter
    split
    all_goals first | exact setStatus_tables hP ht | exact ht
  have hmoved : P (rewriteFareGroup (rejudge ((closePulses s).modMtc fun m => { m with meter := x }))) :=
    hP.congr (by simp [tableView]) h
  exact hP.congr (by simp [tableView, meterChange]) (hreport _ hmoved s.mtc.meter)

theorem withdrawForEmergency_tables (h : P s) : P (withdrawForEmergency s) := by
  have hopen := foldl_invariant P (fun t e =>
      if (t.oft.entries.get e).state = .open then setChannel .offerResult (endOffer e .withdrawn .emergency t) else t)
    (fun t e ht => by
      split_ifs with ho
      · exact hP.congr (by simp [tableView]) (endOffer_tables hP (e := e) (x := .withdrawn) (y := .emergency) (by decide)
          (by simp [ho]) ht)
      · exact ht) offerIndices s h
  unfold withdrawForEmergency
  simp only
  split
  next e he =>
    exact requestStatus_tables hP (hP.congr (by simp [tableView]) (endBid_tables hP (e := e) (x := .withdrawn) (y := .emergency)
      (c := some .emergency) (by decide) (biddingEntry_held he) hopen))
  next => exact hopen

theorem loseBidToLink_tables (h : P s) : P (loseBidToLink s) := by
  unfold loseBidToLink
  split
  next e he =>
    exact hP.congr (by simp [tableView]) (requestStatus_tables hP (x := .available) (l := [.bidding])
      (endBid_tables hP (e := e) (x := .lost) (y := .link) (c := none) (by decide) (biddingEntry_held he) h))
  next => exact h

/-! The emergency controller. -/

theorem askEmergency_tables {k} (h : P s) : P (askEmergency k s) := by
  unfold askEmergency
  split
  · exact joinQueue_tables hP h
  · split_ifs
    exacts [hP.congr (by simp [tableView]) h, h, hP.congr (by simp [tableView]) h]

theorem returnToQuiet_tables (h : P s) : P (returnToQuiet s) := by
  have hquiet : P ((setEmergency .quiet s).modEmc fun e => { e with updateTimer := none, owed := none }) :=
    hP.congr (by simp [tableView, setEmergency]) h
  exact hP.congr (by simp [tableView, returnToQuiet]) (removeWaiting_tables hP (p := fun f => f.cls == 0) hquiet)

theorem deliverOutcome_tables {f o} (h : P s) : P (deliverOutcome f o s) := by
  have howed : ∀ t, P t → P (queueOwed t) := fun t ht => by
    unfold queueOwed
    split
    exacts [askEmergency_tables hP (hP.congr (by simp [tableView]) ht), ht]
  have houtcome : P (emergencyOutcome f.kind o s) := by
    unfold emergencyOutcome
    split
    exacts [hP.congr (by simp [tableView, startUpdateTimer]) h, askEmergency_tables hP h, returnToQuiet_tables hP h,
      askEmergency_tables hP h, h]
  unfold deliverOutcome
  split_ifs
  exacts [howed _ houtcome, hP.outcome _ _ _ h]

theorem failFrames_tables {g x} (h : P s) : P (failFrames g x s) :=
  foldl_invariant P _ (fun _ _ ht => deliverOutcome_tables hP ht) _ _ (hP.congr (by simp [tableView]) h)

theorem pressAlarm_tables (h : P s) : P (pressAlarm s) := by
  have hcounted : P (countPress s) := hP.congr (by simp [tableView, countPress]) h
  have hraised : P (raiseCall s) := by
    unfold raiseCall
    exact withdrawForEmergency_tables hP (askEmergency_tables hP (hP.congr (by simp [tableView, setEmergency]) h))
  unfold pressAlarm
  split
  · exact hraised
  · exact hP.congr (by simp [tableView, stopUpdateTimer]) (askEmergency_tables hP (k := .alert) hcounted)
  · exact hP.congr (by simp [tableView, startUpdateTimer]) (askEmergency_tables hP (k := .alert) hcounted)
  · exact withdrawForEmergency_tables hP (askEmergency_tables hP (hP.congr (by simp [tableView, setEmergency]) hcounted))

theorem judgeAlarm_tables (h : P s) : P (judgeAlarm s) := by
  obtain ⟨-, -, hj⟩ | ⟨-, -, hj⟩ | ⟨-, hj⟩ := judgeAlarm_cases s <;> rw [hj]
  · exact pressAlarm_tables hP (hP.congr (by simp [tableView]) h)
  · exact hP.congr (by simp [tableView]) h
  · exact hP.congr (by simp [tableView]) h

theorem countWrongCode_tables (h : P s) : P (countWrongCode s) := by
  have hcounted : ∀ g, P (s.modEmc g) := fun g => hP.congr (by simp [tableView]) h
  unfold countWrongCode
  exact iteInduction (fun _ => askEmergency_tables hP (hP.congr (by simp [tableView]) h)) fun _ => hcounted _

theorem cancelCall_tables (h : P s) : P (cancelCall s) := by
  unfold cancelCall
  exact askEmergency_tables hP (hP.congr (by simp [tableView, stopUpdateTimer, setEmergency]) h)

theorem expireUpdateTimer_tables (h : P s) : P (expireUpdateTimer s) := by
  unfold expireUpdateTimer
  split_ifs
  exacts [h, hP.congr (by simp [tableView, startUpdateTimer]) (askEmergency_tables hP (k := .alert) h)]

theorem takeEmergencyAck_tables {how} (h : P s) : P (takeEmergencyAck how s) := by
  unfold takeEmergencyAck
  split_ifs
  · have hacked : P (setEmergency .acked s) := hP.congr (by simp [tableView, setEmergency]) h
    exact hP.congr (by simp [tableView, acknowledgeCall, startUpdateTimer]) (removeWaiting_tables hP (p := waitingAlert) hacked)
  · exact h

theorem takeEmergencyClear_tables {how} (h : P s) : P (takeEmergencyClear how s) := by
  unfold takeEmergencyClear
  split_ifs
  exacts [returnToQuiet_tables hP h, h]

/-! The meter. -/

theorem takeTime_tables {x} (h : P s) : P (takeTime x s) := by
  unfold takeTime
  split_ifs <;> exact hP.congr (by simp [tableView, countFormatError]) h

theorem endCalendarSecond_tables (h : P s) : P (endCalendarSecond s) := by
  unfold endCalendarSecond groupRewrite
  simp only
  split_ifs <;> exact hP.congr (by simp [tableView]) h

theorem pressHire_tables {request} (h : P s) : P (pressHire request s).2 := by
  have hchosen : P (chooseTariff s).1 := by
    unfold chooseTariff
    split
    exacts [h, hP.congr (by simp [tableView]) h]
  have hstarted : ∀ t n, P t → P (meterChange .hired (openTrip (startHire n t))) := fun t n ht =>
    meterChange_tables hP (hP.congr (by simp [tableView, openTrip, startHire]) ht)
  have hclosed : P (stopHold (closeTrip (chooseTariff s).1)) := hP.congr (by simp [tableView, stopHold]) hchosen
  have hrefused : ∀ n, P (if request then (chooseTariff s).1 else recordFault .tariffInvalid n (chooseTariff s).1) :=
    fun n => by
      split_ifs
      exacts [hchosen, hP.congr (by simp [tableView]) hchosen]
  unfold pressHire
  split
  case h_1 hm =>
    simp only [hm, reduceCtorEq, if_false]
    split
    exacts [hstarted _ _ hchosen, hrefused _]
  case h_2 hm =>
    simp only [if_true]
    split
    exacts [hstarted _ _ hclosed, hrefused _]
  all_goals exact h

theorem pressExtra_tables {i} (h : P s) : P (pressExtra i s).2 := by
  unfold pressExtra takeExtra
  split_ifs <;> exact hP.congr (by simp [tableView]) h

theorem pressKey_tables {k request} (h : P s) : P (pressKey k request s).2 := by
  cases k with
  | hire => exact pressHire_tables hP h
  | stop =>
    change P (pressStop s).2
    unfold pressStop
    split
    exacts [meterChange_tables hP h, meterChange_tables hP h, h, h, h]
  | pay =>
    have hpaid : P (startHold (meterChange .payment (modTrip (fun t => { t with endTime := s.frc.clock }) s))) :=
      hP.congr (by simp [tableView, startHold]) (meterChange_tables hP (x := .payment)
        (hP.congr (t := modTrip (fun t => { t with endTime := s.frc.clock }) s) (by simp [tableView]) h))
    change P (pressPay s).2
    unfold pressPay
    split
    exacts [hpaid, hpaid, h, h, h]
  | clear =>
    change P (pressClear s).2
    unfold pressClear
    split
    · split_ifs
      exacts [meterChange_tables hP (hP.congr (by simp [tableView, stopHold]) h), h]
    all_goals exact h
  | extra => exact pressExtra_tables hP h

theorem openShift_tables {d} (h : P s) : P (openShift d s) := by
  unfold openShift
  exact meterChange_tables hP (hP.congr (by simp [tableView]) h)

theorem closeShift_tables (h : P s) : P (closeShift s) := by
  have hdetached : P (detachLastShift (refreshMetres s)) := by
    unfold detachLastShift
    split_ifs <;> exact hP.congr (by simp [tableView]) h
  unfold closeShift
  exact meterChange_tables hP (hP.congr (by simp [tableView]) hdetached)

theorem setOverride_tables {n} (h : P s) : P (setOverride n s) := by
  unfold setOverride
  simp only
  split_ifs <;> exact hP.congr (by simp [tableView]) h

/-! The store. -/

theorem finishMeterCommit_tables (h : P s) : P (finishMeterCommit s) := by
  have hone : ∀ t x, P t → P (reportCarriedTrip x t) := fun t x ht => by
    cases x with
    | none => exact hP.congr (by simp [tableView, reportCarriedTrip]) ht
    | some e =>
      have hcarried : ∀ g, P (t.modMtc g) := fun g => hP.congr (by simp [tableView]) ht
      have hsent : P (sendCarriedTrip e t) := by
        unfold sendCarriedTrip
        exact iteInduction (fun _ => queueTripFrame_tables hP (hcarried _)) fun _ => hcarried _
      exact hP.congr (by simp [tableView, reportCarriedTrip]) hsent
  have hdone : ∀ c first due, P (completeMeterCommit c first due s) := fun c first due => by
    have htrips := foldl_invariant P (fun t e => reportCarriedTrip e t) hone first
      (rewriteMirrors c (endWrite .meter (fun st => { st with meter := some c }) s))
      (hP.congr (by simp [tableView, rewriteMirrors, groupRewrite]) h)
    unfold completeMeterCommit reportCarriedShift
    exact iteInduction (fun _ => queueShiftFrame_tables hP (hP.congr (by simp [tableView]) htrips)) fun _ => htrips
  unfold finishMeterCommit
  split
  exacts [hdone _ _ _, h]

theorem answerTariffs_tables {x} (h : P s) : P (answerTariffs x s) := by
  unfold answerTariffs
  split
  exacts [hP.work _ _ _ _ _ (hP.congr (by simp [tableView]) h), h]

theorem answerSettings_tables {x} (h : P s) : P (answerSettings x s) := by
  unfold answerSettings
  split
  exacts [hP.work _ _ _ _ _ (hP.congr (by simp [tableView]) h), h]

theorem otherWrites_tables (h : P s) :
    P (finishCalibrationWrite s) ∧ P (finishTariffWrite s) ∧ P (finishSettingsWrite s) ∧ P (failCurrentWrite s) ∧
    P (beginNextWrite s) := by
  have hended : ∀ k g, P (endWrite k g s) := fun k g => hP.congr (by simp [tableView]) h
  have hfailed : ∀ k : StoreKind, P (recordFault .writeFailed k.code (endWrite k id s)) := fun k =>
    hP.congr (by simp [tableView]) h
  unfold finishCalibrationWrite finishTariffWrite finishSettingsWrite failCurrentWrite beginNextWrite
  refine ⟨?_, ?_, ?_, ?_, ?_⟩
  · split
    exacts [hended _ _, h]
  · split
    exacts [answerTariffs_tables hP (hended _ _), h]
  · split
    exacts [answerSettings_tables hP (hended _ _), h]
  · split
    · unfold failWrite afterFailure
      split
      exacts [hP.congr (by simp [tableView]) h, hP.congr (by simp [tableView]) h, answerTariffs_tables hP (hfailed _),
        answerSettings_tables hP (hfailed _)]
    · exact h
  · split_ifs
    · split
      exacts [hP.congr (by simp [tableView, beginWrite, removeWrite]) h, h]
    · exact h

/-! Position, zone and offers. -/

theorem takeZoneInfo_tables {z p} (h : P s) : P (takeZoneInfo z p s) := by
  unfold takeZoneInfo
  split_ifs <;> exact hP.congr (by simp [tableView]) h

theorem takePoll_tables {b} (h : P s) : P (takePoll b s) := by
  unfold takePoll
  exact askLive_tables hP (hP.congr (by simp [tableView]) h)

theorem zoneChange_tables {z} (h : P s) : P (zoneChange z s) := by
  have hmoved : ∀ g, P (s.modDsc g) := fun g => hP.congr (by simp [tableView]) h
  unfold zoneChange
  exact iteInduction (fun _ => askStatusFrame_tables hP (hmoved _)) fun _ => hmoved _

omit hP in
theorem offerWindow_le (w : Nat) : offerWindow w ≤ 60 := by
  unfold offerWindow clamp
  omega

theorem repeatOffer_tables {e w} (h : P s) : P (repeatOffer e w s) := by
  unfold repeatOffer
  split_ifs with ho
  · exact hP.offer s e _ (by simp [ho]) ⟨by simp [ho], rfl, rfl, fun _ => offerWindow_le w, id⟩ h
  · exact h

theorem expireOffer_tables {e} (h : P s) : P (expireOffer e s) := by
  unfold expireOffer
  split_ifs with ho
  · exact hP.congr (by simp [tableView]) (endOffer_tables hP (e := e) (x := .expired) (y := .none) (by decide) (by simp [ho]) h)
  · exact h

theorem stepRemaining_tables {e} (h : P s) : P (stepRemaining e s) := by
  unfold stepRemaining
  simp only
  split_ifs with ho hb
  · exact hP.offer s e _ (by simp [ho.1]) ⟨by simp [ho.1], rfl, rfl, fun hw => (Nat.sub_le _ _).trans hw, id⟩ h
  · exact hP.offer s e _ (by simp [hb.1]) ⟨by simp [hb.1], rfl, rfl, id, fun hw => (Nat.sub_le _ _).trans hw⟩ h
  · exact h

theorem startBid_tables {e} (ho : (s.oft.entries.get e).state = .open) (h : P s) : P (startBid e s) := by
  have hqueued : P (updateOffer e (fun x => { x with state := .bidQueued, bidFrame := .queued, windowRemaining := 0 }) s) :=
    hP.offer s e _ (by simp [ho]) ⟨by simp, rfl, rfl, fun _ => Nat.zero_le _, id⟩ h
  unfold startBid
  exact joinQueue_tables hP (requestStatus_tables hP hqueued)

/-- A bidding entry that the base ends (R81, R82). -/
theorem endBidByBase_tables {e x y} (hx : x ≠ .empty) (he : (s.oft.entries.get e).state ≠ .empty) (h : P s) :
    P (endBidByBase e x y s) :=
  hP.congr (by simp [tableView, endBidByBase])
    (requestStatus_tables hP (x := .available) (l := [.bidding]) (endBid_tables hP (y := y) (c := none) hx he h))

theorem expireAwardWait_tables {e} (h : P s) : P (expireAwardWait e s) := by
  unfold expireAwardWait
  split_ifs with hb
  · exact endBidByBase_tables hP (y := .noAward) (by decide) (by simp [hb]) h
  · exact h

theorem withdrawOthers_tables {e} (h : P s) : P (withdrawOthers e s) :=
  foldl_invariant P _ (fun t i ht => by
    split_ifs with ho
    exacts [endOffer_tables hP (by decide) (by simp [ho.2]) ht, ht]) _ _ h

theorem takeOwnAward_tables {e} (h : P s) : P (takeOwnAward e s) := by
  have hended : (s.oft.entries.get e).state ≠ .empty → P (endOffer e .awarded .none s) := fun he =>
    endOffer_tables hP (by decide) he h
  have hheld : ((endOffer e .awarded .none s).oft.entries.get e).state ≠ .empty := by
    rw [endOffer, updateOffer_entry]
    simp
  have hbid : (s.oft.entries.get e).state ≠ .empty → P (awardBid e s) := fun he => by
    have hgone : P (endBidFrame e (endOffer e .awarded .none s)) := by
      unfold endBidFrame
      exact hP.offer _ _ _ (by simpa using hheld) ⟨by simpa using hheld, rfl, rfl, id, id⟩
        (hP.congr (by simp [tableView]) (hended he))
    have hassigned : P (assign e (endBidFrame e (endOffer e .awarded .none s))) :=
      hP.congr (by simp [tableView, assign]) hgone
    exact hP.congr (by simp [tableView, awardBid]) (withdrawOthers_tables hP (e := e)
      (requestStatus_tables hP (x := .assigned) (l := [.bidding, .available]) hassigned))
  have hlate : (s.oft.entries.get e).state ≠ .empty → P (honourAward e s) := fun he => by
    have hassigned : P (assign e (endOffer e .awarded .none s)) := hP.congr (by simp [tableView, assign]) (hended he)
    unfold honourAward
    exact requestStatus_tables hP (hP.congr (by simp [tableView]) (withdrawOthers_tables hP (e := e) hassigned))
  have hrefused : (s.oft.entries.get e).state ≠ .empty → P (refuseAward e s) := fun he => queueRefuse_tables hP he h
  unfold takeOwnAward
  split
  case h_3 | h_4 => exact h
  case h_1 hs | h_2 hs => exact hbid (by simp [hs])
  case h_5 hs | h_6 hs | h_7 hs =>
    split_ifs
    exacts [hlate (by simp [hs]), hrefused (by simp [hs])]
  case h_8 hs | h_9 hs => exact hrefused (by simp [hs])

theorem takeOtherAward_tables {e} (h : P s) : P (takeOtherAward e s) := by
  unfold takeOtherAward
  split
  case h_1 hs =>
    exact hP.congr (by simp [tableView]) (endOffer_tables hP (e := e) (x := .lost) (y := .otherCab) (by decide) (by simp [hs]) h)
  case h_2 hs | h_3 hs => exact endBidByBase_tables hP (by decide) (by simp [hs]) h
  all_goals exact h

theorem takeAward_tables {n a} (h : P s) : P (takeAward n a s) := by
  unfold takeAward
  split <;> split_ifs
  exacts [takeOwnAward_tables hP h, takeOtherAward_tables hP h, joinQueue_tables hP h, h]

theorem takeWithdraw_tables {n} (h : P s) : P (takeWithdraw n s) := by
  unfold takeWithdraw
  split
  · exact h
  next e _ =>
    split
    case h_1 hs =>
      exact hP.congr (by simp [tableView]) (endOffer_tables hP (e := e) (x := .withdrawn) (y := .base) (by decide)
        (by simp [hs]) h)
    case h_2 hs | h_3 hs => exact endBidByBase_tables hP (by decide) (by simp [hs]) h
    case h_4 hs =>
      have hended : P (endOffer e .withdrawn .base s) := endOffer_tables hP (by decide) (by simp [hs]) h
      have hnamed : P (if s.oft.assignment = some e then requestStatus .available [.assigned] (endOffer e .withdrawn .base s)
          else endOffer e .withdrawn .base s) :=
        iteInduction (fun _ => requestStatus_tables hP hended) fun _ => hended
      exact hP.congr (by simp [tableView, withdrawAwarded]) hnamed
    all_goals exact h

/-! The air link. -/

theorem reportUp_tables (h : P s) : P (reportUp s) := by
  have hfirst : ∀ t, P t → P (reportFirstUp t) := fun t ht => by
    have hseen : ∀ g, P (t.modDsc g) := fun g => hP.congr (by simp [tableView]) ht
    unfold reportFirstUp
    exact iteInduction (fun _ => ht) fun _ => iteInduction (fun _ => hseen _) fun _ => askLive_tables hP (hseen _)
  have hreports : ∀ t, P t → P (requeueReports t) := fun t ht => by
    have hone : ∀ (t : State) (e : Fin 24), P t → P (requeueTrip e t) := fun t e ht => by
      unfold requeueTrip
      split_ifs
      exacts [queueTripFrame_tables hP (hP.congr (by simp [tableView, updateTripRecord]) ht), ht]
    have htrips : P (if tripReporting t then t.mtc.ageOrder.foldl (fun t e => requeueTrip e t) t else t) :=
      iteInduction (fun _ => foldl_invariant P _ (fun t e ht => hone t e ht) _ _ ht) fun _ => ht
    unfold requeueReports
    exact iteInduction (fun _ => queueShiftFrame_tables hP htrips) fun _ => htrips
  have hchosen : P { s with choices := s.choices + 1 } := hP.congr (by simp [tableView]) h
  unfold reportUp
  simp only
  split_ifs
  exacts [hreports _ (hfirst _ hchosen), hfirst _ (hreports _ hchosen), hfirst _ (hreports _ h)]

theorem linkChange_tables {x} (h : P s) : P (linkChange x s) := by
  have hchanged : ∀ g, P (setChannel .link (rejudge (s.modAle g))) := fun g => hP.congr (by simp [tableView]) h
  unfold linkChange
  split_ifs
  · exact h
  · cases x with
    | up => exact reportUp_tables hP (hchanged _)
    | lost => exact failFrames_tables hP (loseBidToLink_tables hP (hchanged _))
    | fading | hunt => exact hP.congr (by simp [tableView, dropAssignments]) h

theorem failAttempt_tables {q} (h : P s) : P (failAttempt q s) := by
  have hframes : ∀ g, P (modFrames g s) := fun g => hP.congr (by simp [tableView]) h
  unfold failAttempt
  split
  · exact h
  · simp only
    split_ifs
    exacts [hframes _, hframes _, deliverOutcome_tables hP (hframes _), hframes _, hframes _]

theorem takeCycleAcks_tables {n acks} (h : P s) : P (takeCycleAcks n acks s) := by
  have hack : ∀ (t : State) (q : Nat), P t → P (takeAck n q t) := fun t q ht => by
    unfold takeAck
    split
    exacts [deliverOutcome_tables hP (hP.congr (by simp [tableView]) ht), hP.congr (by simp [tableView]) ht]
  have hacks := foldl_invariant P (fun t q => takeAck n q t) hack acks s h
  exact foldl_invariant P _ (fun t q ht => failAttempt_tables hP ht) _ _ (hP.congr (by simp [tableView]) hacks)

omit hP in
theorem awardWait_le (s : State) : awardWait s ≤ 120 := by
  unfold awardWait clamp
  omega

theorem offerSlots_tables {m} (h : P s) : P (offerSlots m s) := by
  have hreported : ∀ t f, P t → P (reportFirstTransmission f t) := fun t f ht => by
    refine foldl_invariant P _ (fun u l hu => ?_) _ _ ht
    split
    · split_ifs with hq
      · exact hP.offer _ _ _ (by simp [hq.1]) ⟨by simp, rfl, rfl, id, fun _ => awardWait_le u⟩ hu
      · exact hu
    all_goals exact hu
  have hhanded : ∀ t p k, P t → P (handOver p k m t) := fun t p k ht => by
    have hmoved : ∀ g a, P ((modFrames g t).modAle a) := fun g a => hP.congr (by simp [tableView]) ht
    unfold handOver
    split
    · exact ht
    · exact iteInduction (fun _ => hreported _ _ (hmoved _ _)) fun _ => hmoved _ _
  have hzero : P (sendClassZero m s).1 := by
    unfold sendClassZero
    split
    · exact h
    · split
      exacts [h, hhanded _ _ _ h]
  have hhead : ∀ t, P t → P (sendHead m t) := fun t ht => by
    unfold sendHead
    split_ifs
    · exact ht
    · split
      · exact ht
      · split
        exacts [ht, hhanded _ _ _ ht]
  unfold offerSlots
  split_ifs
  exacts [hzero, hhead _ hzero]

theorem takeCycle_tables {c ready} (h : P s) : P (takeCycle c ready s) := by
  have hwatched : P (startWatch (s.modAle fun a => { a with rng := stepRng a.rng })) :=
    hP.congr (by simp [tableView, startWatch]) h
  have hup : ∀ g, P ((linkChange .up (startWatch (s.modAle fun a => { a with rng := stepRng a.rng }))).modAle g) := fun g =>
    hP.congr (by simp [tableView]) (linkChange_tables hP (x := .up) hwatched)
  have hacks : ∀ t, P t → ∀ acks g, P ((if addressGood t then takeCycleAcks c.number acks t else t).modPins g) :=
    fun t ht acks g => by
      split_ifs
      exacts [hP.congr (by simp [tableView]) (takeCycleAcks_tables hP (n := c.number) (acks := acks) ht),
        hP.congr (by simp [tableView]) ht]
  have hsend : ∀ t, P t → P (if ready then if addressGood t then offerSlots (layOutSlots c (cabAddress t)) t else t
      else recordFault .modemNotReady 0 t) := fun t ht => by
    split_ifs
    exacts [offerSlots_tables hP ht, ht, hP.congr (by simp [tableView]) ht]
  exact hsend _ (hacks _ (hup _) _ _)

theorem loseLink_tables (h : P s) : P (loseLink s) := by
  have hexpired : ∀ g, P (s.modAle g) := fun g => hP.congr (by simp [tableView]) h
  unfold loseLink
  exact iteInduction (fun _ => h) fun _ => iteInduction (fun _ => linkChange_tables hP (hexpired _)) fun _ => hexpired _

theorem fade_tables (h : P s) : P (fade s) := by
  have hexpired : ∀ g, P (s.modAle g) := fun g => hP.congr (by simp [tableView]) h
  unfold fade
  exact iteInduction (fun _ => h) fun _ => iteInduction (fun _ => linkChange_tables hP (hexpired _)) fun _ => hexpired _

theorem restartEngine_tables (h : P s) : P (restartEngine s) := by
  unfold restartEngine
  exact linkChange_tables hP (hP.congr (by simp [tableView, endTransmission, dropAssignments]) h)

end

end Sys2Proof.Machine
end

section
/-! SUPPORT. What a law of the tables needs besides, of the operations that fill and empty entries and that write window
memory; and that every command then keeps it. -/

namespace Sys2Proof.Machine

/-- A stage by whose end the pool has been freed (R87, R185). -/
abbrev Phase.windowMade (p : Phase) : Prop := 2 ≤ p.stagesEnded

/-- A new message as it is stored, before its channel and its receipt (R96). -/
def messagePut (i : Fin 24) (victim : Bool) (granted asked : Nat) (how : Addressing) (f : TextFields) (c : MessageClass)
    (p : PartCode) (s : State) : State :=
  let s₁ := if victim then replaceVictim i s else s
  let s₂ := (grantBlocks granted s₁).modMem (fillBlocks (grantedBlocks s₁ granted) (f.text.take (30 * granted)))
  updateInbox i (fun _ => newMessageEntry s₁ how f c p granted asked)
    (s₂.modMst fun m => { m with storeOrder := m.storeOrder ++ [i] })

theorem storeMessage_eq (i : Fin 24) (victim : Bool) (granted asked : Nat) (how : Addressing) (f : TextFields)
    (c : MessageClass) (p : PartCode) (s : State) :
    storeMessage i victim granted asked how f c p s =
      if (newMessageEntry (if victim then replaceVictim i s else s) how f c p granted asked).awaiting then
        setChannel c.channel (messagePut i victim granted asked how f c p s)
      else receiptStored how f.number f.sender
        (newMessageEntry (if victim then replaceVictim i s else s) how f c p granted asked).truncated
        (setChannel c.channel (messagePut i victim granted asked how f c p s)) := rfl

/-- A second part as it is appended, before its channel and its receipt (R97). -/
def secondPut (i : Fin 24) (f : TextFields) (granted : Nat) (s : State) : State :=
  let e := s.mst.inbox.get i
  let blocks := grantedBlocks s granted
  let text := f.text.take (30 * granted)
  updateInbox i (fun _ => e.appended blocks text.length granted (blocksFor f.text.length))
    ((grantBlocks granted s).modMem fun m => linkAfter e blocks (fillBlocks blocks text m))

theorem appendSecond_some {i : Fin 24} {how : Addressing} {f : TextFields} {granted : Nat} {s : State}
    (h : judgeGrant s (s.mst.inbox.get i).cls.grantClass (blocksFor f.text.length) s.mst.freeCount = some granted) :
    appendSecond i how f s = receiptStored how f.number f.sender
      ((s.mst.inbox.get i).appended (grantedBlocks s granted) (f.text.take (30 * granted)).length granted
        (blocksFor f.text.length)).truncated
      (setChannel (s.mst.inbox.get i).cls.channel (secondPut i f granted s)) := by
  unfold appendSecond
  simp only [h]
  rfl

theorem appendSecond_none {i : Fin 24} {how : Addressing} {f : TextFields} {s : State}
    (h : judgeGrant s (s.mst.inbox.get i).cls.grantClass (blocksFor f.text.length) s.mst.freeCount = none) :
    appendSecond i how f s = refuseText how f s := by
  unfold appendSecond
  simp only [h]

/-- A message found holds an entry. -/
theorem matchingMessage_held {s : State} {n c : Nat} {i : Fin 24} (h : matchingMessage s n c = some i) :
    (s.mst.inbox.get i).state ≠ .empty := by
  have hfound := List.find?_some h
  simp only [Bool.and_eq_true, bne_iff_ne, ne_eq] at hfound
  exact hfound.1.1

/-- What keeps a law `P` while record `r`, taken from the posted-order list, is served: `Q` holds until the record has been
answered or taken into work. -/
structure RecordKeeps (Q P : State → Prop) (r : Fin 16) : Prop where
  tables : TablesKeep Q
  answer : ∀ s x w, Q s → P (answer r x w s)
  work : ∀ s, Q s → P (takeIntoWork r s)
  release : ∀ s e, releasable e s = true → Q s → Q (releaseEntry e s)
  delete : ∀ s i, Q s → Q (deleteEntry i s)

/-- A law of the tables that every command keeps. -/
structure TablesLaw (P : State → Prop) : Prop extends TablesKeep P where
  served : ∀ s r rest, s.wpt.posted = r :: rest → P s → ∃ Q, RecordKeeps Q P r ∧ Q (leaveList rest s)
  phase : ∀ (s : State) (p : Phase), s.phase.windowMade → p.windowMade → P s → P { s with phase := p }
  cold : ∀ (s : State) (p : Phase), ¬p.windowMade → P (volatileCleared p s)
  window : ∀ s, P (stage2 s)
  store : ∀ s e how o, o.number ≠ 0 → offerWithNumber s o.number = none → (s.oft.entries.get e).state = .empty → P s →
    P (storeOffer e how o s)
  message : ∀ s i granted asked how f c p, (emptyInbox s.mst).or (victimFor s.mst c) = some i →
    judgeGrant s c.grantClass asked
      (s.mst.freeCount + if (emptyInbox s.mst).isNone then (s.mst.inbox.get i).blockCount else 0) = some granted →
    P s → P (messagePut i (emptyInbox s.mst).isNone granted asked how f c p s)
  second : ∀ s i f granted, (s.mst.inbox.get i).state ≠ .empty →
    judgeGrant s (s.mst.inbox.get i).cls.grantClass (blocksFor f.text.length) s.mst.freeCount = some granted → P s →
    P (secondPut i f granted s)
  write : ∀ s a b, (∀ r, a ≠ recordBase r) → P s → P (s.modMem fun m => m.write a b)
  post : ∀ s r, handField s r = 0#8 → P s → P ((setHand r 1#8 s).modWpt fun w => { w with posted := w.posted ++ [r] })
  unhand : ∀ s r b, handField s r ≠ 1#8 → b ≠ 1#8 → P s → P (setHand r b s)
  cancelled : ∀ s t r x d w, handField s r = 2#8 → P s → P t → t.mem = (setHand r 3#8 s).mem → P (writeAnswer r x d w t)
  cleared : ∀ s, P s →
    P ((s.modWpt fun w => { w with posted := [] }).modMem fun m => (clearRecords m).write 0x50 0#8)

section
variable {P Q : State → Prop} {s : State} {r : Fin 16}

/-! Requests in work. -/

theorem moveStatus_tables (hQ : RecordKeeps Q P r) {x y z} (h : Q s) : P (moveStatus r x y z s) := by
  unfold moveStatus
  split_ifs
  exacts [hQ.answer _ _ _ (setStatus_tables hQ.tables h), hQ.answer _ _ _ h]

theorem ownSetClock_tables (hQ : RecordKeeps Q P r) (h : Q s) : P (ownSetClock r s) := by
  unfold ownSetClock
  split_ifs
  exacts [hQ.answer _ _ _ (hQ.tables.congr (by simp [tableView]) h), hQ.answer _ _ _ h]

theorem ownMeterKey_tables (hQ : RecordKeeps Q P r) (h : Q s) : P (ownMeterKey r s) := by
  unfold ownMeterKey answerKey
  split_ifs
  · split
    exacts [hQ.answer _ _ _ (pressKey_tables hQ.tables h), hQ.answer _ _ _ h]
  · exact hQ.answer _ _ _ h

theorem ownAddExtra_tables (hQ : RecordKeeps Q P r) (h : Q s) : P (ownAddExtra r s) := by
  unfold ownAddExtra answerExtra
  exact iteInduction (fun _ => by split; exacts [hQ.answer _ _ _ (pressExtra_tables hQ.tables h), hQ.answer _ _ _ h])
    fun _ => hQ.answer _ _ _ h

theorem ownSelectTariff_tables (hQ : RecordKeeps Q P r) (h : Q s) : P (ownSelectTariff r s) := by
  unfold ownSelectTariff
  split_ifs
  exacts [hQ.answer _ _ _ h, hQ.answer _ _ _ (setOverride_tables hQ.tables h), hQ.answer _ _ _ h, hQ.answer _ _ _ h]

theorem ownShiftOpen_tables (hQ : RecordKeeps Q P r) (h : Q s) : P (ownShiftOpen r s) := by
  unfold ownShiftOpen
  split_ifs
  exacts [hQ.answer _ _ _ h, hQ.answer _ _ _ h, hQ.answer _ _ _ h, hQ.answer _ _ _ (openShift_tables hQ.tables h)]

theorem ownShiftClose_tables (hQ : RecordKeeps Q P r) (h : Q s) : P (ownShiftClose r s) := by
  unfold ownShiftClose
  split_ifs
  exacts [hQ.answer _ _ _ (closeShift_tables hQ.tables h), hQ.answer _ _ _ h]

theorem ownReleaseTrip_tables (hQ : RecordKeeps Q P r) (h : Q s) : P (ownReleaseTrip r s) := by
  unfold ownReleaseTrip
  split_ifs
  exacts [hQ.answer _ _ _ (hQ.tables.congr (by simp [tableView, updateTripRecord]) h), hQ.answer _ _ _ h,
    hQ.answer _ _ _ h]

/-- An OPEN entry is all that an ACCEPT_OFFER takes (R70). -/
theorem open_of_accepted {e : Fin 8} (h : acceptRefusal e s = none) : (s.oft.entries.get e).state = .open := by
  unfold acceptRefusal at h
  simp only at h
  split_ifs at h with h1 h2
  exact not_not.mp h2

theorem ownAcceptOffer_tables (hQ : RecordKeeps Q P r) (h : Q s) : P (ownAcceptOffer r s) := by
  unfold ownAcceptOffer
  split_ifs
  · split
    next => exact hQ.answer _ _ _ h
    next hj => exact hQ.answer _ _ _ (startBid_tables hQ.tables (open_of_accepted hj) h)
  · exact hQ.answer _ _ _ h

theorem ownDeclineOffer_tables (hQ : RecordKeeps Q P r) (h : Q s) : P (ownDeclineOffer r s) := by
  unfold ownDeclineOffer declineEntry
  split_ifs
  · split
    case h_1 ho => exact hQ.answer _ _ _ (endOffer_tables hQ.tables (by decide) (by simp [ho]) h)
    all_goals exact hQ.answer _ _ _ h
  · exact hQ.answer _ _ _ h

theorem ownReleaseOffer_tables (hQ : RecordKeeps Q P r) (h : Q s) : P (ownReleaseOffer r s) := by
  unfold ownReleaseOffer
  split_ifs with _ hr
  exacts [hQ.answer _ _ _ (hQ.release _ _ hr h), hQ.answer _ _ _ h, hQ.answer _ _ _ h]

theorem ownSendText_tables (hQ : RecordKeeps Q P r) (hP : TablesKeep P) (h : Q s) : P (ownSendText r s) := by
  unfold ownSendText
  split_ifs
  exacts [joinQueue_tables hP (hQ.work _ h), hQ.answer _ _ _ h]

/-- A non-EMPTY inbox entry that moves to a state other than EMPTY. -/
theorem inboxMove_tables (hQ : TablesKeep Q) {i : Fin 24} {x : InboxState} (hx : x ≠ .empty) (h : Q s) :
    Q (updateInbox i (fun e => { e with state := x }) s) :=
  hQ.inbox s i _ rfl (fun he => absurd he hx) h

theorem ownReply_tables (hQ : RecordKeeps Q P r) (hP : TablesKeep P) (h : Q s) : P (ownReply r s) := by
  unfold ownReply startReply
  split_ifs
  exacts [joinQueue_tables hP (hQ.work _ (inboxMove_tables hQ.tables (by decide) h)), hQ.answer _ _ _ h, hQ.answer _ _ _ h,
    hQ.answer _ _ _ h]

theorem ownMarkRead_tables (hQ : RecordKeeps Q P r) (h : Q s) : P (ownMarkRead r s) := by
  unfold ownMarkRead
  split_ifs
  exacts [hQ.answer _ _ _ (inboxMove_tables hQ.tables (by decide) h), hQ.answer _ _ _ h, hQ.answer _ _ _ h]

theorem ownDeleteMsg_tables (hQ : RecordKeeps Q P r) (h : Q s) : P (ownDeleteMsg r s) := by
  unfold ownDeleteMsg
  split_ifs
  · split
    exacts [hQ.answer _ _ _ h, hQ.answer _ _ _ h, hQ.answer _ _ _ (hQ.delete _ _ h), hQ.answer _ _ _ (hQ.delete _ _ h),
      hQ.answer _ _ _ (hQ.delete _ _ h)]
  · exact hQ.answer _ _ _ h

theorem ownEmergencyCancel_tables (hQ : RecordKeeps Q P r) (h : Q s) : P (ownEmergencyCancel r s) := by
  unfold ownEmergencyCancel
  split_ifs
  exacts [hQ.answer _ _ _ h, hQ.answer _ _ _ (cancelCall_tables hQ.tables h),
    hQ.answer _ _ _ (countWrongCode_tables hQ.tables h), hQ.answer _ _ _ h]

theorem ownStoreTariffs_tables (hQ : RecordKeeps Q P r) (hP : TablesKeep P) (h : Q s) : P (ownStoreTariffs r s) := by
  have htaken : P (takeIntoWork r (s.modCps fun c => { c with tariffRecord := some r })) :=
    hQ.work _ (hQ.tables.congr (by simp [tableView]) h)
  unfold ownStoreTariffs
  split_ifs
  · exact hQ.answer _ _ _ h
  · exact hQ.answer _ _ _ h
  · exact hQ.answer _ _ _ h
  · split
    exacts [hQ.answer _ _ _ h, hP.congr (by simp [tableView]) htaken]

theorem ownStoreSettings_tables (hQ : RecordKeeps Q P r) (hP : TablesKeep P) (h : Q s) : P (ownStoreSettings r s) := by
  have htaken : P (takeIntoWork r (s.modCps fun c => { c with settingsRecord := some r })) :=
    hQ.work _ (hQ.tables.congr (by simp [tableView]) h)
  unfold ownStoreSettings
  split_ifs
  exacts [hQ.answer _ _ _ h, hP.congr (by simp [tableView]) htaken]

/-- A request's arrival keeps the law when its owner's work does. -/
theorem takeRequest_tables (hP : TablesLaw P) {k : RequestKind} {owner : Fin 16 → State → State}
    (howner : ∀ Q r t, RecordKeeps Q P r → Q t → P (owner r t)) (h : P s) : P (takeRequest k owner s) :=
  takeRequest_law h fun r rest hr _ => by
    obtain ⟨Q, hQ, hleft⟩ := hP.served s r rest hr h
    exact serveRequest_law (hQ.answer _ _ _ hleft) (howner Q r _ hQ hleft)

/-! The window port. -/

variable (hP : TablesLaw P)
include hP

theorem zoneWrite_tables {x : State → State} (hx : ∀ t, P t → P (x t)) {b} (h : P s) :
    P (x (s.modMem fun m => m.write 0x50 b)) :=
  hx _ (hP.write s 0x50 b (fun r => by unfold recordBase; omega) h)

theorem illegalHand_tables {d} (h : P s) : P (illegalHand d s) := hP.congr (by simp [tableView, illegalHand]) h

theorem writeSlotHand_tables {b} (h : P s) : P (writeSlotHand b s) := by
  have hslot : P (s.modMem fun m => m.write 0x50 0#8) := zoneWrite_tables hP (x := id) (fun _ ht => ht) h
  have hfix : ∀ g, P ((s.modMem fun m => m.write 0x50 0#8).modDsc g) := fun g => hP.congr (by simp [tableView]) hslot
  unfold writeSlotHand takeFix
  refine iteInduction (fun _ => ?_) fun _ => illegalHand_tables hP h
  exact iteInduction (fun _ => iteInduction (fun _ => zoneChange_tables hP.toTablesKeep (hfix _)) fun _ => hfix _) fun _ => hfix _

/-- The inbox entries that a frame names become READ. -/
theorem readOrigins_tables {links : List OriginLink} (h : P s) :
    P (links.foldl (fun t l =>
        match l.origin with
        | .inbox i => updateInbox i (fun x => { x with state := .read }) t
        | .record _ | .offer _ _ | .trip _ | .lastShift | .emergency | .dispatch | .receipts | .refusals => t) s) :=
  foldl_invariant P _ (fun t l ht => by
    split
    exacts [inboxMove_tables hP.toTablesKeep (by decide) ht, ht, ht, ht, ht, ht, ht, ht, ht]) _ _ h

theorem cancelArrival_tables {r} (hhand : handField s r = 2#8) (h : P s) : P (cancelArrival r (setHand r 3#8 s)) := by
  have hset : P (setHand r 3#8 s) := hP.unhand s r _ (by simp [hhand]) (by decide) h
  have hanswer : ∀ t x d w, P t → t.mem = (setHand r 3#8 s).mem → P (writeAnswer r x d w t) := fun t x d w ht hm =>
    hP.cancelled s t r x d w hhand h ht hm
  have hreadmem : ∀ (links : List OriginLink) (t : State), (links.foldl (fun t l =>
        match l.origin with
        | .inbox i => updateInbox i (fun x => { x with state := .read }) t
        | .record _ | .offer _ _ | .trip _ | .lastShift | .emergency | .dispatch | .receipts | .refusals => t) t).mem
      = t.mem := fun links t => foldl_keeps State.mem _ (fun t l => by split <;> simp [updateInbox]) links t
  have hremoved : ∀ p t, (removeWaiting p t).mem = t.mem := fun p t => by
    unfold removeWaiting
    split_ifs <;> simp
  unfold cancelArrival
  split_ifs
  · unfold cancelText
    simp only
    split
    · exact hset
    · split_ifs
      · exact hset
      · exact hanswer _ _ _ _ (readOrigins_tables hP (removeWaiting_tables hP.toTablesKeep hset))
          ((hreadmem _ _).trans (hremoved _ _))
  · unfold cancelStore
    have hleft : ∀ k g, P ((removeWrite k (setHand r 3#8 s)).modCps g) := fun k g =>
      hP.congr (by simp [tableView, removeWrite]) hset
    split_ifs
    exacts [hanswer _ _ _ _ (hleft _ _) (by simp [removeWrite]), hanswer _ _ _ _ (hleft _ _) (by simp [removeWrite]), hset]
  · exact hset

theorem writeHand_tables {r b} (h : P s) : P (writeHand r b s) := by
  unfold writeHand
  simp only
  split_ifs with h0 h2 h4 h5
  · exact hP.post s r h0.1 h
  · exact cancelArrival_tables hP h2.1 h
  · exact hP.unhand s r _ (by simp [h4.1]) (by decide) h
  · exact h
  · exact illegalHand_tables hP h

theorem portResetQueue_tables (h : P s) : P (portResetQueue s) := by
  unfold portResetQueue
  exact foldl_invariant P _ (fun t f ht => readOrigins_tables hP ht) _ _ (hP.congr (by simp [tableView]) h)

theorem resetPort_tables (h : P s) : P (resetPort s) := by
  have hrecords : ∀ g, P (((s.modWpt fun w => { w with posted := [] }).modMem fun m =>
      (clearRecords m).write 0x50 0#8).modCps g) := fun g => hP.congr (by simp [tableView]) (hP.cleared s h)
  exact hP.congr (by simp [tableView, resetPort]) (portResetQueue_tables hP (hrecords fun c =>
    { c with tariffRecord := none, settingsRecord := none }))

omit hP in
/-- A byte that a host write stores is no hand field of a record. -/
theorem stored_ne_recordBase {offset : Nat} (h : judgeByte s offset = .store) (r : Fin 16) : offset ≠ recordBase r := by
  intro he
  have hr := r.isLt
  unfold recordBase at he
  have hmod : (offset - 0x100) % 64 = 0 := by omega
  rw [judgeByte, if_neg (by omega), if_neg (by omega), if_neg (by omega), if_neg (by omega), if_pos (by omega),
    if_pos hmod] at h
  cases h

theorem hostWrite_tables {bytes} (h : P s) : P (hostWrite bytes s) := by
  have hstored : P (storeBytes bytes (judgeByte s) s) := by
    unfold storeBytes
    refine foldl_invariant P _ (fun t x ht => ?_) _ _ h
    split_ifs with hx
    exacts [hP.write _ _ _ (stored_ne_recordBase hx) ht, ht]
  have hone : ∀ v o b t, P t → P (byteEffect v o b t) := fun v o b t ht => by
    unfold byteEffect
    split
    · exact ht
    · exact ht
    · unfold dropByte
      split_ifs
      exacts [ht, hP.congr (by simp [tableView]) ht]
    · exact writeHand_tables hP ht
    · exact writeSlotHand_tables hP ht
    · split_ifs
      exacts [resetPort_tables hP ht, ht]
    · exact hP.congr (by simp [tableView]) ht
  have hjudged : P (if bytes.any fun x => inSettings x.1 then settingsWritten s (storeBytes bytes (judgeByte s) s)
      else storeBytes bytes (judgeByte s) s) := by
    split_ifs
    exacts [hP.congr (by simp [tableView]) hstored, hstored]
  unfold hostWrite
  exact iteInduction (fun _ => h) fun _ => foldl_invariant P _ (fun t x ht => hone _ _ _ t ht) _ _ hjudged

/-! Start-up. -/

theorem stage1_tables : P (stage1 s) := hP.congr (by simp [tableView, stage1]) (hP.cold s .stage1 (by decide))

theorem stage3_tables (hs : s.phase = .stage2) (h : P s) : P (stage3 s) :=
  hP.congr (by simp [tableView]) (hP.phase s .stage3 (by rw [hs]; decide) (by decide) h)

theorem stage4_tables (hs : s.phase = .stage3) (h : P s) : P (stage4 s) := by
  have hjudged : P (judgeAddressAtStart ((s.modTxq fun _ => Txq.atReset).modAle fun _ =>
      { Ale.atReset with receiver := .hunting, rng := radioSeed s })) := hP.congr (by simp [tableView]) h
  unfold stage4
  refine hP.phase _ _ ?_ (by decide) ?_
  · simp only
    split_ifs <;> simp [hs] <;> decide
  · exact iteInduction (fun _ => askEmergency_tables hP.toTablesKeep hjudged) fun _ => hjudged

theorem stage5_tables (hs : s.phase = .stage4) (h : P s) : P (stage5 s) :=
  hP.congr (by simp [tableView]) (hP.phase s .ready (by rw [hs]; decide) (by decide) h)

/-! Every command. -/

/-- The arrival of a frame keeps the law when its delivery does. -/
theorem receiveFrame_tables {kind f} {deliver : Addressing → State → State} (hd : ∀ how t, P t → P (deliver how t)) (h : P s) :
    P (receiveFrame kind f deliver s) :=
  receiveFrame_law h (fun _ fate => hP.congr (by cases fate <;> simp [tableView, dropFrame, countCrcError, countFormatError]) h) fun _ _ _ => hd _ _ (hP.congr (by simp [tableView]) h)

theorem takeOffer_tables {how o} (h : P s) : P (takeOffer how o s) := by
  unfold takeOffer
  split_ifs with hzero
  · exact hP.congr (by simp [tableView, countFormatError]) h
  · split
    next => exact repeatOffer_tables hP.toTablesKeep h
    next hnew =>
      split
      next e he => exact hP.store s e how o hzero hnew (by simpa using List.find?_some he) h
      next => exact hP.congr (by simp [tableView]) h
  · exact h

theorem takeText_tables {how f} (h : P s) : P (takeText how f s) := by
  have hreceipt : ∀ n c b t, P t → P (receiptStored how n c b t) := fun n c b t ht => by
    unfold receiptStored
    split_ifs
    exacts [joinQueue_tables hP.toTablesKeep ht, ht]
  have hchannel : ∀ c t, P t → P (setChannel c t) := fun c t ht => hP.congr (by simp [tableView]) ht
  have hrefused : P (refuseText how f s) := by
    have hcounted : ∀ n : Mst → Nat, P (s.modMst fun m => { m with refused := n m }) := fun n => hP.congr (by simp [tableView]) h
    unfold refuseText
    exact iteInduction (fun _ => joinQueue_tables hP.toTablesKeep (hcounted _)) fun _ => hcounted _
  have hnew : ∀ c p, P (takeNewMessage how f c p s) := fun c p => by
    unfold takeNewMessage
    split
    · exact hrefused
    next i hi =>
      simp only
      split
      · exact hrefused
      next granted hg =>
        have hput := hP.message s i granted _ how f c p hi hg h
        rw [storeMessage_eq]
        exact iteInduction (fun _ => hchannel _ _ hput) fun _ => hreceipt _ _ _ _ (hchannel _ _ hput)
  have hsecond : ∀ i, (s.mst.inbox.get i).state ≠ .empty → P (appendSecond i how f s) := fun i hi => by
    cases hg : judgeGrant s (s.mst.inbox.get i).cls.grantClass (blocksFor f.text.length) s.mst.freeCount with
    | none => exact appendSecond_none hg ▸ hrefused
    | some granted => exact appendSecond_some hg ▸ hreceipt _ _ _ _ (hchannel _ _ (hP.second s i f granted hi hg h))
  have herror : P (countFormatError s) := hP.congr (by simp [tableView, countFormatError]) h
  unfold takeText
  split
  next c p _ _ =>
    refine iteInduction (fun _ => herror) fun _ => ?_
    split
    · exact iteInduction (fun _ => hrefused) fun _ => hnew _ _
    next i hi =>
      exact iteInduction (fun _ => iteInduction (fun _ => hsecond i (matchingMessage_held hi)) fun _ => h)
        fun _ => hreceipt _ _ _ _ h
  next => exact herror

/-- Every command keeps the law. -/
theorem effect_tables (c : Instr) (h : P s) : P (effect c s) := by
  have hK := hP.toTablesKeep
  cases c with
  | setClock => exact takeRequest_tables hP (fun _ _ _ hQ => ownSetClock_tables hQ) h
  | meterKey => exact takeRequest_tables hP (fun _ _ _ hQ => ownMeterKey_tables hQ) h
  | addExtra => exact takeRequest_tables hP (fun _ _ _ hQ => ownAddExtra_tables hQ) h
  | selectTariff => exact takeRequest_tables hP (fun _ _ _ hQ => ownSelectTariff_tables hQ) h
  | shiftOpen => exact takeRequest_tables hP (fun _ _ _ hQ => ownShiftOpen_tables hQ) h
  | shiftClose => exact takeRequest_tables hP (fun _ _ _ hQ => ownShiftClose_tables hQ) h
  | releaseTrip => exact takeRequest_tables hP (fun _ _ _ hQ => ownReleaseTrip_tables hQ) h
  | setBreak | setAvailable | noShow => exact takeRequest_tables hP (fun _ _ _ hQ => moveStatus_tables hQ) h
  | acceptOffer => exact takeRequest_tables hP (fun _ _ _ hQ => ownAcceptOffer_tables hQ) h
  | declineOffer => exact takeRequest_tables hP (fun _ _ _ hQ => ownDeclineOffer_tables hQ) h
  | releaseOffer => exact takeRequest_tables hP (fun _ _ _ hQ => ownReleaseOffer_tables hQ) h
  | sendText => exact takeRequest_tables hP (fun _ _ _ hQ => ownSendText_tables hQ hK) h
  | reply => exact takeRequest_tables hP (fun _ _ _ hQ => ownReply_tables hQ hK) h
  | markRead => exact takeRequest_tables hP (fun _ _ _ hQ => ownMarkRead_tables hQ) h
  | deleteMsg => exact takeRequest_tables hP (fun _ _ _ hQ => ownDeleteMsg_tables hQ) h
  | emergencyRaise => exact takeRequest_tables hP (fun _ _ _ hQ ht => hQ.answer _ _ _ (pressAlarm_tables hQ.tables ht)) h
  | emergencyCancel => exact takeRequest_tables hP (fun _ _ _ hQ => ownEmergencyCancel_tables hQ) h
  | radioRestart =>
    exact takeRequest_tables hP (fun _ _ _ hQ ht =>
      hQ.answer _ _ _ (restartEngine_tables hQ.tables (failFrames_tables hQ.tables ht))) h
  | storeTariffs => exact takeRequest_tables hP (fun _ _ _ hQ => ownStoreTariffs_tables hQ hK) h
  | storeSettings => exact takeRequest_tables hP (fun _ _ _ hQ => ownStoreSettings_tables hQ hK) h
  | time f => exact receiveFrame_tables hP (fun _ _ => takeTime_tables hK) h
  | zoneInfo f => exact receiveFrame_tables hP (fun _ _ => takeZoneInfo_tables hK) h
  | poll f => exact receiveFrame_tables hP (fun _ _ => takePoll_tables hK) h
  | offer f => exact receiveFrame_tables hP (fun _ _ => takeOffer_tables hP) h
  | award f => exact receiveFrame_tables hP (fun _ _ => takeAward_tables hK) h
  | withdraw f => exact receiveFrame_tables hP (fun _ _ => takeWithdraw_tables hK) h
  | text f => exact receiveFrame_tables hP (fun _ _ => takeText_tables hP) h
  | emergencyAck f => exact receiveFrame_tables hP (fun _ _ => takeEmergencyAck_tables hK) h
  | emergencyClear f => exact receiveFrame_tables hP (fun _ _ => takeEmergencyClear_tables hK) h
  | cycleFrame f modemReady => exact receiveFrame_tables hP (fun _ _ => takeCycle_tables hK) h
  | calendarSecondExpiry => exact iteInduction (fun _ => endCalendarSecond_tables hK h) fun _ => h
  | keyPress k => exact iteInduction (fun _ => pressKey_tables hK h) fun _ => h
  | alarmPress high =>
    exact iteInduction (fun _ => judgeAlarm_tables hK (s := s.modPins fun p => { p with alarm := high })
      (hP.congr (by simp [tableView]) h)) fun _ => h
  | positionFixPost => exact iteInduction (fun _ => writeSlotHand_tables hP h) fun _ => h
  | requestPost r => exact iteInduction (fun _ => writeHand_tables hP h) fun _ => h
  | requestCancel r => exact iteInduction (fun _ => writeHand_tables hP h) fun _ => h
  | portReset => exact iteInduction (fun _ => resetPort_tables hP h) fun _ => h
  | resetNAssert => exact iteInduction (fun _ => h) fun _ => hP.cold _ _ (by decide)
  | powerLoss => exact hP.cold _ _ (by decide)
  | startUp => exact iteInduction (fun _ => stage1_tables hP) fun _ => h
  | startupWindow => exact iteInduction (fun _ => hP.window s) fun _ => h
  | startupRecovery => exact iteInduction (fun hs => stage3_tables hP hs h) fun _ => h
  | startupRadio => exact iteInduction (fun hs => stage4_tables hP hs h) fun _ => h
  | startupReady => exact iteInduction (fun hs => stage5_tables hP hs h) fun _ => h
  | storeWriteBegin => exact (otherWrites_tables hK h).2.2.2.2
  | meterCommitComplete => exact finishMeterCommit_tables hK h
  | calibrationWriteComplete => exact (otherWrites_tables hK h).1
  | tariffWriteComplete => exact (otherWrites_tables hK h).2.1
  | settingsWriteComplete => exact (otherWrites_tables hK h).2.2.1
  | storeWriteFailed => exact (otherWrites_tables hK h).2.2.2.1
  | offerWindowExpiry e => exact expireOffer_tables hK h
  | awardWaitExpiry e => exact expireAwardWait_tables hK h
  | updateTimerExpiry => exact expireUpdateTimer_tables hK h
  | fadeExpiry => exact fade_tables hK h
  | lossExpiry => exact loseLink_tables hK h
  | hostWindowWrite => exact hostWrite_tables hP h
  | offerRemainingRewrite e => exact stepRemaining_tables hK h
  | unknownKind =>
    simp only [effect]
    unfold takeUnknown
    split
    · exact h
    next r rest hr =>
      split_ifs
      · obtain ⟨Q, hQ, hleft⟩ := hP.served s r rest hr h
        exact hQ.answer _ _ _ hleft
      · exact h
  | doneWrite data => exact iteInduction (fun _ => hP.congr (by simp [tableView]) h) fun _ => h
  | pulseEdge => exact iteInduction (fun _ => hP.congr (by simp [tableView]) h) fun _ => h
  | meterSecondExpiry => exact iteInduction (fun _ => hP.congr (by simp [tableView]) h) fun _ => h
  | paymentHoldExpiry => exact iteInduction (fun _ => h) fun _ => hP.congr (by simp [tableView]) h
  | slotStart k ready =>
    refine hP.congr ?_ h
    simp only [effect, startSlot, beginSlot]
    split
    · rfl
    · split
      · simp [tableView]
      · split_ifs
        · simp [tableView]
        · simp [tableView]
        · split <;> simp [tableView, transmit]
  | transmissionEnd =>
    refine hP.congr ?_ h
    simp only [effect, finishTransmission]
    split <;> simp [tableView, endTransmission]
  | modemReadyFall =>
    exact iteInduction (fun _ => hP.congr (by simp [tableView]) h) fun _ => hP.congr (by simp [tableView, endTransmission]) h
  | txcStall => exact iteInduction (fun _ => h) fun _ => hP.congr (by simp [tableView, endTransmission]) h
  | rxFrameAbandon => exact iteInduction (fun _ => hP.congr (by simp [tableView]) h) fun _ => h
  | rxLengthFormatError n =>
    exact iteInduction (fun _ => hP.congr (by simp [tableView, countFormatError]) h) fun _ => h
  | rxFrameDropped kind f =>
    refine hP.congr ?_ h
    simp only [effect, takeDropped]
    split_ifs
    · split
      · rfl
      · simp only [dropFrame]
        split <;> simp [tableView, countCrcError, countFormatError]
    · rfl
  | syncFound bits =>
    exact iteInduction (fun _ => iteInduction (fun _ => hP.congr (by simp [tableView]) h) fun _ =>
      hP.congr (by simp [tableView]) h) fun _ => h
  | attendRead =>
    refine hP.congr ?_ h
    simp only [effect, readAttend]
    split_ifs
    · split <;> simp [tableView, takeChannel, returnWord]
    · simp [tableView, returnWord]
  | calRunStart | calPointerWrite | calDataWrite | calDataRead | calStop | calBusIdleTimeout =>
    exact hP.congr (by simp [tableView, effect]) h

end

end Sys2Proof.Machine
end

section
/-! PROOF. Offer numbers stay distinct and EMPTY entries empty (O11), by a law of the entries alone. -/

namespace Sys2Proof.Machine

@[simp] theorem updateOffer_others (e : Fin 8) (g : OfferEntry → OfferEntry) (s : State) :
    (updateOffer e g s).mst = s.mst ∧ (updateOffer e g s).dsc = s.dsc ∧ (updateOffer e g s).mtc = s.mtc ∧
    (updateOffer e g s).cps = s.cps ∧ (updateOffer e g s).oft.assignment = s.oft.assignment := by
  simp [updateOffer]

@[simp] theorem updateInbox_others (i : Fin 24) (g : InboxEntry → InboxEntry) (s : State) :
    (updateInbox i g s).mem = s.mem ∧ (updateInbox i g s).oft = s.oft ∧ (updateInbox i g s).dsc = s.dsc ∧
    (updateInbox i g s).mtc = s.mtc ∧ (updateInbox i g s).cps = s.cps := by
  simp [updateInbox]

/-- The outcome of a frame moves an offer or an inbox entry within its states (R76, R103), so what keeps such moves and the
answers to requests in work keeps outcomes too. -/
theorem outcome_of_moves {P : State → Prop} (congr : ∀ {s t}, tableView t = tableView s → P s → P t)
    (work : ∀ s r x y w, P s → P (answerWork r x y w s))
    (offer : ∀ s e g, (s.oft.entries.get e).state ≠ .empty → OfferMoves (s.oft.entries.get e) (g (s.oft.entries.get e)) →
      P s → P (updateOffer e g s))
    (inbox : ∀ s i g, (g (s.mst.inbox.get i)).blockCount = (s.mst.inbox.get i).blockCount →
      ((g (s.mst.inbox.get i)).state = .empty → (s.mst.inbox.get i).state = .empty) → P s → P (updateInbox i g s))
    (s : State) (f : Frame) (o : TxOutcome) (h : P s) : P (routeOutcome f o s) := by
  have hrecord : ∀ r t, P t → P (routeToRecord o r t) := fun r t ht => by
    unfold routeToRecord
    split
    exacts [work _ _ _ _ _ ht, work _ _ _ _ _ ht]
  have hentry : ∀ e n t, P t → P (routeToOffer f.kind o e n t) := fun e n t ht => by
    unfold routeToOffer
    refine iteInduction (fun _ => ht) fun hgone => ?_
    have hheld : (t.oft.entries.get e).state ≠ .empty := fun hx => hgone (.inl hx)
    refine iteInduction (fun _ => offer _ _ _ hheld ⟨hheld, rfl, rfl, id, id⟩ ht) fun _ => ?_
    cases o with
    | delivered => exact offer _ _ _ hheld ⟨hheld, rfl, rfl, id, id⟩ ht
    | failed reason =>
      refine iteInduction (fun _ => ?_) fun _ => offer _ _ _ hheld ⟨hheld, rfl, rfl, id, id⟩ ht
      refine congr ?_ (offer t e (fun x => { x with
        bidFrame := .none, state := .lost, reason := reason.bidLoss, awardRemaining := 0 }) hheld
        ⟨by simp, rfl, rfl, id, fun _ => Nat.zero_le _⟩ ht)
      unfold leaveBidding
      split_ifs <;> simp [tableView]
  refine foldl_invariant P _ (fun t l ht => ?_) _ _ h
  split_ifs
  · exact ht
  · unfold routeToOrigin
    split
    · exact hrecord _ _ ht
    · exact inbox t _ _ rfl (fun hx => by cases o <;> cases hx) ht
    · exact hentry _ _ _ ht
    · exact congr (by simp [tableView, updateTripRecord]) ht
    · exact congr (by simp [tableView]) ht
    · exact ht
    all_goals
      split
      exacts [ht, congr (by simp [tableView]) ht]

/-- What a law of the offer and inbox entries and of the free count reads. -/
def entryView (s : State) : Phase × Vector OfferEntry 8 × Vector InboxEntry 24 × Nat :=
  (s.phase, s.oft.entries, s.mst.inbox, s.mst.freeCount)

/-- A law of the entries and of the free count, kept by the operations that move, fill and empty entries. -/
structure EntriesLaw (P : State → Prop) : Prop where
  congr : ∀ {s t}, entryView t = entryView s → P s → P t
  offer : ∀ s e g, (s.oft.entries.get e).state ≠ .empty → OfferMoves (s.oft.entries.get e) (g (s.oft.entries.get e)) →
    P s → P (updateOffer e g s)
  inbox : ∀ s i g, (g (s.mst.inbox.get i)).blockCount = (s.mst.inbox.get i).blockCount →
    ((g (s.mst.inbox.get i)).state = .empty → (s.mst.inbox.get i).state = .empty) → P s → P (updateInbox i g s)
  phase : ∀ (s : State) (p : Phase), s.phase.windowMade → p.windowMade → P s → P { s with phase := p }
  cold : ∀ (s : State) (p : Phase), ¬p.windowMade → P (volatileCleared p s)
  window : ∀ s, P (stage2 s)
  store : ∀ s e how o, o.number ≠ 0 → offerWithNumber s o.number = none → (s.oft.entries.get e).state = .empty → P s →
    P (storeOffer e how o s)
  message : ∀ s i granted asked how f c p, (emptyInbox s.mst).or (victimFor s.mst c) = some i →
    judgeGrant s c.grantClass asked
      (s.mst.freeCount + if (emptyInbox s.mst).isNone then (s.mst.inbox.get i).blockCount else 0) = some granted →
    P s → P (messagePut i (emptyInbox s.mst).isNone granted asked how f c p s)
  second : ∀ s i f granted, (s.mst.inbox.get i).state ≠ .empty →
    judgeGrant s (s.mst.inbox.get i).cls.grantClass (blocksFor f.text.length) s.mst.freeCount = some granted → P s →
    P (secondPut i f granted s)
  release : ∀ s e, releasable e s = true → P s → P (releaseEntry e s)
  delete : ∀ s i, P s → P (deleteEntry i s)

/-- Such a law reads no byte of window memory and not the posted-order list. -/
theorem EntriesLaw.tablesLaw {P : State → Prop} (hP : EntriesLaw P) : TablesLaw P := by
  have hcongr : ∀ {s t}, tableView t = tableView s → P s → P t := fun h => hP.congr (by
    simp only [tableView, Prod.mk.injEq] at h
    simp [entryView, h])
  have hwork : ∀ s r x y w, P s → P (answerWork r x y w s) := fun s r x y w => hP.congr (by simp [entryView])
  have hkeep : TablesKeep P :=
    ⟨hcongr, fun s f o => outcome_of_moves hcongr hwork hP.offer hP.inbox s f o, hwork, hP.offer, hP.inbox⟩
  exact { hkeep with
    served := fun s r rest _ h => ⟨P, ⟨hkeep, fun t x w => hP.congr (by simp [entryView]),
      fun t => hP.congr (by simp [entryView, takeIntoWork]), hP.release, hP.delete⟩, hP.congr (by simp [entryView]) h⟩
    phase := hP.phase
    cold := hP.cold
    window := hP.window
    store := hP.store
    message := hP.message
    second := hP.second
    write := fun s a b _ => hP.congr (by simp [entryView])
    post := fun s r _ => hP.congr (by simp [entryView])
    unhand := fun s r b _ _ => hP.congr (by simp [entryView])
    cancelled := fun s t r x d w _ _ ht _ => hP.congr (by simp [entryView]) ht
    cleared := fun s => hP.congr (by simp [entryView]) }

/-! The offer table, entry by entry. -/

section
variable (s : State) (e : Fin 8)

/-- An entry of the offer table after a change of one. -/
theorem updateOffer_get (g : OfferEntry → OfferEntry) (x : Fin 8) :
    (updateOffer e g s).oft.entries.get x = if x = e then g (s.oft.entries.get e) else s.oft.entries.get x := by
  split_ifs with hx
  · rw [hx, updateOffer_entry]
  · exact (updateOffer_onlyOffer e g s).2 x hx

/-- No entry holds a number that none is found for. -/
theorem offerWithNumber_none {n : Nat} (h : offerWithNumber s n = none) (x : Fin 8)
    (hx : (s.oft.entries.get x).state ≠ .empty) : (s.oft.entries.get x).number ≠ n := by
  have hnone := List.find?_eq_none.mp h x (by fin_cases x <;> simp [offerIndices])
  simpa [hx] using hnone

@[simp] theorem grantBlocks_oft (n : Nat) : (grantBlocks n s).oft = s.oft := by simp
@[simp] theorem grantBlocks_inbox (n : Nat) : (grantBlocks n s).mst.inbox = s.mst.inbox := by
  unfold grantBlocks
  simp only
  split_ifs <;> simp

theorem storeDetails_entry (d : List Byte) : ∃ y : OfferEntry,
    (∀ x, (storeDetails e d s).oft.entries.get x = if x = e then y else s.oft.entries.get x) ∧
    y.number = (s.oft.entries.get e).number ∧ y.windowRemaining = (s.oft.entries.get e).windowRemaining ∧
    y.awardRemaining = (s.oft.entries.get e).awardRemaining := by
  unfold storeDetails
  simp only
  split
  · exact ⟨_, updateOffer_get _ _ _, rfl, rfl, rfl⟩
  · refine ⟨{ s.oft.entries.get e with
        detailsLength := d.length, firstBlock := firstBlockOf (grantedBlocks s (blocksFor d.length)),
        blockCount := blocksFor d.length }, fun x => ?_, rfl, rfl, rfl⟩
    rw [updateOffer_get]
    simp

/-- The entry of a stored offer (R67). -/
theorem storeOffer_entry (how : Addressing) (o : OfferFields) : ∃ y : OfferEntry,
    (∀ x, (storeOffer e how o s).oft.entries.get x = if x = e then y else s.oft.entries.get x) ∧ y.state = .open ∧
    y.number = o.number ∧ y.windowRemaining ≤ 60 ∧ y.awardRemaining = 0 := by
  obtain ⟨y, hy, hn, -, ha⟩ := storeDetails_entry (updateOffer e (fun _ => newOfferEntry s how o) s) e o.details
  refine ⟨{ y with state := .open, windowRemaining := offerWindow o.window }, fun x => ?_, rfl, ?_, offerWindow_le _, ?_⟩
  · unfold storeOffer
    simp only [setChannel_kept, updateOffer_get, hy]
    split_ifs <;> rfl
  · simpa [newOfferEntry] using hn
  · simpa [newOfferEntry, OfferEntry.empty] using ha

end

/-- The law of the offer table does not break when one entry changes to another offer's, to none, or stays with its
number. -/
theorem OfferLaw.set {s t : State} {e : Fin 8} {y : OfferEntry} (h : OfferLaw s)
    (ht : ∀ x, t.oft.entries.get x = if x = e then y else s.oft.entries.get x)
    (hempty : y.state = .empty → y = OfferEntry.empty)
    (hnew : y.state ≠ .empty → ∀ x, x ≠ e → (s.oft.entries.get x).state ≠ .empty → (s.oft.entries.get x).number ≠ y.number) :
    OfferLaw t := by
  obtain ⟨hblank, hdistinct⟩ := h
  refine ⟨fun x hx => ?_, fun x z hx hz hn => ?_⟩
  · rw [ht] at hx ⊢
    split_ifs at hx ⊢
    exacts [hempty hx, hblank x hx]
  · rw [ht] at hx hn
    rw [ht] at hz hn
    split_ifs at hx hz hn with hxe hze hze
    · rw [hxe, hze]
    · exact absurd hn.symm (hnew hx z hze hz)
    · exact absurd hn (hnew hz x hxe hx)
    · exact hdistinct x z hx hz hn

theorem OfferLaw.of_entries {s t : State} (ht : t.oft.entries = s.oft.entries) (h : OfferLaw s) : OfferLaw t := by
  simpa [OfferLaw, ht] using h

/-- A table of EMPTY entries obeys the law. -/
theorem offerLaw_empty {s : State} (h : s.oft.entries = Vector.replicate 8 OfferEntry.empty) : OfferLaw s := by
  have hget : ∀ e, s.oft.entries.get e = OfferEntry.empty := fun e => by simp [h, Vector.get]
  exact ⟨fun e _ => hget e, fun e x he => absurd (congrArg OfferEntry.state (hget e)) he⟩

theorem offerLaw_entriesLaw : EntriesLaw OfferLaw where
  congr h := OfferLaw.of_entries (congrArg (·.2.1) h)
  offer s e g he hg h := h.set (updateOffer_get s e g) (fun hx => absurd hx hg.held) fun _ x hx hheld hn =>
    hx (h.2 x e hheld he (hn.trans hg.number))
  inbox s i g _ _ := OfferLaw.of_entries (by simp [updateInbox])
  phase s p _ _ h := h
  cold s p _ := offerLaw_empty rfl
  window s := offerLaw_empty (by simp [stage2, Oft.atReset])
  store s e how o hn hnone he h := by
    obtain ⟨y, hy, ho, hnum, -, -⟩ := storeOffer_entry s e how o
    exact h.set hy (fun hx => by simp [ho] at hx) fun _ x hx hheld => hnum ▸ offerWithNumber_none s hnone x hheld
  message s i granted asked how f c p _ _ := OfferLaw.of_entries (by
    unfold messagePut
    cases (emptyInbox s.mst).isNone <;> simp [updateInbox])
  second s i f granted _ _ := OfferLaw.of_entries (by simp [secondPut, updateInbox])
  release s e _ h := by
    have hfreed : OfferLaw (freeChain (s.oft.entries.get e).firstBlock (s.oft.entries.get e).blockCount s) :=
      h.of_entries (by simp)
    exact hfreed.set (updateOffer_get _ e fun _ => OfferEntry.empty) (fun _ => rfl) fun hx => absurd rfl hx
  delete s i := OfferLaw.of_entries (by simp [deleteEntry, updateInbox])

end Sys2Proof.Machine

open Sys2Proof Sys2Proof.Machine in
/-- Settles O11: no operation gives an entry a number that another holds. -/
theorem offerNumbersStayDistinct : Obligations.OfferNumbersStayDistinct :=
  law_step (fun _ _ hs => hs) (fun _ hs => hs) fun c _ hs => effect_tables offerLaw_entriesLaw.tablesLaw c hs

end

section
/-! PROOF. The posted-order list stays the list of the records that read POSTED (O10). -/

namespace Sys2Proof.Machine

/-! What the writes of the part do to the hand fields. -/

/-- A memory changes from the text pool on alone. -/
def Memory.KeepsBelowPool (m m' : Memory) : Prop := m'.Wf ∧ ∀ a, a < 0x900 → m'.read a = m.read a

theorem Memory.KeepsBelowPool.trans {m m' m'' : Memory} (h : m.KeepsBelowPool m') (h' : m'.KeepsBelowPool m'') :
    m.KeepsBelowPool m'' := ⟨h'.1, fun a ha => (h'.2 a ha).trans (h.2 a ha)⟩

theorem Memory.keepsBelowPool_refl {m : Memory} (h : m.Wf) : m.KeepsBelowPool m := ⟨h, fun _ _ => rfl⟩

theorem Memory.keepsBelowPool_write {m : Memory} (h : m.Wf) {a : Nat} (b : Byte) (ha : 0x900 ≤ a) :
    m.KeepsBelowPool (m.write a b) :=
  ⟨Memory.wf_write h a b, fun _ hx => Memory.read_write_other h b (by omega)⟩

theorem Memory.keepsBelowPool_writeBytes {m : Memory} (h : m.Wf) {a : Nat} (bs : List Byte) (ha : 0x900 ≤ a) :
    m.KeepsBelowPool (m.writeBytes a bs) :=
  ⟨Memory.wf_writeBytes h a bs, fun _ hx => Memory.read_writeBytes_other h bs (.inl (by omega))⟩

theorem blockBase_ge (b : Nat) : 0x900 ≤ blockBase b := Nat.le_add_right ..

theorem linkBlock_keepsBelowPool {m : Memory} (h : m.Wf) (last next : Nat) : m.KeepsBelowPool (linkBlock last next m) :=
  Memory.keepsBelowPool_write h _ (blockBase_ge last)

theorem fillBlocks_keepsBelowPool {m : Memory} (h : m.Wf) (blocks : List Nat) (text : List Byte) :
    m.KeepsBelowPool (fillBlocks blocks text m) := by
  induction blocks generalizing text m with
  | nil => exact Memory.keepsBelowPool_refl h
  | cons b bs ih =>
    have hb := blockBase_ge b
    have hcount := Memory.keepsBelowPool_write h (byteOf (text.take 30).length) (show 0x900 ≤ blockBase b + 1 by omega)
    have htext := Memory.keepsBelowPool_writeBytes hcount.1 (text.take 30) (show 0x900 ≤ blockBase b + 2 by omega)
    exact (hcount.trans htext).trans (ih htext.1 _)

theorem clearUsed_keepsBelowPool {m : Memory} (h : m.Wf) (blocks : List Nat) : m.KeepsBelowPool (clearUsed blocks m) := by
  induction blocks generalizing m with
  | nil => exact Memory.keepsBelowPool_refl h
  | cons b bs ih =>
    have hb := blockBase_ge b
    have hcount := Memory.keepsBelowPool_write h 0#8 (show 0x900 ≤ blockBase b + 1 by omega)
    exact hcount.trans (ih hcount.1)

theorem linkAfter_keepsBelowPool {m : Memory} (h : m.Wf) (e : InboxEntry) (blocks : List Nat) :
    m.KeepsBelowPool (linkAfter e blocks m) := by
  unfold linkAfter
  split_ifs
  exacts [Memory.keepsBelowPool_refl h, linkBlock_keepsBelowPool h _ _]

theorem storeDetails_wpt (e : Fin 8) (d : List Byte) (s : State) : (storeDetails e d s).wpt = s.wpt := by
  unfold storeDetails
  simp only
  split <;> simp

section
variable {s : State} (h : s.mem.Wf)
include h

theorem grantBlocks_keepsBelowPool (n : Nat) : s.mem.KeepsBelowPool (grantBlocks n s).mem := by
  unfold grantBlocks
  simp only
  split_ifs
  · exact Memory.keepsBelowPool_refl h
  all_goals simpa using linkBlock_keepsBelowPool h _ _

theorem freeChain_keepsBelowPool (first n : Nat) : s.mem.KeepsBelowPool (freeChain first n s).mem := by
  unfold freeChain
  simp only
  split_ifs
  · exact Memory.keepsBelowPool_refl h
  · have hused := clearUsed_keepsBelowPool h (chainBlocks s.mem first n)
    simpa using hused.trans (linkBlock_keepsBelowPool hused.1 _ _)

theorem replaceVictim_keepsBelowPool (i : Fin 24) : s.mem.KeepsBelowPool (replaceVictim i s).mem :=
  freeChain_keepsBelowPool h _ _

theorem storeDetails_keepsBelowPool (e : Fin 8) (d : List Byte) : s.mem.KeepsBelowPool (storeDetails e d s).mem := by
  have hgranted := grantBlocks_keepsBelowPool h (blocksFor d.length)
  unfold storeDetails
  simp only
  split
  · simpa using Memory.keepsBelowPool_refl h
  · simpa using hgranted.trans (fillBlocks_keepsBelowPool hgranted.1 _ _)

theorem storeOffer_keepsBelowPool (e : Fin 8) (how : Addressing) (o : OfferFields) :
    s.mem.KeepsBelowPool (storeOffer e how o s).mem := by
  have hstored := storeDetails_keepsBelowPool (s := updateOffer e (fun _ => newOfferEntry s how o) s)
    (by simpa using h) e o.details
  simpa [storeOffer] using hstored

theorem messagePut_keepsBelowPool (i : Fin 24) (v : Bool) (granted asked : Nat) (how : Addressing) (f : TextFields)
    (c : MessageClass) (p : PartCode) : s.mem.KeepsBelowPool (messagePut i v granted asked how f c p s).mem := by
  have hput : ∀ t : State, s.mem.KeepsBelowPool t.mem →
      s.mem.KeepsBelowPool (fillBlocks (grantedBlocks t granted) (f.text.take (30 * granted)) (grantBlocks granted t).mem) :=
    fun t ht =>
      (ht.trans (grantBlocks_keepsBelowPool ht.1 _)).trans (fillBlocks_keepsBelowPool (grantBlocks_keepsBelowPool ht.1 _).1 _ _)
  cases v
  · simpa [messagePut, updateInbox] using hput s (Memory.keepsBelowPool_refl h)
  · simpa [messagePut, updateInbox] using hput _ (replaceVictim_keepsBelowPool h i)

theorem secondPut_keepsBelowPool (i : Fin 24) (f : TextFields) (granted : Nat) :
    s.mem.KeepsBelowPool (secondPut i f granted s).mem := by
  have hgranted := grantBlocks_keepsBelowPool h granted
  have hfilled := fillBlocks_keepsBelowPool hgranted.1 (grantedBlocks s granted) (f.text.take (30 * granted))
  simpa [secondPut, updateInbox] using (hgranted.trans hfilled).trans (linkAfter_keepsBelowPool hfilled.1 _ _)

theorem setHand_handField (r : Fin 16) (b : Byte) (x : Fin 16) :
    handField (setHand r b s) x = if x = r then b else handField s x := by
  unfold handField setHand
  split_ifs with hx
  · rw [hx]
    exact Memory.read_write_same h _ _
  · refine Memory.read_write_other h _ fun he => hx (Fin.ext ?_)
    unfold recordBase at he
    omega

/-- An answer makes its record ANSWERED and leaves every other hand field. -/
theorem writeAnswer_handField (r : Fin 16) (v : Result) (d : Byte) (w : Nat) (x : Fin 16) :
    handField (writeAnswer r v d w s) x = if x = r then 4#8 else handField s x := by
  have hbody : (s.modMem fun m => m.writeBytes (recordBase r + 4) (answerBytes v d w)).mem.Wf :=
    Memory.wf_writeBytes h _ _
  rw [writeAnswer, handField, setChannel_mem]
  refine (setHand_handField hbody r _ x).trans ?_
  split_ifs
  · rfl
  · refine Memory.read_writeBytes_other h _ ?_
    have hlen : (answerBytes v d w).length = 4 := by simp [answerBytes]
    unfold recordBase
    omega

end

/-- Memory cells taken away read as unlisted. -/
theorem Memory.read_unlisted {m : Memory} {a : Nat} (h : ∀ c ∈ m, c.1 ≠ a) : m.read a = Memory.unlisted := by
  induction m with
  | nil => rfl
  | cons c m ih =>
    have hc : a ≠ c.1 := fun he => h c List.mem_cons_self he.symm
    rw [Memory.read, if_neg hc, ih fun d hd => h d (List.mem_cons_of_mem _ hd), ite_self]

/-- Every record is 0 after a port reset's clearing (R172). -/
theorem clearRecords_read (m : Memory) (r : Fin 16) : (clearRecords m).read (recordBase r) = 0#8 := by
  refine Memory.read_unlisted fun c hc he => ?_
  have hkept := (List.mem_filter.mp hc).2
  simp only [Bool.or_eq_true, decide_eq_true_eq] at hkept
  unfold recordBase at he
  omega

/-- Every record is FREE in the window memory of stage 2 (R185). -/
theorem startMemory_read (st : Store) (r : Fin 16) : (startMemory st).read (recordBase r) = 0#8 := by
  have hr : recordBase r < 0x900 := by unfold recordBase; omega
  have hbank := Memory.wf_writeBytes freedPool_wf 0x2B00 (st.tariffs.getD [])
  rw [startMemory, Memory.read_writeBytes_other hbank _ (.inl (by omega)),
    Memory.read_writeBytes_other freedPool_wf _ (.inl (by omega))]
  refine Memory.read_below fun c hc => ?_
  obtain ⟨b, -, rfl⟩ := List.mem_map.mp hc
  exact hr.trans_le (blockBase_ge b)

/-! The law, with at most one record taken and not yet answered. -/

/-- The list holds the records that read POSTED; a record that has left it is not in it, whatever it reads. -/
def PostedExcept (taken : Option (Fin 16)) (s : State) : Prop :=
  s.mem.Wf ∧ s.wpt.posted.Nodup ∧
  ∀ r, (taken ≠ some r → (r ∈ s.wpt.posted ↔ handField s r = 1#8)) ∧ (taken = some r → r ∉ s.wpt.posted)

theorem postedLaw_iff {s : State} : PostedLaw s ↔ PostedExcept none s := by
  simp [PostedLaw, PostedExcept]

/-- Writes that leave the set of POSTED records leave the law. -/
theorem PostedExcept.of_hands {taken : Option (Fin 16)} {s t : State} (h : PostedExcept taken s) (hwf : t.mem.Wf)
    (hlist : t.wpt.posted = s.wpt.posted)
    (hhands : ∀ r, taken ≠ some r → (handField t r = 1#8 ↔ handField s r = 1#8)) : PostedExcept taken t := by
  obtain ⟨-, hnodup, heach⟩ := h
  refine ⟨hwf, hlist ▸ hnodup, fun r => ⟨fun hr => ?_, fun hr => ?_⟩⟩
  · rw [hlist, hhands r hr]
    exact (heach r).1 hr
  · rw [hlist]
    exact (heach r).2 hr

theorem PostedExcept.of_keepsBelowPool {taken : Option (Fin 16)} {s t : State} (h : PostedExcept taken s)
    (hmem : s.mem.KeepsBelowPool t.mem) (hlist : t.wpt.posted = s.wpt.posted) : PostedExcept taken t :=
  h.of_hands hmem.1 hlist fun r _ => by
    rw [handField, handField, hmem.2 _ (by unfold recordBase; omega)]

theorem PostedExcept.of_mem {taken : Option (Fin 16)} {s t : State} (h : PostedExcept taken s) (hmem : t.mem = s.mem)
    (hlist : t.wpt.posted = s.wpt.posted) : PostedExcept taken t :=
  h.of_hands (hmem ▸ h.1) hlist fun r _ => by rw [handField, handField, hmem]

/-- A record that reads other than POSTED may come to read anything but POSTED. -/
theorem PostedExcept.of_hand {taken : Option (Fin 16)} {s t : State} {r : Fin 16} {b : Byte} (h : PostedExcept taken s)
    (hwf : t.mem.Wf) (hlist : t.wpt.posted = s.wpt.posted)
    (hset : ∀ x, handField t x = if x = r then b else handField s x) (hb : b ≠ 1#8)
    (hr : taken = some r ∨ handField s r ≠ 1#8) : PostedExcept taken t :=
  h.of_hands hwf hlist fun x hx => by
    rw [hset]
    split_ifs with hxr
    · subst hxr
      exact iff_of_false hb (hr.resolve_left hx)
    · rfl

/-- The taken record has been served once it reads other than POSTED. -/
theorem PostedExcept.served {r : Fin 16} {s t : State} {b : Byte} (h : PostedExcept (some r) s) (hwf : t.mem.Wf)
    (hlist : t.wpt.posted = s.wpt.posted) (hset : ∀ x, handField t x = if x = r then b else handField s x)
    (hb : b ≠ 1#8) : PostedExcept none t := by
  obtain ⟨-, hnodup, heach⟩ := h
  refine ⟨hwf, hlist ▸ hnodup, fun x => ⟨fun _ => ?_, fun hx => by cases hx⟩⟩
  rw [hlist, hset]
  split_ifs with hxr
  · subst hxr
    exact iff_of_false ((heach x).2 rfl) hb
  · exact (heach x).1 fun he => hxr (Option.some.inj he).symm

theorem postedExcept_tablesKeep (taken : Option (Fin 16)) : TablesKeep (PostedExcept taken) := by
  have hcongr : ∀ {s t}, tableView t = tableView s → PostedExcept taken s → PostedExcept taken t := fun h hs =>
    hs.of_mem (congrArg (·.2.1) h) (congrArg (·.2.2.2.2.2) h)
  have hwork : ∀ s r x y w, PostedExcept taken s → PostedExcept taken (answerWork r x y w s) := fun s r x y w h => by
    have hanswer : ∀ v d, handField s r ≠ 1#8 → PostedExcept taken (writeAnswer r v d w s) := fun v d hr =>
      h.of_hand (writeAnswer_memOk h.1) (by simp) (writeAnswer_handField h.1 r v d w) (by decide) (.inr hr)
    unfold answerWork
    split_ifs with h2 h3
    exacts [hanswer _ _ (by simp [h2]), hanswer _ _ (by simp [h3]), h]
  have hoffer : ∀ s e g, PostedExcept taken s → PostedExcept taken (updateOffer e g s) := fun s e g h =>
    h.of_mem (by simp) (by simp)
  have hinbox : ∀ s i g, PostedExcept taken s → PostedExcept taken (updateInbox i g s) := fun s i g h =>
    h.of_mem (by simp [updateInbox]) (by simp)
  exact ⟨hcongr, fun s f o => outcome_of_moves hcongr hwork (fun s e g _ _ => hoffer s e g) (fun s i g _ _ => hinbox s i g) s f o,
    hwork, fun s e g _ _ => hoffer s e g, fun s i g _ _ => hinbox s i g⟩

theorem postedExcept_recordKeeps (r : Fin 16) : RecordKeeps (PostedExcept (some r)) (PostedExcept none) r where
  tables := postedExcept_tablesKeep _
  answer s x w h := h.served (answer_memOk h.1) (by simp) (writeAnswer_handField h.1 r x _ w) (by decide)
  work s h := h.served (setHand_memOk h.1) (by simp [takeIntoWork]) (setHand_handField h.1 r 2#8) (by decide)
  release s e _ h := h.of_keepsBelowPool (by simpa [releaseEntry] using freeChain_keepsBelowPool h.1 _ _) (by simp [releaseEntry])
  delete s i h :=
    h.of_keepsBelowPool (by simpa [deleteEntry, updateInbox] using freeChain_keepsBelowPool h.1 _ _) (by simp [deleteEntry])

/-- No record reads POSTED and none is in the list. -/
theorem postedExcept_none_of_free {s : State} (hwf : s.mem.Wf) (hlist : s.wpt.posted = [])
    (hfree : ∀ r, handField s r = 0#8) : PostedExcept none s :=
  ⟨hwf, by simp [hlist], fun r => ⟨fun _ => by simp [hlist, hfree], fun h => by cases h⟩⟩

theorem posted_tablesLaw : TablesLaw (PostedExcept none) where
  toTablesKeep := postedExcept_tablesKeep none
  served s r rest hr h := by
    refine ⟨PostedExcept (some r), postedExcept_recordKeeps r, ?_⟩
    obtain ⟨hwf, hnodup, heach⟩ := h
    rw [hr] at hnodup
    obtain ⟨hhead, hrest⟩ := List.nodup_cons.mp hnodup
    refine ⟨hwf, hrest, fun x => ⟨fun hx => ?_, fun hx => Option.some.inj hx ▸ hhead⟩⟩
    have hxr : x ≠ r := fun he => hx (by rw [he])
    have hx := (heach x).1 (by simp)
    rw [hr, List.mem_cons, or_iff_right hxr] at hx
    exact hx
  phase s p _ _ h := h.of_mem rfl rfl
  cold s p _ := postedExcept_none_of_free Memory.wf_nil rfl fun r => rfl
  window s := postedExcept_none_of_free (by simpa [stage2] using startMemory_wf s.cps.store) (by simp [stage2, Wpt.atReset])
    fun r => by simpa [stage2, handField] using startMemory_read s.cps.store r
  store s e how o _ _ _ h := h.of_keepsBelowPool (storeOffer_keepsBelowPool h.1 e how o)
    (by simp [storeOffer, storeDetails_wpt])
  message s i granted asked how f c p _ _ h := h.of_keepsBelowPool (messagePut_keepsBelowPool h.1 ..) (by
    unfold messagePut
    cases (emptyInbox s.mst).isNone <;> simp)
  second s i f granted _ _ h := h.of_keepsBelowPool (secondPut_keepsBelowPool h.1 ..) (by simp [secondPut])
  write s a b ha h := h.of_hands (Memory.wf_write h.1 a b) rfl fun r _ => by
    rw [handField, handField, State.modMem_mem, Memory.read_write_other h.1 b (ha r).symm]
  post s r hr h := by
    obtain ⟨hwf, hnodup, heach⟩ := h
    have hout : r ∉ s.wpt.posted := fun hin => by
      have hone := ((heach r).1 (by simp)).mp hin
      simp [hr] at hone
    refine ⟨setHand_memOk hwf, ?_, fun x => ⟨fun _ => ?_, fun hx => by cases hx⟩⟩
    · simpa [List.nodup_append] using ⟨hnodup, fun x hx he => hout (he ▸ hx)⟩
    · change x ∈ s.wpt.posted ++ [r] ↔ handField (setHand r 1#8 s) x = 1#8
      rw [setHand_handField hwf, List.mem_append, (heach x).1 (by simp), List.mem_singleton]
      split_ifs with hx <;> simp [hx]
  unhand s r b hr hb h := h.of_hand (setHand_memOk h.1) (by simp) (setHand_handField h.1 r b) hb (.inr hr)
  cancelled s t r x d w hr h ht hm := by
    refine ht.of_hand (writeAnswer_memOk ht.1) (by simp) (writeAnswer_handField ht.1 r x d w) (by decide) (.inr ?_)
    rw [handField, hm]
    change handField (setHand r 3#8 s) r ≠ 1#8
    rw [setHand_handField h.1, if_pos rfl]
    decide
  cleared s h := by
    have hcleared := clearRecords_wf h.1
    refine postedExcept_none_of_free (Memory.wf_write hcleared _ _) rfl fun r => ?_
    refine (Memory.read_write_other hcleared _ ?_).trans (clearRecords_read s.mem r)
    unfold recordBase
    omega

end Sys2Proof.Machine

open Sys2Proof Sys2Proof.Machine in
/-- Settles O10: a record leaves the list as it is served, and its hand field says so before the command ends. -/
theorem postedListKeepsItsLaw : Obligations.PostedListKeepsItsLaw :=
  law_step (fun _ _ hs => hs) (fun _ hs => hs) fun c _ hs =>
    postedLaw_iff.mpr (effect_tables posted_tablesLaw c (postedLaw_iff.mp hs))

end

section
/-! PROOF. The free blocks and the blocks held number 224 (O9). -/

namespace Sys2Proof.Machine

/-- One summand of a list changes. -/
theorem sum_set (l : List Nat) (i : Nat) (h : i < l.length) (a : Nat) : (l.set i a).sum + l[i] = l.sum + a := by
  induction l generalizing i with
  | nil => simp at h
  | cons x l ih =>
    cases i with
    | zero => simp only [List.set_cons_zero, List.sum_cons, List.getElem_cons_zero]; omega
    | succ i =>
      have hrest := ih i (by simpa using h)
      simp only [List.set_cons_succ, List.sum_cons, List.getElem_cons_succ]
      omega

/-- One summand of a table changes. -/
theorem sum_map_of_get {α : Type} {n : Nat} {v w : Vector α n} (f : α → Nat) (i : Fin n) (y : α)
    (h : ∀ x, w.get x = if x = i then y else v.get x) :
    (w.toList.map f).sum + f (v.get i) = (v.toList.map f).sum + f y := by
  have hw : w = v.set i.val y i.isLt := Vector.ext fun k hk => by
    simpa [Vector.get_eq_getElem, Vector.getElem_set, Fin.ext_iff, eq_comm] using h ⟨k, hk⟩
  have hset := sum_set (v.toList.map f) i.val (by simp) (f y)
  rw [hw, Vector.toList_set, List.map_set]
  simpa [Vector.get_eq_getElem] using hset

section
variable (s : State)

/-- An entry of the inbox after a change of one. -/
theorem updateInbox_get (i : Fin 24) (g : InboxEntry → InboxEntry) (x : Fin 24) :
    (updateInbox i g s).mst.inbox.get x = if x = i then g (s.mst.inbox.get i) else s.mst.inbox.get x := by
  simp only [updateInbox, rejudge_kept, State.modMst_mst, Vector.get_eq_getElem, Vector.getElem_set, Fin.ext_iff, eq_comm]

@[simp] theorem grantBlocks_freeCount (n : Nat) : (grantBlocks n s).mst.freeCount = s.mst.freeCount - n := by
  unfold grantBlocks
  simp only
  split_ifs with hn
  · simp [hn]
  all_goals simp

@[simp] theorem freeChain_freeCount (first n : Nat) : (freeChain first n s).mst.freeCount = s.mst.freeCount + n := by
  unfold freeChain
  simp only
  split_ifs with hn
  · simp [hn]
  · simp

/-- No more blocks are granted than are counted as free (R89). -/
theorem judgeGrant_le {c : GrantClass} {n free granted : Nat} (h : judgeGrant s c n free = some granted) : granted ≤ free := by
  unfold judgeGrant at h
  cases c <;> simp only at h <;> split_ifs at h <;> cases h <;> omega

end

section
variable {s t : State} (h : PoolLaw s) (hphase : t.phase = s.phase)
include h hphase

theorem PoolLaw.of_view (hoffers : t.oft.entries = s.oft.entries) (hinbox : t.mst.inbox = s.mst.inbox)
    (hfree : t.mst.freeCount = s.mst.freeCount) : PoolLaw t := by
  simpa [PoolLaw, inboxBlocks, offerBlocks, hphase, hoffers, hinbox, hfree] using h

/-- One offer entry changes, and the free count by the blocks it takes or gives back. -/
theorem PoolLaw.of_offer {e : Fin 8} {y : OfferEntry}
    (hoffers : ∀ x, t.oft.entries.get x = if x = e then y else s.oft.entries.get x) (hinbox : t.mst.inbox = s.mst.inbox)
    (hfree : t.mst.freeCount + y.blockCount = s.mst.freeCount + (s.oft.entries.get e).blockCount)
    (hempty : y.state = .empty → y.blockCount = 0) : PoolLaw t := by
  obtain ⟨hsum, hin, hoff⟩ := h
  have hblocks := sum_map_of_get OfferEntry.blockCount e y hoffers
  refine ⟨fun hmade => ?_, by rw [hinbox]; exact hin, fun x hx => ?_⟩
  · have hbefore := hsum (hphase ▸ hmade)
    unfold inboxBlocks offerBlocks at *
    rw [hinbox]
    omega
  · rw [hoffers] at hx ⊢
    split_ifs at hx ⊢
    exacts [hempty hx, hoff x hx]

/-- One inbox entry changes, and the free count by the blocks it takes or gives back. -/
theorem PoolLaw.of_inbox {i : Fin 24} {y : InboxEntry}
    (hinbox : ∀ x, t.mst.inbox.get x = if x = i then y else s.mst.inbox.get x) (hoffers : t.oft.entries = s.oft.entries)
    (hfree : t.mst.freeCount + y.blockCount = s.mst.freeCount + (s.mst.inbox.get i).blockCount)
    (hempty : y.state = .empty → y.blockCount = 0) : PoolLaw t := by
  obtain ⟨hsum, hin, hoff⟩ := h
  have hblocks := sum_map_of_get InboxEntry.blockCount i y hinbox
  refine ⟨fun hmade => ?_, fun x hx => ?_, by rw [hoffers]; exact hoff⟩
  · have hbefore := hsum (hphase ▸ hmade)
    unfold inboxBlocks offerBlocks at *
    rw [hoffers]
    omega
  · rw [hinbox] at hx ⊢
    split_ifs at hx ⊢
    exacts [hempty hx, hin x hx]

end

/-- The details of an offer take the blocks granted and no others. -/
theorem storeDetails_blocks (e : Fin 8) (d : List Byte) (s : State) (hnone : (s.oft.entries.get e).blockCount = 0) :
    (storeDetails e d s).mst.freeCount + ((storeDetails e d s).oft.entries.get e).blockCount = s.mst.freeCount := by
  unfold storeDetails
  simp only
  split
  · simp [hnone]
  next granted hg =>
    have hle : blocksFor d.length ≤ s.mst.freeCount := by
      unfold judgeGrant at hg
      simp only at hg
      split_ifs at hg <;> omega
    simp [Nat.sub_add_cancel hle]

theorem storeOffer_inbox (e : Fin 8) (how : Addressing) (o : OfferFields) (s : State) :
    (storeOffer e how o s).mst.inbox = s.mst.inbox := by
  unfold storeOffer storeDetails
  simp only
  split <;> simp

/-- A stored offer holds the blocks that the free count has lost. -/
theorem storeOffer_blocks (e : Fin 8) (how : Addressing) (o : OfferFields) (s : State) :
    (storeOffer e how o s).mst.freeCount + ((storeOffer e how o s).oft.entries.get e).blockCount = s.mst.freeCount := by
  have hstored := storeDetails_blocks e o.details (updateOffer e (fun _ => newOfferEntry s how o) s)
    (by simp [newOfferEntry, OfferEntry.empty])
  simpa [storeOffer] using hstored

/-- No block is held where every entry is EMPTY. -/
theorem poolLaw_empty {s : State} (hoffers : s.oft.entries = Vector.replicate 8 OfferEntry.empty)
    (hinbox : s.mst.inbox = Vector.replicate 24 InboxEntry.empty) (hfree : s.phase.windowMade → s.mst.freeCount = 224) :
    PoolLaw s := by
  refine ⟨fun hmade => ?_, fun i _ => ?_, fun e _ => ?_⟩
  · simp [inboxBlocks, offerBlocks, hoffers, hinbox, hfree hmade, InboxEntry.empty, OfferEntry.empty]
  · simp [hinbox, Vector.get, InboxEntry.empty]
  · simp [hoffers, Vector.get, OfferEntry.empty]

/-- The free count and the inbox once a message has been stored (R96). -/
theorem messagePut_inbox (i : Fin 24) (v : Bool) (granted asked : Nat) (how : Addressing) (f : TextFields)
    (c : MessageClass) (p : PartCode) (s : State) :
    (messagePut i v granted asked how f c p s).phase = s.phase ∧
    (messagePut i v granted asked how f c p s).oft = s.oft ∧
    (messagePut i v granted asked how f c p s).mst.freeCount =
      (s.mst.freeCount + if v then (s.mst.inbox.get i).blockCount else 0) - granted ∧
    ∃ y, (∀ x, (messagePut i v granted asked how f c p s).mst.inbox.get x = if x = i then y else s.mst.inbox.get x) ∧
      y.state = .new ∧ y.blockCount = granted := by
  cases v
  · refine ⟨by simp [messagePut], by simp [messagePut], by simp [messagePut, updateInbox],
      newMessageEntry s how f c p granted asked, fun x => ?_, rfl, rfl⟩
    rw [messagePut, updateInbox_get]
    simp
  · refine ⟨by simp [messagePut], by simp [messagePut], by simp [messagePut, updateInbox, replaceVictim],
      newMessageEntry (replaceVictim i s) how f c p granted asked, fun x => ?_, rfl, rfl⟩
    rw [messagePut, updateInbox_get]
    simp

theorem secondPut_inbox (i : Fin 24) (f : TextFields) (granted : Nat) (s : State) :
    (secondPut i f granted s).phase = s.phase ∧ (secondPut i f granted s).oft = s.oft ∧
    (secondPut i f granted s).mst.freeCount = s.mst.freeCount - granted ∧
    ∃ y, (∀ x, (secondPut i f granted s).mst.inbox.get x = if x = i then y else s.mst.inbox.get x) ∧
      (y.state = .empty → (s.mst.inbox.get i).state = .empty) ∧
      y.blockCount = (s.mst.inbox.get i).blockCount + granted := by
  refine ⟨by simp [secondPut], by simp [secondPut], by simp [secondPut, updateInbox],
    (s.mst.inbox.get i).appended (grantedBlocks s granted) (f.text.take (30 * granted)).length granted
      (blocksFor f.text.length), fun x => ?_, fun hx => ?_, rfl⟩
  · rw [secondPut, updateInbox_get]
    simp
  · simp only [InboxEntry.appended] at hx
    split_ifs at hx
    exact hx

theorem poolLaw_entriesLaw : EntriesLaw PoolLaw where
  congr h hs := by
    simp only [entryView, Prod.mk.injEq] at h
    obtain ⟨hphase, hoffers, hinbox, hfree⟩ := h
    exact hs.of_view hphase hoffers hinbox hfree
  offer s e g he hg h := h.of_offer (by simp) (updateOffer_get s e g) (by simp)
    (by simp [hg.blocks])
    fun hx => absurd hx hg.held
  inbox s i g hblocks hempty h := h.of_inbox (by simp) (updateInbox_get s i g) (by simp) (by simp [updateInbox, hblocks])
    fun hx => hblocks.trans (h.2.1 i (hempty hx))
  phase s p hs _ h := ⟨fun _ => h.1 hs, h.2⟩
  cold s p hp := poolLaw_empty rfl rfl fun hmade => absurd hmade hp
  window s := poolLaw_empty (by simp [stage2, Oft.atReset]) (by simp [stage2, Mst.atStage2, Mst.atReset])
    fun _ => by simp [stage2, Mst.atStage2]
  store s e how o _ _ he h := by
    obtain ⟨y, hy, ho, -⟩ := storeOffer_entry s e how o
    have hblocks := storeOffer_blocks e how o s
    rw [hy, if_pos rfl] at hblocks
    refine h.of_offer ?_ hy (storeOffer_inbox e how o s) (hblocks.trans ?_) fun hx => by simp [ho] at hx
    · simp [storeOffer]
    · rw [h.2.2 e he, Nat.add_zero]
  message s i granted asked how f c p hi hg h := by
    obtain ⟨hphase, hoft, hfree, y, hy, hnew, hblocks⟩ :=
      messagePut_inbox i (emptyInbox s.mst).isNone granted asked how f c p s
    have hle := judgeGrant_le s hg
    refine h.of_inbox hphase hy (by rw [hoft]) ?_ fun hx => by simp [hnew] at hx
    rw [hfree, hblocks, Nat.sub_add_cancel hle]
    cases hfound : emptyInbox s.mst with
    | none => simp
    | some j =>
      rw [hfound, Option.some_or, Option.some.injEq] at hi
      have hempty := List.find?_some hfound
      rw [hi] at hempty
      simp [h.2.1 i (by simpa using hempty)]
  second s i f granted hheld hg h := by
    obtain ⟨hphase, hoft, hfree, y, hy, hempty, hblocks⟩ := secondPut_inbox i f granted s
    have hle := judgeGrant_le s hg
    refine h.of_inbox hphase hy (by rw [hoft]) ?_ fun hx => absurd (hempty hx) hheld
    rw [hfree, hblocks]
    omega
  release s e _ h := by
    refine h.of_offer (e := e) (y := OfferEntry.empty) (by simp [releaseEntry]) (fun x => ?_) (by simp [releaseEntry]) ?_
      fun _ => rfl
    · rw [releaseEntry, updateOffer_get]
      simp
    · simp [releaseEntry, OfferEntry.empty]
  delete s i h := by
    refine h.of_inbox (i := i) (y := InboxEntry.empty) (by simp [deleteEntry]) (fun x => ?_) (by simp [deleteEntry]) ?_
      fun _ => rfl
    · rw [deleteEntry, updateInbox_get]
      simp
    · simp [deleteEntry, updateInbox, InboxEntry.empty]

end Sys2Proof.Machine

open Sys2Proof Sys2Proof.Machine in
/-- Settles O9: an entry takes the blocks that it is granted from the free count and gives them back as it is emptied. -/
theorem poolKeepsItsCount : Obligations.PoolKeepsItsCount :=
  law_step (fun _ _ hs => hs) (fun _ hs => hs) fun c _ hs => effect_tables poolLaw_entriesLaw.tablesLaw c hs

end

section
/-! PROOF. The part as delivered obeys the laws (O4). -/

namespace Sys2Proof.Machine

theorem reset_offer_entry (e : Fin 8) : State.reset.oft.entries.get e = OfferEntry.empty := by
  fin_cases e <;> rfl

theorem reset_dispatchLaw : DispatchLaw State.reset := by
  refine ⟨by unfold StatusLaw; decide, ?_, ?_, ?_, ?_⟩
  · have hbids : ∀ e, (State.reset.oft.entries.get e).state.bidding ≠ true := fun e => by
      rw [reset_offer_entry]
      decide
    exact ⟨fun e x he => absurd he (hbids e), fun ⟨e, he⟩ => absurd he (hbids e), fun h => absurd h (by decide)⟩
  · exact ⟨nofun, by decide⟩
  · exact fun hcall => absurd rfl hcall
  · exact ⟨fun _ e => by rw [reset_offer_entry]; rfl, fun _ => rfl, fun _ => ⟨rfl, rfl, rfl⟩⟩

theorem reset_rangeLaw : RangeLaw State.reset := by
  have hring : ∀ i, State.reset.atc.ring.get i = RingEntry.empty := fun i => by fin_cases i <;> rfl
  have htrip : State.reset.mtc.trip.inRange := fun i => by fin_cases i <;> decide
  have htimers : ∀ e, (State.reset.oft.entries.get e).windowRemaining ≤ 60 ∧
      (State.reset.oft.entries.get e).awardRemaining ≤ 120 := fun e => by
    rw [reset_offer_entry]
    decide
  have hrepeats : ∀ i, (State.reset.atc.ring.get i).repeats ≤ 255 ∧ (State.reset.atc.ring.get i).detail ≤ 65535 := fun i => by
    rw [hring]
    decide
  have hhire : State.reset.frc.hire.inRange := by
    unfold Hire.inRange
    decide
  have htotals : State.reset.mtc.totals.inRange := by
    unfold TotalsGroup.inRange Totals.inRange
    decide
  have hstore : ∀ c, State.reset.cps.store.meter = some c → c.inRange := fun c hc => (Option.some_ne_none c hc.symm).elim
  have hwriting : ∀ c first due, State.reset.cps.writing = some (.meter c first due) → c.inRange := fun c _ _ hc =>
    (Option.some_ne_none _ hc.symm).elim
  have hframes : ∀ f ∈ State.reset.txq.frames, f.inRange := fun _ hf => absurd hf List.not_mem_nil
  exact ⟨by decide, hhire, by decide, by decide, by decide, htrip, htotals, by decide, hstore, hwriting, nofun, by decide,
    by decide, by decide, htimers, by decide, by decide, by decide, by decide, by decide, by decide, by decide, nofun,
    by decide, by decide, by decide, by decide, by decide, hframes, by decide, by decide, by decide, by decide, by decide,
    by decide, hrepeats, by decide⟩

end Sys2Proof.Machine

open Sys2Proof Sys2Proof.Machine in
/-- Settles O4: at reset the tables and the queue are empty and every register is 0 or at its least value. -/
theorem resetObeysTheLaws : Obligations.ResetObeysTheLaws := by
  have hpool : PoolLaw State.reset := poolLaw_empty rfl rfl fun hmade => absurd hmade (by decide)
  have hposted : PostedLaw State.reset := postedLaw_iff.mpr (postedExcept_none_of_free Memory.wf_nil rfl fun _ => rfl)
  have hfare : FareLaw State.reset := ⟨by decide, fun c hc => (Option.some_ne_none c hc.symm).elim,
    fun c _ _ hc => (Option.some_ne_none _ hc.symm).elim⟩
  exact ⟨Memory.wf_nil, hfare, (queueLaw_iff _).mpr FramesOk.nil, reset_dispatchLaw, hpool, hposted, offerLaw_empty rfl,
    reset_rangeLaw⟩

end

section
/-! SUPPORT. What a command leaves: which parts are kept, what its operations do at the attention controller in sequence, how
a request at the head of the list comes to its owner, and how a frame that is accepted is delivered. -/

namespace Sys2Proof.Machine

/-- A command completes with what holds of its effect once the lines are driven. -/
theorem completes_of_effect {c : Instr} {s t : State} {post : State → Prop} (heffect : effect c s = t)
    (hpost : post (driveLines t)) : Completes c s post := by
  rw [completes_iff, heffect]
  exact hpost

/-- What is kept, part by part. -/
theorem keeps_iff {l : List Part} {s t : State} : Keeps l s t ↔
    (.phase ∉ l → t.phase = s.phase) ∧ (.mem ∉ l → t.mem = s.mem) ∧ (.frc ∉ l → t.frc = s.frc) ∧
    (.mtc ∉ l → t.mtc = s.mtc) ∧ (.dsc ∉ l → t.dsc = s.dsc) ∧ (.oft ∉ l → t.oft = s.oft) ∧ (.mst ∉ l → t.mst = s.mst) ∧
    (.emc ∉ l → t.emc = s.emc) ∧ (.ale ∉ l → t.ale = s.ale) ∧ (.txq ∉ l → t.txq = s.txq) ∧ (.wpt ∉ l → t.wpt = s.wpt) ∧
    (.atc ∉ l → t.atc = s.atc) ∧ (.cps ∉ l → t.cps = s.cps) ∧ (.pins ∉ l → t.pins = s.pins) ∧
    (.choices ∉ l → t.choices = s.choices) ∧ (.pending ∉ l → t.pending = s.pending) := by
  refine ⟨fun h => ⟨h _, h _, h _, h _, h _, h _, h _, h _, h _, h _, h _, h _, h _, h _, h _, h _⟩, ?_⟩
  rintro ⟨h1, h2, h3, h4, h5, h6, h7, h8, h9, h10, h11, h12, h13, h14, h15, h16⟩ p
  cases p
  exacts [h1, h2, h3, h4, h5, h6, h7, h8, h9, h10, h11, h12, h13, h14, h15, h16]

/-! The settings. -/

theorem SameSettings.refl (s : State) : SameSettings s s := .of_mem rfl

theorem SameSettings.trans {s t u : State} (h : SameSettings s t) (h' : SameSettings t u) : SameSettings s u := fun o =>
  (h' o).trans (h o)

theorem SameSettings.setting_eq {s t : State} (h : SameSettings s t) (o : Nat) : setting t o = setting s o := by
  simp only [Machine.setting, h o]

/-! Channels and faults alone. -/

/-- These channels have been set over the fault ring `ring`, and nothing else at the attention controller (R173, R178). -/
def Sets (ring : Atc) (cs : List Channel) (s t : State) : Prop :=
  t.atc = { ring with pending := t.atc.pending } ∧ ∀ c, IsPending t c ↔ IsPending s c ∨ (c ∈ cs ∧ IsEnabled s c)

theorem raises_iff_sets {cs : List Channel} {s t : State} : Raises cs s t ↔ Sets s.atc cs s t := Iff.rfl

theorem recordsAt_iff_sets {n : Nat} {f : FaultId} {d : Nat} {cs : List Channel} {s t : State} :
    RecordsAt n f d cs s t ↔ Sets (ringAfter s.atc f d n) (.fault :: cs) s t := Iff.rfl

theorem records_iff_sets {f : FaultId} {d : Nat} {cs : List Channel} {s t : State} :
    Records f d cs s t ↔ Sets (ringAfter s.atc f d s.frc.clock.seconds) (.fault :: cs) s t := Iff.rfl

theorem isPending_congr {s t : State} (h : t.atc = s.atc) (c : Channel) : IsPending t c ↔ IsPending s c := by
  simp only [IsPending, h]

theorem ringAfter_pending (a : Atc) (f : FaultId) (d n : Nat) : (ringAfter a f d n).pending = a.pending := by
  unfold ringAfter
  split <;> rfl

/-- A ring entry is made without the pending word and the matches. -/
theorem ringAfter_beside (a : Atc) (f : FaultId) (d n : Nat) (p : Word16) (mA mB : Bool) :
    ringAfter { a with pending := p, matchA := mA, matchB := mB } f d n =
      { ringAfter a f d n with pending := p, matchA := mA, matchB := mB } := by
  simp only [ringAfter, ringRepeats]
  split <;> split <;> simp_all

theorem ringAfter_matches (a : Atc) (f : FaultId) (d n : Nat) :
    (ringAfter a f d n).matchA = a.matchA ∧ (ringAfter a f d n).matchB = a.matchB := by
  unfold ringAfter
  split <;> exact ⟨rfl, rfl⟩

namespace Sets

variable {s t u : State} {ring : Atc} {cs ds : List Channel}

theorem congr (h : Sets ring cs s t) (hcs : ∀ c, c ∈ cs ↔ c ∈ ds) : Sets ring ds s t := by
  obtain ⟨hatc, hset⟩ := h
  exact ⟨hatc, fun c => by rw [hset, hcs]⟩

theorem of_atc (h : t.atc = s.atc) : Sets s.atc [] s t :=
  ⟨by rw [h], fun c => by simp [isPending_congr h]⟩

/-- Channels set after others, over the same ring. -/
theorem trans (h : Sets ring cs s t) (h' : Sets t.atc ds t u) (hs : SameSettings s t) : Sets ring (cs ++ ds) s u := by
  obtain ⟨hatc, hset⟩ := h
  obtain ⟨hatc', hset'⟩ := h'
  refine ⟨by rw [hatc', hatc], fun c => ?_⟩
  rw [hset', hset, hs.isEnabled, List.mem_append, or_and_right, or_assoc]

/-- A fault recorded after channels have been set. -/
theorem trans_records {f : FaultId} {d n : Nat} (h : Sets s.atc cs s t) (h' : Sets (ringAfter t.atc f d n) ds t u)
    (hs : SameSettings s t) : Sets (ringAfter s.atc f d n) (cs ++ ds) s u := by
  obtain ⟨hatc, hset⟩ := h
  obtain ⟨hatc', hset'⟩ := h'
  refine ⟨?_, fun c => ?_⟩
  · rw [hatc', hatc]
    have hring := ringAfter_beside s.atc f d n t.atc.pending s.atc.matchA s.atc.matchB
    obtain ⟨hA, hB⟩ := ringAfter_matches s.atc f d n
    rw [show ({ s.atc with pending := t.atc.pending } : Atc) =
      { s.atc with pending := t.atc.pending, matchA := s.atc.matchA, matchB := s.atc.matchB } from rfl, hring, ← hA, ← hB]
  · rw [hset', hset, hs.isEnabled, List.mem_append, or_and_right, or_assoc]

/-- What has been set does not depend on what the attention controller does not read. -/
theorem rebase {s' t' : State} (h : Sets ring cs s t) (hs : s'.atc = s.atc) (ht : t'.atc = t.atc)
    (hsame : SameSettings s s') : Sets ring cs s' t' := by
  obtain ⟨hatc, hset⟩ := h
  refine ⟨by rw [ht, hatc], fun c => ?_⟩
  rw [isPending_congr ht, isPending_congr hs, hset, hsame.isEnabled]

end Sets

theorem setChannel_sets (c : Channel) (s : State) : Sets s.atc [c] s (setChannel c s) := setChannel_raises c s

theorem recordFault_records (f : FaultId) (d : Nat) (s : State) : Records f d [] s (recordFault f d s) := by
  obtain ⟨hatc, hset⟩ := setChannel_raises .fault (s.modAtc fun a => ringAfter a f d s.frc.clock.seconds)
  refine ⟨hatc, fun c => (hset c).trans (or_congr_left ?_)⟩
  simp only [IsPending, State.modAtc_atc, ringAfter_pending]

/-! Channels, faults and judgements in sequence. -/

/-- Between two states of a command channels have been set and matches judged, over the fault ring `ring`; the matches need
not be those of the state after (R173, R176 to R178). -/
structure Attends (ring : Atc) (cs : List Channel) (s t : State) : Prop where
  phase : t.phase = s.phase
  settings : SameSettings s t
  atc : t.atc = { ring with pending := t.atc.pending, matchA := t.atc.matchA, matchB := t.atc.matchB }
  others : ∀ c, c ≠ .pattern → (IsPending t c ↔ IsPending s c ∨ (c ∈ cs ∧ IsEnabled s c))
  stays : IsPending s .pattern → IsPending t .pattern
  only : IsPending t .pattern → IsPending s .pattern ∨ (IsEnabled s .pattern ∧ ChangeReported s ∧ s.phase = .ready)
  reported : s.phase = .ready → IsEnabled s .pattern → MatchReported s t → IsPending t .pattern
  held : s.phase ≠ .ready → t.atc.matchA = s.atc.matchA ∧ t.atc.matchB = s.atc.matchB

/-- Once READY the match results are those of the state (R176). -/
def MatchesNow (s : State) : Prop := s.phase = .ready → s.atc.matchA = matchNowA s ∧ s.atc.matchB = matchNowB s

namespace Attends

variable {s t u : State} {ring : Atc} {cs ds : List Channel}

theorem congr (h : Attends ring cs s t) (hcs : ∀ c, c ∈ cs ↔ c ∈ ds) : Attends ring ds s t :=
  { h with others := fun c hc => by rw [h.others c hc, hcs] }

theorem of_sets (hset : Sets ring cs s t) (hpattern : Channel.pattern ∉ cs) (hphase : t.phase = s.phase)
    (hsettings : SameSettings s t) (hmatches : ring.matchA = s.atc.matchA ∧ ring.matchB = s.atc.matchB) :
    Attends ring cs s t := by
  obtain ⟨hatc, hpend⟩ := hset
  obtain ⟨hA, hB⟩ := hmatches
  have hA' : t.atc.matchA = s.atc.matchA := by rw [hatc, ← hA]
  have hB' : t.atc.matchB = s.atc.matchB := by rw [hatc, ← hB]
  have hp : IsPending t .pattern ↔ IsPending s .pattern := by simp [hpend, hpattern]
  refine ⟨hphase, hsettings, ?_, fun c _ => hpend c, hp.mpr, fun h => .inl (hp.mp h), fun _ _ hm => ?_, fun _ => ⟨hA', hB'⟩⟩
  · rw [hatc]
  · exact absurd hm (by simp [MatchReported, hA', hB'])

theorem of_atc (hatc : t.atc = s.atc) (hphase : t.phase = s.phase) (hsettings : SameSettings s t) :
    Attends s.atc [] s t := of_sets (.of_atc hatc) List.not_mem_nil hphase hsettings ⟨rfl, rfl⟩

/-- A match that differs over two stretches differs over one of them. -/
theorem matchReported_split (hs : SameSettings s t) (ht : SameSettings t u) (h : MatchReported s u) :
    MatchReported s t ∨ MatchReported t u := by
  simp only [MatchReported, ht.settingFlag, hs.settingFlag] at h ⊢
  obtain ⟨hne, hflag⟩ | ⟨hne, hflag⟩ := h
  · by_cases hA : t.atc.matchA = s.atc.matchA
    · exact .inr (.inl ⟨by rwa [hA], hflag⟩)
    · exact .inl (.inl ⟨hA, hflag⟩)
  · by_cases hB : t.atc.matchB = s.atc.matchB
    · exact .inr (.inr ⟨by rwa [hB], hflag⟩)
    · exact .inl (.inr ⟨hB, hflag⟩)

theorem changeReported_iff (h : Attends ring cs s t) : ChangeReported t ↔ ChangeReported s := h.settings.changeReported

/-- One stretch after another; `ring'` is the fault ring after both. -/
theorem step {ring' ring'' : Atc} (h : Attends ring cs s t) (h' : Attends ring' ds t u)
    (hring : { ring' with pending := u.atc.pending, matchA := u.atc.matchA, matchB := u.atc.matchB } =
      { ring'' with pending := u.atc.pending, matchA := u.atc.matchA, matchB := u.atc.matchB }) :
    Attends ring'' (cs ++ ds) s u where
  phase := h'.phase.trans h.phase
  settings := h.settings.trans h'.settings
  atc := h'.atc.trans hring
  others c hc := by rw [h'.others c hc, h.others c hc, h.settings.isEnabled, List.mem_append, or_and_right, or_assoc]
  stays hp := h'.stays (h.stays hp)
  only hp := (h'.only hp).elim h.only fun ⟨hen, hch, hready⟩ =>
    .inr ⟨(h.settings.isEnabled _).mp hen, h.changeReported_iff.mp hch, h.phase ▸ hready⟩
  reported hready hen hm :=
    (matchReported_split h.settings h'.settings hm).elim (fun hst => h'.stays (h.reported hready hen hst)) fun htu =>
      h'.reported (h.phase.trans hready) ((h.settings.isEnabled _).mpr hen) htu
  held hready := by
    obtain ⟨hA, hB⟩ := h.held hready
    obtain ⟨hA', hB'⟩ := h'.held (h.phase ▸ hready)
    exact ⟨hA'.trans hA, hB'.trans hB⟩

theorem trans (h : Attends ring cs s t) (h' : Attends t.atc ds t u) : Attends ring (cs ++ ds) s u :=
  h.step h' (by rw [h.atc])

theorem trans_records {f : FaultId} {d n : Nat} (h : Attends s.atc cs s t) (h' : Attends (ringAfter t.atc f d n) ds t u) :
    Attends (ringAfter s.atc f d n) (cs ++ ds) s u :=
  h.step h' (by rw [h.atc, ringAfter_beside])

/-- Nothing more at the attention controller. -/
theorem then_atc (h : Attends ring cs s t) (hatc : u.atc = t.atc) (hphase : u.phase = t.phase) (hmem : SameSettings t u) :
    Attends ring cs s u :=
  (h.trans (of_atc hatc hphase hmem)).congr (by simp)

theorem then_sets (h : Attends ring cs s t) (hset : Sets t.atc ds t u) (hpattern : Channel.pattern ∉ ds)
    (hphase : u.phase = t.phase) (hsettings : SameSettings t u) : Attends ring (cs ++ ds) s u :=
  h.trans (of_sets hset hpattern hphase hsettings ⟨rfl, rfl⟩)

theorem rebase {s' : State} (h : Attends ring cs s t) (hatc : s'.atc = s.atc) (hphase : s'.phase = s.phase)
    (hsettings : SameSettings s' s) : Attends ring cs s' t :=
  ((of_atc (s := s') (t := s) hatc.symm hphase.symm hsettings).step h rfl).congr (by simp)

/-- A stretch whose matches are judged at its end. -/
theorem beside (h : Attends ring cs s t) (hnow : MatchesNow t) : RaisesBeside ring cs s t :=
  ⟨h.atc, h.others, h.stays, h.only, h.reported, fun hready => hnow (h.phase.trans hready), h.held⟩

end Attends

theorem rejudge_attends (s : State) : Attends s.atc [] s (rejudge s) := by
  obtain ⟨hatc, hset, hkeep, honly, hpattern, htaken, hheld⟩ := rejudge_raisesJudged s
  exact ⟨by simp, .of_mem (rejudge_mem s), hatc, hset, hkeep, honly, hpattern, hheld⟩

theorem setChannel_attends {c : Channel} (h : c ≠ .pattern) (s : State) : Attends s.atc [c] s (setChannel c s) :=
  .of_sets (setChannel_sets c s) (by simpa using h.symm) (by simp) (.of_mem (by simp)) ⟨rfl, rfl⟩

theorem recordFault_attends (f : FaultId) (d : Nat) (s : State) :
    Attends (ringAfter s.atc f d s.frc.clock.seconds) [.fault] s (recordFault f d s) :=
  .of_sets (recordFault_records f d s) (by decide) (by simp) (.of_mem (by simp)) (ringAfter_matches ..)

theorem rejudge_matchesNow (s : State) : MatchesNow (rejudge s) := fun hready => by
  obtain ⟨-, -, -, -, -, htaken, -⟩ := rejudge_raisesJudged s
  exact htaken (by simpa using hready)

/-- What the condition flags are made of, beside the routine mark (R158). -/
structure FlagsSame (s t : State) : Prop where
  meter : t.mtc.meter = s.mtc.meter
  status : t.dsc.status = s.dsc.status
  call : t.emc.state = s.emc.state
  link : t.ale.link = s.ale.link
  offers : t.oft.entries = s.oft.entries
  inbox : t.mst.inbox = s.mst.inbox
  free : t.mst.freeCount = s.mst.freeCount

theorem FlagsSame.conditionFlags {s t : State} (h : FlagsSame s t) (hs : SameSettings s t) :
    conditionFlags t = conditionFlags s := by
  have hmark : routineMark t = routineMark s := by simp only [routineMark, hs.setting_eq]
  simp only [Machine.conditionFlags, offerOpen, unread, poolLow, hmark, h.meter, h.status, h.call, h.link, h.offers, h.inbox,
    h.free]

/-- What the match results come from is as it was. -/
theorem MatchesNow.of_flags {s t : State} (h : MatchesNow s) (hphase : t.phase = s.phase) (hf : FlagsSame s t)
    (hs : SameSettings s t) (hA : t.atc.matchA = s.atc.matchA) (hB : t.atc.matchB = s.atc.matchB) : MatchesNow t := fun hready => by
  rw [hA, hB, matchNowA, matchNowB, hf.conditionFlags hs, hs 0x1D, hs 0x20]
  exact h (hphase ▸ hready)

theorem MatchesNow.of_same {s t : State} (h : MatchesNow s) (hk : Keeps besideFlags s t) (hs : SameSettings s t)
    (hA : t.atc.matchA = s.atc.matchA) (hB : t.atc.matchB = s.atc.matchB) : MatchesNow t := fun hready => by
  have hphase : t.phase = s.phase := hk .phase (by decide)
  rw [hA, hB, matchNowA_congr hk hs, matchNowB_congr hk hs]
  exact h (hphase ▸ hready)

theorem MatchesNow.then_sets {s t : State} {cs : List Channel} (h : MatchesNow s) (hset : Sets s.atc cs s t)
    (hk : Keeps besideFlags s t) (hs : SameSettings s t) : MatchesNow t :=
  h.of_same hk hs (by rw [hset.1]) (by rw [hset.1])

/-! Requests. -/

section
variable {k : RequestKind} {r : Fin 16} {rest : List (Fin 16)} {s : State}

/-- The record at the head of the list leaves it, and where R122 does not lock its kind it comes to its owner (R164). -/
theorem takeRequest_head (h : HeadIs k r rest s) (hlock : k.locked = true → s.emc.state = .quiet)
    (owner : Fin 16 → State → State) : takeRequest k owner s = owner r (leaveList rest s) := by
  obtain ⟨hposted, hkind⟩ := h
  have hserve : ¬(k.locked = true ∧ (leaveList rest s).emc.state ≠ .quiet) := fun ⟨hk, hq⟩ => hq (hlock hk)
  simp only [takeRequest, hposted, hkind, if_true, serveRequest, if_neg hserve]

/-- Outside QUIET a kind that R122 locks is answered REFUSED_LOCKED. -/
theorem takeRequest_refused (h : HeadIs k r rest s) (hk : k.locked = true) (hcall : s.emc.state ≠ .quiet)
    (owner : Fin 16 → State → State) : takeRequest k owner s = answer r .refusedLocked 0 (leaveList rest s) := by
  obtain ⟨hposted, hkind⟩ := h
  have hserve : k.locked = true ∧ (leaveList rest s).emc.state ≠ .quiet := ⟨hk, hcall⟩
  simp only [takeRequest, hposted, hkind, if_true, serveRequest, if_pos hserve]

end

section
variable {s work : State} {rest : List (Fin 16)} (hwf : s.mem.Wf) (r : Fin 16) (x : Result) (w : Nat)
include hwf

/-- Work on a request that leaves window memory and the list alone is answered promptly. -/
theorem answeredPromptly_of_posted (hmem : work.mem = s.mem) (hposted : work.wpt.posted = rest) :
    AnsweredPromptly r rest x w s (driveLines (answer r x w work)) := by
  have hw : work.mem.Wf := hmem ▸ hwf
  refine ⟨answer_answered hw r x w, fun a ha => ?_, by simpa using hposted⟩
  exact (answer_onlyAnswerBytes hw r x w a ha).trans (by rw [hmem])

end

section
variable {s work : State} (hw : work.mem.Wf) (r : Fin 16) (x : Result) (w : Nat)
include hw

/-- What work on a request has set at the attention controller, and then its answer. -/
theorem answer_sets {ring : Atc} {cs : List Channel} (h : Sets ring cs s work) (hs : SameSettings s work) :
    Sets ring (cs ++ [.request]) s (driveLines (answer r x w work)) :=
  (h.trans (answer_raises hw r x w) hs).rebase rfl (by simp) (.refl s)

theorem answer_besides {ring : Atc} {cs : List Channel} (h : Attends ring cs s work) (hnow : MatchesNow work) :
    RaisesBeside ring (cs ++ [.request]) s (driveLines (answer r x w work)) := by
  have hset : Sets work.atc [.request] work (driveLines (answer r x w work)) := answer_raises hw r x w
  have hsettings : SameSettings work (driveLines (answer r x w work)) := answer_sameSettings hw r x w
  have hkeeps : Keeps besideFlags work (driveLines (answer r x w work)) :=
    ((answer_keeps r x w work).trans (driveLines_keeps _)).mono (by decide)
  exact (h.then_sets hset (by decide) (hkeeps .phase (by decide)) hsettings).beside (hnow.then_sets hset hkeeps hsettings)

end

/-! Frames. -/

/-- A frame that is accepted is delivered once the receiver hunts again (R126, R129). -/
theorem receiveFrame_accepted {kind : Nat} {f : RxFrame} {how : Addressing} {s : State} (h : Accepted kind f how s)
    (deliver : Addressing → State → State) : receiveFrame kind f deliver s = deliver how (resumeHunting s) := by
  obtain ⟨hcollecting, hjudge⟩ := h
  simp only [receiveFrame, hcollecting, if_true, hjudge]

end Sys2Proof.Machine
end

section
/-! PROOF. The refusals of requests (O60), RELEASE_TRIP (O25) and the store's requests (O58). -/

namespace Sys2Proof.Machine

section
variable {k : RequestKind} {r : Fin 16} {rest : List (Fin 16)} {s work : State} {c : Instr} {owner : Fin 16 → State → State}

/-- The owner's work on the request at the head of the list ends the command. -/
theorem completes_request (hc : effect c s = takeRequest k owner s) (h : HeadIs k r rest s)
    (hlock : k.locked = true → s.emc.state = .quiet) {post : State → Prop}
    (howner : owner r (leaveList rest s) = work) (hpost : post (driveLines work)) : Completes c s post :=
  completes_of_effect (hc.trans ((takeRequest_head h hlock owner).trans howner)) hpost

/-- A request that its owner answers at once. -/
theorem completes_answered (hwf : s.mem.Wf) (hc : effect c s = takeRequest k owner s) (h : HeadIs k r rest s)
    (hlock : k.locked = true → s.emc.state = .quiet) {x : Result} {w : Nat}
    (hanswer : owner r (leaveList rest s) = answer r x w (leaveList rest s)) :
    Completes c s (AnsweredAlone r rest x w s) :=
  completes_request hc h hlock hanswer (answer_alone hwf r rest x w)

/-- A request of a kind that R122 locks, outside QUIET. -/
theorem completes_locked (hwf : s.mem.Wf) (hc : effect c s = takeRequest k owner s) (h : HeadIs k r rest s)
    (hk : k.locked = true) (hcall : s.emc.state ≠ .quiet) : Completes c s (AnsweredAlone r rest .refusedLocked 0 s) :=
  completes_of_effect (hc.trans (takeRequest_refused h hk hcall owner)) (answer_alone hwf r rest .refusedLocked 0)

end

/-! What the owners refuse. -/

section
variable {r : Fin 16} {s : State}

theorem ownMeterKey_notPermitted (h : hostMeterControl s = false) : ownMeterKey r s = answer r .notPermitted 0 s := by
  simp [ownMeterKey, h]

theorem ownMeterKey_range (h : hostMeterControl s = true) (hr : 3 < param8 s r 8) :
    ownMeterKey r s = answer r .refusedRange 0 s := by
  have hkey : keyOfCode (param8 s r 8) = none := by
    unfold keyOfCode
    split <;> first | omega | rfl
  simp [ownMeterKey, h, hkey]

theorem ownAddExtra_notPermitted (h : hostMeterControl s = false) : ownAddExtra r s = answer r .notPermitted 0 s := by
  simp [ownAddExtra, h]

theorem ownAddExtra_range (h : hostMeterControl s = true) (hr : 7 < param8 s r 8) :
    ownAddExtra r s = answer r .refusedRange 0 s := by
  rw [ownAddExtra, if_pos h, dif_neg (by omega)]

theorem ownSelectTariff_notPermitted (h : hostMeterControl s = false) :
    ownSelectTariff r s = answer r .notPermitted 0 s := by
  simp [ownSelectTariff, h]

theorem ownSelectTariff_range (h : hostMeterControl s = true) (hr : 3 < param8 s r 8) :
    ownSelectTariff r s = answer r .refusedRange 0 s := by
  simp [ownSelectTariff, h, hr]

theorem ownAcceptOffer_range (hr : 7 < param8 s r 8) : ownAcceptOffer r s = answer r .refusedRange 0 s :=
  dif_neg (by omega)

theorem ownReleaseOffer_range (hr : 7 < param8 s r 8) : ownReleaseOffer r s = answer r .refusedRange 0 s :=
  dif_neg (by omega)

theorem ownReply_range (hr : 23 < param8 s r 8) : ownReply r s = answer r .refusedRange 0 s :=
  dif_neg (by omega)

theorem ownReply_params (hr : 63 < param8 s r 10 ∨ 48 < param8 s r 11) : ownReply r s = answer r .refusedRange 0 s := by
  have hbad : textParamsGood s r = false := by
    unfold textParamsGood cannedCode textLength
    rcases hr with hr | hr <;> simp [hr]
  simp [ownReply, hbad]

theorem ownMarkRead_range (hr : 23 < param8 s r 8) : ownMarkRead r s = answer r .refusedRange 0 s :=
  dif_neg (by omega)

theorem ownDeleteMsg_range (hr : 23 < param8 s r 8) : ownDeleteMsg r s = answer r .refusedRange 0 s :=
  dif_neg (by omega)

theorem ownShiftOpen_range (h : paramN s r 8 2 = 0) : ownShiftOpen r s = answer r .refusedRange 0 s := if_pos h

theorem ownShiftOpen_state (h : paramN s r 8 2 ≠ 0) (hm : s.mtc.meter ≠ .off ∨ s.cps.failed = true) :
    ownShiftOpen r s = answer r .refusedState 0 s := by
  rw [ownShiftOpen, if_neg h, if_pos hm]

theorem ownShiftOpen_busy (h : paramN s r 8 2 ≠ 0) (hm : s.mtc.meter = .off) (hb : s.cps.failed = false)
    (hw : writeOutstanding s .calibration = true) : ownShiftOpen r s = answer r .busy 0 s := by
  simp [ownShiftOpen, h, hm, hb, hw]

theorem ownShiftClose_state (h : s.mtc.meter ≠ .vacant ∨ (s.dsc.status ≠ .available ∧ s.dsc.status ≠ .onBreak)) :
    ownShiftClose r s = answer r .refusedState 0 s := by
  have hno : mayCloseShift s = false := by
    unfold mayCloseShift
    rcases h with h | ⟨ha, hb⟩ <;> simp [*]
  simp [ownShiftClose, hno]

end

/-- Settles O60: each refusal is an answer alone of the record that left the list. -/
theorem requestsAreRefused : Obligations.RequestsAreRefused := by
  intro s r rest hwf refused
  refine ⟨?_, ?_, ?_, fun h hr => ?_, fun h hq => ⟨fun hd => ?_, fun hd hm => ?_, fun hd hm hb hw => ?_⟩, fun h hq hm => ?_⟩
  · simp only [List.forall_mem_cons]
    exact ⟨fun h => completes_locked hwf rfl h rfl, fun h => completes_locked hwf rfl h rfl,
      fun h => completes_locked hwf rfl h rfl, fun h => completes_locked hwf rfl h rfl,
      fun h => completes_locked hwf rfl h rfl, fun h => completes_locked hwf rfl h rfl,
      fun h => completes_locked hwf rfl h rfl, fun h => completes_locked hwf rfl h rfl,
      fun h => completes_locked hwf rfl h rfl, fun _ h => absurd h List.not_mem_nil⟩
  · simp only [List.forall_mem_cons]
    exact ⟨fun h _ => ⟨fun hc => completes_answered hwf rfl h nofun (ownMeterKey_notPermitted (s := leaveList rest s) hc),
        fun hc hr => completes_answered hwf rfl h nofun (ownMeterKey_range (s := leaveList rest s) hc hr)⟩,
      fun h _ => ⟨fun hc => completes_answered hwf rfl h nofun (ownAddExtra_notPermitted (s := leaveList rest s) hc),
        fun hc hr => completes_answered hwf rfl h nofun (ownAddExtra_range (s := leaveList rest s) hc hr)⟩,
      fun h hq =>
        ⟨fun hc => completes_answered hwf rfl h (fun _ => hq trivial) (ownSelectTariff_notPermitted (s := leaveList rest s) hc),
          fun hc hr => completes_answered hwf rfl h (fun _ => hq trivial) (ownSelectTariff_range (s := leaveList rest s) hc hr)⟩,
      fun _ h => absurd h List.not_mem_nil⟩
  · simp only [List.forall_mem_cons]
    exact ⟨fun h hq hr => completes_answered hwf rfl h (fun _ => hq trivial) (ownAcceptOffer_range (s := leaveList rest s) hr),
      fun h _ hr => completes_answered hwf rfl h nofun (ownDeclineOffer_range (s := leaveList rest s) hr),
      fun h _ hr => completes_answered hwf rfl h nofun (ownReleaseOffer_range (s := leaveList rest s) hr),
      fun h _ hr => completes_answered hwf rfl h nofun (ownReply_range (s := leaveList rest s) hr),
      fun h _ hr => completes_answered hwf rfl h nofun (ownMarkRead_range (s := leaveList rest s) hr),
      fun h _ hr => completes_answered hwf rfl h nofun (ownDeleteMsg_range (s := leaveList rest s) hr),
      fun _ h => absurd h List.not_mem_nil⟩
  · exact completes_answered hwf rfl h nofun (ownReply_params (s := leaveList rest s) hr)
  · exact completes_answered hwf rfl h (fun _ => hq) (ownShiftOpen_range (s := leaveList rest s) hd)
  · exact completes_answered hwf rfl h (fun _ => hq) (ownShiftOpen_state (s := leaveList rest s) hd hm)
  · exact completes_answered hwf rfl h (fun _ => hq) (ownShiftOpen_busy (s := leaveList rest s) hd hm hb hw)
  · exact completes_answered hwf rfl h (fun _ => hq) (ownShiftClose_state (s := leaveList rest s) hm)

/-! RELEASE_TRIP. -/

section
variable {r : Fin 16} {s : State} {e : Fin 24}

theorem ownReleaseTrip_range (hr : 23 < param8 s r 8) : ownReleaseTrip r s = answer r .refusedRange 0 s :=
  dif_neg (by omega)

theorem ownReleaseTrip_entry (h : param8 s r 8 = e.val) : ownReleaseTrip r s =
    if (s.mtc.tripLog.get e).written then
      answer r .done 0 (requestCommit (updateTripRecord e (fun t => { t with released := true }) s))
    else answer r .refusedState 0 s := by
  have he : (⟨param8 s r 8, h ▸ e.isLt⟩ : Fin 24) = e := Fin.ext h
  rw [ownReleaseTrip, dif_pos (h ▸ e.isLt), he]

end

/-- The release of a written record (R40). -/
theorem releaseTrip_effect {s : State} (hwf : s.mem.Wf) (r : Fin 16) (rest : List (Fin 16)) (e : Fin 24) :
    let t := driveLines (answer r .done 0
      (requestCommit (updateTripRecord e (fun t => { t with released := true }) (leaveList rest s))))
    t.mtc = { s.mtc with tripLog := s.mtc.tripLog.set e.val { s.mtc.tripLog.get e with released := true } e.isLt } ∧
      AsksCommit s t ∧ AnsweredPromptly r rest .done 0 s t ∧ OnlyList s t ∧ Raises [.request] s t ∧
      Keeps [.mem, .mtc, .wpt, .atc, .cps, .pins] s t ∧ OnlyLines s t := by
  intro t
  let work := requestCommit (updateTripRecord e (fun t => { t with released := true }) (leaveList rest s))
  obtain ⟨hprompt, hlist⟩ := answeredPromptly_of_work (work := work) (rest := rest) hwf rfl rfl r .done 0
  refine ⟨by simp [t]; rfl, by simp [t, AsksCommit]; rfl, hprompt, hlist, ?_, by simp [t, keeps_iff, updateTripRecord],
    driveLines_onlyLines (by simp)⟩
  exact answer_sets hwf r .done 0 (work := work) (.of_atc rfl) (.of_mem rfl)

/-- Settles O25: the entry is looked up, and a written record is released before the answer. -/
theorem tripIsReleased : Obligations.TripIsReleased := by
  intro s r rest hwf h
  refine ⟨fun hr => ?_, fun e he hw => ?_, fun e he hw => ?_⟩
  · exact completes_answered hwf rfl h nofun (ownReleaseTrip_range (s := leaveList rest s) hr)
  · refine completes_answered hwf rfl h nofun ((ownReleaseTrip_entry (s := leaveList rest s) he).trans (if_neg ?_))
    exact Bool.eq_false_iff.mp hw
  · exact completes_request rfl h nofun ((ownReleaseTrip_entry (s := leaveList rest s) he).trans (if_pos hw))
      (releaseTrip_effect hwf r rest e)

end Sys2Proof.Machine
end

section
/-! SUPPORT. What the shared operations make: an entry of a table, the queue with room for a frame, the dispatch status, the
free chain, the fare group; and what each raises. -/

namespace Sys2Proof.Machine

theorem modDsc_keeps (f : Dsc → Dsc) (s : State) : Keeps [.dsc] s (s.modDsc f) := by simp [keeps_iff]
theorem modMtc_keeps (f : Mtc → Mtc) (s : State) : Keeps [.mtc] s (s.modMtc f) := by simp [keeps_iff]
theorem modFrc_keeps (f : Frc → Frc) (s : State) : Keeps [.frc] s (s.modFrc f) := by simp [keeps_iff]
theorem modMst_keeps (f : Mst → Mst) (s : State) : Keeps [.mst] s (s.modMst f) := by simp [keeps_iff]
theorem modEmc_keeps (f : Emc → Emc) (s : State) : Keeps [.emc] s (s.modEmc f) := by simp [keeps_iff]
theorem modAle_keeps (f : Ale → Ale) (s : State) : Keeps [.ale] s (s.modAle f) := by simp [keeps_iff]
theorem modTxq_keeps (f : Txq → Txq) (s : State) : Keeps [.txq] s (s.modTxq f) := by simp [keeps_iff]
theorem modCps_keeps (f : Cps → Cps) (s : State) : Keeps [.cps] s (s.modCps f) := by simp [keeps_iff]

/-- A change that leaves the attention controller, and then a judgement. -/
theorem rejudge_attends_after {s t : State} (hatc : t.atc = s.atc) (hphase : t.phase = s.phase) (hs : SameSettings s t) :
    Attends s.atc [] s (rejudge t) := (rejudge_attends t).rebase hatc.symm hphase.symm hs |>.step (s := s) (t := rejudge t)
      (ring' := (rejudge t).atc) (ds := []) (.of_atc rfl rfl (.refl _)) (by rw [(rejudge_attends t).atc, hatc]) |>.congr (by simp)

/-! The tables. -/

section
variable (s : State)

theorem updateOffer_attends (e : Fin 8) (f : OfferEntry → OfferEntry) : Attends s.atc [] s (updateOffer e f s) :=
  rejudge_attends_after (t := s.modOft _) rfl rfl (.refl s)

theorem updateOffer_matchesNow (e : Fin 8) (f : OfferEntry → OfferEntry) : MatchesNow (updateOffer e f s) :=
  rejudge_matchesNow _

theorem updateInbox_attends (i : Fin 24) (f : InboxEntry → InboxEntry) : Attends s.atc [] s (updateInbox i f s) :=
  rejudge_attends_after (t := s.modMst _) rfl rfl (.refl s)

theorem updateInbox_matchesNow (i : Fin 24) (f : InboxEntry → InboxEntry) : MatchesNow (updateInbox i f s) :=
  rejudge_matchesNow _

theorem updateInbox_keeps (i : Fin 24) (f : InboxEntry → InboxEntry) : Keeps [.mst, .atc] s (updateInbox i f s) :=
  (modMst_keeps _ s).trans (rejudge_keeps _)

theorem updateInbox_mst (i : Fin 24) (f : InboxEntry → InboxEntry) :
    (updateInbox i f s).mst = { s.mst with inbox := s.mst.inbox.set i.val (f (s.mst.inbox.get i)) i.isLt } :=
  rejudge_keeps _ .mst (by decide)

@[simp] theorem updateInbox_entry (i : Fin 24) (f : InboxEntry → InboxEntry) :
    (updateInbox i f s).mst.inbox.get i = f (s.mst.inbox.get i) := by
  simp [updateInbox_mst, Vector.get_eq_getElem]

theorem updateInbox_onlyInbox (i : Fin 24) (f : InboxEntry → InboxEntry) : OnlyInbox i s (updateInbox i f s) := by
  refine ⟨by rw [updateInbox_mst], fun x hx => ?_⟩
  simp only [updateInbox_mst, Vector.get_eq_getElem]
  exact Vector.getElem_set_ne _ _ fun h => hx (Fin.ext h.symm)

end

theorem OnlyOffer.of_oft {e : Fin 8} {s t u : State} (h : OnlyOffer e s t) (hu : u.oft = t.oft) : OnlyOffer e s u := by
  rwa [OnlyOffer, hu]

theorem OnlyInbox.of_mst {i : Fin 24} {s t u : State} (h : OnlyInbox i s t) (hu : u.mst = t.mst) : OnlyInbox i s u := by
  rwa [OnlyInbox, hu]

/-! The queue with room. -/

section
variable {s : State} (h : HasRoom s)
include h

theorem joinQueue_room (f : Frame) : joinQueue f s = modFrames (fun fs => insertFrame fs f) s := if_pos h

theorem joinQueue_joined (f : Frame) : Joined f s (joinQueue f s) := by rw [joinQueue_room h]; rfl

theorem joinQueue_keeps (f : Frame) : Keeps [.txq] s (joinQueue f s) := by
  rw [joinQueue_room h]
  exact modTxq_keeps _ s

theorem askLive_keeps (k : UplinkKind) : Keeps [.txq] s (askLive k s) := by
  unfold askLive
  split_ifs
  exacts [.refl _ s, joinQueue_keeps h _]

theorem askLive_joined (k : UplinkKind) : JoinedLive k s (askLive k s) := by
  unfold askLive JoinedLive
  split_ifs with hk
  · rfl
  · exact joinQueue_joined h _

end

/-! The dispatch status. -/

/-- The status has moved between two statuses neither of which is BIDDING, with a STATUS frame (R49, R50, R83). -/
structure StatusMoved (new : DispatchStatus) (reason : StatusReason) (s t : State) : Prop where
  becomes : StatusBecomes new reason s t
  ends : EndsAssignment s t
  joined : JoinedLive .status s t
  keeps : Keeps [.dsc, .oft, .txq, .atc] s t
  attends : Attends s.atc [.status] s t
  now : MatchesNow t

/-- What a report to the offer table does for a status that does not leave BIDDING (R83). -/
theorem reportStatus_eq {old new : DispatchStatus} (h : ¬(old = .bidding ∧ new = .hired)) (s : State) :
    reportStatus old new s = { s with oft := { s.oft with assignment := if old = .assigned then none else s.oft.assignment } } := by
  unfold reportStatus
  simp only [if_neg h]
  split_ifs <;> rfl

/-- The status has been written and the matches judged (R49, R176). -/
def statusJudged (new : DispatchStatus) (s : State) : State :=
  rejudge (s.modDsc fun d =>
    { d with status := new, queuePosition := if s.dsc.status = .available then 0 else d.queuePosition })

/-- The status has been told to the base and the host (R49, R50). -/
def statusTold (new : DispatchStatus) (reason : StatusReason) (s : State) : State :=
  setChannel .status (askStatusFrame reason (statusJudged new s))

section
variable {new : DispatchStatus} {reason : StatusReason} {s : State}

theorem setStatus_told (hne : new ≠ s.dsc.status) (hold : s.dsc.status ≠ .bidding) (hnew : new ≠ .bidding) :
    setStatus new reason s = reportStatus s.dsc.status new (statusTold new reason s) := by
  unfold setStatus
  simp only [if_neg hne, ne_eq, hold, hnew, not_false_eq_true, and_self, if_true]
  rfl

theorem statusJudged_keeps : Keeps [.dsc, .atc] s (statusJudged new s) := (modDsc_keeps _ s).trans (rejudge_keeps _)

theorem statusJudged_attends : Attends s.atc [] s (statusJudged new s) :=
  rejudge_attends_after (t := s.modDsc _) rfl rfl (.refl s)

variable (hroom : HasRoom s)
include hroom

theorem statusAsked_keeps : Keeps [.dsc, .txq] (statusJudged new s) (askStatusFrame reason (statusJudged new s)) := by
  refine (modDsc_keeps _ _).trans (askLive_keeps ?_ .status)
  simpa [HasRoom, statusJudged] using hroom

theorem statusTold_keeps_judged : Keeps [.dsc, .txq, .atc] (statusJudged new s) (statusTold new reason s) :=
  ((statusAsked_keeps hroom).trans (setChannel_keeps _ _)).mono (by decide)

theorem statusTold_keeps : Keeps [.dsc, .txq, .atc] s (statusTold new reason s) :=
  (statusJudged_keeps.trans (statusTold_keeps_judged hroom)).mono (by decide)

theorem statusTold_dsc : (statusTold new reason s).dsc = { s.dsc with
    status := new, heldReason := reason, queuePosition := if s.dsc.status = .available then 0 else s.dsc.queuePosition } := by
  have hheld : HasRoom ((statusJudged new s).modDsc fun d => { d with heldReason := reason }) := by
    simpa [HasRoom, statusJudged] using hroom
  rw [statusTold, setChannel_keeps _ _ .dsc (by decide), askStatusFrame, askLive_keeps hheld .status .dsc (by decide)]
  simp [statusJudged]

theorem statusTold_joined : JoinedLive .status s (statusTold new reason s) := by
  have hheld : HasRoom ((statusJudged new s).modDsc fun d => { d with heldReason := reason }) := by
    simpa [HasRoom, statusJudged] using hroom
  have htxq : (statusTold new reason s).txq = (askStatusFrame reason (statusJudged new s)).txq :=
    setChannel_keeps _ _ .txq (by decide)
  have hask := askLive_joined hheld .status
  have hsame : (statusJudged new s).txq = s.txq := statusJudged_keeps .txq (by decide)
  simpa only [JoinedLive, Joined, kindWaiting, State.modDsc_txq, htxq, hsame, askStatusFrame] using hask

theorem statusTold_attends : Attends s.atc [.status] s (statusTold new reason s) := by
  have hasked := statusAsked_keeps (new := new) (reason := reason) hroom
  exact (statusJudged_attends.then_atc (hasked .atc (by decide)) (hasked .phase (by decide))
    (.of_mem (hasked .mem (by decide)))).trans (setChannel_attends (by decide) _)

theorem statusTold_matchesNow : MatchesNow (statusTold new reason s) := by
  have hk := statusTold_keeps_judged (new := new) (reason := reason) hroom
  have hatc : (statusTold new reason s).atc =
      { (statusJudged new s).atc with pending := (statusTold new reason s).atc.pending } := by
    rw [statusTold, (setChannel_sets .status _).1, statusAsked_keeps hroom .atc (by decide)]
  refine (rejudge_matchesNow _).of_flags (hk .phase (by decide)) ⟨?_, ?_, ?_, ?_, ?_, ?_, ?_⟩
    (.of_mem (hk .mem (by decide))) (by rw [hatc]; rfl) (by rw [hatc]; rfl)
  · exact congrArg Mtc.meter (hk .mtc (by decide))
  · rw [statusTold_dsc hroom]
    simp [statusJudged]
  · exact congrArg Emc.state (hk .emc (by decide))
  · exact congrArg Ale.link (hk .ale (by decide))
  · exact congrArg Oft.entries (hk .oft (by decide))
  · exact congrArg Mst.inbox (hk .mst (by decide))
  · exact congrArg Mst.freeCount (hk .mst (by decide))

theorem setStatus_moved (hne : new ≠ s.dsc.status) (hold : s.dsc.status ≠ .bidding) (hnew : new ≠ .bidding) :
    StatusMoved new reason s (setStatus new reason s) := by
  rw [setStatus_told hne hold hnew, reportStatus_eq (by simp [hold])]
  have hkeeps := statusTold_keeps (new := new) (reason := reason) hroom
  have hoft : (statusTold new reason s).oft = s.oft := hkeeps .oft (by decide)
  refine ⟨statusTold_dsc hroom, ?_, statusTold_joined hroom, fun p hp => ?_, ?_, ?_⟩
  · simp [EndsAssignment, hoft]
  · have hsame : p ∉ [Part.dsc, .txq, .atc] → p.Same s (statusTold new reason s) := hkeeps p
    cases p <;> simp_all [Part.Same]
  · exact (statusTold_attends hroom).then_atc rfl rfl (.refl _)
  · exact (statusTold_matchesNow hroom).of_flags rfl ⟨rfl, rfl, rfl, rfl, rfl, rfl, rfl⟩ (.refl _) rfl rfl

end

/-! The free chain. -/

section
variable {s : State}

theorem clearUsed_read {m : Memory} (h : m.Wf) (blocks : List Nat) (a : Nat) :
    (clearUsed blocks m).read a = if a ∈ blocks.map (fun b => blockBase b + 1) then 0#8 else m.read a := by
  induction blocks generalizing m with
  | nil => simp [clearUsed]
  | cons b bs ih =>
    have hrest := ih (Memory.wf_write h (blockBase b + 1) 0#8)
    rw [show clearUsed (b :: bs) m = clearUsed bs (m.write (blockBase b + 1) 0#8) from rfl, hrest]
    by_cases ha : a = blockBase b + 1
    · simp [ha, Memory.read_write_same h]
    · simp [ha, Memory.read_write_other h _ ha]

/-- The bytes of window memory once a chain has been freed (R88). -/
theorem freeChain_read (h : s.mem.Wf) (first count a : Nat) :
    (freeChain first count s).mem.read a = freedByte s first count a := by
  unfold freeChain freedByte
  by_cases hc : count = 0
  · simp [hc, chainBlocks]
  · have hpos : 0 < count := Nat.pos_of_ne_zero hc
    have hclear := clearUsed_wf (chainBlocks s.mem first count) h
    simp only [hc, if_false, hpos, true_and, rejudge_mem, State.modMst_mem, State.modMem_mem, linkBlock]
    split_ifs with ha hb
    · rw [ha, Memory.read_write_same hclear]
    · rw [Memory.read_write_other hclear _ ha, clearUsed_read h, if_pos hb]
    · rw [Memory.read_write_other hclear _ ha, clearUsed_read h, if_neg hb]

/-- The blocks of a chain from a block of the pool have indices of one byte. -/
theorem chainBlocks_lt {m : Memory} {first b : Nat} (hfirst : first < 256) {count : Nat} (hb : b ∈ chainBlocks m first count) :
    b < 256 := by
  induction count generalizing first with
  | zero => exact absurd hb List.not_mem_nil
  | succ n ih =>
    rcases List.mem_cons.mp hb with rfl | hb
    · exact hfirst
    · exact ih (m.read (blockBase first)).isLt hb

theorem freedByte_settings {first count : Nat} (hfirst : 1 ≤ count → first < 224) (o : Nat) :
    freedByte s first count (0x2E00 + o) = s.mem.read (0x2E00 + o) := by
  rcases Nat.eq_zero_or_pos count with rfl | hpos
  · simp [freedByte, chainBlocks]
  · have hlt : ∀ b ∈ chainBlocks s.mem first count, b < 256 := fun b hb =>
      chainBlocks_lt (Nat.lt_of_lt_of_le (hfirst hpos) (by decide)) hb
    have hlast : (chainBlocks s.mem first count).getLastD 0 < 256 := by
      rw [List.getLastD_eq_getLast?]
      cases hl : (chainBlocks s.mem first count).getLast? with
      | none => exact Nat.zero_lt_succ _
      | some b => exact hlt b (List.mem_of_getLast? hl)
    have hno : ¬(0x2E00 + o) ∈ (chainBlocks s.mem first count).map fun b => blockBase b + 1 := fun hmem => by
      obtain ⟨b, hb, heq⟩ := List.mem_map.mp hmem
      have := hlt b hb
      simp only [blockBase] at heq
      omega
    simp only [freedByte]
    rw [if_neg (by simp only [blockBase]; omega), if_neg hno]

theorem freeChain_sameSettings (h : s.mem.Wf) {first count : Nat} (hfirst : 1 ≤ count → first < 224) :
    SameSettings s (freeChain first count s) := fun o => by
  rw [freeChain_read h, freedByte_settings hfirst]

theorem freeChain_keeps (first count : Nat) (s : State) : Keeps [.mem, .mst, .atc] s (freeChain first count s) := by
  unfold freeChain
  split_ifs
  · exact (Keeps.refl [] s).mono (by decide)
  · exact ((modMem_keeps _ s).trans (modMst_keeps _ _)).trans (rejudge_keeps _) |>.mono (by decide)

theorem freeChain_mst (first count : Nat) (s : State) : (freeChain first count s).mst =
    { s.mst with freeHead := freedHead s first count, freeCount := s.mst.freeCount + count } := by
  unfold freeChain freedHead
  split_ifs with hc
  · simp [hc]
  · simp

theorem freeChain_attends (h : s.mem.Wf) {first count : Nat} (hfirst : 1 ≤ count → first < 224) :
    Attends s.atc [] s (freeChain first count s) := by
  have hs := freeChain_sameSettings h hfirst
  revert hs
  unfold freeChain
  split_ifs
  · exact fun hs => .of_atc rfl rfl hs
  · intro hs
    refine rejudge_attends_after rfl rfl fun o => ?_
    have ho := hs o
    rwa [rejudge_mem] at ho

end

/-! The fare group and the port. -/

/-- The rewrite of the fare group writes the group and counts two updates. -/
theorem rewriteFareGroup_eq (s : State) : rewriteFareGroup s = { s with
    frc := { s.frc with fareGroup := fareGroupNow s }, wpt := (rewriteFareGroup s).wpt } := by
  unfold rewriteFareGroup groupRewrite
  simp only [State.modFrc, endRewrite, beginRewrite, State.modWpt]
  rfl

theorem rewriteFareGroup_keeps (s : State) : Keeps [.frc, .wpt] s (rewriteFareGroup s) := by
  rw [rewriteFareGroup_eq]
  simp [keeps_iff]

/-- What the fare group shows comes from the hire, the tariff's numbers, the meter's state, the extras and the bank (R14). -/
theorem fareGroupNow_of_parts {s t : State} (hhire : t.frc.hire = s.frc.hire) (hover : t.frc.override = s.frc.override)
    (hsched : t.frc.scheduled = s.frc.scheduled) (hmtc : t.mtc = s.mtc) (hbank : t.cps.bank = s.cps.bank) :
    fareGroupNow t = fareGroupNow s := by
  simp only [fareGroupNow, shownTariff, extrasSum, metres, pulsesPerKm, bank16, hhire, hover, hsched, hmtc, hbank]

/-- A command that rewrites a group once, and leaves the rest of the port alone. -/
structure PortUpdated (s t : State) : Prop where
  port : t.wpt = { s.wpt with
    updateCount := if s.wpt.rewriting = 0 then (s.wpt.updateCount + 2) % 65536 else s.wpt.updateCount }

theorem rewriteFareGroup_updated (s : State) : PortUpdated s (rewriteFareGroup s) := ⟨groupRewrite_wpt _ s fun _ => rfl⟩

namespace PortUpdated

variable {s t : State}

theorem even (h : PortUpdated s t) (he : s.wpt.updateCount % 2 = 0) : t.wpt.updateCount % 2 = 0 := by
  rw [h.port]
  dsimp only
  split_ifs <;> omega

theorem onlyUpdates (h : PortUpdated s t) : OnlyUpdates s t := ⟨⟨by rw [h.port], h.even⟩, by rw [h.port]⟩

theorem rewritesOnce (h : PortUpdated s t) : RewritesOnce s t := fun hr => by rw [h.port, if_pos hr]

end PortUpdated

end Sys2Proof.Machine
end

section
/-! PROOF. Requests of one block each: SELECT_TARIFF (O22), SET_BREAK, SET_AVAILABLE and NO_SHOW (O30), the offer timers
(O33), ACCEPT_OFFER (O34), RELEASE_OFFER (O36), MARK_READ and DELETE_MSG (O42), and the store's requests (O58). -/

namespace Sys2Proof.Machine

/-! The store's requests. -/

section
variable {r : Fin 16} {rest : List (Fin 16)} {s : State}

theorem writeOutstanding_iff (k : StoreKind) :
    writeOutstanding s k = true ↔ k ∈ s.cps.queue ∨ ∃ j, s.cps.writing = some j ∧ j.kind = k := by
  unfold writeOutstanding beingWritten
  cases s.cps.writing <;> simp

theorem ownStoreTariffs_lock (h : tariffLock s = true) : ownStoreTariffs r s = answer r .refusedTariffLock 0 s := if_pos h

theorem ownStoreTariffs_state (h : tariffLock s = false) (hm : ¬(s.mtc.meter = .off ∨ s.mtc.meter = .vacant)) :
    ownStoreTariffs r s = answer r .refusedState 0 s := by
  simp [ownStoreTariffs, h, not_or.mp hm]

variable (h : tariffLock s = false) (hm : s.mtc.meter = .off ∨ s.mtc.meter = .vacant)
include h hm

theorem ownStoreTariffs_busy (hw : writeOutstanding s .tariffs = true) : ownStoreTariffs r s = answer r .busy 0 s := by
  have hclosed : ¬(s.mtc.meter ≠ .off ∧ s.mtc.meter ≠ .vacant) := fun ⟨ho, hv⟩ => hm.elim ho hv
  rw [ownStoreTariffs, if_neg (Bool.eq_false_iff.mp h), if_neg hclosed, if_pos hw]

theorem ownStoreTariffs_invalid (hw : writeOutstanding s .tariffs = false) {n : Nat} (hn : firstInvalidTariff s = some n) :
    ownStoreTariffs r s = answer r .refusedRange n s := by
  have hclosed : ¬(s.mtc.meter ≠ .off ∧ s.mtc.meter ≠ .vacant) := fun ⟨ho, hv⟩ => hm.elim ho hv
  simp only [ownStoreTariffs, h, hw, hclosed, hn, Bool.false_eq_true, if_false]

theorem ownStoreTariffs_taken (hw : writeOutstanding s .tariffs = false) (hn : firstInvalidTariff s = none) :
    ownStoreTariffs r s = requestWrite .tariffs (takeIntoWork r (s.modCps fun c => { c with tariffRecord := some r })) := by
  have hclosed : ¬(s.mtc.meter ≠ .off ∧ s.mtc.meter ≠ .vacant) := fun ⟨ho, hv⟩ => hm.elim ho hv
  simp only [ownStoreTariffs, h, hw, hclosed, hn, Bool.false_eq_true, if_false]

end

theorem firstInvalidTariff_some {s : State} {n : Nat} (hn : n ≤ 3) (hbad : (windowTariff s n).valid = false)
    (hgood : ∀ m, m < n → (windowTariff s m).valid = true) : firstInvalidTariff s = some n := by
  unfold firstInvalidTariff
  interval_cases n <;> simp [hbad, hgood]

theorem firstInvalidTariff_none {s : State} (hgood : ∀ n, n ≤ 3 → (windowTariff s n).valid = true) :
    firstInvalidTariff s = none := by
  simp [firstInvalidTariff, hgood]

/-- What a store request taken into work leaves (R163, R183). -/
theorem storeTaken_effect {s : State} (hwf : s.mem.Wf) (r : Fin 16) (rest : List (Fin 16)) {k : StoreKind} {f : Cps → Cps}
    (hk : k ∉ s.cps.queue) (hf : ∀ c, (f c).queue = c.queue) :
    let t := driveLines (requestWrite k (takeIntoWork r ((leaveList rest s).modCps f)))
    t.cps = { f s.cps with queue := s.cps.queue ++ [k] } ∧ handField t r = 2#8 ∧
      (∀ a, a ≠ recordBase r → t.mem.read a = s.mem.read a) ∧ t.wpt.posted = rest ∧ OnlyList s t ∧
      Keeps [.mem, .wpt, .cps, .pins] s t ∧ OnlyLines s t := by
  intro t
  refine ⟨?_, Memory.read_write_same hwf _ _, fun a ha => Memory.read_write_other hwf _ ha, rfl, rfl, ?_, driveLines_onlyLines rfl⟩
  · simp [t, requestWrite, takeIntoWork, setHand, hf, hk]
  · simp [t, keeps_iff, requestWrite, takeIntoWork, setHand]

/-- Settles O58: each refusal is an answer alone, and a request without one goes into work. -/
theorem storeRequestsAreJudged : Obligations.StoreRequestsAreJudged := by
  intro s r rest hwf outstanding refused taken closed
  have hout : ∀ k, outstanding k ↔ writeOutstanding s k = true := fun k => (writeOutstanding_iff k).symm
  refine ⟨fun h => ⟨fun hq => ?_, fun hq hl => ?_, fun hq hl hc => ?_, fun hq hl hc ho => ?_,
    fun n hq hl hc ho hn hbad hgood => ?_, fun hq hl hc ho hgood => ?_⟩, fun h => ⟨fun hq => ?_, fun hq ho => ?_, fun hq ho => ?_⟩⟩
  · exact completes_locked hwf rfl h rfl hq
  · exact completes_answered hwf rfl h (fun _ => hq) (ownStoreTariffs_lock (s := leaveList rest s) hl)
  · exact completes_answered hwf rfl h (fun _ => hq) (ownStoreTariffs_state (s := leaveList rest s) hl hc)
  · exact completes_answered hwf rfl h (fun _ => hq) (ownStoreTariffs_busy (s := leaveList rest s) hl hc ((hout _).mp ho))
  · exact completes_answered hwf rfl h (fun _ => hq) (ownStoreTariffs_invalid (s := leaveList rest s) hl hc
      (Bool.eq_false_iff.mpr fun hw => ho ((hout _).mpr hw)) (firstInvalidTariff_some (s := leaveList rest s) hn hbad hgood))
  · exact completes_request rfl h (fun _ => hq) (ownStoreTariffs_taken (s := leaveList rest s) hl hc
      (Bool.eq_false_iff.mpr fun hw => ho ((hout _).mpr hw)) (firstInvalidTariff_none (s := leaveList rest s) hgood))
      (storeTaken_effect hwf r rest (k := .tariffs) (f := fun c => { c with tariffRecord := some r })
        (fun hk => ho (.inl hk)) fun _ => rfl)
  · exact completes_locked hwf rfl h rfl hq
  · exact completes_answered hwf rfl h (fun _ => hq) (if_pos ((hout _).mp ho))
  · exact completes_request rfl h (fun _ => hq) (if_neg fun hw => ho ((hout _).mpr hw))
      (storeTaken_effect hwf r rest (k := .settings) (f := fun c => { c with settingsRecord := some r })
        (fun hk => ho (.inl hk)) fun _ => rfl)

/-! SELECT_TARIFF. -/

/-- What the override leaves of the fare computer and of the port (R34). -/
theorem setOverride_effect (n : Nat) (s : State) (hv : s.mtc.meter = .vacant) :
    let t := setOverride n s
    t.frc = { s.frc with override := some n, fareGroup := t.frc.fareGroup } ∧ shownTariff t = n ∧
      (s.frc.fareGroup.number = shownTariff s → t.frc.fareGroup.number = n) ∧
      (t.frc.fareGroup = s.frc.fareGroup ∨ t.frc.fareGroup = fareGroupNow t) ∧ OnlyUpdates s t ∧ Keeps [.frc, .wpt] s t := by
  intro t
  have hopen : s.mtc.meter.tripOpen = false := by rw [hv]; rfl
  have hshown : ∀ u : State, u.mtc = s.mtc → u.frc.override = some n → shownTariff u = n := fun u hu ho => by
    simp [shownTariff, hu, hopen, ho]
  let set := s.modFrc fun f => { f with override := some n }
  by_cases hsame : shownTariff set = shownTariff s
  · have ht : t = set := if_pos hsame
    rw [ht]
    refine ⟨rfl, hshown set rfl rfl, fun hnum => ?_, .inl rfl, ⟨⟨rfl, id⟩, rfl⟩, (modFrc_keeps _ s).mono (by decide)⟩
    exact hnum.trans (hsame.symm.trans (hshown set rfl rfl))
  · have ht : t = rewriteFareGroup set := if_neg hsame
    have hfrc : t.frc = { set.frc with fareGroup := fareGroupNow set } := by rw [ht, rewriteFareGroup_frc]
    have hk : Keeps [.frc, .wpt] set t := ht ▸ rewriteFareGroup_keeps set
    have hmtc : t.mtc = s.mtc := hk .mtc (by decide)
    have hgroup : fareGroupNow t = fareGroupNow set :=
      fareGroupNow_of_parts (by rw [hfrc]) (by rw [hfrc]) (by rw [hfrc]) hmtc (congrArg Cps.bank (hk .cps (by decide)))
    have hupdated : PortUpdated set t := ht ▸ rewriteFareGroup_updated set
    refine ⟨by rw [hfrc]; rfl, hshown t hmtc (by rw [hfrc]; rfl), fun _ => ?_, .inr ?_, hupdated.onlyUpdates,
      ((modFrc_keeps _ s).trans hk).mono (by decide)⟩
    · rw [hfrc]
      exact hshown set rfl rfl
    · rw [hfrc, hgroup]

/-- Settles O22: in VACANT the number becomes the override before the answer, and elsewhere the answer refuses. -/
theorem selectTariffSetsTheOverride : Obligations.SelectTariffSetsTheOverride := by
  intro s r rest hwf h hq hctl hr
  have hown : ownSelectTariff r (leaveList rest s) =
      if (leaveList rest s).mtc.meter = .vacant then
        answer r .done (param8 s r 8) (setOverride (param8 s r 8) (leaveList rest s))
      else answer r .refusedState 0 (leaveList rest s) := (if_pos hctl).trans (if_neg (Nat.not_lt.mpr hr))
  refine ⟨fun hv => completes_request rfl h (fun _ => hq) (hown.trans (if_pos hv)) ?_,
    fun hv => completes_answered hwf rfl h (fun _ => hq) (hown.trans (if_neg hv))⟩
  obtain ⟨hfrc, hshown, hnum, hgroup, ⟨⟨hwpt, heven⟩, hposted⟩, hkeeps⟩ :=
    setOverride_effect (param8 s r 8) (leaveList rest s) hv
  have hmem : (setOverride (param8 s r 8) (leaveList rest s)).mem = s.mem := hkeeps .mem (by decide)
  have hwork : Keeps [.frc, .wpt] s (setOverride (param8 s r 8) (leaveList rest s)) :=
    ((leaveList_keeps rest s).trans hkeeps).mono (by decide)
  have hkeepsAll := ((hwork.trans (answer_keeps r .done (param8 s r 8) _)).trans (driveLines_keeps _))
  refine ⟨by simpa using hfrc, by simpa [shownTariff] using hshown, by simpa [shownTariff] using hnum,
    ?_,
    answeredPromptly_of_posted hwf r .done _ hmem (by simpa using hposted), ⟨?_, ?_⟩, ?_, hkeepsAll.mono (by decide),
    driveLines_onlyLines ((answer_keeps r .done _ _ .pins (by decide)).trans (hwork .pins (by decide)))⟩
  · rw [fareGroupNow_of_parts (s := setOverride (param8 s r 8) (leaveList rest s)) (by simp) (by simp) (by simp) (by simp) (by simp)]
    simpa using hgroup
  · simpa using hwpt
  · simpa using heven
  · exact answer_sets (hmem ▸ hwf) r .done _ (.of_atc (hwork .atc (by decide))) (.of_mem hmem)

end Sys2Proof.Machine
end

section
/-! PROOF. Requests of the status controller, the offer table and the message store: SET_BREAK, SET_AVAILABLE and NO_SHOW
(O30), the offer timers (O33), ACCEPT_OFFER (O34), RELEASE_OFFER (O36), MARK_READ and DELETE_MSG (O42). -/

namespace Sys2Proof.Machine

/-! Work that leaves window memory and the port alone, and its answer. -/

section
variable {s work : State} {rest : List (Fin 16)} {l : List Part} {ring : Atc} {cs : List Channel}

/-- What every such answer gives beside what the work has done. -/
theorem answered_work (hwf : s.mem.Wf) (hk : Keeps l (leaveList rest s) work) (hmem : .mem ∉ l) (hwpt : .wpt ∉ l)
    (hpins : .pins ∉ l) (hatt : Attends s.atc cs (leaveList rest s) work) (hnow : MatchesNow work) (r : Fin 16) (x : Result)
    (w : Nat) :
    let t := driveLines (answer r x w work)
    AnsweredPromptly r rest x w s t ∧ OnlyList s t ∧ RaisesJudged (cs ++ [.request]) s t ∧
      Keeps (l ++ [.mem, .wpt, .atc, .pins]) s t ∧ OnlyLines s t ∧ Keeps [.mem, .atc, .pins] work t := by
  intro t
  have hm : work.mem = s.mem := hk .mem hmem
  have ht : Keeps [.mem, .atc, .pins] work t := (answer_keeps r x w work).trans (driveLines_keeps _)
  obtain ⟨hprompt, hlist⟩ := answeredPromptly_of_work (work := work) (rest := rest) hwf hm (hk .wpt hwpt) r x w
  have hkeeps := ((leaveList_keeps rest s).trans hk).trans ht
  refine ⟨hprompt, hlist, answer_besides (hm ▸ hwf) r x w (hatt.rebase (s' := s) rfl rfl (.refl s)) hnow,
    hkeeps.mono fun p hp => ?_, driveLines_onlyLines ((answer_keeps r x w work .pins (by decide)).trans (hk .pins hpins)), ht⟩
  simp only [List.mem_append, List.mem_cons, List.not_mem_nil, or_false] at hp ⊢
  tauto

end

/-! SET_BREAK, SET_AVAILABLE and NO_SHOW. -/

/-- A request that moves the status from one status to another, judged (R52, R53). -/
theorem moveStatus_judged {k : RequestKind} {c : Instr} {old new : DispatchStatus} {reason : StatusReason} {s : State}
    {r : Fin 16} {rest : List (Fin 16)} (hc : effect c s = takeRequest k (fun r => moveStatus r old new reason) s)
    (hk : k.locked = true) (hne : new ≠ old) (hold : old ≠ .bidding) (hnew : new ≠ .bidding) (hwf : s.mem.Wf)
    (h : HeadIs k r rest s) :
    (s.emc.state = .quiet → s.dsc.status = old → HasRoom s → Completes c s fun t =>
      StatusBecomes new reason s t ∧ EndsAssignment s t ∧ JoinedLive .status s t ∧
      AnsweredPromptly r rest .done new.code s t ∧ OnlyList s t ∧ RaisesJudged [.status, .request] s t ∧
      Keeps [.mem, .dsc, .oft, .txq, .wpt, .atc, .pins] s t ∧ OnlyLines s t) ∧
    (s.emc.state = .quiet → s.dsc.status ≠ old → Completes c s (AnsweredAlone r rest .refusedState s.dsc.status.code s)) ∧
    (s.emc.state ≠ .quiet → Completes c s (AnsweredAlone r rest .refusedLocked 0 s)) := by
  refine ⟨fun hq hs hroom => completes_request hc h (fun _ => hq) (if_pos hs) ?_,
    fun hq hs => completes_answered hwf hc h (fun _ => hq) (if_neg hs), completes_locked hwf hc h hk⟩
  have moved : StatusMoved new reason (leaveList rest s) (setStatus new reason (leaveList rest s)) := by
    subst hs
    exact setStatus_moved (s := leaveList rest s) hroom hne hold hnew
  obtain ⟨hprompt, hlist, hraises, hkeeps, hlines, hlast⟩ :=
    answered_work hwf moved.keeps (by decide) (by decide) (by decide) moved.attends moved.now r .done new.code
  refine ⟨?_, ?_, ?_, hprompt, hlist, hraises, hkeeps.mono (by decide), hlines⟩
  · rw [StatusBecomes, hlast .dsc (by decide)]
    exact moved.becomes
  · rw [EndsAssignment, hlast .oft (by decide)]
    exact moved.ends
  · rw [JoinedLive, Joined, hlast .txq (by decide)]
    exact moved.joined

/-- Settles O30: each of the three moves the status from one status alone. -/
theorem statusRequestsAreJudged : Obligations.StatusRequestsAreJudged := by
  intro s r rest c k old new reason hrow hwf h
  simp only [List.mem_cons, Prod.mk.injEq, List.not_mem_nil, or_false] at hrow
  obtain ⟨rfl, rfl, rfl, rfl, rfl⟩ | ⟨rfl, rfl, rfl, rfl, rfl⟩ | ⟨rfl, rfl, rfl, rfl, rfl⟩ := hrow
  · exact moveStatus_judged rfl rfl (by decide) (by decide) (by decide) hwf h
  · exact moveStatus_judged rfl rfl (by decide) (by decide) (by decide) hwf h
  · exact moveStatus_judged rfl rfl (by decide) (by decide) (by decide) hwf h

/-! The offer timers. -/

theorem updateOffer_lines (e : Fin 8) (f : OfferEntry → OfferEntry) (s : State) :
    let t := driveLines (updateOffer e f s)
    t.oft.entries.get e = f (s.oft.entries.get e) ∧ RaisesJudged [] s t ∧ OnlyOffer e s t ∧ Keeps [.oft, .atc, .pins] s t ∧
      OnlyLines s t := by
  have hraises : RaisesJudged [] s (updateOffer e f s) := updateOffer_raisesJudged e f s
  exact ⟨updateOffer_entry e f s, hraises, updateOffer_onlyOffer e f s,
    ((updateOffer_keeps e f s).trans (driveLines_keeps _)).mono (by decide), driveLines_onlyLines (by simp)⟩

/-- Settles O33: an expiry ends the entry and sets the channel, and a step writes one remaining time. -/
theorem offerTimersRun : Obligations.OfferTimersRun := by
  refine ⟨fun s e ho => completes_of_effect (if_pos ho) ?_, fun s e ho hn => completes_of_effect (if_pos ⟨ho, hn⟩) ?_,
    fun s e ho hn => completes_of_effect ((if_neg ?_).trans (if_pos ⟨ho, hn⟩)) ?_⟩
  · have hset := setChannel_sets .offerResult (endOffer e .expired .none s)
    have hkeeps := setChannel_keeps .offerResult (endOffer e .expired .none s)
    have hraises := ((updateOffer_attends s e _).then_sets hset (by decide) (hkeeps .phase (by decide))
      (.of_mem (hkeeps .mem (by decide)))).beside
        ((updateOffer_matchesNow s e _).then_sets hset (hkeeps.mono (by decide)) (.of_mem (hkeeps .mem (by decide))))
    have hoft := hkeeps .oft (by decide)
    refine ⟨?_, hraises, (updateOffer_onlyOffer e _ s).of_oft hoft,
      (((updateOffer_keeps e _ s).trans hkeeps).trans (driveLines_keeps _)).mono (by decide), driveLines_onlyLines (by simp)⟩
    show (setChannel .offerResult (endOffer e .expired .none s)).oft.entries.get e = _
    rw [hoft]
    exact updateOffer_entry e _ s
  · exact updateOffer_lines e _ s
  · simp [ho]
  · exact updateOffer_lines e _ s

/-! ACCEPT_OFFER. -/

section
variable {r : Fin 16} {s : State} {e : Fin 8}

theorem ownAcceptOffer_refused (h : param8 s r 8 = e.val) {x : Result} (hx : acceptRefusal e s = some x) :
    ownAcceptOffer r s = answer r x (s.oft.entries.get e).state.code s := by
  have he : (⟨param8 s r 8, h ▸ e.isLt⟩ : Fin 8) = e := Fin.ext h
  simp only [ownAcceptOffer, dif_pos (show param8 s r 8 < 8 from h ▸ e.isLt), he, hx]

theorem ownAcceptOffer_bids (h : param8 s r 8 = e.val) (hx : acceptRefusal e s = none) :
    ownAcceptOffer r s = answer r .done ((startBid e s).oft.entries.get e).state.code (startBid e s) := by
  have he : (⟨param8 s r 8, h ▸ e.isLt⟩ : Fin 8) = e := Fin.ext h
  simp only [ownAcceptOffer, dif_pos (show param8 s r 8 < 8 from h ▸ e.isLt), he, hx]

theorem biddingEntry_none (h : ∀ x, (s.oft.entries.get x).state.bidding = false) : biddingEntry s = none := by
  simp [biddingEntry, h]

/-- A bid moves the status from AVAILABLE to BIDDING without a STATUS frame (R49). -/
theorem setStatus_bidding (h : s.dsc.status = .available) : setStatus .bidding .change s = rejudge (s.modDsc fun d =>
    { d with status := .bidding, queuePosition := 0 }) := by
  simp [setStatus, reportStatus, h]

end

/-- What the start of a bid makes (R70, R71). -/
theorem startBid_effect {s : State} {e : Fin 8} (hs : s.dsc.status = .available) (hroom : HasRoom s) :
    let t := startBid e s
    let entry := s.oft.entries.get e
    t.oft.entries.get e = { entry with state := .bidQueued, bidFrame := .queued, windowRemaining := 0 } ∧ OnlyOffer e s t ∧
      t.dsc = { s.dsc with status := .bidding, queuePosition := 0 } ∧
      Joined (newFrame .bid [.offer e entry.number] (.fixed (.bid entry.number s.dsc.zone s.dsc.zoneKnown s.frc.clock))) s t ∧
      Keeps [.dsc, .oft, .txq, .atc] s t ∧ Attends s.atc [] s t ∧ MatchesNow t := by
  let queued := updateOffer e (fun x => { x with state := .bidQueued, bidFrame := .queued, windowRemaining := 0 }) s
  let moved := queued.modDsc fun d => { d with status := .bidding, queuePosition := 0 }
  let bid := rejudge moved
  have hqueuedKeeps : Keeps [.oft, .atc] s queued := updateOffer_keeps e _ s
  have hbid : requestStatus .bidding [.available] queued = bid := by
    have hstatus : queued.dsc.status = .available := by simpa [queued] using hs
    rw [requestStatus, if_pos (by simp [hstatus]), setStatus_bidding hstatus]
  have hbidKeeps : Keeps [.dsc, .atc] queued bid := (modDsc_keeps _ _).trans (rejudge_keeps _)
  have hbidRoom : HasRoom bid := by simpa [HasRoom, bid, moved, queued] using hroom
  have hjoin : startBid e s = joinQueue (bidFrame e bid) bid := by
    show joinQueue (bidFrame e (requestStatus .bidding [.available] queued)) _ = _
    rw [hbid]
  have hframe : bidFrame e bid = newFrame .bid [.offer e (s.oft.entries.get e).number]
      (.fixed (.bid (s.oft.entries.get e).number s.dsc.zone s.dsc.zoneKnown s.frc.clock)) := by
    simp [bidFrame, bid, moved, queued]
  have hjoined := joinQueue_joined hbidRoom (bidFrame e bid)
  have hjoinKeeps := joinQueue_keeps hbidRoom (bidFrame e bid)
  rw [← hjoin] at hjoined hjoinKeeps
  have hkeeps : Keeps [.dsc, .oft, .txq, .atc] s (startBid e s) :=
    ((hqueuedKeeps.trans hbidKeeps).trans hjoinKeeps).mono (by decide)
  have hoft : (startBid e s).oft = queued.oft :=
    (hjoinKeeps .oft (by decide)).trans (hbidKeeps .oft (by decide))
  have hattends : Attends s.atc [] s bid :=
    ((updateOffer_attends s e _).trans (rejudge_attends_after (t := moved) rfl rfl (.refl _))).congr (by simp)
  refine ⟨?_, (updateOffer_onlyOffer e _ s).of_oft hoft, ?_, ?_, hkeeps, ?_, ?_⟩
  · rw [hoft]
    exact updateOffer_entry e _ s
  · rw [hjoinKeeps .dsc (by decide)]
    simp [bid, moved, queued]
  · have htxq : bid.txq = s.txq := (hqueuedKeeps.trans hbidKeeps) .txq (by decide)
    rwa [Joined, htxq, hframe] at hjoined
  · exact hattends.then_atc (hjoinKeeps .atc (by decide)) (hjoinKeeps .phase (by decide)) (.of_mem (hjoinKeeps .mem (by decide)))
  · refine (rejudge_matchesNow moved).of_same (hjoinKeeps.mono (by decide)) (.of_mem (hjoinKeeps .mem (by decide))) ?_ ?_
    · rw [hjoinKeeps .atc (by decide)]
    · rw [hjoinKeeps .atc (by decide)]

/-- Settles O34: the refusals are judged in the order of R70, and without one the bid starts before the answer. -/
theorem acceptStartsABid : Obligations.AcceptStartsABid := by
  intro s r rest hwf h hq
  refine ⟨fun e he ho hbids hs hlink hroom => ?_, fun e x he hx hdone => ?_⟩
  · have hnone : acceptRefusal e (leaveList rest s) = none := by
      simp [acceptRefusal, ho, biddingEntry_none (s := leaveList rest s) hbids, hs, hlink]
    refine completes_request rfl h (fun _ => hq) (ownAcceptOffer_bids (s := leaveList rest s) he hnone) ?_
    obtain ⟨hentry, honly, hdsc, hjoined, hkeeps, hattends, hnow⟩ := startBid_effect (s := leaveList rest s) (e := e) hs hroom
    have hword : ((startBid e (leaveList rest s)).oft.entries.get e).state.code = 2 := by rw [hentry]; rfl
    obtain ⟨hprompt, hlist, hraises, hkeepsAll, hlines, hlast⟩ :=
      answered_work hwf hkeeps (by decide) (by decide) (by decide) hattends hnow r .done 2
    rw [hword]
    refine ⟨?_, honly.of_oft (hlast .oft (by decide)), ?_, ?_, hprompt, hlist, hraises, hkeepsAll.mono (by decide), hlines⟩
    · rw [hlast .oft (by decide)]
      exact hentry
    · rw [hlast .dsc (by decide)]
      exact hdsc
    · rw [Joined, hlast .txq (by decide)]
      exact hjoined
  · have hsome : acceptRefusal e (leaveList rest s) = some x := by
      have hb : biddingEntry (leaveList rest s) = biddingEntry s := rfl
      simp only [acceptRefusal, hb, leaveList_kept] at hx hdone ⊢
      split_ifs at hx ⊢ <;> simp_all
    exact completes_answered hwf rfl h (fun _ => hq) (ownAcceptOffer_refused (s := leaveList rest s) he hsome)

/-! RELEASE_OFFER. -/

section
variable {r : Fin 16} {s : State} {e : Fin 8}

theorem ownReleaseOffer_entry (h : param8 s r 8 = e.val) : ownReleaseOffer r s =
    if releasable e s then answer r .done 0 (releaseEntry e s) else answer r .refusedState 0 s := by
  have he : (⟨param8 s r 8, h ▸ e.isLt⟩ : Fin 8) = e := Fin.ext h
  rw [ownReleaseOffer, dif_pos (h ▸ e.isLt), he]

theorem releasable_held (h : (s.oft.entries.get e).state ∈ [OfferState.empty, .open, .bidQueued, .bidSent] ∨
    ((s.oft.entries.get e).state = .awarded ∧ s.oft.assignment = some e)) : releasable e s = false := by
  unfold releasable
  rcases h with h | ⟨h, ha⟩
  · simp only [List.mem_cons, List.not_mem_nil, or_false] at h
    rcases h with h | h | h | h <;> simp [h]
  · simp [h, ha]

theorem releasable_ended (h : (s.oft.entries.get e).state ∈ [OfferState.lost, .expired, .withdrawn, .declined] ∨
    ((s.oft.entries.get e).state = .awarded ∧ s.oft.assignment ≠ some e)) : releasable e s = true := by
  unfold releasable
  rcases h with h | ⟨h, ha⟩
  · simp only [List.mem_cons, List.not_mem_nil, or_false] at h
    rcases h with h | h | h | h <;> simp [h]
  · simp [h, ha]

end

/-- Work that frees a chain and judges the matches, and its answer: what window memory holds after it (R88, R165). -/
theorem freed_answered {s work : State} {rest : List (Fin 16)} {first count : Nat} (hwf : s.mem.Wf)
    (hmem : work.mem = (freeChain first count (leaveList rest s)).mem)
    (hwpt : work.wpt = (leaveList rest s).wpt) (hatt : Attends s.atc [] s work) (hnow : MatchesNow work) (r : Fin 16) :
    let t := driveLines (answer r .done 0 work)
    Answered r .done 0#8 0 t ∧ t.wpt.posted = rest ∧ OnlyList s t ∧ RaisesJudged [.request] s t ∧
      ∀ a, ¬IsAnswerByte r a → t.mem.read a = freedByte s first count a := by
  intro t
  have hfreed : (freeChain first count (leaveList rest s)).mem.Wf :=
    (freeChain_keepsBelowPool (s := leaveList rest s) hwf first count).1
  have hw : work.mem.Wf := hmem ▸ hfreed
  have hport : t.wpt = (leaveList rest s).wpt := (answer_keeps r .done 0 work .wpt (by decide)).trans hwpt
  refine ⟨answer_answered hw r .done 0, by rw [hport]; rfl, by rw [OnlyList, hport]; rfl,
    answer_besides hw r .done 0 hatt hnow, fun a ha => ?_⟩
  exact (answer_onlyAnswerBytes hw r .done 0 a ha).trans (by rw [hmem]; exact freeChain_read (s := leaveList rest s) hwf first count a)

/-- Settles O36: a releasable entry is emptied and its chain freed before the answer. -/
theorem offerIsReleased : Obligations.OfferIsReleased := by
  intro s r rest e hwf h he
  refine ⟨fun hheld => ?_, fun hended hfirst => ?_⟩
  · exact completes_answered hwf rfl h nofun ((ownReleaseOffer_entry (s := leaveList rest s) he).trans
      (if_neg (Bool.eq_false_iff.mp (releasable_held (s := leaveList rest s) hheld))))
  · refine completes_request rfl h nofun ((ownReleaseOffer_entry (s := leaveList rest s) he).trans
      (if_pos (releasable_ended (s := leaveList rest s) hended))) ?_
    let x := s.oft.entries.get e
    let freed := freeChain x.firstBlock x.blockCount (leaveList rest s)
    have hrelease : releaseEntry e (leaveList rest s) = updateOffer e (fun _ => OfferEntry.empty) freed := rfl
    have hfreed : Keeps [.mem, .mst, .atc] (leaveList rest s) freed := freeChain_keeps _ _ _
    have hupdate : Keeps [.oft, .atc] freed (updateOffer e (fun _ => OfferEntry.empty) freed) := updateOffer_keeps e _ freed
    have hattends : Attends s.atc [] s (updateOffer e (fun _ => OfferEntry.empty) freed) :=
      (((freeChain_attends (s := leaveList rest s) hwf hfirst).trans (updateOffer_attends freed e _)).congr (by simp)).rebase
        rfl rfl (.refl s)
    rw [hrelease]
    obtain ⟨hanswered, hposted, hlist, hraises, hread⟩ := freed_answered hwf (hupdate .mem (by decide))
      ((hupdate .wpt (by decide)).trans (hfreed .wpt (by decide))) hattends (updateOffer_matchesNow freed e _) r
    have hlast := (answer_keeps r .done 0 (updateOffer e (fun _ => OfferEntry.empty) freed)).trans (driveLines_keeps _)
    have honly : OnlyOffer e s (updateOffer e (fun _ => OfferEntry.empty) freed) := by
      have hoft : freed.oft = s.oft := hfreed .oft (by decide)
      have := updateOffer_onlyOffer e (fun _ => OfferEntry.empty) freed
      rwa [OnlyOffer, hoft] at this
    refine ⟨?_, honly.of_oft (hlast .oft (by decide)), ?_, hanswered, hposted, hlist, hraises, hread,
      ((((leaveList_keeps rest s).trans hfreed).trans hupdate).trans hlast).mono (by decide),
      driveLines_onlyLines (by simp [freed])⟩
    · rw [hlast .oft (by decide)]
      exact updateOffer_entry e _ freed
    · rw [hlast .mst (by decide), hupdate .mst (by decide)]
      exact freeChain_mst x.firstBlock x.blockCount (leaveList rest s)

/-! MARK_READ and DELETE_MSG. -/

section
variable {r : Fin 16} {s : State} {i : Fin 24}

theorem ownMarkRead_entry (h : param8 s r 8 = i.val) : ownMarkRead r s =
    if (s.mst.inbox.get i).state = .new then
      answer r .done InboxState.read.code (updateInbox i (fun x => { x with state := .read }) s)
    else answer r .refusedState (s.mst.inbox.get i).state.code s := by
  have hi : (⟨param8 s r 8, h ▸ i.isLt⟩ : Fin 24) = i := Fin.ext h
  rw [ownMarkRead, dif_pos (h ▸ i.isLt), hi]

theorem ownDeleteMsg_held (h : param8 s r 8 = i.val) (hs : (s.mst.inbox.get i).state = .empty ∨ (s.mst.inbox.get i).state = .replying) :
    ownDeleteMsg r s = answer r (if (s.mst.inbox.get i).state = .replying then .busy else .refusedState)
      (s.mst.inbox.get i).state.code s := by
  have hi : (⟨param8 s r 8, h ▸ i.isLt⟩ : Fin 24) = i := Fin.ext h
  rcases hs with hs | hs <;>
    simp only [ownDeleteMsg, dif_pos (show param8 s r 8 < 24 from h ▸ i.isLt), hi, hs, if_true, reduceCtorEq, if_false]

theorem ownDeleteMsg_ended (h : param8 s r 8 = i.val) (hs : (s.mst.inbox.get i).state ∈ [InboxState.new, .read, .replied]) :
    ownDeleteMsg r s = answer r .done 0 (deleteEntry i s) := by
  have hi : (⟨param8 s r 8, h ▸ i.isLt⟩ : Fin 24) = i := Fin.ext h
  simp only [List.mem_cons, List.not_mem_nil, or_false] at hs
  rcases hs with hs | hs | hs <;>
    simp only [ownDeleteMsg, dif_pos (show param8 s r 8 < 24 from h ▸ i.isLt), hi, hs] <;> rfl

end

/-- Settles O42: the entry's state judges the request, and a deleted entry's chain is freed before the answer. -/
theorem messageIsReadAndDeleted : Obligations.MessageIsReadAndDeleted := by
  intro s r rest i hwf hi e
  refine ⟨fun h hn => ?_, fun h hn => ?_, fun h hs hfirst => ?_, fun h hs => ?_⟩
  · refine completes_request rfl h nofun ((ownMarkRead_entry (s := leaveList rest s) hi).trans (if_pos hn)) ?_
    have hkeeps := updateInbox_keeps (leaveList rest s) i fun x => { x with state := .read }
    obtain ⟨hprompt, hlist, hraises, hkeepsAll, hlines, hlast⟩ := answered_work hwf hkeeps (by decide) (by decide) (by decide)
      (updateInbox_attends (leaveList rest s) i _) (updateInbox_matchesNow _ i _) r .done InboxState.read.code
    refine ⟨?_, ?_, hprompt, hlist, hraises, hkeepsAll.mono (by decide), hlines⟩
    · rw [hlast .mst (by decide)]
      exact updateInbox_entry (leaveList rest s) i _
    · exact (updateInbox_onlyInbox (leaveList rest s) i _).of_mst (hlast .mst (by decide))
  · exact completes_answered hwf rfl h nofun ((ownMarkRead_entry (s := leaveList rest s) hi).trans (if_neg hn))
  · refine completes_request rfl h nofun (ownDeleteMsg_ended (s := leaveList rest s) hi hs) ?_
    let freed := freeChain e.firstBlock e.blockCount (leaveList rest s)
    let left := freed.modMst fun m => { m with storeOrder := m.storeOrder.filter fun x => x != i }
    have hdelete : deleteEntry i (leaveList rest s) = updateInbox i (fun _ => InboxEntry.empty) left := rfl
    have hfreed : Keeps [.mem, .mst, .atc] (leaveList rest s) freed := freeChain_keeps _ _ _
    have hupdate : Keeps [.mst, .atc] left (updateInbox i (fun _ => InboxEntry.empty) left) := updateInbox_keeps left i _
    have hleft : Keeps [.mst] freed left := modMst_keeps _ _
    have hattends : Attends s.atc [] s (updateInbox i (fun _ => InboxEntry.empty) left) :=
      ((((freeChain_attends (s := leaveList rest s) hwf hfirst).then_atc (u := left) rfl rfl (.refl _)).trans
        (updateInbox_attends left i _)).congr (by simp)).rebase rfl rfl (.refl s)
    rw [hdelete]
    obtain ⟨hanswered, hposted, hlist, hraises, hread⟩ := freed_answered hwf (hupdate .mem (by decide))
      ((hupdate .wpt (by decide)).trans (hfreed .wpt (by decide))) hattends (updateInbox_matchesNow left i _) r
    have hlast := (answer_keeps r .done 0 (updateInbox i (fun _ => InboxEntry.empty) left)).trans (driveLines_keeps _)
    refine ⟨?_, hanswered, hposted, hlist, hraises, hread,
      (((((leaveList_keeps rest s).trans hfreed).trans hleft).trans hupdate).trans hlast).mono (by decide),
      driveLines_onlyLines (by simp [left, freed])⟩
    rw [hlast .mst (by decide), updateInbox_mst]
    simp only [left, State.modMst_mst, freed, freeChain_mst, leaveList_kept]
    rfl
  · exact completes_answered hwf rfl h nofun (ownDeleteMsg_held (s := leaveList rest s) hi hs)

end Sys2Proof.Machine
end

section
/-! PROOF. Frames and events of one block each: ZONE_INFO and POLL (O31), the position fix (O29), the receiver (O46) and the
store's next write (O26). -/

namespace Sys2Proof.Machine

/-! Frames that are accepted. -/

/-- A frame that is accepted ends the command with what its delivery makes of the part hunting again. -/
theorem completes_frame {kind : Nat} {f : RxFrame} {how : Addressing} {deliver : Addressing → State → State} {s work : State}
    {c : Instr} (hc : effect c s = receiveFrame kind f deliver s) (h : Accepted kind f how s) {post : State → Prop}
    (hwork : deliver how (resumeHunting s) = work) (hpost : post (driveLines work)) : Completes c s post :=
  completes_of_effect (hc.trans ((receiveFrame_accepted h deliver).trans hwork)) hpost

theorem resumeHunting_keeps (s : State) : Keeps [.ale] s (resumeHunting s) := modAle_keeps _ s

theorem onlyHunting_of_ale {s t : State} (h : t.ale = (resumeHunting s).ale) : OnlyHunting s t := h

/-- A frame that is accepted and does nothing more leaves the receiver hunting (R126). -/
theorem resumeHunting_alone (s : State) :
    OnlyHunting s (driveLines (resumeHunting s)) ∧ Keeps [.ale, .pins] s (driveLines (resumeHunting s)) ∧
      OnlyLines s (driveLines (resumeHunting s)) :=
  ⟨rfl, (resumeHunting_keeps s).trans (driveLines_keeps _), driveLines_onlyLines rfl⟩

/-! ZONE_INFO and POLL. -/

theorem zoneInfoApplies_iff {zone : Nat} {s : State} :
    zoneInfoApplies zone s = true ↔ s.dsc.status = .available ∧ s.dsc.zoneKnown = true ∧ zone = s.dsc.zone := by
  simp [zoneInfoApplies, and_assoc]

/-- Settles O31: the position is taken where R59 applies it, and a POLL asks for its reply. -/
theorem zoneInfoAndPollAreTaken : Obligations.ZoneInfoAndPollAreTaken := by
  refine ⟨?_, fun s f how h hroom => completes_frame rfl h rfl ?_⟩
  · intro s f how h applied
    by_cases ha : applied
    · obtain ⟨hstatus, hknown, hzone, hne⟩ := ha
      let moved := (resumeHunting s).modDsc fun d => { d with queuePosition := (bodyByte f.body 1).toNat }
      have hwork : takeZoneInfo (bodyByte f.body 0).toNat (bodyByte f.body 1).toNat (resumeHunting s) = setChannel .status moved :=
        if_pos ⟨zoneInfoApplies_iff.mpr ⟨hstatus, hknown, hzone⟩, hne⟩
      refine completes_frame rfl h hwork ?_
      have hset := setChannel_keeps .status moved
      refine ⟨fun _ => ⟨hset .dsc (by decide), (setChannel_sets .status moved).rebase rfl rfl (.refl s)⟩,
        fun hno => absurd ⟨hstatus, hknown, hzone, hne⟩ hno, hset .ale (by decide),
        ((((resumeHunting_keeps s).trans (modDsc_keeps _ _)).trans hset).trans (driveLines_keeps _)).mono (by decide),
        driveLines_onlyLines (hset .pins (by decide))⟩
    · have hwork : takeZoneInfo (bodyByte f.body 0).toNat (bodyByte f.body 1).toNat (resumeHunting s) = resumeHunting s := by
        refine if_neg fun ⟨hz, hne⟩ => ha ?_
        obtain ⟨hstatus, hknown, hzone⟩ := zoneInfoApplies_iff.mp hz
        exact ⟨hstatus, hknown, hzone, hne⟩
      obtain ⟨hhunting, hkeeps, hlines⟩ := resumeHunting_alone s
      exact completes_frame (work := resumeHunting s) rfl h hwork ⟨fun hyes => absurd hyes ha, fun _ => ⟨rfl, rfl⟩, hhunting, hkeeps.mono (by decide), hlines⟩
  · let polled := (resumeHunting s).modDsc fun d => { d with pollReference := bodyByte f.body 0 }
    have hask : Keeps [.txq] polled (askLive .pollReply polled) := askLive_keeps (s := polled) hroom .pollReply
    refine ⟨hask .dsc (by decide), askLive_joined (s := polled) hroom .pollReply, hask .ale (by decide),
      ((((resumeHunting_keeps s).trans (modDsc_keeps _ _)).trans hask).trans (driveLines_keeps _)).mono (by decide),
      driveLines_onlyLines (hask .pins (by decide))⟩

/-! The position fix. -/

theorem clearSlot_read {m : Memory} (h : m.Wf) (hfree : m.read 0x50 = 0#8) (a : Nat) : (m.write 0x50 0#8).read a = m.read a := by
  by_cases ha : a = 0x50
  · rw [ha, Memory.read_write_same h, hfree]
  · exact Memory.read_write_other h _ ha

/-- What a zone change leaves (R57). -/
theorem zoneChange_effect {s : State} (zone : Nat) (hroom : HasRoom s) :
    let t := zoneChange zone s
    t.dsc = { s.dsc with
      zone := zone, zoneKnown := true, queuePosition := 0,
      heldReason := if s.dsc.status = .available ∧ kindWaiting s .status = false then .zone else s.dsc.heldReason } ∧
    (s.dsc.status = .available → JoinedLive .status s t) ∧ (s.dsc.status ≠ .available → t.txq = s.txq) ∧
    Keeps [.dsc, .txq] s t := by
  intro t
  let moved := s.modDsc fun d => { d with zone := zone, zoneKnown := true, queuePosition := 0 }
  by_cases hs : s.dsc.status = .available
  · let held := moved.modDsc fun d => { d with heldReason := if kindWaiting s .status then s.dsc.heldReason else .zone }
    have ht : t = askLive .status held := if_pos hs
    have hask : Keeps [.txq] held t := ht ▸ askLive_keeps (s := held) hroom .status
    have hjoined : JoinedLive .status held t := ht ▸ askLive_joined (s := held) hroom .status
    refine ⟨?_, fun _ => hjoined, fun hno => absurd hs hno,
      (((modDsc_keeps _ s).trans (modDsc_keeps _ moved)).trans hask).mono (by decide)⟩
    rw [hask .dsc (by decide)]
    cases hw : kindWaiting s .status <;> simp [held, moved, hs, hw]
  · have ht : t = moved := if_neg hs
    rw [ht]
    exact ⟨by simp [moved, hs], fun h => absurd h hs, fun _ => rfl, (modDsc_keeps _ s).mono (by decide)⟩

/-- Settles O29: the slot is freed, and a valid fix is taken with the zone change it gives. -/
theorem positionFixIsTaken : Obligations.PositionFixIsTaken := by
  refine ⟨?_, fun s hready hwf hfree hvalid => ?_, fun s hready hfree => ?_⟩
  · intro s hready hwf hfree hvalid hroom x changes
    have heff : effect .positionFixPost s = takeFix s := (if_pos hready).trans (if_pos ⟨hfree, rfl⟩)
    let freed := s.modMem fun m => m.write 0x50 0#8
    let fixed := freed.modDsc fun d => { d with lastFix := some x }
    have hfreed : Keeps [.mem, .dsc] s fixed := (modMem_keeps _ s).trans (modDsc_keeps _ freed)
    have hread : ∀ a, (s.mem.write 0x50 0#8).read a = s.mem.read a := clearSlot_read hwf hfree
    by_cases hc : changes
    · have hwork : takeFix s = zoneChange x.zone fixed := (if_pos hvalid).trans (if_pos hc)
      obtain ⟨hdsc, hjoined, htxq, hkeeps⟩ := zoneChange_effect (s := fixed) x.zone hroom
      refine completes_of_effect (heff.trans hwork) ⟨?_, fun _ hs => hjoined hs, fun hno => htxq fun hs => hno ⟨hc, hs⟩, ?_,
        ((hfreed.trans hkeeps).trans (driveLines_keeps _)).mono (by decide), driveLines_onlyLines (hkeeps .pins (by decide))⟩
      · rw [show (driveLines (zoneChange x.zone fixed)).dsc = (zoneChange x.zone fixed).dsc from rfl, hdsc]
        have hcw : kindWaiting fixed .status = kindWaiting s .status := rfl
        simp only [hcw, fixed, freed, State.modDsc_dsc, State.modMem_dsc]
        rw [if_pos hc]
        simp only [show (s.dsc.zoneKnown = false ∨ x.zone ≠ s.dsc.zone) from hc, true_and]
      · intro a
        rw [show (driveLines (zoneChange x.zone fixed)).mem = fixed.mem from hkeeps .mem (by decide)]
        exact hread a
    · have hwork : takeFix s = fixed := (if_pos hvalid).trans (if_neg hc)
      obtain ⟨hknown, hzone⟩ := not_or.mp hc
      have hknown' : s.dsc.zoneKnown = true := by simpa using hknown
      have hzone' : x.zone = s.dsc.zone := by simpa using hzone
      refine completes_of_effect (heff.trans hwork) ⟨?_, fun hyes => absurd hyes hc, fun _ => rfl, hread,
        (hfreed.trans (driveLines_keeps _)).mono (by decide), driveLines_onlyLines rfl⟩
      simp [fixed, freed, hknown', hzone']
  · have heff : effect .positionFixPost s = takeFix s := (if_pos hready).trans (if_pos ⟨hfree, rfl⟩)
    have hwork : takeFix s = (s.modMem fun m => m.write 0x50 0#8).modDsc fun d =>
        { d with fixRejected := satAdd u16Max d.fixRejected 1 } := if_neg (Bool.eq_false_iff.mp hvalid)
    exact completes_of_effect (heff.trans hwork) ⟨rfl, clearSlot_read hwf hfree,
      (((modMem_keeps _ s).trans (modDsc_keeps _ _)).trans (driveLines_keeps _)).mono (by decide), driveLines_onlyLines rfl⟩
  · have heff : effect .positionFixPost s = illegalHand 0x50 s :=
      (if_pos hready).trans (if_neg fun ⟨hf, _⟩ => hfree hf)
    let counted := s.modWpt fun w => { w with illegalHands := satAdd u16Max w.illegalHands 1 }
    have hrecord : Keeps [.atc] counted (illegalHand 0x50 s) := keeps_of_atc (recordFault_eq .handIllegal 0x50 counted)
    exact completes_of_effect heff ⟨hrecord .wpt (by decide),
      recordFault_records .handIllegal 0x50 counted,
      (((modWpt_keeps _ s).trans hrecord).trans (driveLines_keeps _)).mono (by decide),
      driveLines_onlyLines (hrecord .pins (by decide))⟩

/-! The receiver. -/

section
variable {s : State}

/-- An operation that leaves all but the air link engine. -/
theorem ale_alone {t : State} (h : Keeps [.ale] s t) :
    Keeps [.ale, .pins] s (driveLines t) ∧ OnlyLines s (driveLines t) :=
  ⟨h.trans (driveLines_keeps _), driveLines_onlyLines (h .pins (by decide))⟩

theorem dropFrame_keeps (fate : Fate) : Keeps [.ale] s (dropFrame fate s) := by
  cases fate with
  | crcError => exact modAle_keeps _ s
  | formatError => exact modAle_keeps _ s
  | silent => exact .refl _ s
  | accepted how => exact .refl _ s

theorem takeDropped_refused {kind : Nat} {f : RxFrame} (hc : s.ale.receiver = .collecting)
    (hno : ∀ how, judgeFrame s kind f ≠ .accepted how) :
    takeDropped kind f s = dropFrame (judgeFrame s kind f) (resumeHunting s) := by
  rw [takeDropped, if_pos hc]
  split
  next how h => exact absurd h (hno how)
  next => rfl

end

/-- The fate of a frame of at most 120 bytes that fails a check, in the order of R128. -/
theorem judgeFrame_fails {s : State} {kind : Nat} {f : RxFrame} (hlen : f.body.length ≤ 120) :
    (crc16 (frameBytes kind f) ≠ f.crc → judgeFrame s kind f = .crcError) ∧
    (crc16 (frameBytes kind f) = f.crc → f.fleet.toNat ≠ fleetId s → judgeFrame s kind f = .silent) ∧
    (crc16 (frameBytes kind f) = f.crc → f.fleet.toNat = fleetId s → fixedFields kind = none →
      judgeFrame s kind f = .formatError) ∧
    (crc16 (frameBytes kind f) = f.crc → f.fleet.toNat = fleetId s → fixedFields kind ≠ none →
      addressing s f.address.toNat = none → judgeFrame s kind f = .silent) ∧
    (crc16 (frameBytes kind f) = f.crc → f.fleet.toNat = fleetId s → fixedFields kind ≠ none →
      addressing s f.address.toNat ≠ none → bodyPasses kind f.body ≠ true → judgeFrame s kind f = .formatError) := by
  have hshort : ¬120 < f.body.length := Nat.not_lt.mpr hlen
  unfold judgeFrame
  refine ⟨fun h1 => ?_, fun h1 h2 => ?_, fun h1 h2 h3 => ?_, fun h1 h2 h3 h4 => ?_, fun h1 h2 h3 h4 h5 => ?_⟩
  · rw [if_neg hshort, if_pos h1]
  · rw [if_neg hshort, if_neg (not_not.mpr h1), if_pos h2]
  · rw [if_neg hshort, if_neg (not_not.mpr h1), if_neg (not_not.mpr h2), if_pos h3]
  · rw [if_neg hshort, if_neg (not_not.mpr h1), if_neg (not_not.mpr h2), if_neg h3, h4]
  · rw [if_neg hshort, if_neg (not_not.mpr h1), if_neg (not_not.mpr h2), if_neg h3]
    obtain ⟨how, hhow⟩ := Option.ne_none_iff_exists'.mp h4
    rw [hhow]
    exact if_neg h5

/-- Settles O46: sync, length and abandonment act on the receiver alone, and a frame is dropped by its first failure. -/
theorem receiverJudgesFrames : Obligations.ReceiverJudgesFrames := by
  refine ⟨?_, fun s n hc hn => ?_, fun s hc => ?_, ?_, fun s hc n kind f c hmem => ?_, by decide +kernel⟩
  · intro s bits hh differing
    have htol : syncTolerance s = min (setting s 0x11) 1 := by simp [syncTolerance, clamp]
    have heff : effect (.syncFound bits) s = s.modAle fun a => { a with
        receiver := if differing ≤ min (setting s 0x11) 1 then .collecting else .hunting,
        window := if differing ≤ min (setting s 0x11) 1 then none else some bits } := by
      show judgeSync bits s = _
      rw [judgeSync, if_pos hh, htol, show syncDistance bits = differing from rfl]
      split_ifs
      · rfl
      · rw [← hh]
        rfl
    exact completes_of_effect heff ⟨rfl, ale_alone (modAle_keeps _ s)⟩
  · have heff : effect (.rxLengthFormatError n) s = countFormatError (resumeHunting s) := if_pos ⟨hc, hn⟩
    exact completes_of_effect heff ⟨rfl, ale_alone (((resumeHunting_keeps s).trans (modAle_keeps _ _)).mono (by decide))⟩
  · exact completes_of_effect (if_pos hc) (resumeHunting_alone s)
  · intro s kind f hc hlen crcGood ours known addressed passes hfail
    obtain ⟨hcrc, hfleet, hkind, haddress, hbody⟩ := judgeFrame_fails (s := s) (kind := kind.toNat) (f := f) hlen
    have hno : ∀ how, judgeFrame s kind.toNat f ≠ .accepted how := fun how h => hfail (by
      by_cases h1 : crcGood
      · by_cases h2 : ours
        · by_cases h3 : known
          · by_cases h4 : addressed
            · by_cases h5 : passes
              · exact ⟨h1, h2, h3, h4, h5⟩
              · exact absurd (h.symm.trans (hbody h1 h2 h3 h4 h5)) nofun
            · exact absurd (h.symm.trans (haddress h1 h2 h3 (not_not.mp h4))) nofun
          · exact absurd (h.symm.trans (hkind h1 h2 (not_not.mp h3))) nofun
        · exact absurd (h.symm.trans (hfleet h1 h2)) nofun
      · exact absurd (h.symm.trans (hcrc h1)) nofun)
    refine completes_of_effect (takeDropped_refused hc hno) ⟨fun h1 => ?_, fun h1 h2 => ?_, fun h1 h2 h3 => ?_,
      ale_alone (((resumeHunting_keeps s).trans (dropFrame_keeps _)).mono (by decide))⟩
    · rw [hcrc h1]
      rfl
    · have hsilent : judgeFrame s kind.toNat f = .silent := by
        by_cases hours : ours
        · obtain ⟨hk, ha⟩ := h2.resolve_left (not_not.mpr hours)
          exact haddress h1 hours hk (not_not.mp ha)
        · exact hfleet h1 hours
      rw [hsilent]
      rfl
    · have hformat : judgeFrame s kind.toNat f = .formatError := by
        by_cases hk : known
        · obtain ⟨ha, hp⟩ := h3.resolve_left (not_not.mpr hk)
          exact hbody h1 h2 hk ha hp
        · exact hkind h1 h2 (not_not.mp hk)
      rw [hformat]
      rfl
  · have hidle : effect c s = s := by
      simp only [List.mem_cons, List.not_mem_nil, or_false] at hmem
      obtain rfl | rfl | rfl := hmem
      · exact if_neg fun ⟨h, _⟩ => hc h
      · exact if_neg hc
      · exact if_neg hc
    exact completes_of_effect hidle ⟨driveLines_keeps s, driveLines_onlyLines rfl⟩

/-! The store's next write. -/

/-- Settles O26: the write chosen by R183 begins with what it carries at that moment. -/
theorem storeWriteBegins : Obligations.StoreWriteBegins := by
  intro s k hstages hfree others hchoice job
  have hnext : nextWrite s = some k := by
    have hothers : otherWrites s = others := rfl
    unfold nextWrite
    rw [hothers]
    rcases hchoice with ⟨hlast, hk⟩ | ⟨hlast, hmem, rfl⟩ | ⟨hmem, hk⟩
    · have hne : others ≠ [] := fun he => by simp [he] at hk
      rw [if_pos ⟨hlast, hne⟩, hk]
    · rw [if_neg, if_pos hmem]
      rintro ⟨hyes, hne⟩
      exact hlast.elim (fun hno => by simp [hno] at hyes) hne
    · split_ifs
      exacts [hk, hk]
  have hserved : storeServed s = true ∧ s.cps.writing = none := ⟨by simpa [storeServed] using hstages, hfree⟩
  have hwork : effect .storeWriteBegin s = beginWrite k s := by
    show beginNextWrite s = _
    simp only [beginNextWrite, if_pos hserved, hnext]
  refine completes_of_effect hwork ⟨?_, ?_, ?_⟩
  · have hjob : storeJobNow k s = job := by cases k <;> rfl
    rw [← hjob]
    rfl
  · exact ((modCps_keeps _ s).trans (modCps_keeps _ _)).trans (driveLines_keeps _) |>.mono (by decide)
  · exact driveLines_onlyLines rfl

end Sys2Proof.Machine
end

section
/-! PROOF. The emergency controller's cancel (O44) and the updates and the end of a call (O45); SEND_TEXT and REPLY (O40). -/

namespace Sys2Proof.Machine

/-- As `answered_work`, for work that judges no match. -/
theorem answered_plain {s work : State} {rest : List (Fin 16)} {l : List Part} {cs : List Channel} (hwf : s.mem.Wf)
    (hk : Keeps l (leaveList rest s) work) (hmem : .mem ∉ l) (hwpt : .wpt ∉ l) (hpins : .pins ∉ l)
    (hset : Sets s.atc cs (leaveList rest s) work) (r : Fin 16) (x : Result) (w : Nat) :
    let t := driveLines (answer r x w work)
    AnsweredPromptly r rest x w s t ∧ OnlyList s t ∧ Raises (cs ++ [.request]) s t ∧
      Keeps (l ++ [.mem, .wpt, .atc, .pins]) s t ∧ OnlyLines s t ∧ Keeps [.mem, .atc, .pins] work t := by
  intro t
  have hm : work.mem = s.mem := hk .mem hmem
  have ht : Keeps [.mem, .atc, .pins] work t := (answer_keeps r x w work).trans (driveLines_keeps _)
  obtain ⟨hprompt, hlist⟩ := answeredPromptly_of_work (work := work) (rest := rest) hwf hm (hk .wpt hwpt) r x w
  have hkeeps := ((leaveList_keeps rest s).trans hk).trans ht
  refine ⟨hprompt, hlist, answer_sets (hm ▸ hwf) r x w (hset.rebase (s' := s) rfl rfl (.refl _)) (.of_mem hm),
    hkeeps.mono fun p hp => ?_, driveLines_onlyLines ((answer_keeps r x w work .pins (by decide)).trans (hk .pins hpins)), ht⟩
  simp only [List.mem_append, List.mem_cons, List.not_mem_nil, or_false] at hp ⊢
  tauto

/-! Operations of the emergency controller. -/

/-- A change of the emergency state (R106, R115, R118). -/
structure CallMoved (new : EmergencyState) (s t : State) : Prop where
  emc : t.emc = { s.emc with state := new }
  asks : AsksCommit s t
  keeps : Keeps [.emc, .atc, .cps] s t
  attends : Attends s.atc [.emergency] s t
  now : MatchesNow t

theorem setEmergency_moved (new : EmergencyState) (s : State) : CallMoved new s (setEmergency new s) := by
  let moved := s.modEmc fun e => { e with state := new }
  let told := setChannel .emergency (rejudge moved)
  have htold : Keeps [.atc] (rejudge moved) told := setChannel_keeps _ _
  have hkeeps : Keeps [.emc, .atc] s told := (((modEmc_keeps _ s).trans (rejudge_keeps moved)).trans htold).mono (by decide)
  have hset := setChannel_sets .emergency (rejudge moved)
  refine ⟨?_, ?_, (hkeeps.trans (modCps_keeps _ told)).mono (by decide), ?_, ?_⟩
  · show told.emc = _
    rw [htold .emc (by decide)]
    exact rejudge_keeps moved .emc (by decide)
  · show (requestCommit told).cps = _
    rw [requestCommit, requestWrite, State.modCps_cps, hkeeps .cps (by decide)]
  · exact ((rejudge_attends_after (s := s) (t := moved) rfl rfl (.refl s)).trans (setChannel_attends (by decide) _)).then_atc
      (u := requestCommit told) rfl rfl (.refl _)
  · exact ((rejudge_matchesNow moved).then_sets hset (htold.mono (by decide)) (.of_mem (htold .mem (by decide)))).of_flags
      rfl ⟨rfl, rfl, rfl, rfl, rfl, rfl, rfl⟩ (.refl _) rfl rfl

theorem emergencyFrame_eq (k : EmergencyKind) (s : State) : emergencyFrame k s = askedFrame k s := by cases k <;> rfl

/-- The emergency-class frame that an ask finds, if there is one. -/
theorem noEmergencyFrame_iff {s : State} : NoEmergencyFrame s ↔ s.txq.frames.find? (fun f => f.cls == 0) = none := by
  simp [NoEmergencyFrame, List.find?_eq_none]

/-- What an ask for an emergency-class frame leaves (R112). -/
theorem askEmergency_effect (k : EmergencyKind) {s : State} (hroom : NoEmergencyFrame s → HasRoom s) :
    let t := askEmergency k s
    t.emc = { s.emc with owed := owedAfterAsk k s } ∧ t.txq = { s.txq with frames := framesAfterAsk k s } ∧
      Keeps [.emc, .txq] s t := by
  intro t
  simp only [t, askEmergency, owedAfterAsk, framesAfterAsk, emergencyFrame_eq]
  cases hf : s.txq.frames.find? (fun f => f.cls == 0) with
  | none =>
    have hroom' : HasRoom s := hroom (noEmergencyFrame_iff.mpr hf)
    simp only
    rw [joinQueue_room hroom']
    exact ⟨rfl, rfl, (modTxq_keeps _ s).mono (by decide)⟩
  | some g =>
    simp only
    split_ifs <;> simp_all [modFrames, keeps_iff]

/-! EMERGENCY_CANCEL. -/

section
variable {r : Fin 16} {s : State}

theorem cancellable_iff : cancellable s = true ↔ s.emc.state = .alerting ∨ s.emc.state = .acked := by
  simp [cancellable]

theorem ownEmergencyCancel_state (h : ¬(s.emc.state = .alerting ∨ s.emc.state = .acked)) :
    ownEmergencyCancel r s = answer r .refusedState 0 s := if_neg (cancellable_iff.not.mpr h)

variable (h : s.emc.state = .alerting ∨ s.emc.state = .acked)
include h

theorem ownEmergencyCancel_locked (hn : 3 ≤ s.emc.wrongCodes) :
    ownEmergencyCancel r s = answer r .refusedLocked s.emc.wrongCodes s := (if_pos (cancellable_iff.mpr h)).trans (if_pos hn)

theorem ownEmergencyCancel_right (hn : s.emc.wrongCodes < 3) (hc : paramN s r 8 2 = s.emc.code) :
    ownEmergencyCancel r s = answer r .done s.emc.wrongCodes (cancelCall s) :=
  (if_pos (cancellable_iff.mpr h)).trans ((if_neg (Nat.not_le.mpr hn)).trans (if_pos hc))

theorem ownEmergencyCancel_wrong (hn : s.emc.wrongCodes < 3) (hc : paramN s r 8 2 ≠ s.emc.code) :
    ownEmergencyCancel r s = answer r .wrongCode (s.emc.wrongCodes + 1) (countWrongCode s) :=
  (if_pos (cancellable_iff.mpr h)).trans ((if_neg (Nat.not_le.mpr hn)).trans (if_neg hc))

end

/-- What the right code leaves (R119). -/
theorem cancelCall_effect {s : State} (hroom : NoEmergencyFrame s → HasRoom s) :
    let t := cancelCall s
    t.emc = { s.emc with state := .cancelling, updateTimer := none, owed := owedAfterAsk .cancel s } ∧
      t.txq = { s.txq with frames := framesAfterAsk .cancel s } ∧ AsksCommit s t ∧ Keeps [.emc, .txq, .atc, .cps] s t ∧
      Attends s.atc [.emergency] s t ∧ MatchesNow t := by
  intro t
  have moved := setEmergency_moved .cancelling s
  let stopped := stopUpdateTimer (setEmergency .cancelling s)
  have hstopped : Keeps [.emc, .atc, .cps] s stopped := (moved.keeps.trans (modEmc_keeps _ _)).mono (by decide)
  have hemc : stopped.emc = { s.emc with state := .cancelling, updateTimer := none } := by
    show ({ (setEmergency .cancelling s).emc with updateTimer := none } : Emc) = _
    rw [moved.emc]
  have htxq : stopped.txq = s.txq := hstopped .txq (by decide)
  have hfrc : stopped.frc = s.frc := hstopped .frc (by decide)
  obtain ⟨hask, hframes, hkeeps⟩ : t.emc = { stopped.emc with owed := owedAfterAsk .cancel stopped } ∧
      t.txq = { stopped.txq with frames := framesAfterAsk .cancel stopped } ∧ Keeps [.emc, .txq] stopped t :=
    askEmergency_effect .cancel (s := stopped) (by simpa [NoEmergencyFrame, HasRoom, htxq] using hroom)
  have howed : owedAfterAsk .cancel stopped = owedAfterAsk .cancel s := by simp only [owedAfterAsk, htxq, hemc]
  have hqueue : framesAfterAsk .cancel stopped = framesAfterAsk .cancel s := by
    simp only [framesAfterAsk, askedFrame, htxq, hemc, hfrc]
  refine ⟨by rw [hask, hemc, howed], by rw [hframes, htxq, hqueue], ?_, (hstopped.trans hkeeps).mono (by decide), ?_, ?_⟩
  · rw [AsksCommit, hkeeps .cps (by decide)]
    exact moved.asks
  · exact (moved.attends.then_atc (u := stopped) rfl rfl (.refl _)).then_atc (hkeeps .atc (by decide)) (hkeeps .phase (by decide))
      (.of_mem (hkeeps .mem (by decide)))
  · have hatc : t.atc = (setEmergency .cancelling s).atc := hkeeps .atc (by decide)
    refine moved.now.of_flags (hkeeps .phase (by decide)) ⟨congrArg Mtc.meter (hkeeps .mtc (by decide)),
      congrArg Dsc.status (hkeeps .dsc (by decide)), ?_, congrArg Ale.link (hkeeps .ale (by decide)),
      congrArg Oft.entries (hkeeps .oft (by decide)), congrArg Mst.inbox (hkeeps .mst (by decide)),
      congrArg Mst.freeCount (hkeeps .mst (by decide))⟩ (.of_mem (hkeeps .mem (by decide))) (by rw [hatc]) (by rw [hatc])
    rw [hask, moved.emc, hemc]

/-- Settles O44: the judgement follows R118, and the frame asked for follows R112. -/
theorem cancelIsJudged : Obligations.CancelIsJudged := by
  intro s r rest hwf h code called count changed room
  refine ⟨fun hno => ?_, fun hc hn => ?_, fun hc hn hcode hroom => ?_, fun hc hn hcode => ?_, fun hc hn hcode hroom => ?_⟩
  · exact completes_answered hwf rfl h nofun (ownEmergencyCancel_state (s := leaveList rest s) hno)
  · exact completes_answered hwf rfl h nofun (ownEmergencyCancel_locked (s := leaveList rest s) hc hn)
  · refine completes_request rfl h nofun (ownEmergencyCancel_right (s := leaveList rest s) hc hn hcode) ?_
    obtain ⟨hemc, htxq, hasks, hkeeps, hattends, hnow⟩ := cancelCall_effect (s := leaveList rest s) hroom
    obtain ⟨hprompt, hlist, hraises, hkeepsAll, hlines, hlast⟩ :=
      answered_work hwf hkeeps (by decide) (by decide) (by decide) hattends hnow r .done count
    refine ⟨(hlast .emc (by decide)).trans hemc, (hlast .txq (by decide)).trans htxq, ?_, hprompt, hlist, hraises,
      hkeepsAll.mono (by decide), hlines⟩
    rw [AsksCommit]
    exact (hlast .cps (by decide)).trans hasks
  · let counted := (leaveList rest s).modEmc fun e => { e with wrongCodes := e.wrongCodes + 1 }
    have hne : ¬counted.emc.wrongCodes = 3 := fun he => by
      have : count + 1 = 3 := he
      omega
    have hwork : countWrongCode (leaveList rest s) = counted := if_neg hne
    refine completes_request rfl h nofun ((ownEmergencyCancel_wrong (s := leaveList rest s) hc (by exact Nat.lt_succ_of_lt hn) hcode)) ?_
    rw [hwork]
    obtain ⟨hprompt, hlist, hraises, hkeepsAll, hlines, hlast⟩ := answered_plain (work := counted) hwf
      (modEmc_keeps _ (leaveList rest s)) (by decide) (by decide) (by decide) (.of_atc rfl) r .wrongCode (count + 1)
    exact ⟨hlast .emc (by decide), hprompt, hlist, hraises, hkeepsAll.mono (by decide), hlines⟩
  · let counted := (leaveList rest s).modEmc fun e => { e with wrongCodes := e.wrongCodes + 1 }
    let forced := counted.modEmc fun e => { e with duress := true }
    have heq : counted.emc.wrongCodes = 3 := congrArg (· + 1) hn
    have hwork : countWrongCode (leaveList rest s) = askEmergency .alert forced := if_pos heq
    refine completes_request rfl h nofun
      ((ownEmergencyCancel_wrong (s := leaveList rest s) hc (by exact hn.trans_lt (by decide)) hcode)) ?_
    rw [hwork]
    obtain ⟨hemc, htxq, hkeeps⟩ := askEmergency_effect .alert (s := forced) hroom
    have hworkKeeps : Keeps [.emc, .txq] (leaveList rest s) (askEmergency .alert forced) :=
      (((modEmc_keeps _ (leaveList rest s)).trans (modEmc_keeps _ counted)).trans hkeeps).mono (by decide)
    obtain ⟨hprompt, hlist, hraises, hkeepsAll, hlines, hlast⟩ := answered_plain (work := askEmergency .alert forced) hwf
      hworkKeeps (by decide) (by decide) (by decide) (.of_atc (hworkKeeps .atc (by decide))) r .wrongCode (count + 1)
    have hthree : count + 1 = 3 := heq
    refine ⟨((hlast .emc (by decide)).trans hemc).trans ?_, (hlast .txq (by decide)).trans htxq, ?_, hlist, hraises,
      hkeepsAll.mono (by decide), hlines⟩
    · simp only [forced, State.modEmc_emc, heq]
      rfl
    · exact hthree ▸ hprompt

/-! The updates and the end of a call. -/

/-- Where at most one frame is wanted and it waits, its removal is the filter that leaves it out (R147). -/
theorem eraseP_eq_filter {fs : List Frame} {p : Frame → Bool} (h : fs.countP p ≤ 1) : fs.eraseP p = fs.filter fun f => !p f := by
  induction fs with
  | nil => rfl
  | cons f fs ih =>
    by_cases hf : p f = true
    · have hrest : fs.countP p = 0 := by
        rw [List.countP_cons_of_pos hf] at h
        omega
      have hnone := List.countP_eq_zero.mp hrest
      rw [List.eraseP_cons_of_pos hf, List.filter_cons_of_neg (by simp [hf])]
      exact (List.filter_eq_self.mpr fun g hg => by simpa using hnone g hg).symm
    · rw [List.countP_cons_of_neg hf] at h
      rw [List.eraseP_cons_of_neg hf, List.filter_cons_of_pos (by simp [hf]), ih h]

theorem withoutNewest_eq_filter {fs : List Frame} {p : Frame → Bool} (h : fs.countP p ≤ 1) :
    withoutNewest fs p = fs.filter fun f => !p f := by
  rw [withoutNewest, eraseP_eq_filter (by rwa [List.countP_reverse]), List.filter_reverse, List.reverse_reverse]

/-- The removal of a WAITING frame of a test that at most one frame meets leaves out every WAITING frame of the test. -/
theorem removeWaiting_eq_filter {s : State} {p : Frame → Bool} (h : s.txq.frames.countP p ≤ 1) :
    removeWaiting p s = modFrames (fun fs => fs.filter fun f => !(p f && !f.inFlight)) s := by
  have hframes (hfs : s.txq.frames.filter (fun f => !(p f && !f.inFlight)) = s.txq.frames) :
      s = modFrames (fun fs => fs.filter fun f => !(p f && !f.inFlight)) s := by
    simp only [modFrames, State.modTxq, hfs]
  unfold removeWaiting removalOf
  cases hn : newestFrame s.txq.frames p with
  | none =>
    have hno : ∀ f ∈ s.txq.frames, p f = false := by simpa [newestFrame] using hn
    simp only [reduceCtorEq, if_false]
    exact hframes (List.filter_eq_self.mpr fun f hf => by simp [hno f hf])
  | some g =>
    obtain ⟨hg, hgs⟩ : p g = true ∧ g ∈ s.txq.frames :=
      ⟨List.find?_some hn, List.mem_reverse.mp (List.mem_of_find?_eq_some hn)⟩
    have honly : ∀ f ∈ s.txq.frames, p f = true → f = g := fun f hf hp => by
      have hfilter : (s.txq.frames.filter p).length ≤ 1 := List.countP_eq_length_filter ▸ h
      have hfm : f ∈ s.txq.frames.filter p := List.mem_filter.mpr ⟨hf, hp⟩
      have hgm : g ∈ s.txq.frames.filter p := List.mem_filter.mpr ⟨hgs, hg⟩
      obtain ⟨x, hx⟩ | hx := Nat.le_one_iff_eq_zero_or_eq_one.mp hfilter |>.symm.imp List.length_eq_one_iff.mp List.length_eq_zero_iff.mp
      · rw [hx] at hfm hgm
        rw [List.mem_singleton.mp hfm, List.mem_singleton.mp hgm]
      · rw [hx] at hfm
        exact absurd hfm List.not_mem_nil
    cases hi : g.inFlight with
    | true =>
      simp only [hi, if_true, reduceCtorEq, if_false]
      refine hframes (List.filter_eq_self.mpr fun f hf => ?_)
      by_cases hp : p f = true
      · simp [honly f hf hp, hi]
      · simp [hp]
    | false =>
      simp only [hi, Bool.false_eq_true, if_false, if_true]
      have hsame : s.txq.frames.filter (fun f => !(p f && !f.inFlight)) = s.txq.frames.filter fun f => !p f :=
        List.filter_congr fun f hf => by
          by_cases hp : p f = true
          · simp [honly f hf hp, hi]
          · simp [hp]
      simp only [modFrames, State.modTxq, withoutNewest_eq_filter h, hsame]

end Sys2Proof.Machine
end

section
/-! PROOF. The updates and the end of a call (O45), SEND_TEXT and REPLY (O40). -/

namespace Sys2Proof.Machine

section
variable {s t : State}

theorem FlagsSame.of_keeps {l : List Part} (h : Keeps l s t) (hmtc : .mtc ∉ l) (hdsc : .dsc ∉ l) (hoft : .oft ∉ l)
    (hmst : .mst ∉ l) (hale : .ale ∉ l) (hcall : t.emc.state = s.emc.state) : FlagsSame s t :=
  ⟨congrArg Mtc.meter (h .mtc hmtc), congrArg Dsc.status (h .dsc hdsc), hcall, congrArg Ale.link (h .ale hale),
    congrArg Oft.entries (h .oft hoft), congrArg Mst.inbox (h .mst hmst), congrArg Mst.freeCount (h .mst hmst)⟩

/-- After a change of the emergency state, work on the queue and on the controller's other fields. -/
theorem CallMoved.then_work {new : EmergencyState} {u : State} (h : CallMoved new s t) (hk : Keeps [.emc, .txq] t u)
    (hstate : u.emc.state = new) : AsksCommit s u ∧ Keeps [.emc, .txq, .atc, .cps] s u ∧ Attends s.atc [.emergency] s u ∧
      MatchesNow u := by
  have hmem : SameSettings t u := .of_mem (hk .mem (by decide))
  have hatc : u.atc = t.atc := hk .atc (by decide)
  refine ⟨?_, (h.keeps.trans hk).mono (by decide), h.attends.then_atc hatc (hk .phase (by decide)) hmem, ?_⟩
  · rw [AsksCommit, hk .cps (by decide)]
    exact h.asks
  · exact h.now.of_flags (hk .phase (by decide)) (.of_keeps hk (by decide) (by decide) (by decide) (by decide) (by decide)
      (by rw [hstate, h.emc])) hmem (by rw [hatc]) (by rw [hatc])

theorem removeWaiting_keeps (p : Frame → Bool) : Keeps [.txq] s (removeWaiting p s) := by
  unfold removeWaiting
  split_ifs
  exacts [modTxq_keeps _ s, .refl _ s]

end

/-- An expiry of the update timer (R117). -/
theorem expireUpdateTimer_effect {s : State} {n : Nat} (h : s.emc.updateTimer = some n)
    (hroom : NoEmergencyFrame s → HasRoom s) :
    let t := expireUpdateTimer s
    t.emc = { s.emc with updateTimer := some (clamp 10 300 (setting16 s 0x0C)), owed := owedAfterAsk .alert s } ∧
      t.txq = { s.txq with frames := framesAfterAsk .alert s } ∧ Keeps [.emc, .txq] s t := by
  intro t
  have ht : t = startUpdateTimer (askEmergency .alert s) := if_neg (by simp [h])
  obtain ⟨hemc, htxq, hkeeps⟩ := askEmergency_effect .alert hroom
  have hinterval : updateInterval (askEmergency .alert s) = clamp 10 300 (setting16 s 0x0C) := by
    rw [updateInterval, setting16, setting16, hkeeps .mem (by decide)]
  rw [ht]
  refine ⟨?_, htxq, (hkeeps.trans (modEmc_keeps _ _)).mono (by decide)⟩
  rw [startUpdateTimer, State.modEmc_emc, hemc, hinterval]

/-- What an acknowledgement of the call leaves (R116). -/
theorem acknowledgeCall_effect {s : State} (hlaw : countFrames s (fun f => f.kind == .emergency && !f.inFlight) ≤ 1) :
    let t := acknowledgeCall s
    t.emc = { s.emc with state := .acked, owed := none, updateTimer := some (clamp 10 300 (setting16 s 0x0C)) } ∧
      t.txq = { s.txq with frames := s.txq.frames.filter fun g => !(g.kind == .emergency && !g.inFlight) } ∧
      AsksCommit s t ∧ Keeps [.emc, .txq, .atc, .cps] s t ∧ Attends s.atc [.emergency] s t ∧ MatchesNow t := by
  intro t
  have moved := setEmergency_moved .acked s
  have htxq : (setEmergency .acked s).txq = s.txq := moved.keeps .txq (by decide)
  have hremoved : removeWaiting waitingAlert (setEmergency .acked s) =
      modFrames (fun fs => fs.filter fun f => !(f.kind == .emergency && !f.inFlight)) (setEmergency .acked s) := by
    rw [removeWaiting_eq_filter (by rw [htxq]; exact hlaw)]
    simp only [waitingAlert, Bool.and_assoc, Bool.and_self]
  let removed := modFrames (fun fs => fs.filter fun f => !(f.kind == .emergency && !f.inFlight)) (setEmergency .acked s)
  have ht : t = startUpdateTimer (removed.modEmc fun e => { e with owed := none }) := by
    show startUpdateTimer ((removeWaiting waitingAlert (setEmergency .acked s)).modEmc _) = _
    rw [hremoved]
  have hmem : (setEmergency .acked s).mem = s.mem := moved.keeps .mem (by decide)
  have hinterval : updateInterval (removed.modEmc fun e => { e with owed := none }) = clamp 10 300 (setting16 s 0x0C) := by
    simp only [updateInterval, setting16, removed, modFrames, State.modEmc_mem, State.modTxq_mem, hmem]
  have hkeeps : Keeps [.emc, .txq] (setEmergency .acked s) t := by
    rw [ht]
    exact (((modTxq_keeps _ _).trans (modEmc_keeps _ removed)).trans (modEmc_keeps _ _)).mono (by decide)
  have hemc : t.emc = { s.emc with state := .acked, owed := none, updateTimer := some (clamp 10 300 (setting16 s 0x0C)) } := by
    rw [ht, startUpdateTimer, State.modEmc_emc, hinterval]
    simp only [removed, modFrames, State.modEmc_emc, State.modTxq_emc, moved.emc]
  refine ⟨hemc, ?_, moved.then_work hkeeps (by rw [hemc])⟩
  rw [ht]
  simp only [startUpdateTimer, removed, modFrames, State.modEmc_txq, State.modTxq_txq, htxq]

/-- What the end of the call leaves (R121). -/
theorem returnToQuiet_effect {s : State} (hlaw : countFrames s (fun f => f.cls == 0) ≤ 1) :
    let t := returnToQuiet s
    t.emc = { s.emc with state := .quiet, owed := none, updateTimer := none, wrongCodes := 0, duress := false } ∧
      t.txq = { s.txq with frames := s.txq.frames.filter fun g => !(g.cls == 0 && !g.inFlight) } ∧
      AsksCommit s t ∧ Keeps [.emc, .txq, .atc, .cps] s t ∧ Attends s.atc [.emergency] s t ∧ MatchesNow t := by
  intro t
  have moved := setEmergency_moved .quiet s
  let stopped := (setEmergency .quiet s).modEmc fun e => { e with updateTimer := none, owed := none }
  have htxq : stopped.txq = s.txq := moved.keeps .txq (by decide)
  have hremoved : removeWaiting (fun f => f.cls == 0) stopped =
      modFrames (fun fs => fs.filter fun f => !(f.cls == 0 && !f.inFlight)) stopped :=
    removeWaiting_eq_filter (by rw [htxq]; exact hlaw)
  let removed := modFrames (fun fs => fs.filter fun f => !(f.cls == 0 && !f.inFlight)) stopped
  have ht : t = (removeWaiting (fun f => f.cls == 0) stopped).modEmc fun e => { e with wrongCodes := 0, duress := false } := rfl
  rw [hremoved, show modFrames _ stopped = removed from rfl] at ht
  have hkeeps : Keeps [.emc, .txq] (setEmergency .quiet s) t := by
    rw [ht]
    exact (((modEmc_keeps _ _).trans (modTxq_keeps _ stopped)).trans (modEmc_keeps _ removed)).mono (by decide)
  have hemc : t.emc = { s.emc with state := .quiet, owed := none, updateTimer := none, wrongCodes := 0, duress := false } := by
    rw [ht]
    simp only [removed, stopped, modFrames, State.modEmc_emc, State.modTxq_emc, moved.emc]
  refine ⟨hemc, ?_, moved.then_work hkeeps (by rw [hemc])⟩
  rw [ht]
  simp only [removed, modFrames, State.modEmc_txq, State.modTxq_txq, htxq]

/-- Work of the emergency controller upon a frame, once the receiver hunts again. -/
theorem callFrame_effect {s t : State} (hasks : AsksCommit (resumeHunting s) t)
    (hkeeps : Keeps [.emc, .txq, .atc, .cps] (resumeHunting s) t)
    (hattends : Attends (resumeHunting s).atc [.emergency] (resumeHunting s) t) (hnow : MatchesNow t) :
    AsksCommit s (driveLines t) ∧ RaisesJudged [.emergency] s (driveLines t) ∧ OnlyHunting s (driveLines t) ∧
      Keeps [.emc, .txq, .ale, .atc, .cps, .pins] s (driveLines t) ∧ OnlyLines s (driveLines t) :=
  ⟨hasks, (hattends.rebase (s' := s) rfl rfl (.refl s)).beside hnow, hkeeps .ale (by decide),
    (((resumeHunting_keeps s).trans hkeeps).trans (driveLines_keeps _)).mono (by decide),
    driveLines_onlyLines (hkeeps .pins (by decide))⟩

/-- Settles O45: the ask of R112 at each expiry, and the removal of the WAITING frame by R116 and R121. -/
theorem callIsUpdatedAndEnded : Obligations.CallIsUpdatedAndEnded := by
  refine ⟨?_, fun s f hlaw h hs => ?_, fun s f hlaw h hs => ?_, fun s f how => ⟨fun h hno => ?_, fun h hno => ?_⟩⟩
  · intro s n hn interval
    refine ⟨fun hno hroom => completes_of_effect rfl ?_, fun f hf => completes_of_effect rfl ?_⟩
    · obtain ⟨hemc, htxq, hkeeps⟩ := expireUpdateTimer_effect hn fun _ => hroom
      have hfind := noEmergencyFrame_iff.mp hno
      refine ⟨hemc.trans (by simp only [owedAfterAsk, hfind]; rfl), htxq.trans (by simp only [framesAfterAsk, hfind]; rfl),
        (hkeeps.trans (driveLines_keeps _)).mono (by decide), driveLines_onlyLines (hkeeps .pins (by decide))⟩
    · have hsome : ¬NoEmergencyFrame s := fun hno => by simp [noEmergencyFrame_iff.mp hno] at hf
      obtain ⟨hemc, htxq, hkeeps⟩ := expireUpdateTimer_effect hn fun hno => absurd hno hsome
      refine ⟨fun hi => ⟨hemc.trans ?_, htxq.trans ?_⟩, fun hi hk => ⟨hemc.trans ?_, htxq.trans ?_⟩,
        (hkeeps.trans (driveLines_keeps _)).mono (by decide), driveLines_onlyLines (hkeeps .pins (by decide))⟩
      · simp only [owedAfterAsk, hf, hi, if_true]
        rfl
      · simp [framesAfterAsk, hf, hi]
      · simp only [owedAfterAsk, hf, hi, Bool.false_eq_true, if_false]
        rfl
      · have hkind : f.kind = EmergencyKind.alert.uplink := hk
        simp [framesAfterAsk, hf, hkind]
  · obtain ⟨-, -, -, -, -, hlive, -, -⟩ := hlaw
    obtain ⟨hemc, htxq, hasks, hkeeps, hattends, hnow⟩ := acknowledgeCall_effect (s := resumeHunting s) hlive
    exact completes_frame (work := acknowledgeCall (resumeHunting s)) rfl h (if_pos ⟨rfl, hs⟩)
      ⟨hemc, htxq, callFrame_effect hasks hkeeps hattends hnow⟩
  · obtain ⟨-, -, hzero, -, -, -, -, -⟩ := hlaw
    obtain ⟨hemc, htxq, hasks, hkeeps, hattends, hnow⟩ := returnToQuiet_effect (s := resumeHunting s) hzero
    exact completes_frame (work := returnToQuiet (resumeHunting s)) rfl h (if_pos ⟨rfl, hs⟩)
      ⟨hemc, htxq, callFrame_effect hasks hkeeps hattends hnow⟩
  · exact completes_frame rfl h (if_neg fun ⟨hi, ha⟩ => hno.elim (fun hn => hn hi) fun hn => hn ha) (resumeHunting_alone s)
  · exact completes_frame rfl h (if_neg fun ⟨hi, hq⟩ => hno.elim (fun hn => hn hi) fun hn => hq hn) (resumeHunting_alone s)

/-! SEND_TEXT and REPLY. -/

section
variable {r : Fin 16} {s : State}

theorem textParamsGood_iff : textParamsGood s r = true ↔ param8 s r 10 ≤ 63 ∧ param8 s r 11 ≤ 48 := by
  simp only [textParamsGood, Bool.and_eq_true, decide_eq_true_eq]
  exact Iff.rfl

theorem ownSendText_sends (hd : paramN s r 8 2 ≠ 0) (hc : param8 s r 10 ≤ 63) (hl : param8 s r 11 ≤ 48) :
    ownSendText r s = joinQueue (textFrame [.record r] (paramN s r 8 2) 0 r s) (takeIntoWork r s) :=
  if_pos ⟨hd, textParamsGood_iff.mpr ⟨hc, hl⟩⟩

theorem ownSendText_range (h : paramN s r 8 2 = 0 ∨ 63 < param8 s r 10 ∨ 48 < param8 s r 11) :
    ownSendText r s = answer r .refusedRange 0 s := by
  refine if_neg fun ⟨hd, hgood⟩ => ?_
  obtain ⟨hc, hl⟩ := textParamsGood_iff.mp hgood
  exact h.elim hd fun h => h.elim (Nat.not_lt.mpr hc) (Nat.not_lt.mpr hl)

theorem ownReply_entry {i : Fin 24} (hi : param8 s r 8 = i.val) (hc : param8 s r 10 ≤ 63) (hl : param8 s r 11 ≤ 48) :
    ownReply r s = if (s.mst.inbox.get i).unanswered then startReply r i s else answer r .refusedState 0 s := by
  have he : (⟨param8 s r 8, hi ▸ i.isLt⟩ : Fin 24) = i := Fin.ext hi
  rw [ownReply, dif_pos (hi ▸ i.isLt), if_pos (textParamsGood_iff.mpr ⟨hc, hl⟩), he]

end

/-- A record taken into work: its hand field alone is written (R163). -/
theorem takeIntoWork_hand {s : State} (hwf : s.mem.Wf) (r : Fin 16) :
    handField (takeIntoWork r s) r = 2#8 ∧ ∀ a, a ≠ recordBase r → (takeIntoWork r s).mem.read a = s.mem.read a :=
  ⟨Memory.read_write_same hwf _ _, fun _ ha => Memory.read_write_other hwf _ ha⟩

theorem onlyList_of_port {rest : List (Fin 16)} {s t : State} (h : t.wpt = (leaveList rest s).wpt) : OnlyList s t := by
  rw [OnlyList, h]
  rfl

/-- Settles O40: the record is taken into work and the frame joins the queue. -/
theorem textIsSent : Obligations.TextIsSent := by
  intro s r rest hwf canned text onlyHand
  obtain ⟨hhand, hrest⟩ := takeIntoWork_hand (s := leaveList rest s) hwf r
  refine ⟨fun h hd hc hl hroom => ?_, fun h hbad => ?_, ?_⟩
  · refine completes_request rfl h nofun (ownSendText_sends (s := leaveList rest s) hd hc hl) ?_
    have hjoin := joinQueue_keeps (s := takeIntoWork r (leaveList rest s)) hroom
      (textFrame [.record r] (paramN (leaveList rest s) r 8 2) 0 r (leaveList rest s))
    have hmem := hjoin .mem (by decide)
    refine ⟨joinQueue_joined (s := takeIntoWork r (leaveList rest s)) hroom _, ⟨?_, fun a ha => ?_, ?_, ?_⟩, ?_, ?_⟩
    · exact (congrArg (fun m => Memory.read m (recordBase r)) hmem).trans hhand
    · exact (congrArg (fun m => Memory.read m a) hmem).trans (hrest a ha)
    · exact congrArg Wpt.posted (hjoin .wpt (by decide))
    · exact onlyList_of_port (rest := rest) (hjoin .wpt (by decide))
    · exact ((((leaveList_keeps rest s).trans (modMem_keeps _ _)).trans hjoin).trans (driveLines_keeps _)).mono (by decide)
    · exact driveLines_onlyLines (hjoin .pins (by decide))
  · exact completes_answered hwf rfl h nofun (ownSendText_range (s := leaveList rest s) hbad)
  · intro i h hi hc hl e
    have hown := ownReply_entry (s := leaveList rest s) hi hc hl
    refine ⟨fun hs hroom => completes_request rfl h nofun (hown.trans (if_pos ?_)) ?_,
      fun hn hr => completes_answered hwf rfl h nofun (hown.trans (if_neg ?_))⟩
    · simpa [InboxEntry.unanswered] using hs
    · let replying := updateInbox i (fun x => { x with state := .replying }) (leaveList rest s)
      have hreplying : Keeps [.mst, .atc] (leaveList rest s) replying := updateInbox_keeps _ i _
      have hroom' : HasRoom (takeIntoWork r replying) := by
        have htxq : replying.txq = s.txq := hreplying .txq (by decide)
        simpa [HasRoom, takeIntoWork, setHand, htxq] using hroom
      let frame := textFrame [.inbox i, .record r] e.sender e.number r (leaveList rest s)
      have hwork : startReply r i (leaveList rest s) = joinQueue frame (takeIntoWork r replying) := rfl
      have hjoin := joinQueue_keeps hroom' frame
      have hjoined := joinQueue_joined hroom' frame
      rw [← hwork] at hjoin hjoined
      have hreplyingMem : replying.mem = s.mem := hreplying .mem (by decide)
      obtain ⟨hhand', hrest'⟩ := takeIntoWork_hand (s := replying) (by rwa [hreplyingMem]) r
      have hmem : (startReply r i (leaveList rest s)).mem = (takeIntoWork r replying).mem := hjoin .mem (by decide)
      have hmst : (startReply r i (leaveList rest s)).mst = replying.mst := hjoin .mst (by decide)
      have hport : (startReply r i (leaveList rest s)).wpt = (leaveList rest s).wpt :=
        (hjoin .wpt (by decide)).trans (hreplying .wpt (by decide))
      have hsettings : SameSettings replying (startReply r i (leaveList rest s)) := fun o => by
        rw [hmem]
        exact hrest' _ (by have := r.isLt; simp only [recordBase]; omega)
      have hatc : (startReply r i (leaveList rest s)).atc = replying.atc := hjoin .atc (by decide)
      have hnow : MatchesNow (startReply r i (leaveList rest s)) :=
        (updateInbox_matchesNow _ i _).of_same (((modMem_keeps _ replying).trans hjoin).mono (by decide)) hsettings (by rw [hatc])
          (by rw [hatc])
      have hkeeps := (((leaveList_keeps rest s).trans hreplying).trans (modMem_keeps _ replying)).trans hjoin
      refine ⟨?_, ?_, ?_, ⟨?_, fun a ha => ?_, congrArg Wpt.posted hport, onlyList_of_port hport⟩, ?_,
        (hkeeps.trans (driveLines_keeps _)).mono (by decide), driveLines_onlyLines (hkeeps .pins (by decide))⟩
      · have htxq : (takeIntoWork r replying).txq = s.txq := hreplying .txq (by decide)
        rwa [Joined, htxq] at hjoined
      · exact (congrArg (fun m : Mst => m.inbox.get i) hmst).trans (updateInbox_entry _ i _)
      · exact (updateInbox_onlyInbox (leaveList rest s) i _).of_mst hmst
      · exact (congrArg (fun m => Memory.read m (recordBase r)) hmem).trans hhand'
      · exact (congrArg (fun m => Memory.read m a) hmem).trans ((hrest' a ha).trans (by rw [hreplyingMem]))
      · exact (((updateInbox_attends (leaveList rest s) i _).then_atc hatc (hjoin .phase (by decide)) hsettings).rebase
          (s' := s) rfl rfl (.refl s)).beside hnow
    · have hno : ¬(e.state = .new ∨ e.state = .read) := fun ho => ho.elim hn hr
      simpa [InboxEntry.unanswered] using hno

end Sys2Proof.Machine
end

section
/-! PROOF. Runs of the calibration port (O57). -/

namespace Sys2Proof.Machine

/-- A command that changes the block of the stores and the pins alone. -/
theorem port_alone {l : List Part} {s t : State} (h : Keeps l s t) (hl : l ⊆ [.cps, .atc, .pins]) :
    Keeps [.cps, .atc, .pins] s (driveLines t) :=
  (h.trans (driveLines_keeps t)).mono (List.append_subset.mpr ⟨hl, by decide⟩)

theorem driveLines_pins (s : State) : (driveLines s).pins =
    { s.pins with noteA := lineAsserted (driveLines s) false, noteB := lineAsserted (driveLines s) true } := rfl

/-! Starts. -/

section
variable {s : State} {address : BitVec 7} {read : Bool}

theorem startRun_addressed (hready : s.phase = .ready) (ha : address = 0x5A#7) (run : CalRun)
    (hrun : s.cps.run.getD (newRun s) = run) : startRun address read s = calAcknowledge true
      (s.modCps fun c => { c with run := some (run.begin read s.mtc.windowTotals.lifetimeBytes) }) := by
  rw [startRun, if_pos ⟨hready, ha⟩, hrun]

theorem startRun_other (h : s.phase ≠ .ready ∨ address ≠ 0x5A#7) : startRun address read s = calAcknowledge false
    (s.modCps fun c => { c with run := c.run.map fun run => { run with transaction := .released } }) :=
  if_neg fun ⟨hready, ha⟩ => h.elim (fun hno => hno hready) fun hno => hno ha

/-- The block changes, and the port acknowledges or does not. -/
theorem acknowledged_lines (f : Cps → Cps) (b : Bool) :
    let t := driveLines (calAcknowledge b (s.modCps f))
    t.pins = { s.pins with calAck := b, noteA := lineAsserted t false, noteB := lineAsserted t true } ∧
      Keeps [.cps, .pins] s t :=
  ⟨rfl, (((modCps_keeps f s).trans (modPins_keeps _ _)).trans (driveLines_keeps _)).mono (by decide)⟩

theorem serialBlank_iff : serialBlank s = true ↔ ∀ b ∈ (s.cps.bank.drop 8).take 8, b = 0#8 := by
  simp [serialBlank]

end

/-! Written bytes. -/

section
variable {s : State} {run : CalRun}

theorem mayWrite_iff (p : Nat) : run.mayWrite p = true ↔
    p < 0x08 ∨ (p < 0x10 ∧ run.serialWritable = true) ∨ (0x10 ≤ p ∧ p < 0x3E) := by
  unfold CalRun.mayWrite
  split_ifs with h8 h10
  · simp [h8]
  · simp [h8, h10]
  · simp [h10]
    omega

theorem takeDataByte_writing (byte : Byte) (strap : Bool) (hrun : s.cps.run = some run) (hw : run.transaction = .writing) :
    takeDataByte byte strap s =
      calAcknowledge true (raisePointer (writeStaging run byte strap (sampleCalEnable strap s))) := by
  simp only [takeDataByte, hrun, hw, if_true]

theorem readDataByte_reading (acknowledged : Bool) (hrun : s.cps.run = some run) (hr : run.transaction = .reading) :
    readDataByte acknowledged s = raisePointer ((s.modPins fun p => { p with calData := readAtPointer run s }).modCps
      fun c => { c with run := some (run.afterRead acknowledged) }) := by
  simp only [readDataByte, hrun, hr, if_true]

theorem afterRead_eq (hr : run.transaction = .reading) (acknowledged : Bool) : run.afterRead acknowledged =
    { run with transaction := if acknowledged = true then .reading else .released } := by
  cases acknowledged
  · rfl
  · obtain ⟨staging, transaction, totals, writable⟩ := run
    exact congrArg (CalRun.mk staging · totals writable) hr

end

/-- The check value's two bytes, high byte first (R181). -/
theorem bigEndian16_toNat (x : Word16) : bigEndian16 x.toNat = [(x >>> 8).setWidth 8, x.setWidth 8] := by
  have hhigh : byteOf (x.toNat / 256) = (x >>> 8).setWidth 8 := by
    apply BitVec.eq_of_toNat_eq
    simp [byteOf, Nat.shiftRight_eq_div_pow]
  have hlow : byteOf x.toNat = x.setWidth 8 := by
    apply BitVec.eq_of_toNat_eq
    simp [byteOf]
  rw [bigEndian16, hhigh, hlow]

/-- The spaces of R181 in the bytes a read returns. -/
theorem readAtPointer_space {s : State} {run : CalRun} (hbank : s.cps.bank.length = 64) (htotals : run.capturedTotals.length = 40) :
    let p := s.cps.pointer
    (p < 0x40 → readAtPointer run s = s.cps.bank.getD p 0#8) ∧
    (0x40 ≤ p → p < 0x80 → readAtPointer run s = identityBytes.getD (p - 0x40) 0#8) ∧
    (0x80 ≤ p → p < 0xA8 → readAtPointer run s = run.capturedTotals.getD (p - 0x80) 0#8) ∧
    (0xA8 ≤ p → readAtPointer run s = 0#8) := by
  intro p
  have hlen : identityBytes.length = 64 := rfl
  have hspace : readAtPointer run s = (s.cps.bank ++ (identityBytes ++ (run.capturedTotals ++ List.replicate 88 0))).getD p 0#8 := by
    simp only [readAtPointer, calibrationSpace, List.take_of_length_le (Nat.le_of_eq hbank), List.append_assoc]
    rfl
  refine ⟨fun h => ?_, fun h h' => ?_, fun h h' => ?_, fun h => ?_⟩
  · rw [hspace, List.getD_append _ _ _ _ (by omega)]
  · rw [hspace, List.getD_append_right _ _ _ _ (by omega), List.getD_append _ _ _ _ (by omega), hbank]
  · rw [hspace, List.getD_append_right _ _ _ _ (by omega), List.getD_append_right _ _ _ _ (by omega),
      List.getD_append _ _ _ _ (by omega), hbank, hlen, Nat.sub_sub]
  · rw [hspace, List.getD_append_right _ _ _ _ (by omega), List.getD_append_right _ _ _ _ (by omega),
      List.getD_append_right _ _ _ _ (by omega)]
    simp only [List.getD_eq_getElem?_getD, List.getElem?_replicate]
    split_ifs <;> rfl

theorem identityBytes_zero {i : Nat} (h : 10 ≤ i) : identityBytes.getD i 0#8 = 0#8 := by
  by_cases hi : i < 64
  · revert h
    have hall : ∀ i, i < 64 → 10 ≤ i → identityBytes.getD i 0#8 = 0#8 := by decide
    exact hall i hi
  · exact List.getD_eq_default _ _ (show 64 ≤ i from Nat.not_lt.mp hi)

/-- CAL_ENABLE as it stands, and no run (R182). -/
def runEnded (strap : Bool) (s : State) : State :=
  sampleCalEnable strap (s.modCps fun c => { c with run := none })

/-- The end of a run with its staging copy judged (R182). -/
theorem endRun_judged {s : State} {run : CalRun} (strap : Bool) (hrun : s.cps.run = some run) :
    endRun strap s =
      if run.staging = bankSettings s then runEnded strap s
      else if strap = true ∧ s.mtc.meter = .off then
        requestWrite .calibration ((runEnded strap s).modCps fun c => { c with bank := bankOf run.staging })
      else recordFault .calWriteDropped 0x3E (runEnded strap s) := by
  simp only [endRun, hrun, runEnded]

/-- A fault alone, and the lines. -/
theorem recordFault_lines (f : FaultId) (d : Nat) (s : State) :
    Records f d [] s (driveLines (recordFault f d s)) ∧ Keeps [.atc, .pins] s (driveLines (recordFault f d s)) ∧
      OnlyLines s (driveLines (recordFault f d s)) := by
  have hk : Keeps [.atc] s (recordFault f d s) := keeps_of_atc (recordFault_eq ..)
  exact ⟨recordFault_records f d s, hk.trans (driveLines_keeps _), driveLines_onlyLines (hk .pins (by decide))⟩

/-- A state that asked for a calibration write, and the lines. -/
theorem requestCalibration_lines (bank : List Byte) (u : State) :
    let t := driveLines (requestWrite .calibration (u.modCps fun c => { c with bank := bank }))
    t.cps = { u.cps with
      bank := bank
      queue := if StoreKind.calibration ∈ u.cps.queue then u.cps.queue else u.cps.queue ++ [.calibration] } ∧
    Keeps [.cps, .pins] u t ∧
    t.pins = { u.pins with noteA := lineAsserted t false, noteB := lineAsserted t true } :=
  ⟨rfl, (((modCps_keeps _ u).trans (modCps_keeps _ _)).trans (driveLines_keeps _)).mono (by decide), rfl⟩

/-- What the end of a run leaves (R180, R182). -/
theorem endRun_effect {s : State} {run : CalRun} (strap : Bool) (hrun : s.cps.run = some run) :
    let check := crc16 run.staging
    let ended := { s.cps with run := none }
    let t := driveLines (endRun strap s)
    (run.staging = s.cps.bank.take 62 → t.cps = ended ∧ t.atc = s.atc) ∧
    (run.staging ≠ s.cps.bank.take 62 → strap = true → s.mtc.meter = .off →
      t.cps = { ended with
        bank := run.staging ++ [(check >>> 8).setWidth 8, check.setWidth 8],
        queue := if StoreKind.calibration ∈ s.cps.queue then s.cps.queue else s.cps.queue ++ [.calibration] } ∧
      t.atc = s.atc) ∧
    (run.staging ≠ s.cps.bank.take 62 → (strap = false ∨ s.mtc.meter ≠ .off) →
      t.cps = ended ∧ Records .calWriteDropped 0x3E [] s t) ∧
    t.pins = { s.pins with calEnable := strap, noteA := lineAsserted t false, noteB := lineAsserted t true } ∧
    Keeps [.cps, .atc, .pins] s t := by
  have hleft : Keeps [.cps, .pins] s (runEnded strap s) := (modCps_keeps _ s).trans (modPins_keeps _ _)
  have hend := endRun_judged strap hrun
  intro check ended
  by_cases hsame : run.staging = bankSettings s
  · rw [hend.trans (if_pos hsame)]
    intro t
    have hk : Keeps [.cps, .pins] s t := (hleft.trans (driveLines_keeps _)).mono (by decide)
    exact ⟨fun _ => ⟨rfl, hk .atc (by decide)⟩, fun hne => absurd hsame hne, fun hne => absurd hsame hne, rfl,
      hk.mono (by decide)⟩
  · by_cases hmay : strap = true ∧ s.mtc.meter = .off
    · rw [hend.trans ((if_neg hsame).trans (if_pos hmay))]
      intro t
      obtain ⟨hcps, hkeeps, hpins⟩ := requestCalibration_lines (bankOf run.staging) (runEnded strap s)
      have hk : Keeps [.cps, .pins] s t := (hleft.trans hkeeps).mono (by decide)
      have hbank : bankOf run.staging = run.staging ++ [(check >>> 8).setWidth 8, check.setWidth 8] :=
        congrArg (run.staging ++ ·) (bigEndian16_toNat check)
      refine ⟨fun he => absurd he hsame, fun _ _ _ => ⟨hcps.trans (by rw [hbank]; rfl), hk .atc (by decide)⟩, fun _ hno => ?_, hpins,
        hk.mono (by decide)⟩
      obtain ⟨hs, hm⟩ := hmay
      exact hno.elim (fun h => by simp [h] at hs) fun h => absurd hm h
    · rw [hend.trans ((if_neg hsame).trans (if_neg hmay))]
      intro t
      obtain ⟨hrecords, hkeeps, hlines⟩ := recordFault_lines .calWriteDropped 0x3E (runEnded strap s)
      exact ⟨fun he => absurd he hsame, fun _ hs hm => absurd ⟨hs, hm⟩ hmay,
        fun _ _ => ⟨hkeeps .cps (by decide), hrecords⟩, hlines, (hleft.trans hkeeps).mono (by decide)⟩

/-- The pointer rises after a byte, which the port acknowledges (R180). -/
theorem raised_lines (u : State) :
    let t := driveLines (calAcknowledge true (raisePointer u))
    t.cps = { u.cps with pointer := (u.cps.pointer + 1) % 256 } ∧ t.atc = u.atc ∧
      t.pins = { u.pins with calAck := true, noteA := lineAsserted t false, noteB := lineAsserted t true } ∧
      Keeps [.cps, .pins] u t :=
  ⟨rfl, rfl, rfl, (((modCps_keeps _ u).trans (modPins_keeps _ _)).trans (driveLines_keeps _)).mono (by decide)⟩

/-- What a written byte leaves (R180 to R182). -/
theorem takeDataByte_effect {s : State} {run : CalRun} (byte : Byte) (strap : Bool) (hrun : s.cps.run = some run)
    (hw : run.transaction = .writing) :
    let p := s.cps.pointer
    let writable := p < 0x08 ∨ (p < 0x10 ∧ run.serialWritable = true) ∨ (0x10 ≤ p ∧ p < 0x3E)
    let allowed := strap = true ∧ s.mtc.meter = .off
    let moved := { s.cps with pointer := (p + 1) % 256 }
    let t := driveLines (takeDataByte byte strap s)
    (writable → allowed →
      t.cps = { moved with run := some { run with staging := run.staging.set p byte } } ∧ t.atc = s.atc) ∧
    (writable → ¬allowed → t.cps = moved ∧ Records .calWriteDropped p [] s t) ∧
    (¬writable → t.cps = moved ∧ t.atc = s.atc) ∧
    t.pins = { s.pins with calAck := true, calEnable := strap, noteA := lineAsserted t false, noteB := lineAsserted t true } ∧
    Keeps [.cps, .atc, .pins] s t := by
  intro p writable allowed moved
  let sampled := sampleCalEnable strap s
  have hsampled : Keeps [.pins] s sampled := modPins_keeps _ s
  have hmay : run.mayWrite sampled.cps.pointer = true ↔ writable := mayWrite_iff p
  rw [takeDataByte_writing byte strap hrun hw, show sampleCalEnable strap s = sampled from rfl]
  by_cases hwr : writable
  · by_cases hal : allowed
    · have hstage : writeStaging run byte strap sampled =
          sampled.modCps fun c => { c with run := some { run with staging := run.staging.set p byte } } :=
        (if_pos (hmay.mpr hwr)).trans (if_pos hal)
      rw [hstage]
      intro t
      obtain ⟨hcps, hatc, hpins, hkeeps⟩ := raised_lines
        (sampled.modCps fun c => { c with run := some { run with staging := run.staging.set p byte } })
      exact ⟨fun _ _ => ⟨hcps, hatc⟩, fun _ hno => absurd hal hno, fun hno => absurd hwr hno, hpins,
        ((hsampled.trans (modCps_keeps _ sampled)).trans hkeeps).mono (by decide)⟩
    · have hstage : writeStaging run byte strap sampled = recordFault .calWriteDropped p sampled :=
        (if_pos (hmay.mpr hwr)).trans (if_neg hal)
      have hdrop : Keeps [.atc] sampled (recordFault .calWriteDropped p sampled) := keeps_of_atc (recordFault_eq ..)
      rw [hstage]
      intro t
      obtain ⟨hcps, hatc, hpins, hkeeps⟩ := raised_lines (recordFault .calWriteDropped p sampled)
      rw [hdrop .cps (by decide)] at hcps
      rw [hdrop .pins (by decide)] at hpins
      have hrecords : Sets (ringAfter s.atc .calWriteDropped p s.frc.clock.seconds) [.fault] s t :=
        Sets.rebase (s := sampled) (recordFault_records .calWriteDropped p sampled) rfl hatc (.refl _)
      exact ⟨fun _ h => absurd h hal, fun _ _ => ⟨hcps, hrecords⟩, fun hno => absurd hwr hno, hpins,
        ((hsampled.trans hdrop).trans hkeeps).mono (by decide)⟩
  · have hstage : writeStaging run byte strap sampled = sampled := if_neg (hmay.not.mpr hwr)
    rw [hstage]
    intro t
    obtain ⟨hcps, hatc, hpins, hkeeps⟩ := raised_lines sampled
    exact ⟨fun h => absurd h hwr, fun h => absurd h hwr, fun _ => ⟨hcps, hatc⟩, hpins, (hsampled.trans hkeeps).mono (by decide)⟩

/-- What a byte of a read leaves (R180, R181). -/
theorem readDataByte_effect {s : State} {run : CalRun} (acknowledged : Bool) (hrun : s.cps.run = some run)
    (hr : run.transaction = .reading) :
    let t := driveLines (readDataByte acknowledged s)
    t.pins.calData = readAtPointer run s ∧
    t.cps = { s.cps with
      pointer := (s.cps.pointer + 1) % 256,
      run := some { run with transaction := if acknowledged = true then .reading else .released } } ∧
    t.pins = { s.pins with calData := t.pins.calData, noteA := lineAsserted t false, noteB := lineAsserted t true } ∧
    Keeps [.cps, .pins] s t := by
  intro t
  have ht := congrArg driveLines ((readDataByte_reading acknowledged hrun hr).trans (by rw [afterRead_eq hr]))
  rw [show t = _ from ht]
  exact ⟨rfl, rfl, rfl,
    ((((modPins_keeps _ s).trans (modCps_keeps _ _)).trans (modCps_keeps _ _)).trans (driveLines_keeps _)).mono (by decide)⟩

/-- Settles O57: the starts, the pointer, the bytes written and read, and the end of a run. -/
theorem calibrationPortRuns : Obligations.CalibrationPortRuns := by
  refine ⟨?_, fun s run byte hrun hw => ?_, fun s run byte strap hrun hw => ?_, ?_, ?_⟩
  · intro s address read totals begun acks
    refine ⟨fun hready ha hnone => ?_, fun run hready ha hrun => ?_, fun hno => ?_⟩
    · obtain ⟨hpins, hkeeps⟩ := acknowledged_lines (s := s)
        (fun c => { c with run := some ((newRun s).begin read s.mtc.windowTotals.lifetimeBytes) }) true
      refine completes_of_effect (startRun_addressed hready ha (newRun s) (by rw [hnone]; rfl))
        ⟨⟨_, rfl, rfl, ?_, rfl, serialBlank_iff⟩, hpins, hkeeps⟩
      cases read <;> rfl
    · obtain ⟨hpins, hkeeps⟩ := acknowledged_lines (s := s)
        (fun c => { c with run := some (run.begin read s.mtc.windowTotals.lifetimeBytes) }) true
      exact completes_of_effect (startRun_addressed hready ha run (by rw [hrun]; rfl)) ⟨rfl, hpins, hkeeps⟩
    · obtain ⟨hpins, hkeeps⟩ := acknowledged_lines (s := s)
        (fun c => { c with run := c.run.map fun run => { run with transaction := .released } }) false
      exact completes_of_effect (startRun_other hno) ⟨rfl, hpins, hkeeps⟩
  · have heff : effect (.calPointerWrite byte) s = calAcknowledge true
        (s.modCps fun c => { c with pointer := byte.toNat, run := some { run with transaction := .writing } }) := by
      show setPointer byte s = _
      simp only [setPointer, hrun, hw, if_true]
    exact completes_of_effect heff ⟨rfl, rfl,
      (((modCps_keeps _ s).trans (modPins_keeps _ _)).trans (driveLines_keeps _)).mono (by decide)⟩
  · exact completes_of_effect rfl (takeDataByte_effect byte strap hrun hw)
  · intro s run acknowledged hrun hr hbank htotals p
    obtain ⟨hdata, hcps, hpins, hkeeps⟩ := readDataByte_effect acknowledged hrun hr
    obtain ⟨hlow, hident, hcaptured, hhigh⟩ := readAtPointer_space (s := s) hbank htotals
    refine completes_of_effect rfl ⟨fun h => hdata.trans (hlow h), fun h => hdata.trans ?_, fun h => hdata.trans ?_,
      fun h h' => hdata.trans ((hident (by omega) h').trans (identityBytes_zero (by omega))), fun h h' => hdata.trans (hcaptured h h'),
      fun h => hdata.trans (hhigh h), hcps, hpins, hkeeps⟩
    · rw [hident (by omega) (by omega), show s.cps.pointer = 0x40 from h]
      rfl
    · rw [hident (by omega) (by omega), show s.cps.pointer = 0x41 from h]
      rfl
  · intro s run strap c hrun hc check ended
    have heff : effect c s = endRun strap s := by
      simp only [List.mem_cons, List.not_mem_nil, or_false] at hc
      obtain rfl | rfl := hc <;> rfl
    exact completes_of_effect heff (endRun_effect strap hrun)

end Sys2Proof.Machine
end

section
/-! PROOF. The meter second (O13, O14), the extras (O21). -/

namespace Sys2Proof.Machine

/-! The close of a second. -/

section
variable (s : State)

theorem discardExcess_frc : (discardExcess s).frc = { s.frc with hire := { s.frc.hire with
    discardedPulses := if s.mtc.meter.tripOpen = true ∧ 0 < pulsesOver s then
      min 4294967295 (s.frc.hire.discardedPulses + pulsesOver s) else s.frc.hire.discardedPulses,
    pulsesDiscarded := s.frc.hire.pulsesDiscarded || (s.mtc.meter.tripOpen && decide (0 < pulsesOver s)) } } := by
  have hover : excessPulses s = pulsesOver s := rfl
  unfold discardExcess
  simp only [hover]
  by_cases ho : pulsesOver s = 0
  · simp [ho]
  · have hpos : 0 < pulsesOver s := Nat.pos_of_ne_zero ho
    cases hopen : s.mtc.meter.tripOpen <;> simp [ho, hpos, modHire, satAdd, u32Max]

theorem assignPulses_frc (n : Nat) : (assignPulses n s).frc = { s.frc with
    shiftPulses := if s.mtc.meter = .off then s.frc.shiftPulses else min 4294967295 (s.frc.shiftPulses + n),
    hire := { s.frc.hire with
      hiredPulses := if s.mtc.meter = .hired then min 4294967295 (s.frc.hire.hiredPulses + n) else s.frc.hire.hiredPulses,
      unpaidPulses := if s.mtc.meter = .stopped then min 4294967295 (s.frc.hire.unpaidPulses + n)
        else s.frc.hire.unpaidPulses } } := by
  unfold assignPulses
  cases h : s.mtc.meter <;> simp [modHire, satAdd, u32Max]

theorem closePulses_frc : (closePulses s).frc =
    { s.frc with pulseCounter := 0, shiftPulses := shiftPulsesAfter s, hire := hireAfterSecond s 0 } := by
  have hused : usedPulses s = pulsesUsed s := rfl
  simp only [closePulses, State.modFrc_frc, assignPulses_frc, discardExcess_frc, discardExcess_kept, hused, shiftPulsesAfter,
    hireAfterSecond, Nat.lt_irrefl, and_false, if_false]

theorem countSecond_frc : (countSecond s).frc = { s.frc with hire := { s.frc.hire with
    hiredSeconds := if s.mtc.meter = .hired then min 4294967295 (s.frc.hire.hiredSeconds + 1) else s.frc.hire.hiredSeconds,
    stoppedSeconds := if s.mtc.meter = .stopped then min 4294967295 (s.frc.hire.stoppedSeconds + 1)
      else s.frc.hire.stoppedSeconds } } := by
  unfold countSecond
  cases h : s.mtc.meter <;> simp [modHire, satAdd, u32Max]

/-- The second that a timer's expiry ends (R3). -/
theorem countSecond_closePulses_frc : (countSecond (closePulses s)).frc =
    { s.frc with pulseCounter := 0, shiftPulses := shiftPulsesAfter s, hire := hireAfterSecond s 1 } := by
  simp only [countSecond_frc, closePulses_frc, closePulses_kept, hireAfterSecond, Nat.lt_irrefl, Nat.one_pos, and_true, and_false,
    if_false]

theorem discardExcess_keeps : Keeps [.frc, .atc] s (discardExcess s) := by
  have hrecord : Keeps [.atc] s (recordFault .pulsesDiscarded (excessPulses s) s) := keeps_of_atc (recordFault_eq ..)
  unfold discardExcess
  dsimp only
  split_ifs
  exacts [.refl _ s, (hrecord.trans (modFrc_keeps _ _)).mono (by decide), hrecord.mono (by decide)]

theorem assignPulses_keeps (n : Nat) : Keeps [.frc] s (assignPulses n s) := by
  unfold assignPulses
  split
  exacts [.refl _ s, modFrc_keeps _ s, modFrc_keeps _ s, ((modFrc_keeps _ s).trans (modFrc_keeps _ _)).mono (by decide),
    ((modFrc_keeps _ s).trans (modFrc_keeps _ _)).mono (by decide)]

theorem closePulses_keeps : Keeps [.frc, .atc] s (closePulses s) :=
  (((discardExcess_keeps s).trans (assignPulses_keeps _ _)).trans (modFrc_keeps _ _)).mono (by decide)

theorem countSecond_keeps : Keeps [.frc] s (countSecond s) := by
  unfold countSecond
  split
  exacts [modFrc_keeps _ s, modFrc_keeps _ s, .refl _ s, .refl _ s, .refl _ s]

/-- The fault ring after a close of the second: the excess is recorded (R2, R178). -/
def ringAtClose : Atc :=
  if pulsesOver s = 0 then s.atc else ringAfter s.atc .pulsesDiscarded (pulsesOver s) s.frc.clock.seconds

/-- The channels that a close of the second sets (R178). -/
def channelsAtClose : List Channel := if pulsesOver s = 0 then [] else [.fault]

theorem closePulses_atc : (closePulses s).atc = (discardExcess s).atc := by
  rw [closePulses, State.modFrc_atc, assignPulses_keeps _ _ .atc (by decide)]

/-- Without pulses over the ceiling a close leaves the attention controller (R2). -/
theorem closePulses_quiet (h : pulsesOver s = 0) : (closePulses s).atc = s.atc := by
  have hover : excessPulses s = pulsesOver s := rfl
  rw [closePulses_atc, discardExcess, if_pos (hover.trans h)]

theorem closePulses_sets : Sets (ringAtClose s) (channelsAtClose s) s (closePulses s) := by
  have hatc := closePulses_atc s
  have hover : excessPulses s = pulsesOver s := rfl
  unfold ringAtClose channelsAtClose
  by_cases ho : pulsesOver s = 0
  · rw [if_pos ho, if_pos ho]
    exact .of_atc (closePulses_quiet s ho)
  · rw [if_neg ho, if_neg ho]
    have hset : Sets _ [.fault] s (recordFault .pulsesDiscarded (pulsesOver s) s) := recordFault_records _ _ s
    refine hset.rebase rfl (hatc.trans ?_) (.refl s)
    unfold discardExcess
    simp only [hover, ho, if_false]
    split_ifs <;> rfl

theorem ringAtClose_matches : (ringAtClose s).matchA = s.atc.matchA ∧ (ringAtClose s).matchB = s.atc.matchB := by
  unfold ringAtClose
  split_ifs
  exacts [⟨rfl, rfl⟩, ringAfter_matches ..]

theorem closePulses_attends : Attends (ringAtClose s) (channelsAtClose s) s (closePulses s) := by
  have hk := closePulses_keeps s
  refine .of_sets (closePulses_sets s) ?_ (hk .phase (by decide)) (.of_mem (hk .mem (by decide))) (ringAtClose_matches s)
  unfold channelsAtClose
  split_ifs <;> decide

/-- A close of the second, and more at the attention controller, in the terms of R2's record. -/
theorem raisesAtChange_of_attends {s t : State} {cs : List Channel} (h : Attends (ringAtClose s) (channelsAtClose s ++ cs) s t)
    (hnow : MatchesNow t) : RaisesAtChange cs s t := by
  have hb := h.beside hnow
  unfold RaisesAtChange
  unfold ringAtClose channelsAtClose at hb
  by_cases ho : pulsesOver s = 0
  · simpa only [ho, if_true, List.nil_append] using hb
  · simpa only [ho, if_false, List.cons_append, List.nil_append] using hb

end

/-! The meter second. -/

section
variable {s : State}

theorem commit_idem (q : List StoreKind) :
    (if StoreKind.meter ∈ (if StoreKind.meter ∈ q then q else q ++ [.meter]) then (if StoreKind.meter ∈ q then q else q ++ [.meter])
      else (if StoreKind.meter ∈ q then q else q ++ [.meter]) ++ [.meter]) = if StoreKind.meter ∈ q then q else q ++ [.meter] := by
  split_ifs <;> simp_all

theorem requestCommit_keeps (s : State) : Keeps [.cps] s (requestCommit s) := modCps_keeps _ s

theorem requestCommit_asks (s : State) : AsksCommit s (requestCommit s) := rfl

/-- The second with its pulses assigned, its time counted and a commit asked at a hired minute (R3, R45). -/
def secondCounted (s : State) : State :=
  let counted := countSecond (closePulses s)
  if hiredMinute counted then requestCommit counted else counted

theorem endMeterSecond_eq (s : State) : endMeterSecond s =
    if (chargeExpiry (usedPulses s) (secondCounted s)).mtc.meter.tripOpen then
      rewriteFareGroup (chargeExpiry (usedPulses s) (secondCounted s))
    else chargeExpiry (usedPulses s) (secondCounted s) := rfl

theorem secondCounted_frc (s : State) : (secondCounted s).frc =
    { s.frc with pulseCounter := 0, shiftPulses := shiftPulsesAfter s, hire := hireAfterSecond s 1 } := by
  unfold secondCounted
  dsimp only
  split_ifs
  · exact countSecond_closePulses_frc s
  · exact countSecond_closePulses_frc s

theorem secondCounted_keeps (s : State) : Keeps [.frc, .atc, .cps] s (secondCounted s) := by
  have h : Keeps [.frc, .atc] s (countSecond (closePulses s)) := ((closePulses_keeps s).trans (countSecond_keeps _)).mono (by decide)
  unfold secondCounted
  dsimp only
  split_ifs
  exacts [(h.trans (requestCommit_keeps _)).mono (by decide), h.mono (by decide)]

theorem secondCounted_atc (s : State) : (secondCounted s).atc = (closePulses s).atc := by
  have hatc := countSecond_keeps (closePulses s) .atc (by decide)
  unfold secondCounted
  dsimp only
  split_ifs
  exacts [hatc, hatc]

theorem secondCounted_sets (s : State) : Sets (ringAtClose s) (channelsAtClose s) s (secondCounted s) :=
  (closePulses_sets s).rebase rfl (secondCounted_atc s) (.refl s)

/-- A minute of hired time asks a commit (R45). -/
theorem secondCounted_commit (s : State) :
    if s.mtc.meter = .hired ∧ (hireAfterSecond s 1).hiredSeconds % 60 = 0 then AsksCommit s (secondCounted s)
    else (secondCounted s).cps = s.cps := by
  have h : Keeps [.frc, .atc] s (countSecond (closePulses s)) := ((closePulses_keeps s).trans (countSecond_keeps _)).mono (by decide)
  have hcps : (countSecond (closePulses s)).cps = s.cps := h .cps (by decide)
  have hmtc : (countSecond (closePulses s)).mtc = s.mtc := h .mtc (by decide)
  have hminute : hiredMinute (countSecond (closePulses s)) = true ↔
      s.mtc.meter = .hired ∧ (hireAfterSecond s 1).hiredSeconds % 60 = 0 := by
    simp only [hiredMinute, countSecond_closePulses_frc, hmtc, Bool.and_eq_true, beq_iff_eq]
  unfold secondCounted
  simp only [hminute]
  split_ifs
  · rw [AsksCommit, requestCommit_asks, hcps]
  · exact hcps

theorem fareGroupNow_driveLines (s : State) : fareGroupNow (driveLines s) = fareGroupNow s := rfl

@[simp] theorem fareGroupNow_rewriteFareGroup (s : State) : fareGroupNow (rewriteFareGroup s) = fareGroupNow s :=
  fareGroupNow_of_parts (by simp) (by simp) (by simp) (rewriteFareGroup_keeps s .mtc (by decide))
    (congrArg Cps.bank (rewriteFareGroup_keeps s .cps (by decide)))

/-- A second that charges nothing. -/
theorem chargeExpiry_none {n : Nat} (h : ¬(s.mtc.meter = .hired ∧ s.frc.hire.fareLimit = false)) : chargeExpiry n s = s := by
  unfold chargeExpiry chargeSecond
  split_ifs with hm hl
  · rfl
  · exact absurd ⟨hm, by simpa using hl⟩ h
  · rfl

end

/-- What the fault ring of a close gives where nothing else is recorded (R2, R178). -/
theorem sets_atClose {s t : State} {cs : List Channel} (h : Sets (ringAtClose s) (channelsAtClose s ++ cs) s t) :
    if pulsesOver s = 0 then Raises cs s t else Records .pulsesDiscarded (pulsesOver s) cs s t := by
  unfold ringAtClose channelsAtClose at h
  split_ifs with ho
  · simp only [ho, if_true, List.nil_append] at h
    exact h
  · simp only [ho, if_false, List.cons_append, List.nil_append] at h
    exact h

/-- A second that charges nothing, in the terms of R1 to R4. -/
theorem endMeterSecond_uncharged {s : State} (h : ¬(s.mtc.meter = .hired ∧ s.frc.hire.fareLimit = false)) :
    let t := driveLines (endMeterSecond s)
    t.frc = { s.frc with
      pulseCounter := 0, shiftPulses := shiftPulsesAfter s, hire := hireAfterSecond s 1,
      fareGroup := if s.mtc.meter.tripOpen = true then fareGroupNow t else s.frc.fareGroup } ∧
    (if s.mtc.meter = .hired ∧ (hireAfterSecond s 1).hiredSeconds % 60 = 0 then AsksCommit s t else t.cps = s.cps) ∧
    (if pulsesOver s = 0 then t.atc = s.atc else Records .pulsesDiscarded (pulsesOver s) [] s t) ∧
    (if s.mtc.meter.tripOpen = true then OnlyUpdates s t ∧ RewritesOnce s t else t.wpt = s.wpt) ∧
    Keeps [.frc, .wpt, .atc, .cps, .pins] s t ∧ OnlyLines s t := by
  have hk := secondCounted_keeps s
  have hfrc := secondCounted_frc s
  have hmtc : (secondCounted s).mtc = s.mtc := hk .mtc (by decide)
  have hlimit : (secondCounted s).frc.hire.fareLimit = s.frc.hire.fareLimit := by rw [hfrc]; rfl
  have hcharge : chargeExpiry (usedPulses s) (secondCounted s) = secondCounted s :=
    chargeExpiry_none (by rwa [hmtc, hlimit])
  have hatc : ∀ t : State, t.atc = (secondCounted s).atc →
      if pulsesOver s = 0 then t.atc = s.atc else Records .pulsesDiscarded (pulsesOver s) [] s t := fun t ht => by
    have hset := sets_atClose (cs := []) (t := t) (((secondCounted_sets s).rebase rfl ht (.refl s)).congr (by simp))
    split_ifs at hset ⊢ with ho
    · rw [ht, secondCounted_atc, closePulses_quiet s ho]
    · exact hset
  have hcommit := secondCounted_commit s
  rw [endMeterSecond_eq, hcharge, hmtc]
  cases hopen : s.mtc.meter.tripOpen with
  | false =>
    simp only [Bool.false_eq_true, if_false]
    exact ⟨hfrc, hcommit, hatc _ rfl, hk .wpt (by decide), (hk.trans (driveLines_keeps _)).mono (by decide),
      driveLines_onlyLines (hk .pins (by decide))⟩
  | true =>
    have hr := rewriteFareGroup_keeps (secondCounted s)
    have hport := rewriteFareGroup_updated (secondCounted s)
    have hwpt : (secondCounted s).wpt = s.wpt := hk .wpt (by decide)
    have hcps : (rewriteFareGroup (secondCounted s)).cps = (secondCounted s).cps := hr .cps (by decide)
    simp only [if_true]
    refine ⟨?_, ?_, hatc _ (hr .atc (by decide)), ⟨?_, ?_⟩, ((hk.trans hr).trans (driveLines_keeps _)).mono (by decide),
      driveLines_onlyLines ((hr .pins (by decide)).trans (hk .pins (by decide)))⟩
    · simp only [fareGroupNow_driveLines, fareGroupNow_rewriteFareGroup, driveLines_kept, rewriteFareGroup_frc, hfrc]
    · simpa only [AsksCommit, driveLines_kept, hcps] using hcommit
    · have h := hport.onlyUpdates
      simpa only [OnlyUpdates, ListAndUpdates, driveLines_kept, hwpt] using h
    · have h := hport.rewritesOnce
      simpa only [RewritesOnce, driveLines_kept, hwpt] using h

/-- Settles O13: an edge counts, and a second without a charge is closed, counted and shown. -/
theorem pulsesAreCountedAndAssigned : Obligations.PulsesAreCountedAndAssigned := by
  refine ⟨fun s hrun => completes_of_effect (if_pos hrun) ⟨rfl, (modFrc_keeps _ s).trans (driveLines_keeps _),
    driveLines_onlyLines rfl⟩, fun s hrun h => completes_of_effect (if_pos hrun) (endMeterSecond_uncharged h)⟩

/-! The charge and its settlement. -/

theorem OnlyUpdates.trans {s t u : State} (h : OnlyUpdates s t) (h' : OnlyUpdates t u) : OnlyUpdates s u := by
  obtain ⟨⟨hport, heven⟩, hposted⟩ := h
  obtain ⟨⟨hport', heven'⟩, hposted'⟩ := h'
  refine ⟨⟨?_, fun h => heven' (heven h)⟩, hposted'.trans hposted⟩
  rw [hport', hport]

theorem OnlyUpdates.of_port {s t : State} (h : t.wpt = s.wpt) : OnlyUpdates s t := ⟨⟨by rw [h], fun he => by rwa [h]⟩, by rw [h]⟩

theorem OnlyUpdates.congr {s s' t t' : State} (h : OnlyUpdates s t) (hs : s'.wpt = s.wpt) (ht : t'.wpt = t.wpt) :
    OnlyUpdates s' t' := by
  simpa only [OnlyUpdates, ListAndUpdates, hs, ht] using h

theorem PortUpdated.congr {s s' t t' : State} (h : PortUpdated s t) (hs : s'.wpt = s.wpt) (ht : t'.wpt = t.wpt) :
    PortUpdated s' t' := ⟨by rw [ht, h.port, hs]⟩

/-- The threshold of the drops in a state (R12). -/
theorem dropThreshold_pos {s : State} (h : 1 ≤ s.frc.hire.tariff.dropValue) : 1 ≤ dropThreshold s := by
  have hk : 400 ≤ pulsesPerKm s := Nat.le_max_left ..
  exact Nat.mul_pos h (by unfold scale; omega)

/-- The drops that a settlement takes (R12, R13). -/
def dropsTaken (s : State) : Nat :=
  if s.frc.hire.accumulator < dropThreshold s then 0
  else if dropsDue s * s.frc.hire.tariff.dropValue ≤ headroom s then dropsDue s
  else headroom s / s.frc.hire.tariff.dropValue

/-- A settlement reaches the fare limit (R13). -/
def limitReached (s : State) : Bool :=
  decide ((dropThreshold s : Int) ≤ s.frc.hire.accumulator) &&
    decide (headroom s < dropsDue s * s.frc.hire.tariff.dropValue)

/-- What a settlement leaves (R12, R13). -/
structure Settled (s t : State) : Prop where
  frc : t.frc = { s.frc with
    fareGroup := t.frc.fareGroup,
    hire := { s.frc.hire with
      accumulator := if limitReached s then (dropThreshold s : Int) - 1 else s.frc.hire.accumulator - dropsTaken s * dropThreshold s,
      dropCount := s.frc.hire.dropCount + dropsTaken s,
      fare := s.frc.hire.fare + dropsTaken s * s.frc.hire.tariff.dropValue, fareLimit := s.frc.hire.fareLimit || limitReached s } }
  group : s.frc.hire.accumulator < dropThreshold s → t = s
  cps : t.cps = if 0 < dropsTaken s then (requestCommit s).cps else s.cps
  sets : Sets s.atc (if s.frc.hire.accumulator < dropThreshold s then [] else [.fare]) s t
  port : OnlyUpdates s t
  keeps : Keeps [.frc, .wpt, .atc, .cps] s t

/-- The end of a settlement that takes drops or reaches the limit. -/
theorem settled_rewrite {s u : State} (h : ¬s.frc.hire.accumulator < dropThreshold s) (hu : Keeps [.frc] s u) (hire : Hire)
    (hhire : u.frc = { s.frc with hire := hire })
    (hvalue : hire = { s.frc.hire with
      accumulator := if limitReached s then (dropThreshold s : Int) - 1 else s.frc.hire.accumulator - dropsTaken s * dropThreshold s,
      dropCount := s.frc.hire.dropCount + dropsTaken s,
      fare := s.frc.hire.fare + dropsTaken s * s.frc.hire.tariff.dropValue, fareLimit := s.frc.hire.fareLimit || limitReached s })
    (v : State) (hv : v = if 0 < dropsTaken s then requestCommit (setChannel .fare u) else setChannel .fare u) :
    Settled s (rewriteFareGroup v) := by
  have hset := setChannel_keeps .fare u
  have hvKeeps : Keeps [.atc, .cps] u v := by
    rw [hv]
    split_ifs
    exacts [(hset.trans (requestCommit_keeps _)).mono (by decide), hset.mono (by decide)]
  have hr := rewriteFareGroup_keeps v
  have hvatc : v.atc = (setChannel .fare u).atc := by
    rw [hv]
    split_ifs <;> rfl
  have hucps : (setChannel .fare u).cps = s.cps := (hset .cps (by decide)).trans (hu .cps (by decide))
  refine ⟨?_, fun hlt => absurd hlt h, ?_, ?_, ?_, ((hu.trans hvKeeps).trans hr).mono (by decide)⟩
  · rw [rewriteFareGroup_frc, hvKeeps .frc (by decide), hhire, hvalue]
  · rw [hr .cps (by decide), hv]
    split_ifs
    · simp only [requestCommit, requestWrite, State.modCps_cps, hucps]
    · exact hucps
  · rw [if_neg h]
    have hs : Sets u.atc [.fare] u (setChannel .fare u) := setChannel_sets .fare u
    rw [hu .atc (by decide)] at hs
    exact hs.rebase (hu .atc (by decide)).symm ((hr .atc (by decide)).trans hvatc) (.of_mem (hu .mem (by decide)).symm)
  · refine (rewriteFareGroup_updated v).onlyUpdates.congr ?_ rfl
    rw [hvKeeps .wpt (by decide), hu .wpt (by decide)]

/-- Drops are taken within the headroom, or up to it (R12, R13). -/
theorem settle_settled {s : State} (hq : 1 ≤ s.frc.hire.tariff.dropValue) (hl : s.frc.hire.fareLimit = false) :
    Settled s (settle s) := by
  have hpos := dropThreshold_pos hq
  by_cases ha : s.frc.hire.accumulator < dropThreshold s
  · have hsame : settle s = s := if_pos (.inl ha)
    have hno : ¬(dropThreshold s : Int) ≤ s.frc.hire.accumulator := Int.not_le.mpr ha
    have htaken : dropsTaken s = 0 := if_pos ha
    have hlimit : limitReached s = false := by simp [limitReached, hno]
    rw [hsame]
    refine ⟨by simp [htaken, hlimit], fun _ => rfl, by simp [htaken], ?_, .of_port rfl, .refl _ s⟩
    rw [if_pos ha]
    exact .of_atc rfl
  · have hge : (dropThreshold s : Int) ≤ s.frc.hire.accumulator := Int.not_lt.mp ha
    have hdue : 0 < dropsDue s := by
      have hdiv : 1 ≤ s.frc.hire.accumulator / (dropThreshold s : Int) :=
        (Int.le_ediv_iff_mul_le (by omega)).mpr (by simpa using hge)
      unfold dropsDue
      omega
    have hcase : ¬(s.frc.hire.accumulator < dropThreshold s ∨ dropsDue s = 0) := fun h => h.elim ha (Nat.ne_of_gt hdue)
    by_cases hroom : dropsDue s * s.frc.hire.tariff.dropValue ≤ headroom s
    · have htaken : dropsTaken s = dropsDue s := (if_neg ha).trans (if_pos hroom)
      have hlimit : limitReached s = false := by simp [limitReached, hge, Nat.not_lt.mpr hroom]
      have heq : settle s = rewriteFareGroup (requestCommit (setChannel .fare
          (takeDrops (dropsDue s) (s.frc.hire.accumulator - dropsDue s * dropThreshold s) s))) := (if_neg hcase).trans (if_pos hroom)
      rw [heq]
      let taken := takeDrops (dropsDue s) (s.frc.hire.accumulator - dropsDue s * dropThreshold s) s
      refine settled_rewrite (u := taken) ha (modFrc_keeps _ s) _ rfl ?_ _ (by rw [htaken, if_pos hdue])
      simp [htaken, hlimit, hl]
    · have htaken : dropsTaken s = headroom s / s.frc.hire.tariff.dropValue := (if_neg ha).trans (if_neg hroom)
      have hlimit : limitReached s = true := by simp [limitReached, hge, Nat.not_le.mp hroom]
      let taken := modHire (fun h => { h with fareLimit := true })
        (takeDrops (dropsTaken s) ((dropThreshold s : Int) - 1) s)
      have heq : settle s = rewriteFareGroup
          (if 0 < dropsTaken s then requestCommit (setChannel .fare taken) else setChannel .fare taken) := by
        refine ((if_neg hcase).trans (if_neg hroom)).trans ?_
        simp only [← htaken, taken, Nat.pos_iff_ne_zero, ite_not]
      rw [heq]
      exact settled_rewrite ha (((modFrc_keeps _ s).trans (modFrc_keeps _ _)).mono (by decide)) _ rfl
        (by simp [hlimit]) _ rfl

end Sys2Proof.Machine
end

section
/-! PROOF. A charged second (O14) and an extra (O21). -/

namespace Sys2Proof.Machine

/-- The second with its charge on the accumulator (R11). -/
def secondCharged (s : State) : State :=
  modHire (fun h => { h with accumulator := h.accumulator + secondCharge (secondCounted s) (usedPulses s) }) (secondCounted s)

theorem endMeterSecond_hired {s : State} (hm : s.mtc.meter = .hired) (hl : s.frc.hire.fareLimit = false) :
    endMeterSecond s = rewriteFareGroup (settle (secondCharged s)) := by
  have hmtc : (secondCounted s).mtc = s.mtc := secondCounted_keeps s .mtc (by decide)
  have hlimit : (secondCounted s).frc.hire.fareLimit = s.frc.hire.fareLimit := by rw [secondCounted_frc]; rfl
  have hcharge : chargeExpiry (usedPulses s) (secondCounted s) = settle (secondCharged s) := by
    rw [chargeExpiry, if_pos (by rw [hmtc]; exact hm), chargeSecond, if_neg (by rw [hlimit, hl]; decide)]
    rfl
  have hopen : (settle (secondCharged s)).mtc.meter.tripOpen = true := by
    have hsettle : (settle (secondCharged s)).mtc = s.mtc := by simp [secondCharged, modHire, hmtc]
    rw [hsettle, hm]
    rfl
  rw [endMeterSecond_eq, hcharge, if_pos hopen]

theorem secondCounted_bank (s : State) : (secondCounted s).cps.bank = s.cps.bank := by
  have h : Keeps [.frc, .atc] s (countSecond (closePulses s)) := ((closePulses_keeps s).trans (countSecond_keeps _)).mono (by decide)
  have hbank := congrArg Cps.bank (h .cps (by decide))
  unfold secondCounted
  dsimp only
  split_ifs
  exacts [hbank, hbank]

/-- The charge of a second at the state that ends it (R11). -/
theorem secondCharge_counted (s : State) :
    secondCharge (secondCounted s) (usedPulses s) = secondCharge s (pulsesUsed s) := by
  simp only [secondCharge, pulsesPerKm, bank16, secondCounted_bank, secondCounted_frc]
  rfl

theorem secondCharged_frc (s : State) : (secondCharged s).frc = { s.frc with
    pulseCounter := 0, shiftPulses := shiftPulsesAfter s,
    hire := { hireAfterSecond s 1 with accumulator := s.frc.hire.accumulator + secondCharge s (pulsesUsed s) } } := by
  show ({ (secondCounted s).frc with hire := _ } : Frc) = _
  rw [secondCharge_counted, secondCounted_frc]
  rfl

theorem secondCharged_keeps (s : State) : Keeps [.frc, .atc, .cps] s (secondCharged s) :=
  ((secondCounted_keeps s).trans (modFrc_keeps _ _)).mono (by decide)

/-- The amounts of a settlement of the charged second, at the state before it (R12, R13). -/
theorem secondCharged_settlement (s : State) :
    let a : Int := s.frc.hire.accumulator + secondCharge s (pulsesUsed s)
    let threshold := s.frc.hire.tariff.dropValue * (3600 * pulsesPerKm s)
    let n := (a / (threshold : Int)).toNat
    let h := 999999 - s.frc.hire.fare - s.mtc.trip.extrasSum
    dropThreshold (secondCharged s) = threshold ∧ dropsDue (secondCharged s) = n ∧ headroom (secondCharged s) = h := by
  intro a threshold n h
  have hbank : (secondCharged s).cps.bank = s.cps.bank := secondCounted_bank s
  have hmtc : (secondCharged s).mtc = s.mtc := secondCharged_keeps s .mtc (by decide)
  have hthreshold : dropThreshold (secondCharged s) = threshold := by
    simp only [dropThreshold, scale, pulsesPerKm, bank16, hbank, secondCharged_frc]
    rfl
  refine ⟨hthreshold, ?_, ?_⟩
  · rw [dropsDue, hthreshold, secondCharged_frc]
  · simp only [headroom, extrasSum, hmtc, secondCharged_frc]
    rfl

/-- A second's commit and the settlement's, of which one is enough (R45). -/
theorem commit_settled {s t u : State} {p q : Prop} [Decidable p] [Decidable q]
    (h : if p then AsksCommit s t else t.cps = s.cps) (hu : u.cps = if q then (requestCommit t).cps else t.cps) :
    if q ∨ p then AsksCommit s u else u.cps = s.cps := by
  by_cases hp : p <;> by_cases hq : q <;> simp only [hp, hq, if_true, if_false, or_self, or_true, or_false] at h hu ⊢
  · rw [AsksCommit, hu, requestCommit_asks, h]
    simp only [commit_idem]
  · rw [AsksCommit, hu, h]
  · rw [AsksCommit, hu, requestCommit_asks, h]
  · rw [hu, h]

/-- Settles O14: the charge is added, settled, and shown. -/
theorem hiredSecondIsCharged : Obligations.HiredSecondIsCharged := by
  intro s hrun hm hl hq tariff d time charge a threshold n h taken limited after channels
  have hfrc := secondCharged_frc s
  have hcharged := secondCharged_keeps s
  obtain ⟨hthreshold, hdue, hroom⟩ := secondCharged_settlement s
  have hacc : (secondCharged s).frc.hire.accumulator = a := by rw [hfrc]; rfl
  have htaken : dropsTaken (secondCharged s) = taken := by
    simp only [dropsTaken, hthreshold, hdue, hroom, hfrc]
    rfl
  have hlimited : limitReached (secondCharged s) = limited := by
    simp only [limitReached, hthreshold, hdue, hroom, hfrc]
    rfl
  have settled : Settled (secondCharged s) (settle (secondCharged s)) :=
    settle_settled (by rw [hfrc]; exact hq) (by rw [hfrc]; exact hl)
  have hr := rewriteFareGroup_keeps (settle (secondCharged s))
  have hport := rewriteFareGroup_updated (settle (secondCharged s))
  have hwpt : (secondCharged s).wpt = s.wpt := hcharged .wpt (by decide)
  have hkeeps : Keeps [.frc, .wpt, .atc, .cps] s (rewriteFareGroup (settle (secondCharged s))) :=
    ((hcharged.trans settled.keeps).trans hr).mono (by decide)
  have hcps : (rewriteFareGroup (settle (secondCharged s))).cps = (settle (secondCharged s)).cps := hr .cps (by decide)
  have hlt : a < threshold ↔ (secondCharged s).frc.hire.accumulator < dropThreshold (secondCharged s) := by
    rw [hacc, hthreshold]
  refine completes_of_effect ((if_pos hrun).trans (endMeterSecond_hired hm hl)) ⟨?_, ?_, ?_, ?_, fun ha => ?_,
    hkeeps.trans (driveLines_keeps _), driveLines_onlyLines (hkeeps .pins (by decide))⟩
  · rw [fareGroupNow_driveLines, fareGroupNow_rewriteFareGroup]
    show (rewriteFareGroup (settle (secondCharged s))).frc = _
    rw [rewriteFareGroup_frc, settled.frc, hlimited, htaken, hthreshold, hacc, hfrc]
    simp only [hireAfterSecond, hl, Bool.false_or]
    rfl
  · have hcommit := commit_settled (secondCounted_commit s) (settled.cps.trans (by rw [htaken]; rfl))
    simpa only [AsksCommit, driveLines_kept, hcps, hm, true_and] using hcommit
  · have hset : Sets (secondCharged s).atc channels (secondCharged s) (settle (secondCharged s)) := by
      have hset := settled.sets
      simp only [← hlt] at hset
      exact hset
    have hclosed : Sets (ringAtClose s) (channelsAtClose s) s (secondCharged s) := secondCounted_sets s
    exact sets_atClose ((hclosed.trans hset (.of_mem (hcharged .mem (by decide)))).rebase rfl (hr .atc (by decide)) (.refl s))
  · exact (OnlyUpdates.of_port hwpt).trans (settled.port.trans hport.onlyUpdates)
  · rw [settled.group (hlt.mp ha)] at hport ⊢
    exact (hport.congr hwpt.symm rfl).rewritesOnce

/-! Extras. -/

theorem takeExtra_effect (i : Fin 8) (s : State) :
    let t := takeExtra i s
    t.mtc = { s.mtc with trip := { s.mtc.trip with
      extraCounts := s.mtc.trip.extraCounts.set i.val (s.mtc.trip.extraCounts.get i + 1) i.isLt,
      extrasSum := s.mtc.trip.extrasSum + extraValue s i.val } } ∧
    t.frc = { s.frc with fareGroup := fareGroupNow t } ∧ AsksCommit s t ∧ Sets s.atc [.fare] s t ∧ PortUpdated s t ∧
    Keeps [.frc, .mtc, .wpt, .atc, .cps] s t := by
  intro t
  let added := modTrip (fun t =>
    { t with extraCounts := t.extraCounts.set i.val (t.extraCounts.get i + 1) i.isLt,
             extrasSum := t.extrasSum + extraValue s i.val }) s
  let told := setChannel .fare added
  have htold : Keeps [.mtc, .atc] s told := (modMtc_keeps _ s).trans (setChannel_keeps .fare added)
  have hr := rewriteFareGroup_keeps told
  have hmtc : told.mtc = added.mtc := setChannel_keeps .fare added .mtc (by decide)
  have hshown : fareGroupNow t = fareGroupNow told := fareGroupNow_rewriteFareGroup told
  refine ⟨(hr .mtc (by decide)).trans hmtc, ?_, ?_, ?_, ?_,
    ((htold.trans hr).trans (requestCommit_keeps _)).mono (by decide)⟩
  · rw [hshown]
    show (rewriteFareGroup told).frc = _
    rw [rewriteFareGroup_frc, htold .frc (by decide)]
  · show (requestCommit (rewriteFareGroup told)).cps = _
    rw [requestCommit_asks, hr .cps (by decide), htold .cps (by decide)]
  · exact Sets.rebase (s := added) (setChannel_sets .fare added) rfl (hr .atc (by decide)) (.refl s)
  · exact (rewriteFareGroup_updated told).congr (htold .wpt (by decide)).symm rfl

theorem pressExtra_taken {i : Fin 8} {s : State} (hopen : s.mtc.meter.tripOpen = true)
    (hc : s.mtc.trip.extraCounts.get i < extraLimit s i.val)
    (hs : s.frc.hire.fare + s.mtc.trip.extrasSum + extraValue s i.val ≤ 999999) :
    pressExtra i s = (.done, takeExtra i s) := by
  have hno : extraRefused i s = false := by
    simp only [extraRefused, Bool.or_eq_false_iff, decide_eq_false_iff_not]
    exact ⟨Nat.not_le.mpr hc, Nat.not_lt.mpr hs⟩
  rw [pressExtra, if_pos hopen, hno]
  rfl

/-- A key's press is judged from start-up stage 3 on. -/
theorem keyPress_effect {s : State} (h : 3 ≤ s.phase.stagesEnded) (k : MeterKey) :
    effect (.keyPress k) s = (pressKey k false s).2 := if_pos (by simpa [inputsWatched] using h)

theorem ownAddExtra_pressed {r : Fin 16} {i : Fin 8} {s : State} (hctl : hostMeterControl s = true) (hi : param8 s r 8 = i.val) :
    ownAddExtra r s = answerExtra r i (pressExtra i s) := by
  have he : (⟨param8 s r 8, hi ▸ i.isLt⟩ : Fin 8) = i := Fin.ext hi
  rw [ownAddExtra, if_pos hctl, dif_pos (hi ▸ i.isLt), he]

theorem ExtraAdded.of_same {i : Fin 8} {s t u : State}
    (hmtc : t.mtc = { s.mtc with trip := { s.mtc.trip with
      extraCounts := s.mtc.trip.extraCounts.set i.val (s.mtc.trip.extraCounts.get i + 1) i.isLt,
      extrasSum := s.mtc.trip.extrasSum + extraValue s i.val } })
    (hfrc : t.frc = { s.frc with fareGroup := fareGroupNow t }) (hasks : AsksCommit s t)
    (hu : Keeps [.mem, .wpt, .atc, .pins] t u) : ExtraAdded i s u := by
  have hgroup : fareGroupNow u = fareGroupNow t := fareGroupNow_of_parts (by rw [hu .frc (by decide)])
    (by rw [hu .frc (by decide)]) (by rw [hu .frc (by decide)]) (hu .mtc (by decide)) (by rw [hu .cps (by decide)])
  refine ⟨(hu .mtc (by decide)).trans hmtc, ?_, (hu .cps (by decide)).trans hasks⟩
  rw [hgroup]
  exact (hu .frc (by decide)).trans hfrc

/-- Work on a request that leaves window memory and, of the port, all but the update count, and its answer. -/
theorem answered_updating {s work : State} {rest : List (Fin 16)} {l : List Part} (hwf : s.mem.Wf)
    (hk : Keeps l (leaveList rest s) work) (hmem : .mem ∉ l) (hpins : .pins ∉ l) (hport : OnlyUpdates (leaveList rest s) work)
    (r : Fin 16) (x : Result) (w : Nat) :
    let t := driveLines (answer r x w work)
    AnsweredPromptly r rest x w s t ∧ ListAndUpdates s t ∧ Keeps ([.wpt] ++ l ++ [.mem, .atc, .pins]) s t ∧ OnlyLines s t ∧
      Keeps [.mem, .atc, .pins] work t := by
  intro t
  obtain ⟨⟨hwpt, heven⟩, hposted⟩ := hport
  have ht : Keeps [.mem, .atc, .pins] work t := (answer_keeps r x w work).trans (driveLines_keeps _)
  have htwpt : t.wpt = work.wpt := ht .wpt (by decide)
  refine ⟨answeredPromptly_of_posted hwf r x w (hk .mem hmem) hposted, ⟨?_, fun he => ?_⟩,
    ((leaveList_keeps rest s).trans hk).trans ht,
    driveLines_onlyLines ((answer_keeps r x w work .pins (by decide)).trans (hk .pins hpins)), ht⟩
  · rw [htwpt, hwpt]
    rfl
  · rw [htwpt]
    exact heven he

/-- Settles O21: the press of an extra that is neither over its limit nor over the fare limit takes it. -/
theorem extraIsAdded : Obligations.ExtraIsAdded := by
  refine ⟨fun s hst hopen hc hsum => ?_, fun s r rest i hwf h hi hctl hopen hc hsum => ?_⟩
  · have heff : effect (.keyPress .extra) s = takeExtra 0 s :=
      (keyPress_effect hst .extra).trans (congrArg Prod.snd (pressExtra_taken hopen hc hsum))
    obtain ⟨hmtc, hfrc, hasks, hsets, hport, hkeeps⟩ := takeExtra_effect 0 s
    exact completes_of_effect heff ⟨.of_same hmtc hfrc hasks ((driveLines_keeps _).mono (by decide)), hsets,
      hport.onlyUpdates, hport.rewritesOnce, hkeeps.trans (driveLines_keeps _), driveLines_onlyLines (hkeeps .pins (by decide))⟩
  · have hown : ownAddExtra r (leaveList rest s) = answer r .done
        ((takeExtra i (leaveList rest s)).mtc.trip.extraCounts.get i) (takeExtra i (leaveList rest s)) :=
      (ownAddExtra_pressed (s := leaveList rest s) hctl hi).trans
        (by rw [pressExtra_taken (s := leaveList rest s) hopen hc hsum]; rfl)
    obtain ⟨hmtc, hfrc, hasks, hsets, hport, hkeeps⟩ := takeExtra_effect i (leaveList rest s)
    have hword : (takeExtra i (leaveList rest s)).mtc.trip.extraCounts.get i = s.mtc.trip.extraCounts.get i + 1 := by
      rw [hmtc]
      simp [Vector.get_eq_getElem]
    rw [hword] at hown
    have hmem : (takeExtra i (leaveList rest s)).mem = s.mem := hkeeps .mem (by decide)
    obtain ⟨hprompt, hlist, hkeepsAll, hlines, hlast⟩ :=
      answered_updating hwf hkeeps (by decide) (by decide) hport.onlyUpdates r .done (s.mtc.trip.extraCounts.get i + 1)
    refine completes_request rfl h nofun hown ⟨.of_same hmtc hfrc hasks (hlast.mono (by decide)), ?_, hprompt, hlist,
      (hport.congr (s' := leaveList rest s) rfl (hlast .wpt (by decide))).rewritesOnce, hkeepsAll.mono (by decide), hlines⟩
    exact answer_sets (hmem ▸ hwf) r .done _ (hsets.rebase (s' := s) rfl rfl (.refl _)) (.of_mem hmem)

end Sys2Proof.Machine
end

section
/-! PROOF. The moves of the meter: STOP and PAY (O18). -/

namespace Sys2Proof.Machine

/-! A change of the meter state. -/

/-- The meter state has changed, the second in progress closed and the fare group shown (R4, R28). -/
def meterShown (new : MeterState) (s : State) : State :=
  rewriteFareGroup (rejudge ((closePulses s).modMtc fun m => { m with meter := new }))

theorem meterChange_eq (new : MeterState) (s : State) :
    meterChange new s = setChannel .meter (requestCommit (reportMeter s.mtc.meter new (meterShown new s))) := rfl

section
variable (new : MeterState) (s : State)

theorem meterShown_keeps : Keeps [.frc, .mtc, .wpt, .atc] s (meterShown new s) :=
  ((((closePulses_keeps s).trans (modMtc_keeps _ _)).trans (rejudge_keeps _)).trans (rewriteFareGroup_keeps _)).mono (by decide)

theorem meterShown_mtc : (meterShown new s).mtc = { s.mtc with meter := new } := by
  rw [meterShown, rewriteFareGroup_keeps _ .mtc (by decide), rejudge_keeps _ .mtc (by decide), State.modMtc_mtc,
    closePulses_keeps s .mtc (by decide)]

theorem meterShown_frc : (meterShown new s).frc = { s.frc with
    pulseCounter := 0, shiftPulses := shiftPulsesAfter s, hire := hireAfterSecond s 0,
    fareGroup := fareGroupNow (meterShown new s) } := by
  have hgroup : fareGroupNow (meterShown new s) = fareGroupNow (rejudge ((closePulses s).modMtc fun m => { m with meter := new })) :=
    fareGroupNow_rewriteFareGroup _
  rw [hgroup, meterShown, rewriteFareGroup_frc, rejudge_keeps _ .frc (by decide), State.modMtc_frc, closePulses_frc]

theorem meterShown_port : PortUpdated s (meterShown new s) := by
  refine (rewriteFareGroup_updated _).congr ?_ rfl
  rw [rejudge_keeps _ .wpt (by decide)]
  exact (closePulses_keeps s .wpt (by decide)).symm

theorem meterShown_attends : Attends (ringAtClose s) (channelsAtClose s) s (meterShown new s) := by
  let moved := (closePulses s).modMtc fun m => { m with meter := new }
  have hr := rewriteFareGroup_keeps (rejudge moved)
  have hjudged : Attends moved.atc [] moved (rejudge moved) := rejudge_attends moved
  exact ((((closePulses_attends s).then_atc (u := moved) rfl rfl (.refl _)).trans hjudged).then_atc (hr .atc (by decide))
    (hr .phase (by decide)) (.of_mem (hr .mem (by decide)))).congr (by simp)

theorem meterShown_matchesNow : MatchesNow (meterShown new s) := by
  have hr := rewriteFareGroup_keeps (rejudge ((closePulses s).modMtc fun m => { m with meter := new }))
  have hatc := hr .atc (by decide)
  exact (rejudge_matchesNow _).of_same (hr.mono (by decide)) (.of_mem (hr .mem (by decide))) (congrArg Atc.matchA hatc)
    (congrArg Atc.matchB hatc)

end

/-- The meter has moved, with what the status controller made of it (R28, R50); `changed` names the parts that it changed
beside the meter's. -/
structure MeterMoved (changed : List Part) (cs : List Channel) (new : MeterState) (s t : State) : Prop where
  mtc : t.mtc = { s.mtc with meter := new }
  closes : ClosesSecond s t
  asks : AsksCommit s t
  port : PortUpdated s t
  attends : Attends (ringAtClose s) (channelsAtClose s ++ cs) s t
  now : MatchesNow t
  keeps : Keeps ([.frc, .mtc, .wpt, .atc, .cps] ++ changed) s t

/-- The end of a change of the meter state, once the status controller has answered. -/
theorem meterMoved_of_report {new : MeterState} {s u : State} {changed : List Part} {cs : List Channel}
    (hreport : reportMeter s.mtc.meter new (meterShown new s) = u) (hk : Keeps (.atc :: changed) (meterShown new s) u)
    (hfrc : .frc ∉ changed) (hmtc : .mtc ∉ changed) (hwpt : .wpt ∉ changed) (hcps : .cps ∉ changed)
    (hatt : Attends (meterShown new s).atc cs (meterShown new s) u) (hnow : MatchesNow u) :
    MeterMoved changed (cs ++ [.meter]) new s (meterChange new s) := by
  have hset := setChannel_keeps .meter (requestCommit u)
  have hlast : Keeps [.atc, .cps] u (meterChange new s) := by
    rw [meterChange_eq, hreport]
    exact ((requestCommit_keeps u).trans hset).mono (by decide)
  have hshown := meterShown_keeps new s
  have hfrc' : u.frc = (meterShown new s).frc := hk .frc (by simp [hfrc])
  have hmtc' : u.mtc = (meterShown new s).mtc := hk .mtc (by simp [hmtc])
  have hcps' : u.cps = s.cps := (hk .cps (by simp [hcps])).trans (hshown .cps (by decide))
  have hlastCps : (meterChange new s).cps = (requestCommit u).cps := by
    rw [meterChange_eq, hreport]
    exact hset .cps (by decide)
  have hasks : AsksCommit s (meterChange new s) := by rw [AsksCommit, hlastCps, requestCommit_asks, hcps']
  have hgroup : fareGroupNow (meterChange new s) = fareGroupNow (meterShown new s) := by
    have hf : (meterChange new s).frc = (meterShown new s).frc := (hlast .frc (by decide)).trans hfrc'
    refine fareGroupNow_of_parts (by rw [hf]) (by rw [hf]) (by rw [hf]) ((hlast .mtc (by decide)).trans hmtc') ?_
    rw [hasks, hshown .cps (by decide)]
  have hsettings : SameSettings u (meterChange new s) := .of_mem (hlast .mem (by decide))
  have hsets : Sets u.atc [.meter] u (meterChange new s) := by
    rw [meterChange_eq, hreport]
    exact Sets.rebase (s := requestCommit u) (setChannel_sets .meter (requestCommit u)) rfl rfl (.refl _)
  refine ⟨((hlast .mtc (by decide)).trans hmtc').trans (meterShown_mtc new s), ?_, hasks, ?_, ?_, ?_, ?_⟩
  · rw [ClosesSecond, hgroup, hlast .frc (by decide), hfrc']
    exact meterShown_frc new s
  · refine (meterShown_port new s).congr rfl ?_
    rw [hlast .wpt (by decide), hk .wpt (by simp [hwpt])]
  · refine ((meterShown_attends new s).trans hatt).then_sets hsets (by decide) (hlast .phase (by decide)) hsettings |>.congr ?_
    simp
  · have hatc := hsets.1
    exact hnow.of_flags (hlast .phase (by decide)) (.of_keeps hlast (by decide) (by decide) (by decide) (by decide) (by decide)
      (by rw [hlast .emc (by decide)])) hsettings (by rw [hatc]) (by rw [hatc])
  · refine ((hshown.trans hk).trans hlast).mono fun p hp => ?_
    simp only [List.mem_append, List.mem_cons, List.not_mem_nil, or_false] at hp ⊢
    tauto

/-- A change of the meter state that the status controller does not answer (R50). -/
theorem meterChange_quiet {new : MeterState} {s : State}
    (h : (s.mtc.meter, new) ∈ [(MeterState.hired, MeterState.stopped), (.stopped, .hired), (.hired, .payment),
      (.stopped, .payment), (.payment, .hired)]) : MeterMoved [] [.meter] new s (meterChange new s) := by
  have hreport : reportMeter s.mtc.meter new (meterShown new s) = meterShown new s := by
    simp only [List.mem_cons, Prod.mk.injEq, List.not_mem_nil, or_false] at h
    rcases h with ⟨h, rfl⟩ | ⟨h, rfl⟩ | ⟨h, rfl⟩ | ⟨h, rfl⟩ | ⟨h, rfl⟩ <;> rw [h] <;> rfl
  exact meterMoved_of_report hreport (.refl _ _) (by decide) (by decide) (by decide) (by decide)
    (.of_atc rfl rfl (.refl _)) (meterShown_matchesNow new s)

/-! The keys. -/

section
variable {r : Fin 16} {s : State}

theorem ownMeterKey_pressed {k : MeterKey} (hctl : hostMeterControl s = true) (hk : keyOfCode (param8 s r 8) = some k) :
    ownMeterKey r s = answerKey r (pressKey k true s) := by
  simp only [ownMeterKey, if_pos hctl, hk]

end

/-- A request whose work leaves window memory and, of the port, all but the update count, and its answer. -/
theorem completes_attending {c : Instr} {s work : State} {r : Fin 16} {rest : List (Fin 16)} {k : RequestKind}
    {owner : Fin 16 → State → State} {x : Result} {w : Nat} (hwf : s.mem.Wf) (hc : effect c s = takeRequest k owner s)
    (h : HeadIs k r rest s) (hlock : k.locked = true → s.emc.state = .quiet)
    (howner : owner r (leaveList rest s) = answer r x w work) {l : List Part} (hkeeps : Keeps l (leaveList rest s) work)
    (hmem : .mem ∉ l) (hpins : .pins ∉ l) (hport : OnlyUpdates (leaveList rest s) work) {ring : Atc} {cs : List Channel}
    (hatt : Attends ring cs (leaveList rest s) work) (hnow : MatchesNow work) {post : State → Prop}
    (hpost : ∀ t, Keeps [.mem, .atc, .pins] work t → Attends ring (cs ++ [.request]) s t → MatchesNow t →
      AnsweredPromptly r rest x w s t → ListAndUpdates s t → Keeps ([.wpt] ++ l ++ [.mem, .atc, .pins]) s t →
      OnlyLines s t → post t) : Completes c s post := by
  have hm : work.mem = s.mem := hkeeps .mem hmem
  obtain ⟨hprompt, hlist, hkeepsAll, hlines, hlast⟩ := answered_updating hwf hkeeps hmem hpins hport r x w
  have hrequest : Sets work.atc [.request] work (driveLines (answer r x w work)) := answer_raises (hm ▸ hwf) r x _
  have hsettings : SameSettings work (driveLines (answer r x w work)) := answer_sameSettings (hm ▸ hwf) r x _
  exact completes_request hc h hlock howner (hpost _ hlast
    ((hatt.rebase (s' := s) rfl rfl (.refl _)).then_sets hrequest (by decide) (hlast .phase (by decide)) hsettings)
    (hnow.then_sets hrequest (hlast.mono (by decide)) hsettings) hprompt hlist hkeepsAll hlines)

/-- A METER_KEY request that its press takes: what the answer adds to the work. -/
theorem completes_meterKey {s work : State} {r : Fin 16} {rest : List (Fin 16)} {k : MeterKey} {code : Nat} (hwf : s.mem.Wf)
    (h : HeadIs .meterKey r rest s) (hcode : param8 s r 8 = code) (hk : keyOfCode code = some k) (hctl : hostMeterControl s = true)
    (hpress : pressKey k true (leaveList rest s) = (.done, work)) {l : List Part} (hkeeps : Keeps l (leaveList rest s) work)
    (hmem : .mem ∉ l) (hpins : .pins ∉ l) (hport : OnlyUpdates (leaveList rest s) work) {cs : List Channel} {new : MeterState}
    (hnew : work.mtc.meter = new)
    (hatt : Attends (ringAtClose s) (channelsAtClose s ++ cs) (leaveList rest s) work) (hnow : MatchesNow work)
    {post : State → Prop}
    (hpost : ∀ t, Keeps [.mem, .atc, .pins] work t → RaisesAtChange (cs ++ [.request]) s t →
      AnsweredPromptly r rest .done new.code s t → ListAndUpdates s t →
      Keeps ([.wpt] ++ l ++ [.mem, .atc, .pins]) s t → OnlyLines s t → post t) : Completes .meterKey s post := by
  have hown : ownMeterKey r (leaveList rest s) = answer r .done new.code work := by
    rw [ownMeterKey_pressed (s := leaveList rest s) hctl (by rw [show param8 (leaveList rest s) r 8 = code from hcode, hk]), hpress,
      answerKey, if_pos rfl, hnew]
  exact completes_attending hwf rfl h nofun hown hkeeps hmem hpins hport hatt hnow
    fun t ht hatt' hnow' hprompt hlist hk hlines =>
      hpost t ht (raisesAtChange_of_attends (hatt'.congr (by simp)) hnow') hprompt hlist hk hlines

/-- A key that its press takes. -/
theorem completes_keyPress {s work : State} {k : MeterKey} (hst : 3 ≤ s.phase.stagesEnded)
    (hpress : pressKey k false s = (.done, work)) {l : List Part} (hkeeps : Keeps l s work) (hpins : .pins ∉ l)
    {cs : List Channel} (hatt : Attends (ringAtClose s) (channelsAtClose s ++ cs) s work) (hnow : MatchesNow work)
    {post : State → Prop}
    (hpost : ∀ t, Keeps [.pins] work t → RaisesAtChange cs s t → Keeps (l ++ [.pins]) s t → OnlyLines s t → post t) :
    Completes (.keyPress k) s post :=
  have hraises : RaisesAtChange cs s work := raisesAtChange_of_attends hatt hnow
  completes_of_effect (t := work) ((keyPress_effect hst k).trans (congrArg Prod.snd hpress))
    (hpost (driveLines work) (driveLines_keeps work) hraises (hkeeps.trans (driveLines_keeps _))
      (driveLines_onlyLines (hkeeps .pins hpins)))

/-! STOP and PAY. -/

/-- What a STOP or a PAY leaves (R30, R31). -/
structure MeterStepped (k : MeterKey) (new : MeterState) (s t : State) : Prop where
  moved : TripMoved k new s t
  meter : t.mtc.meter = new
  port : PortUpdated s t
  attends : Attends (ringAtClose s) (channelsAtClose s ++ [.meter]) s t
  now : MatchesNow t
  keeps : Keeps [.frc, .mtc, .wpt, .atc, .cps] s t

theorem TripMoved.of_keeps {k : MeterKey} {new : MeterState} {s t u : State} (h : TripMoved k new s t)
    (hu : Keeps [.mem, .atc, .pins] t u) : TripMoved k new s u := by
  obtain ⟨hcloses, hmtc, hasks⟩ := h
  have hfrc : u.frc = t.frc := hu .frc (by decide)
  have hcps : u.cps = t.cps := hu .cps (by decide)
  have hgroup : fareGroupNow u = fareGroupNow t := fareGroupNow_of_parts (by rw [hfrc]) (by rw [hfrc]) (by rw [hfrc])
    (hu .mtc (by decide)) (by rw [hcps])
  refine ⟨?_, (hu .mtc (by decide)).trans hmtc, hcps.trans hasks⟩
  rw [ClosesSecond, hgroup, hfrc]
  exact hcloses

theorem meterStepped_stop {new : MeterState} {s : State}
    (h : (s.mtc.meter, new) ∈ [(MeterState.hired, MeterState.stopped), (.stopped, .hired)]) :
    MeterStepped .stop new s (meterChange new s) := by
  have hm := meterChange_quiet (new := new) (s := s) (by
    simp only [List.mem_cons, Prod.mk.injEq, List.not_mem_nil, or_false] at h ⊢
    tauto)
  exact ⟨⟨hm.closes, by rw [hm.mtc]; simp, hm.asks⟩, by rw [hm.mtc], hm.port, hm.attends, hm.now, hm.keeps⟩

theorem fareGroupNow_startHold (s : State) : fareGroupNow (startHold s) = fareGroupNow s := rfl

theorem meterStepped_pay {s : State} (h : s.mtc.meter = .hired ∨ s.mtc.meter = .stopped) :
    MeterStepped .pay .payment s
      (startHold (meterChange .payment (modTrip (fun t => { t with endTime := s.frc.clock }) s))) := by
  let ended := modTrip (fun t => { t with endTime := s.frc.clock }) s
  let moved := meterChange .payment ended
  let held := startHold moved
  have hm : MeterMoved [] [.meter] .payment ended moved := meterChange_quiet (by
    rcases h with h | h <;> simp [ended, modTrip, h])
  have hk : Keeps [.mtc] moved held := modMtc_keeps _ _
  have hhold : paymentHold moved = paymentHold s := by
    have hcps : moved.cps = _ := hm.asks
    rw [paymentHold, bank8, hcps]
    rfl
  have hmtc : held.mtc = { moved.mtc with
      holdEnded := paymentHold moved == 0, holdTimer := if paymentHold moved = 0 then none else some (paymentHold moved) } := rfl
  rw [hm.mtc, hhold] at hmtc
  have hgroup : fareGroupNow held = fareGroupNow moved := fareGroupNow_startHold moved
  have hnow : MatchesNow held := hm.now.of_flags (s := moved) rfl ⟨rfl, rfl, rfl, rfl, rfl, rfl, rfl⟩ (.refl _) rfl rfl
  have hatt : Attends (ringAtClose s) (channelsAtClose s ++ [.meter]) ended held :=
    hm.attends.then_atc (u := held) rfl rfl (.refl _)
  refine ⟨⟨?_, ?_, hm.asks⟩, ?_, hm.port.congr rfl rfl, hatt.rebase rfl rfl (.refl _), hnow, ?_⟩
  · rw [ClosesSecond, hgroup]
    exact hm.closes
  · rw [hmtc]
    simp [ended, modTrip]
  · rw [hmtc]
  · exact (((modMtc_keeps _ s).trans hm.keeps).trans hk).mono (by decide)

/-- What either press does. -/
theorem pressKey_stepped {s : State} {k : MeterKey} {code : Nat} {new : MeterState}
    (h : (s.mtc.meter, k, code, new) ∈
      [(MeterState.hired, MeterKey.stop, 1, MeterState.stopped), (.stopped, .stop, 1, .hired),
       (.hired, .pay, 2, .payment), (.stopped, .pay, 2, .payment)]) :
    keyOfCode code = some k ∧ ∃ t, (∀ b, pressKey k b s = (.done, t)) ∧ MeterStepped k new s t := by
  simp only [List.mem_cons, Prod.mk.injEq, List.not_mem_nil, or_false] at h
  rcases h with ⟨hm, rfl, rfl, rfl⟩ | ⟨hm, rfl, rfl, rfl⟩ | ⟨hm, rfl, rfl, rfl⟩ | ⟨hm, rfl, rfl, rfl⟩
  · exact ⟨rfl, _, fun _ => by rw [pressKey, pressStop, hm], meterStepped_stop (by rw [hm]; decide)⟩
  · exact ⟨rfl, _, fun _ => by rw [pressKey, pressStop, hm], meterStepped_stop (by rw [hm]; decide)⟩
  · exact ⟨rfl, _, fun _ => by rw [pressKey, pressPay, hm], meterStepped_pay (.inl hm)⟩
  · exact ⟨rfl, _, fun _ => by rw [pressKey, pressPay, hm], meterStepped_pay (.inr hm)⟩

/-- Settles O18: either press closes the second and moves the meter; a PAY also takes the end time and begins the hold. -/
theorem stopAndPayMoveTheMeter : Obligations.StopAndPayMoveTheMeter := by
  intro s k code new hcase
  refine ⟨fun hst => ?_, fun r rest hwf h hcode hctl => ?_⟩
  · obtain ⟨-, work, hpress, hwork⟩ := pressKey_stepped hcase
    exact completes_keyPress hst (hpress false) hwork.keeps (by decide) hwork.attends hwork.now fun t ht hraises hk hlines =>
      ⟨hwork.moved.of_keeps (ht.mono (by decide)), hraises, (hwork.port.congr rfl (ht .wpt (by decide))).onlyUpdates,
        (hwork.port.congr rfl (ht .wpt (by decide))).rewritesOnce, hk, hlines⟩
  · obtain ⟨hkey, work, hpress, hwork⟩ := pressKey_stepped (s := leaveList rest s) hcase
    exact completes_meterKey hwf h hcode hkey hctl (hpress true) hwork.keeps (by decide) (by decide) hwork.port.onlyUpdates
      hwork.meter hwork.attends hwork.now fun t ht hraises hprompt hlist hk hlines =>
        ⟨hwork.moved.of_keeps ht, hraises, hprompt, hlist,
          (hwork.port.congr (s' := leaveList rest s) rfl (ht .wpt (by decide))).rewritesOnce, hk.mono (by decide), hlines⟩

end Sys2Proof.Machine
end

section
/-! PROOF. The status controller told of a change of the meter, and the opening and the end of a shift (O23, O24). -/

namespace Sys2Proof.Machine

/-! What a live frame's joining is made of. -/

theorem JoinedLive.congr {k : UplinkKind} {s s' t t' : State} (h : JoinedLive k s t) (hs : s'.txq = s.txq) (ht : t'.txq = t.txq) :
    JoinedLive k s' t' := by
  have hw : kindWaiting s' k = kindWaiting s k := by rw [kindWaiting, hs, kindWaiting]
  rw [JoinedLive, Joined, hw, hs, ht]
  exact h

theorem StatusBecomes.congr {new : DispatchStatus} {reason : StatusReason} {s s' t t' : State} (h : StatusBecomes new reason s t)
    (hs : s'.dsc = s.dsc) (ht : t'.dsc = t.dsc) : StatusBecomes new reason s' t' := by
  rw [StatusBecomes, hs, ht]
  exact h

theorem EndsAssignment.congr {s s' t t' : State} (h : EndsAssignment s t) (hd : s'.dsc = s.dsc) (hs : s'.oft = s.oft)
    (ht : t'.oft = t.oft) : EndsAssignment s' t' := by
  rw [EndsAssignment, hd, hs, ht]
  exact h

/-! A change of the meter state that the status controller answers (R50). -/

/-- The meter and the status have moved (R28, R50). -/
structure MeterTold (status : DispatchStatus) (new : MeterState) (s t : State) : Prop where
  moved : MeterMoved [.dsc, .oft, .txq] [.status, .meter] new s t
  becomes : StatusBecomes status .change s t
  ends : EndsAssignment s t
  joined : JoinedLive .status s t

theorem meterChange_told {status : DispatchStatus} {new : MeterState} {s : State}
    (hreport : ∀ u, reportMeter s.mtc.meter new u = setStatus status .change u) (hroom : HasRoom s)
    (hne : status ≠ s.dsc.status) (hold : s.dsc.status ≠ .bidding) (hstatus : status ≠ .bidding) :
    MeterTold status new s (meterChange new s) := by
  have hshown := meterShown_keeps new s
  have hdsc : (meterShown new s).dsc = s.dsc := hshown .dsc (by decide)
  have hoft : (meterShown new s).oft = s.oft := hshown .oft (by decide)
  have htxq : (meterShown new s).txq = s.txq := hshown .txq (by decide)
  have hst : StatusMoved status .change (meterShown new s) (setStatus status .change (meterShown new s)) :=
    setStatus_moved (by rwa [HasRoom, htxq]) (by rwa [hdsc]) (by rwa [hdsc]) hstatus
  have hmoved := meterMoved_of_report (new := new) (hreport (meterShown new s)) (changed := [.dsc, .oft, .txq])
    (hst.keeps.mono (by decide)) (by decide) (by decide) (by decide) (by decide) hst.attends hst.now
  have hlast : Keeps [.atc, .cps] (setStatus status .change (meterShown new s)) (meterChange new s) := by
    rw [meterChange_eq, hreport]
    exact ((requestCommit_keeps _).trans (setChannel_keeps _ _)).mono (by decide)
  exact ⟨hmoved, hst.becomes.congr hdsc.symm (hlast .dsc (by decide)),
    hst.ends.congr hdsc.symm hoft.symm (hlast .oft (by decide)), hst.joined.congr htxq.symm (hlast .txq (by decide))⟩

namespace MeterTold

/-- Outside ASSIGNED the offer table stays as it is (R83). -/
theorem oft_kept {status : DispatchStatus} {new : MeterState} {s t : State} (h : MeterTold status new s t)
    (hassigned : s.dsc.status ≠ .assigned) : t.oft = s.oft := by
  rw [h.ends, if_neg hassigned]

theorem keeps_oft {status : DispatchStatus} {new : MeterState} {s t : State} (h : MeterTold status new s t)
    (hassigned : s.dsc.status ≠ .assigned) : Keeps [.frc, .mtc, .dsc, .txq, .wpt, .atc, .cps] s t := fun p hp => by
  by_cases hoft : p = .oft
  · subst hoft
    exact h.oft_kept hassigned
  · exact h.moved.keeps p (by simp [hoft] at hp ⊢; tauto)

end MeterTold

/-- What is shown and asked after the answer. -/
theorem fareGroupNow_of_answer {s t : State} (h : Keeps [.mem, .atc, .pins] s t) : fareGroupNow t = fareGroupNow s := by
  have hfrc : t.frc = s.frc := h .frc (by decide)
  have hcps : t.cps = s.cps := h .cps (by decide)
  exact fareGroupNow_of_parts (by rw [hfrc]) (by rw [hfrc]) (by rw [hfrc]) (h .mtc (by decide)) (by rw [hcps])

/-! What the close of a second is made of (R2 to R4). -/

/-- A close of the second does the same in both states. -/
structure SecondSame (s t : State) : Prop where
  meter : t.mtc.meter = s.mtc.meter
  pulses : t.frc.pulseCounter = s.frc.pulseCounter
  shift : t.frc.shiftPulses = s.frc.shiftPulses
  hire : t.frc.hire = s.frc.hire
  clock : t.frc.clock = s.frc.clock
  bank : t.cps.bank = s.cps.bank
  atc : t.atc = s.atc

namespace SecondSame

variable {s t : State}

theorem excess (h : SecondSame s t) : pulsesOver t = pulsesOver s := by
  simp only [pulsesOver, ceilingOf, pulsesPerKm, speedCeiling, bank16, h.meter, h.pulses, h.bank]

theorem used (h : SecondSame s t) : pulsesUsed t = pulsesUsed s := by
  simp only [pulsesUsed, ceilingOf, pulsesPerKm, speedCeiling, bank16, h.meter, h.pulses, h.bank]

theorem shiftPulses (h : SecondSame s t) : shiftPulsesAfter t = shiftPulsesAfter s := by
  simp only [shiftPulsesAfter, h.used, h.meter, h.shift]

theorem hireAfter (h : SecondSame s t) (n : Nat) : hireAfterSecond t n = hireAfterSecond s n := by
  simp only [hireAfterSecond, h.used, h.excess, h.meter, h.hire]

theorem ring (h : SecondSame s t) : ringAtClose t = ringAtClose s := by
  simp only [ringAtClose, h.excess, h.atc, h.clock]

theorem channels (h : SecondSame s t) : channelsAtClose t = channelsAtClose s := by
  simp only [channelsAtClose, h.excess]

end SecondSame

/-! A shift. -/

/-- What the opening of a shift leaves (R35). -/
theorem openShift_told {s : State} (driver : Nat) (hm : s.mtc.meter = .off) (hst : s.dsc.status = .offDuty) (hroom : HasRoom s) :
    MeterTold .available .vacant
      (modTotals (fun g => g.opened driver s.frc.clock) (s.modFrc fun f => { f with shiftPulses := 0 })) (openShift driver s) :=
  meterChange_told (fun u => by simp [modTotals, hm, reportMeter]) hroom (by simp [modTotals, hst]) (by simp [modTotals, hst])
    (by decide)

theorem channelsAtClose_off {s : State} (h : s.mtc.meter = .off) : channelsAtClose s = [] ∧ ringAtClose s = s.atc := by
  have h0 : pulsesOver s = 0 := if_pos h
  exact ⟨if_pos h0, if_pos h0⟩

theorem hireAfterSecond_off {s : State} (h : s.mtc.meter = .off) : hireAfterSecond s 0 = s.frc.hire := by
  simp [hireAfterSecond, h, MeterState.tripOpen]

theorem shiftPulsesAfter_off {s : State} (h : s.mtc.meter = .off) : shiftPulsesAfter s = s.frc.shiftPulses := if_pos h

/-- Settles O23: SHIFT_OPEN meets none of its refusals, and its work is one change of the meter from OFF. -/
theorem shiftOpens : Obligations.ShiftOpens := by
  intro s r rest hwf h hq hd hm hf hcal hst hroom
  have hown : ownShiftOpen r (leaveList rest s) = answer r .done 0 (openShift (paramN s r 8 2) (leaveList rest s)) := by
    have hd' : paramN (leaveList rest s) r 8 2 ≠ 0 := hd
    have hcal' : writeOutstanding (leaveList rest s) .calibration = false := hcal
    rw [ownShiftOpen, if_neg hd', if_neg (by simp [leaveList, hm, hf]), if_neg (by simp [hcal'])]
    rfl
  let opened := modTotals (fun g => g.opened (paramN s r 8 2) s.frc.clock)
    ((leaveList rest s).modFrc fun f => { f with shiftPulses := 0 })
  have htold : MeterTold .available .vacant opened (openShift (paramN s r 8 2) (leaveList rest s)) :=
    openShift_told (s := leaveList rest s) _ hm hst hroom
  have hstart : Keeps [.frc, .mtc] (leaveList rest s) opened := (modFrc_keeps _ _).trans (modMtc_keeps _ _)
  have hkeeps := hstart.trans (htold.keeps_oft (by simp [opened, modTotals, leaveList, hst]))
  obtain ⟨hchannels, hring⟩ := channelsAtClose_off (s := opened) hm
  obtain ⟨hmoved, hbecomes, -, hjoined⟩ := htold
  have hatt := hmoved.attends
  rw [hring, hchannels] at hatt
  refine completes_attending hwf rfl h (fun _ => hq) hown hkeeps (by decide) (by decide) (hmoved.port.congr rfl rfl).onlyUpdates
    (hatt.rebase (s' := leaveList rest s) rfl rfl (.refl _)) hmoved.now
    fun t ht hatt' hnow hprompt hlist hk hlines => ?_
  refine ⟨?_, ?_, hbecomes.congr rfl (ht .dsc (by decide)), hjoined.congr rfl (ht .txq (by decide)), ?_, hprompt, hlist,
    (hmoved.port.congr (s' := leaveList rest s) rfl (ht .wpt (by decide))).rewritesOnce,
    (hatt'.congr (by simp)).beside hnow, hk.mono (by decide), hlines⟩
  · rw [ht .mtc (by decide), hmoved.mtc]
    rfl
  · rw [fareGroupNow_of_answer ht, ht .frc (by decide)]
    have hclose := hmoved.closes
    rw [ClosesSecond, hireAfterSecond_off (s := opened) hm, shiftPulsesAfter_off (s := opened) hm] at hclose
    exact hclose
  · exact (ht .cps (by decide)).trans hmoved.asks

/-- All that the end of a shift does before the meter moves (R36, R44). -/
def shiftClosing (s : State) : State :=
  let s₁ := detachLastShift (refreshMetres s)
  let s₂ := modTotals (fun g => g.closed s₁.frc.clock) s₁
  let s₃ := s₂.modMtc fun m => { m with shiftFrameDue := true }
  let s₄ := s₃.modCps fun c => { c with writing := c.writing.map StoreJob.forgetShift }
  s₄.modFrc fun f => { f with override := none }

theorem closeShift_eq (s : State) : closeShift s = meterChange .off (shiftClosing s) := rfl

theorem withoutOrigin_eq (o : Origin) (s : State) : (detachOrigin o s).txq = withoutOrigin o s := by
  rfl

theorem writeWithoutShift_eq (j : StoreJob) : j.forgetShift = writeWithoutShift j := by cases j <;> rfl

section
variable (s : State)

theorem detachLastShift_keeps : Keeps [.txq] s (detachLastShift s) := by
  unfold detachLastShift
  split_ifs
  exacts [modTxq_keeps _ s, .refl _ s]

theorem shiftClosing_keeps : Keeps [.frc, .mtc, .txq, .cps] s (shiftClosing s) :=
  (((((modMtc_keeps _ s).trans (detachLastShift_keeps _)).trans (modMtc_keeps _ _)).trans (modMtc_keeps _ _)).trans
    (modCps_keeps _ _)).trans (modFrc_keeps _ _) |>.mono (by decide)

theorem shiftClosing_txq : (shiftClosing s).txq =
    if s.mtc.totals.reportState = .queued then withoutOrigin .lastShift s else s.txq := by
  have hdetach : (shiftClosing s).txq = (detachLastShift (refreshMetres s)).txq := rfl
  have hreport : (refreshMetres s).mtc.totals.reportState = s.mtc.totals.reportState := rfl
  rw [hdetach, detachLastShift, hreport]
  split_ifs <;> rfl

theorem refreshMetres_mtc : (refreshMetres s).mtc = { s.mtc with totals := { s.mtc.totals with
    shift := { s.mtc.totals.shift with totalMetres := shiftMetres s },
    lifetime := { s.mtc.totals.lifetime with
      totalMetres := min 4294967295 (s.mtc.totals.metresBase + shiftMetres s) } } } := rfl

theorem shiftClosing_mtc :
    let g := s.mtc.totals
    let shift := { g.shift with totalMetres := shiftMetres s }
    (shiftClosing s).mtc = { s.mtc with
      shiftFrameDue := true,
      totals := { g with
        shiftOpen := false, reportState := .unsent, lastDriver := g.driver, lastOpenTime := g.openTime,
        lastCloseTime := s.frc.clock, shift := shift, last := shift,
        lifetime := { g.lifetime with totalMetres := min 4294967295 (g.metresBase + shiftMetres s) } } } := by
  intro g shift
  have hk := detachLastShift_keeps (refreshMetres s)
  have hmtc : (detachLastShift (refreshMetres s)).mtc = (refreshMetres s).mtc := hk .mtc (by decide)
  have hfrc : (detachLastShift (refreshMetres s)).frc = s.frc := hk .frc (by decide)
  simp only [shiftClosing, modTotals, State.modFrc_mtc, State.modCps_mtc, State.modMtc_mtc, hmtc, hfrc, refreshMetres_mtc,
    TotalsGroup.closed]
  rfl

theorem shiftClosing_cps : (shiftClosing s).cps = { s.cps with writing := s.cps.writing.map writeWithoutShift } := by
  have hk := detachLastShift_keeps (refreshMetres s)
  have hcps : (detachLastShift (refreshMetres s)).cps = s.cps := hk .cps (by decide)
  have hforget : StoreJob.forgetShift = writeWithoutShift := funext writeWithoutShift_eq
  simp only [shiftClosing, modTotals, State.modFrc_cps, State.modCps_cps, State.modMtc_cps, hcps, hforget]

theorem shiftClosing_frc : (shiftClosing s).frc = { s.frc with override := none } := by
  have hk := detachLastShift_keeps (refreshMetres s)
  have hfrc : (detachLastShift (refreshMetres s)).frc = s.frc := hk .frc (by decide)
  simp only [shiftClosing, modTotals, State.modFrc_frc, State.modCps_frc, State.modMtc_frc, hfrc]

end

theorem withoutOrigin_length (o : Origin) (s : State) : (withoutOrigin o s).frames.length ≤ s.txq.frames.length :=
  (List.length_filter_le _ _).trans (List.length_map _).le

theorem hireAfterSecond_vacant {s : State} (h : s.mtc.meter = .vacant) : hireAfterSecond s 0 = s.frc.hire := by
  simp [hireAfterSecond, h, MeterState.tripOpen]

/-- Settles O24: SHIFT_CLOSE meets none of its refusals; the copy is made, and then the meter moves from VACANT to OFF. -/
theorem shiftCloses : Obligations.ShiftCloses := by
  intro s r rest hwf h hq hm hst hroom
  have hown : ownShiftClose r (leaveList rest s) = answer r .done 0 (closeShift (leaveList rest s)) := by
    rw [ownShiftClose, if_pos (by simpa [mayCloseShift, leaveList, hm] using hst)]
  let closing := shiftClosing (leaveList rest s)
  have hclosing : Keeps [.frc, .mtc, .txq, .cps] (leaveList rest s) closing := shiftClosing_keeps _
  have hmtc : closing.mtc = _ := shiftClosing_mtc (leaveList rest s)
  have hfrc : closing.frc = _ := shiftClosing_frc (leaveList rest s)
  have hcps : closing.cps = _ := shiftClosing_cps (leaveList rest s)
  have htxq : closing.txq = _ := shiftClosing_txq (leaveList rest s)
  have hdsc : closing.dsc = s.dsc := hclosing .dsc (by decide)
  have hclosed : closing.mtc.meter = .vacant := by rw [hmtc]; exact hm
  have hroomc : HasRoom closing := by
    rw [HasRoom, htxq]
    split_ifs
    · exact (withoutOrigin_length _ _).trans_lt hroom
    · exact hroom
  have hne : s.dsc.status ≠ .offDuty ∧ s.dsc.status ≠ .bidding ∧ s.dsc.status ≠ .assigned := by
    rcases hst with h | h <;> simp [h]
  obtain ⟨hduty, hbidding, hassigned⟩ := hne
  have hsame : SecondSame s closing :=
    ⟨by rw [hclosed, hm], by rw [hfrc]; rfl, by rw [hfrc]; rfl, by rw [hfrc]; rfl, by rw [hfrc]; rfl, by rw [hcps]; rfl,
      hclosing .atc (by decide)⟩
  have htold : MeterTold .offDuty .off closing (closeShift (leaveList rest s)) := by
    rw [closeShift_eq]
    exact meterChange_told (fun u => by rw [hclosed]; rfl) hroomc (by rw [hdsc]; exact hduty.symm) (by rw [hdsc]; exact hbidding)
      (by decide)
  have hkeeps := hclosing.trans (htold.keeps_oft (by rw [hdsc]; exact hassigned))
  obtain ⟨hmoved, hbecomes, -, hjoined⟩ := htold
  have hatt := hmoved.attends
  rw [hsame.ring, hsame.channels] at hatt
  refine completes_attending hwf rfl h (fun _ => hq) hown hkeeps (by decide) (by decide)
    (hmoved.port.congr (hclosing .wpt (by decide)).symm rfl).onlyUpdates
    (hatt.rebase (s' := leaveList rest s) (hclosing .atc (by decide)).symm (hclosing .phase (by decide)).symm
      (.of_mem (hclosing .mem (by decide))))
    hmoved.now fun t ht hatt' hnow hprompt hlist hk hlines => ?_
  refine ⟨?_, ?_, hbecomes.congr hdsc.symm (ht .dsc (by decide)), ?_, ?_, hprompt, hlist,
    (hmoved.port.congr (s' := leaveList rest s) (hclosing .wpt (by decide)).symm (ht .wpt (by decide))).rewritesOnce,
    raisesAtChange_of_attends (hatt'.congr (by simp)) hnow, hk.mono (by decide), hlines⟩
  · rw [ht .mtc (by decide), hmoved.mtc, hmtc]
    rfl
  · rw [fareGroupNow_of_answer ht, ht .frc (by decide)]
    have hclose := hmoved.closes
    rw [ClosesSecond, hsame.hireAfter, hsame.shiftPulses, hfrc] at hclose
    exact hclose.trans (by rw [hireAfterSecond_vacant hm]; rfl)
  · exact hjoined.congr htxq.symm (ht .txq (by decide))
  · rw [AsksCommitBeside, ht .cps (by decide), hmoved.asks, hcps]
    rfl

end Sys2Proof.Machine
end

section
/-! PROOF. The close of a trip into the log and the totals (O19). -/

namespace Sys2Proof.Machine

/-! The entry of the log that a trip goes into (R39). -/

theorem tripIndices_eq : tripIndices = List.finRange 24 := by decide

/-- The first index with a property is the lowest of all. -/
theorem find_finRange {n : Nat} {p : Fin n → Bool} {e : Fin n} (he : p e = true) (hbelow : ∀ x, x < e → p x = false) :
    (List.finRange n).find? p = some e := by
  refine List.find?_eq_some_iff_getElem.mpr ⟨he, e.val, by simp, by simp, fun j hj => ?_⟩
  simpa using hbelow ⟨j, hj.trans e.isLt⟩ hj

theorem chooseLogEntry_of_is {e : Fin 24} {lost : Bool} {s : State} (h : TripEntryIs e lost s) :
    chooseLogEntry s.mtc = e ∧ (logEntryWithoutLoss s.mtc = none ↔ lost = true) := by
  unfold chooseLogEntry logEntryWithoutLoss
  rw [tripIndices_eq]
  unfold TripEntryIs at h
  dsimp only at h
  rcases h with ⟨hempty, hbelow, rfl⟩ | ⟨hall, h⟩
  · have hfind : (List.finRange 24).find? (fun t => !(s.mtc.tripLog.get t).written) = some e :=
      find_finRange (by simp [hempty]) (by simpa using hbelow)
    simp [hfind]
  · have hfull : (List.finRange 24).find? (fun t => !(s.mtc.tripLog.get t).written) = none :=
      List.find?_eq_none.mpr (by simpa using hall)
    rw [hfull]
    rcases h with ⟨hfree, rfl⟩ | ⟨hfree, hsettled, rfl⟩ | ⟨hsettled, hhead, rfl⟩
    · simp [TripRecord.settled, hfree]
    · simp [TripRecord.settled, hfree, hsettled]
    · have hfree : s.mtc.ageOrder.find? (fun t => (s.mtc.tripLog.get t).released && (s.mtc.tripLog.get t).settled) = none := by
        rw [List.find?_eq_none] at hsettled ⊢
        exact fun x hx hp => hsettled x hx (by simp only [Bool.and_eq_true] at hp; exact hp.2)
      have hnone : s.mtc.ageOrder.find? (fun t => (s.mtc.tripLog.get t).settled) = none := hsettled
      simp [hfree, hnone, List.headD_eq_head?_getD, hhead]

/-! What the close of a trip leaves (R37). -/

theorem writeWithoutEntry_eq (e : Fin 24) : StoreJob.forgetTrip e = writeWithoutEntry e := by
  funext j
  cases j <;> rfl

/-- The record of a trip whose number has been counted is the record of the trip (R37, R38). -/
theorem tripRecordNow_countTrip (s : State) : tripRecordNow (countTrip s) = recordOfTrip s := rfl

/-- A trip has been closed (R37, R39, R43). -/
structure TripClosed (e : Fin 24) (lost : Bool) (s t : State) : Prop where
  mtc : t.mtc = mtcAfterTrip s e lost
  txq : t.txq = withoutTripFrame e lost s
  asks : AsksCommitBeside (writeWithoutEntry e) s t
  keeps : Keeps [.mtc, .txq, .cps] s t

/-- The record that is lost (R39). -/
theorem loseTrip_eq (e : Fin 24) (s : State) : loseTrip e s =
    let s₁ := modTotals (fun g => { g with
      shift := { g.shift with tripOverwrites := min 4294967295 (g.shift.tripOverwrites + 1) },
      lifetime := { g.lifetime with tripOverwrites := min 4294967295 (g.lifetime.tripOverwrites + 1) } }) s
    { s₁ with txq := withoutTripFrame e true s } := by
  unfold loseTrip
  dsimp only
  by_cases h : (s.mtc.tripLog.get e).sendState = .queued
  · rw [if_pos h, withoutTripFrame, if_pos ⟨rfl, h⟩]
    rfl
  · rw [if_neg h, withoutTripFrame, if_neg (by simp [h])]
    rfl

/-- The trip has been counted and the record chosen is lost where one must be (R37, R39). -/
def roomMade (e : Fin 24) (lost : Bool) (s : State) : State :=
  if lost = true then loseTrip e (countTrip s) else countTrip s

/-- The record has been written and its figures added (R37, R43). -/
def tripFiled (e : Fin 24) (r : TripRecord) (s : State) : State :=
  requestCommit (refreshMetres
    (modTotals (fun g => { g with shift := g.shift.addTrip r, lifetime := g.lifetime.addTrip r }) (writeTripRecord e r s)))

theorem closeTrip_eq {e : Fin 24} {lost : Bool} {s : State} (h : TripEntryIs e lost s) :
    closeTrip s = tripFiled e (recordOfTrip s) (roomMade e lost s) := by
  obtain ⟨hchoose, hloss⟩ := chooseLogEntry_of_is (s := countTrip s) h
  unfold closeTrip
  dsimp only
  rw [hchoose, tripRecordNow_countTrip, roomMade]
  by_cases hlost : lost = true
  · rw [if_pos (hloss.mpr hlost), if_pos hlost]
    rfl
  · rw [if_neg (hloss.not.mpr hlost), if_neg hlost]
    rfl

theorem tripFiled_keeps (e : Fin 24) (r : TripRecord) (s : State) : Keeps [.mtc, .cps] s (tripFiled e r s) :=
  ((((modMtc_keeps _ s).trans (modCps_keeps _ _)).trans (modMtc_keeps _ _)).trans (modMtc_keeps _ _)).trans (requestCommit_keeps _)
    |>.mono (by decide)

theorem tripFiled_asks (e : Fin 24) (r : TripRecord) (s : State) : AsksCommitBeside (writeWithoutEntry e) s (tripFiled e r s) := by
  rw [AsksCommitBeside, ← writeWithoutEntry_eq]
  exact requestCommit_asks _

theorem roomMade_keeps (e : Fin 24) (lost : Bool) (s : State) : Keeps [.mtc, .txq] s (roomMade e lost s) := by
  have hcount : Keeps [.mtc] s (countTrip s) := modMtc_keeps _ s
  have hlose : Keeps [.mtc, .txq] (countTrip s) (loseTrip e (countTrip s)) := by
    rw [loseTrip_eq]
    exact keeps_iff.mpr (by simp [modTotals])
  unfold roomMade
  split_ifs
  exacts [(hcount.trans hlose).mono (by decide), hcount.mono (by decide)]

theorem roomMade_txq (e : Fin 24) (lost : Bool) (s : State) : (roomMade e lost s).txq = withoutTripFrame e lost s := by
  cases lost with
  | false => rfl
  | true =>
    have hcounted : withoutTripFrame e true (countTrip s) = withoutTripFrame e true s := rfl
    rw [roomMade, if_pos rfl, loseTrip_eq, ← hcounted]

theorem tripFiled_mtc (e : Fin 24) (lost : Bool) (s : State) :
    (tripFiled e (recordOfTrip s) (roomMade e lost s)).mtc = mtcAfterTrip s e lost := by
  cases lost with
  | false => rfl
  | true =>
    rw [roomMade, if_pos rfl, loseTrip_eq]
    rfl

theorem closeTrip_closed {e : Fin 24} {lost : Bool} {s : State} (h : TripEntryIs e lost s) : TripClosed e lost s (closeTrip s) := by
  have hroom := roomMade_keeps e lost s
  have hfiled := tripFiled_keeps e (recordOfTrip s) (roomMade e lost s)
  rw [closeTrip_eq h]
  refine ⟨tripFiled_mtc e lost s, (hfiled .txq (by decide)).trans (roomMade_txq e lost s), ?_, (hroom.trans hfiled).mono (by decide)⟩
  rw [AsksCommitBeside, tripFiled_asks, hroom .cps (by decide)]

theorem withoutTripFrame_length (e : Fin 24) (lost : Bool) (s : State) :
    (withoutTripFrame e lost s).frames.length ≤ s.txq.frames.length := by
  unfold withoutTripFrame
  split_ifs
  exacts [withoutOrigin_length _ s, le_rfl]

/-! CLEAR (R27, R31). -/

/-- A close of a second where only the parts named have changed. -/
theorem ClosesSecond.rebase {s s' t t' : State} (h : ClosesSecond s t) (hs : SecondSame s' s) (hfrc : s'.frc = s.frc)
    (ht : t'.frc = t.frc) (hgroup : fareGroupNow t' = fareGroupNow t) : ClosesSecond s' t' := by
  rw [ClosesSecond, ht, hgroup, hfrc, ← hs.shiftPulses, ← hs.hireAfter]
  exact h

/-- What a CLEAR leaves (R37, R50). -/
structure TripCleared (e : Fin 24) (lost : Bool) (s t : State) : Prop where
  closes : ClosesSecond s t
  mtc : t.mtc = { mtcAfterTrip s e lost with meter := .vacant, holdTimer := none }
  becomes : StatusBecomes .available .change s t
  joined : JoinedLive .status { s with txq := withoutTripFrame e lost s } t
  asks : AsksCommitBeside (writeWithoutEntry e) s t

theorem TripCleared.of_keeps {e : Fin 24} {lost : Bool} {s t u : State} (h : TripCleared e lost s t)
    (hu : Keeps [.mem, .atc, .pins] t u) : TripCleared e lost s u := by
  refine ⟨h.closes.rebase ⟨rfl, rfl, rfl, rfl, rfl, rfl, rfl⟩ rfl (hu .frc (by decide)) (fareGroupNow_of_answer hu),
    (hu .mtc (by decide)).trans h.mtc, h.becomes.congr rfl (hu .dsc (by decide)), h.joined.congr rfl (hu .txq (by decide)), ?_⟩
  rw [AsksCommitBeside, hu .cps (by decide)]
  exact h.asks

/-- The press of CLEAR in PAYMENT after the hold. -/
def cleared (s : State) : State := meterChange .vacant (stopHold (closeTrip s))

theorem pressClear_taken {s : State} (hm : s.mtc.meter = .payment) (hh : s.mtc.holdEnded = true) (b : Bool) :
    pressKey .clear b s = (.done, cleared s) := by
  rw [pressKey, pressClear, hm]
  exact if_pos hh

/-- The parts that say what CLEAR left, and those that its callers carry on from. -/
structure ClearTaken (e : Fin 24) (lost : Bool) (s t : State) : Prop where
  cleared : TripCleared e lost s t
  port : PortUpdated s t
  attends : Attends (ringAtClose s) (channelsAtClose s ++ [.status, .meter]) s t
  now : MatchesNow t
  keeps : Keeps [.frc, .mtc, .dsc, .txq, .wpt, .atc, .cps] s t

theorem cleared_taken {e : Fin 24} {lost : Bool} {s : State} (hm : s.mtc.meter = .payment) (hst : s.dsc.status = .hired)
    (hroom : HasRoom s) (he : TripEntryIs e lost s) : ClearTaken e lost s (cleared s) := by
  have hclosed := closeTrip_closed he
  let ready := stopHold (closeTrip s)
  have hk : Keeps [.mtc, .txq, .cps] s ready := (hclosed.keeps.trans (modMtc_keeps _ _)).mono (by decide)
  have hmtc : ready.mtc = { mtcAfterTrip s e lost with holdTimer := none } := by
    rw [← hclosed.mtc]
    rfl
  have htxq : ready.txq = withoutTripFrame e lost s := hclosed.txq
  have hcps : ready.cps = _ := hclosed.asks
  have hmeter : ready.mtc.meter = .payment := by rw [hmtc]; exact hm
  have hdsc : ready.dsc = s.dsc := hk .dsc (by decide)
  have hfrc : ready.frc = s.frc := hk .frc (by decide)
  have hsame : SecondSame s ready :=
    ⟨by rw [hmeter, hm], by rw [hfrc], by rw [hfrc], by rw [hfrc], by rw [hfrc], by rw [hcps], hk .atc (by decide)⟩
  have htold : MeterTold .available .vacant ready (cleared s) :=
    meterChange_told (fun u => by rw [hmeter]; rfl) (by rw [HasRoom, htxq]; exact (withoutTripFrame_length e lost s).trans_lt hroom)
      (by simp [hdsc, hst]) (by simp [hdsc, hst]) (by decide)
  have hkeeps := hk.trans (htold.keeps_oft (by simp [hdsc, hst]))
  obtain ⟨hmoved, hbecomes, -, hjoined⟩ := htold
  have hatt := hmoved.attends
  rw [hsame.ring, hsame.channels] at hatt
  refine ⟨⟨hmoved.closes.rebase hsame hfrc.symm rfl rfl, ?_, hbecomes.congr hdsc.symm rfl, hjoined.congr htxq.symm rfl, ?_⟩,
    hmoved.port.congr (hk .wpt (by decide)).symm rfl,
    hatt.rebase (hk .atc (by decide)).symm (hk .phase (by decide)).symm (.of_mem (hk .mem (by decide))), hmoved.now,
    hkeeps.mono (by decide)⟩
  · rw [hmoved.mtc, hmtc]
  · rw [AsksCommitBeside, hmoved.asks, hcps]
    split_ifs <;> simp_all

/-- Settles O19: after the hold a CLEAR files the record, and then the meter moves from PAYMENT to VACANT. -/
theorem clearClosesTheTrip : Obligations.ClearClosesTheTrip := by
  refine ⟨fun s n hn => ?_, ?_⟩
  · have heff : effect .paymentHoldExpiry s = s.modMtc fun m => { m with holdTimer := none, holdEnded := true } := by
      simp [effect, endHold, hn]
    exact completes_of_effect heff ⟨rfl, (modMtc_keeps _ s).trans (driveLines_keeps _), driveLines_onlyLines rfl⟩
  intro s e lost hm hh hst hroom he closed
  refine ⟨fun hstage => ?_, fun r rest hwf h hcode hctl => ?_⟩
  · have hwork := cleared_taken hm hst hroom he
    exact completes_keyPress hstage (pressClear_taken hm hh false) hwork.keeps (by decide) hwork.attends hwork.now
      fun t ht hraises hk hlines => by
        have hc := hwork.cleared.of_keeps (ht.mono (by decide))
        have hport := hwork.port.congr (s' := s) rfl (ht .wpt (by decide))
        exact ⟨⟨hc.closes, hc.mtc, hc.becomes, hc.joined, hc.asks⟩, hraises, hport.onlyUpdates, hport.rewritesOnce, hk, hlines⟩
  · have hwork := cleared_taken (s := leaveList rest s) hm hst hroom he
    exact completes_meterKey hwf h hcode rfl hctl (pressClear_taken (s := leaveList rest s) hm hh true) hwork.keeps (by decide) (by decide)
      hwork.port.onlyUpdates (by rw [hwork.cleared.mtc]) hwork.attends hwork.now
      fun t ht hraises hprompt hlist hk hlines => by
        have hc := hwork.cleared.of_keeps ht
        have hport := hwork.port.congr (s' := leaveList rest s) rfl (ht .wpt (by decide))
        exact ⟨⟨hc.closes, hc.mtc, hc.becomes, hc.joined, hc.asks⟩, hraises, hprompt, hlist, hport.rewritesOnce,
          hk.mono (by decide), hlines⟩

end Sys2Proof.Machine
end

section
/-! PROOF. The settlement of a bid that ends early (R74). -/

namespace Sys2Proof.Machine

/-- One of a vector's entries replaced: only that entry has changed. -/
theorem onlyOffer_of_entries {e : Fin 8} {x : OfferEntry} {s t : State}
    (h : t.oft = { s.oft with entries := s.oft.entries.set e.val x e.isLt }) : OnlyOffer e s t ∧ t.oft.entries.get e = x := by
  rw [OnlyOffer, h]
  refine ⟨⟨rfl, fun y hy => ?_⟩, by simp [Vector.get_eq_getElem]⟩
  have hne : e.val ≠ y.val := fun h => hy (Fin.ext h.symm)
  simp [Vector.get_eq_getElem, Vector.getElem_set_ne, hne]

/-- The queue once the bid of an entry has been settled: its newest BID frame has left if it waited (R74; log entry 40). -/
def queueSettled (e : Fin 8) (s : State) : List Frame :=
  let entry := s.oft.entries.get e
  let own := isBidOf e entry.number
  if entry.bidFrame ≠ .none ∧ removalOf s.txq.frames own = .removed then withoutNewest s.txq.frames own else s.txq.frames

/-- The entry once its bid has been settled (R74). -/
def entrySettled (e : Fin 8) (state : OfferState) (reason : OfferReason) (s : State) : OfferEntry :=
  let entry := s.oft.entries.get e
  { entry.ended state reason with
    bidFrame := bidFrameAfter entry.bidFrame (removalOf s.txq.frames (isBidOf e entry.number)) }

/-- A bid has ended without a REFUSE (R74). -/
structure BidSettled (e : Fin 8) (state : OfferState) (reason : OfferReason) (s t : State) : Prop where
  oft : t.oft = { s.oft with entries := s.oft.entries.set e.val (entrySettled e state reason s) e.isLt }
  txq : t.txq = { s.txq with frames := queueSettled e s }
  keeps : Keeps [.oft, .txq, .atc] s t
  attends : Attends s.atc [] s t
  now : MatchesNow t

section
variable (e : Fin 8) (state : OfferState) (reason : OfferReason) (s : State)

/-- The mark of the entry's BID frame after the queue's answer (R74, steps 2 and 3). -/
def markAfter : BidFrame :=
  bidFrameAfter (s.oft.entries.get e).bidFrame (removalOf s.txq.frames (isBidOf e (s.oft.entries.get e).number))

/-- The entry has ended and its mark has been moved (R74, steps 1 to 3). -/
def markSettled : State :=
  updateOffer e (fun x => { x with awardRemaining := 0, bidFrame := markAfter e s }) (endOffer e state reason s)

theorem endBid_eq : endBid e state reason none s =
    if (s.oft.entries.get e).bidFrame = .none then markSettled e state reason s
    else removeWaiting (isBidOf e (s.oft.entries.get e).number) (markSettled e state reason s) := by
  have hentry : (endOffer e state reason s).oft.entries.get e = (s.oft.entries.get e).ended state reason := updateOffer_entry e _ s
  have htxq : (endOffer e state reason s).txq = s.txq := updateOffer_keeps e _ s .txq (by decide)
  simp only [endBid, settleBid, hentry, htxq, OfferEntry.ended]
  rfl

theorem markSettled_keeps : Keeps [.oft, .atc] s (markSettled e state reason s) :=
  ((updateOffer_keeps e _ s).trans (updateOffer_keeps e _ _)).mono (by decide)

theorem markSettled_oft : (markSettled e state reason s).oft =
    { s.oft with entries := s.oft.entries.set e.val (entrySettled e state reason s) e.isLt } := by
  have hentry : (endOffer e state reason s).oft.entries.get e = (s.oft.entries.get e).ended state reason := updateOffer_entry e _ s
  have hoft : (endOffer e state reason s).oft = _ := updateOffer_oft e _ s
  rw [markSettled, updateOffer_oft, hentry, hoft]
  simp [entrySettled, OfferEntry.ended, markAfter]

theorem markSettled_attends : Attends s.atc [] s (markSettled e state reason s) :=
  ((updateOffer_attends s e _).trans (updateOffer_attends _ e _)).congr (by simp)

theorem endBid_settled : BidSettled e state reason s (endBid e state reason none s) := by
  have hkeeps := markSettled_keeps e state reason s
  have hnow : MatchesNow (markSettled e state reason s) := updateOffer_matchesNow _ e _
  have htxq := hkeeps .txq (by decide)
  by_cases hleaves : (s.oft.entries.get e).bidFrame ≠ .none ∧
      removalOf s.txq.frames (isBidOf e (s.oft.entries.get e).number) = .removed
  · have hend : endBid e state reason none s =
        modFrames (fun fs => withoutNewest fs (isBidOf e (s.oft.entries.get e).number)) (markSettled e state reason s) := by
      rw [endBid_eq, if_neg hleaves.1, removeWaiting, htxq, if_pos hleaves.2]
    rw [hend]
    have hframes := modTxq_keeps (fun q => { q with frames := withoutNewest q.frames (isBidOf e (s.oft.entries.get e).number) })
      (markSettled e state reason s)
    exact ⟨markSettled_oft e state reason s, by rw [queueSettled, if_pos hleaves, ← htxq]; rfl,
      (hkeeps.trans hframes).mono (by decide), (markSettled_attends e state reason s).then_atc rfl rfl (.refl _),
      hnow.of_flags (s := markSettled e state reason s) rfl ⟨rfl, rfl, rfl, rfl, rfl, rfl, rfl⟩ (.refl _) rfl rfl⟩
  · have hend : endBid e state reason none s = markSettled e state reason s := by
      rw [endBid_eq, removeWaiting, htxq]
      split_ifs with h1 h2
      exacts [rfl, absurd ⟨h1, h2⟩ hleaves, rfl]
    rw [hend]
    exact ⟨markSettled_oft e state reason s, by rw [queueSettled, if_neg hleaves, htxq], hkeeps.mono (by decide),
      markSettled_attends e state reason s, hnow⟩

end

/-! What the settlement comes to, by the queue's answer. -/

section
variable {e : Fin 8} {state : OfferState} {reason : OfferReason} {s : State}

theorem settled_of_none (h : (s.oft.entries.get e).bidFrame = .none) :
    entrySettled e state reason s = (s.oft.entries.get e).ended state reason ∧ queueSettled e s = s.txq.frames := by
  refine ⟨?_, if_neg (by simp [h])⟩
  rw [entrySettled, h]
  simp [bidFrameAfter, OfferEntry.ended, ← h]

theorem settled_of_newest (h : (s.oft.entries.get e).bidFrame ≠ .none) {f : Frame}
    (hf : newestFrame s.txq.frames (isBidOf e (s.oft.entries.get e).number) = some f) :
    removalOf s.txq.frames (isBidOf e (s.oft.entries.get e).number) = (if f.inFlight = true then .inFlight else .removed) ∧
    entrySettled e state reason s =
      { (s.oft.entries.get e).ended state reason with
        bidFrame := if f.inFlight = true then BidFrame.transmitted else .none } ∧
    queueSettled e s =
      if f.inFlight = true then s.txq.frames
      else withoutNewest s.txq.frames (isBidOf e (s.oft.entries.get e).number) := by
  have hremoval : removalOf s.txq.frames (isBidOf e (s.oft.entries.get e).number) =
      (if f.inFlight = true then .inFlight else .removed) := by
    rw [removalOf, hf]
  rw [entrySettled, queueSettled, hremoval]
  cases hb : (s.oft.entries.get e).bidFrame <;> by_cases hi : f.inFlight = true <;> simp_all [bidFrameAfter]

end

theorem queueSettled_length (e : Fin 8) (s : State) : (queueSettled e s).length ≤ s.txq.frames.length := by
  unfold queueSettled
  dsimp only
  split_ifs
  exacts [(withoutNewest_sublist _ _).length_le, le_rfl]

/-! A bid given up on the cab's side, with its REFUSE (R74, R80). -/

/-- The REFUSE of an entry. -/
def refusalOf (e : Fin 8) (reason : RefuseReason) (s : State) : Frame :=
  newFrame .refuse [.offer e (s.oft.entries.get e).number] (.fixed (.refuse (s.oft.entries.get e).number reason))

/-- A REFUSE is queued where none is PENDING (R80). -/
structure Refuses (e : Fin 8) (reason : RefuseReason) (s t : State) : Prop where
  pending : (s.oft.entries.get e).refusePending = true → t = s
  oft : (s.oft.entries.get e).refusePending = false →
    t.oft = { s.oft with entries := s.oft.entries.set e.val { s.oft.entries.get e with refusePending := true } e.isLt }
  joined : (s.oft.entries.get e).refusePending = false → Joined (refusalOf e reason s) s t
  keeps : Keeps [.oft, .txq, .atc] s t
  attends : Attends s.atc [] s t
  now : MatchesNow s ∨ (s.oft.entries.get e).refusePending = false → MatchesNow t

theorem queueRefuse_refuses {e : Fin 8} {reason : RefuseReason} {s : State} (hroom : HasRoom s) :
    Refuses e reason s (queueRefuse e reason s) := by
  by_cases hp : (s.oft.entries.get e).refusePending = true
  · have heq : queueRefuse e reason s = s := if_pos hp
    rw [heq]
    exact ⟨fun _ => rfl, fun h => absurd hp (by simp [h]), fun h => absurd hp (by simp [h]), .refl _ s, .of_atc rfl rfl (.refl _),
      fun h => h.elim id fun hno => absurd hp (by simp [hno])⟩
  · have heq : queueRefuse e reason s = joinQueue (refusalOf e reason s) (updateOffer e (fun x => { x with refusePending := true }) s) :=
      if_neg hp
    have hmark : Keeps [.oft, .atc] s (updateOffer e (fun x => { x with refusePending := true }) s) := updateOffer_keeps e _ s
    have htxq := hmark .txq (by decide)
    have hroom' : HasRoom (updateOffer e (fun x => { x with refusePending := true }) s) := by rwa [HasRoom, htxq]
    have hjoin := joinQueue_keeps hroom' (refusalOf e reason s)
    rw [heq]
    refine ⟨fun h => absurd h hp, fun _ => ?_, fun _ => ?_, (hmark.trans hjoin).mono (by decide),
      (updateOffer_attends s e _).then_atc (hjoin .atc (by decide)) (hjoin .phase (by decide)) (.of_mem (hjoin .mem (by decide))),
      fun _ => ?_⟩
    · rw [hjoin .oft (by decide), updateOffer_oft]
    · rw [Joined, joinQueue_joined hroom', htxq]
    · exact (updateOffer_matchesNow s e _).of_same (hjoin.mono (by decide)) (.of_mem (hjoin .mem (by decide)))
        (by rw [hjoin .atc (by decide)]) (by rw [hjoin .atc (by decide)])

/-- A bid has been given up (R74). -/
structure GaveUp (e : Fin 8) (reason : OfferReason) (refusal : RefuseReason) (s t : State) : Prop where
  bid : BidGivenUp e reason refusal s t
  keeps : Keeps [.oft, .txq, .atc] s t
  attends : Attends s.atc [] s t
  now : MatchesNow t

theorem endBid_some (e : Fin 8) (reason : OfferReason) (refusal : RefuseReason) (s : State) :
    endBid e .withdrawn reason (some refusal) s =
      if bidWasTransmitted (s.oft.entries.get e).bidFrame (removalOf s.txq.frames (isBidOf e (s.oft.entries.get e).number)) = true
      then queueRefuse e refusal (endBid e .withdrawn reason none s) else endBid e .withdrawn reason none s := by
  have hentry : (endOffer e .withdrawn reason s).oft.entries.get e = (s.oft.entries.get e).ended .withdrawn reason :=
    updateOffer_entry e _ s
  have htxq : (endOffer e .withdrawn reason s).txq = s.txq := updateOffer_keeps e _ s .txq (by decide)
  simp only [endBid, settleBid, hentry, htxq, OfferEntry.ended]

theorem endBid_gaveUp {e : Fin 8} {reason : OfferReason} {refusal : RefuseReason} {s : State} (hroom : HasRoom s) :
    GaveUp e reason refusal s (endBid e .withdrawn reason (some refusal) s) := by
  have hset := endBid_settled e .withdrawn reason s
  obtain ⟨honly, hentry⟩ := onlyOffer_of_entries hset.oft
  have hroom' : HasRoom (endBid e .withdrawn reason none s) := by
    rw [HasRoom, hset.txq]
    exact (queueSettled_length e s).trans_lt hroom
  have href : Refuses e refusal (endBid e .withdrawn reason none s) (queueRefuse e refusal (endBid e .withdrawn reason none s)) :=
    queueRefuse_refuses hroom'
  have hrefuse : (refusalOf e refusal (endBid e .withdrawn reason none s)) = refusalOf e refusal s := by
    rw [refusalOf, hentry]
    rfl
  have hpend : ((endBid e .withdrawn reason none s).oft.entries.get e).refusePending = (s.oft.entries.get e).refusePending := by
    rw [hentry]
    rfl
  rw [endBid_some]
  by_cases hsent : bidWasTransmitted (s.oft.entries.get e).bidFrame
      (removalOf s.txq.frames (isBidOf e (s.oft.entries.get e).number)) = true
  · have hbid : (s.oft.entries.get e).bidFrame ≠ .none := by
      rintro h
      simp [h, bidWasTransmitted] at hsent
    rw [if_pos hsent]
    refine ⟨?_, (hset.keeps.trans href.keeps).mono (by decide),
      ((hset.attends.trans href.attends).congr (by simp)), href.now (.inl hset.now)⟩
    by_cases hp : (s.oft.entries.get e).refusePending = true
    · rw [href.pending (hpend.trans hp)]
      refine ⟨honly, fun h => absurd h hbid, fun _ f hf => ?_⟩
      obtain ⟨-, hsettled, hqueue⟩ := settled_of_newest (state := .withdrawn) (reason := reason) hbid hf
      rw [if_neg (by simp [hp]), hentry, hset.txq, hsettled, hqueue]
      exact ⟨rfl, rfl⟩
    · have hp' : (s.oft.entries.get e).refusePending = false := by simpa using hp
      have hoft := href.oft (hpend.trans hp')
      rw [hentry, hset.oft, Vector.set_set] at hoft
      obtain ⟨honly', hentry'⟩ := onlyOffer_of_entries hoft
      have hjoin := href.joined (hpend.trans hp')
      rw [Joined, hset.txq, hrefuse] at hjoin
      refine ⟨honly', fun h => absurd h hbid, fun _ f hf => ?_⟩
      obtain ⟨hreply, hsettled, hqueue⟩ := settled_of_newest (state := .withdrawn) (reason := reason) hbid hf
      have hwas : (s.oft.entries.get e).bidFrame = .transmitted ∨ f.inFlight = true := by
        rw [hreply] at hsent
        by_cases hi : f.inFlight = true
        · exact .inr hi
        · simpa [bidWasTransmitted, hi] using hsent
      rw [if_pos ⟨hwas, hp'⟩, hentry', hjoin, hsettled, hqueue]
      exact ⟨rfl, rfl⟩
  · rw [if_neg hsent]
    refine ⟨⟨honly, fun hb => ?_, fun hb f hf => ?_⟩, hset.keeps, hset.attends, hset.now⟩
    · obtain ⟨hsettled, hqueue⟩ := settled_of_none (state := .withdrawn) (reason := reason) hb
      rw [hentry, hset.txq, hsettled, hqueue]
      exact ⟨rfl, rfl⟩
    · obtain ⟨hreply, hsettled, hqueue⟩ := settled_of_newest (state := .withdrawn) (reason := reason) hb hf
      have hnot : ¬((s.oft.entries.get e).bidFrame = .transmitted ∨ f.inFlight = true) := by
        rw [hreply] at hsent
        rintro (h | h)
        · simp [bidWasTransmitted, h] at hsent
        · cases hbf : (s.oft.entries.get e).bidFrame <;> simp_all [bidWasTransmitted]
      rw [if_neg (fun h => hnot h.1), hentry, hset.txq, hsettled, hqueue]
      exact ⟨rfl, rfl⟩

end Sys2Proof.Machine
end

section
/-! PROOF. The end of a bid, an offer or an assignment on the base's side (O37). -/

namespace Sys2Proof.Machine

/-! The status out of BIDDING (R49). -/

/-- Out of BIDDING the status moves without a STATUS frame, and the offer table does nothing but for HIRED (R49, R83). -/
theorem setStatus_leavesBidding {new : DispatchStatus} {reason : StatusReason} {s : State} (hold : s.dsc.status = .bidding)
    (hbidding : new ≠ .bidding) (hhired : new ≠ .hired) : setStatus new reason s = statusJudged new s := by
  have hne : new ≠ s.dsc.status := by rwa [hold]
  unfold setStatus
  simp [hold, hbidding, hhired, reportStatus, statusJudged]

theorem statusJudged_leavesBidding {new : DispatchStatus} {s : State} (hold : s.dsc.status = .bidding) :
    (statusJudged new s).dsc = { s.dsc with status := new } := by
  rw [statusJudged, rejudge_keeps _ .dsc (by decide), State.modDsc_dsc, hold]
  rfl

theorem statusJudged_matchesNow {new : DispatchStatus} {s : State} : MatchesNow (statusJudged new s) := rejudge_matchesNow _

/-- What a channel set at the end adds. -/
theorem MatchesNow.setChannel {s : State} (h : MatchesNow s) (c : Channel) : MatchesNow (setChannel c s) :=
  h.then_sets (setChannel_sets c s) ((setChannel_keeps c s).mono (by decide)) (.of_mem (setChannel_keeps c s .mem (by decide)))

theorem Attends.setChannel {ring : Atc} {cs : List Channel} {s t : State} (h : Attends ring cs s t) {c : Channel}
    (hc : c ≠ .pattern) : Attends ring (cs ++ [c]) s (setChannel c t) := h.trans (setChannel_attends hc t)

/-! A bid that the base has ended. -/

/-- A bid has ended on the base's side, and the host is told (R74, R81). -/
structure EndedByBase (e : Fin 8) (state : OfferState) (reason : OfferReason) (s t : State) : Prop where
  bid : BidEnded e state reason s t
  keeps : Keeps [.dsc, .oft, .txq, .atc] s t
  attends : Attends s.atc [.offerResult] s t
  now : MatchesNow t
  queue : t.txq = { s.txq with frames := queueSettled e s }

theorem endBidByBase_ended (e : Fin 8) (state : OfferState) (reason : OfferReason) {s : State} (hst : s.dsc.status = .bidding) :
    EndedByBase e state reason s (endBidByBase e state reason s) := by
  let settled := endBid e state reason none s
  have hset : BidSettled e state reason s settled := endBid_settled e state reason s
  have hold : settled.dsc.status = .bidding := by rw [hset.keeps .dsc (by decide), hst]
  have hwork : endBidByBase e state reason s = setChannel .offerResult (statusJudged .available settled) := by
    rw [endBidByBase, requestStatus, if_pos (by simp [settled] at hold; simp [hold]),
      setStatus_leavesBidding hold (by decide) (by decide)]
  have hjudged : Keeps [.dsc, .atc] settled (statusJudged .available settled) := statusJudged_keeps
  have hlast := setChannel_keeps .offerResult (statusJudged .available settled)
  have hk : Keeps [.dsc, .atc] settled (endBidByBase e state reason s) := by
    rw [hwork]
    exact (hjudged.trans hlast).mono (by decide)
  have hdsc : (endBidByBase e state reason s).dsc = { s.dsc with status := .available } := by
    rw [hwork, hlast .dsc (by decide), statusJudged_leavesBidding hold, hset.keeps .dsc (by decide)]
  have hoft := (hk .oft (by decide)).trans hset.oft
  have htxq := (hk .txq (by decide)).trans hset.txq
  obtain ⟨honly, hentry⟩ := onlyOffer_of_entries hoft
  refine ⟨⟨honly, hdsc, fun hb => ?_, fun hb f hf => ?_⟩, (hset.keeps.trans hk).mono (by decide), ?_, ?_, htxq⟩
  · obtain ⟨hsettled, hqueue⟩ := settled_of_none (state := state) (reason := reason) hb
    rw [hentry, htxq, hsettled, hqueue]
    exact ⟨rfl, rfl⟩
  · obtain ⟨-, hsettled, hqueue⟩ := settled_of_newest (state := state) (reason := reason) hb hf
    rw [hentry, htxq, hsettled, hqueue]
    split_ifs
    exacts [⟨rfl, rfl⟩, ⟨rfl, rfl⟩]
  · rw [hwork]
    exact ((hset.attends.trans statusJudged_attends).setChannel (by decide)).congr (by simp)
  · rw [hwork]
    exact statusJudged_matchesNow.setChannel _

/-! An entry that has ended. -/

/-- One entry has ended, and the host is told (R69, R81, R82). -/
structure EntryEnded (e : Fin 8) (state : OfferState) (reason : OfferReason) (s t : State) : Prop where
  oft : t.oft = { s.oft with entries := s.oft.entries.set e.val ((s.oft.entries.get e).ended state reason) e.isLt }
  keeps : Keeps [.oft, .atc] s t
  attends : Attends s.atc [.offerResult] s t
  now : MatchesNow t

theorem endOffer_ended (e : Fin 8) (state : OfferState) (reason : OfferReason) (s : State) :
    EntryEnded e state reason s (setChannel .offerResult (endOffer e state reason s)) :=
  ⟨(setChannel_keeps _ _ .oft (by decide)).trans (updateOffer_oft e _ s),
    ((updateOffer_keeps e _ s).trans (setChannel_keeps _ _)).mono (by decide),
    (updateOffer_attends s e _).setChannel (by decide), (updateOffer_matchesNow s e _).setChannel _⟩

/-! An award taken back (R82). -/

theorem withdrawAwarded_other {e : Fin 8} {s : State} (h : s.oft.assignment ≠ some e) :
    withdrawAwarded e s = setChannel .offerResult (endOffer e .withdrawn .base s) := by
  rw [withdrawAwarded]
  simp only [if_neg h]

/-- The assignment has been taken back, with a STATUS frame (R51, R82, R83). -/
structure TakenBack (e : Fin 8) (s t : State) : Prop where
  oft : t.oft = { s.oft with
    assignment := none
    entries := s.oft.entries.set e.val ((s.oft.entries.get e).ended .withdrawn .base) e.isLt }
  becomes : StatusBecomes .available .change s t
  joined : JoinedLive .status s t
  keeps : Keeps [.dsc, .oft, .txq, .atc] s t
  attends : Attends s.atc [.status, .offerResult] s t
  now : MatchesNow t

theorem withdrawAwarded_back {e : Fin 8} {s : State} (h : s.oft.assignment = some e) (hst : s.dsc.status = .assigned)
    (hroom : HasRoom s) : TakenBack e s (withdrawAwarded e s) := by
  let ended := endOffer e .withdrawn .base s
  have hended : Keeps [.oft, .atc] s ended := updateOffer_keeps e _ s
  have hdsc : ended.dsc = s.dsc := hended .dsc (by decide)
  have htxq : ended.txq = s.txq := hended .txq (by decide)
  have hwork : withdrawAwarded e s = setChannel .offerResult (setStatus .available .change ended) := by
    rw [withdrawAwarded]
    simp only [if_pos h]
    rw [requestStatus, if_pos (by rw [hdsc, hst]; decide)]
  have hmoved : StatusMoved .available .change ended (setStatus .available .change ended) :=
    setStatus_moved (by rwa [HasRoom, htxq]) (by simp [hdsc, hst]) (by simp [hdsc, hst]) (by decide)
  have hlast := setChannel_keeps .offerResult (setStatus .available .change ended)
  rw [hwork]
  refine ⟨?_, hmoved.becomes.congr hdsc.symm (hlast .dsc (by decide)), hmoved.joined.congr htxq.symm (hlast .txq (by decide)),
    ((hended.trans hmoved.keeps).trans hlast).mono (by decide), ?_, hmoved.now.setChannel _⟩
  · rw [hlast .oft (by decide), hmoved.ends, hdsc, if_pos hst, show ended.oft = _ from updateOffer_oft e _ s]
    rfl
  · exact (((updateOffer_attends s e _).trans hmoved.attends).setChannel (by decide)).congr (by simp)

/-! The frames. -/

theorem takeOtherAward_ended {e : Fin 8} {s : State} :
    ((s.oft.entries.get e).state.bidding = true → takeOtherAward e s = endBidByBase e .lost .otherCab s) ∧
    ((s.oft.entries.get e).state = .open → takeOtherAward e s = setChannel .offerResult (endOffer e .lost .otherCab s)) ∧
    ((s.oft.entries.get e).state ∈ [OfferState.awarded, .lost, .expired, .withdrawn, .declined] → takeOtherAward e s = s) := by
  unfold takeOtherAward
  cases h : (s.oft.entries.get e).state <;> simp [OfferState.bidding]

theorem takeWithdraw_ended {number : Nat} {e : Fin 8} {s : State} (h : offerWithNumber s number = some e) :
    ((s.oft.entries.get e).state.bidding = true → takeWithdraw number s = endBidByBase e .withdrawn .base s) ∧
    ((s.oft.entries.get e).state = .open → takeWithdraw number s = setChannel .offerResult (endOffer e .withdrawn .base s)) ∧
    ((s.oft.entries.get e).state = .awarded → takeWithdraw number s = withdrawAwarded e s) ∧
    ((s.oft.entries.get e).state ∈ [OfferState.lost, .expired, .withdrawn, .declined] → takeWithdraw number s = s) := by
  unfold takeWithdraw
  rw [h]
  cases h : (s.oft.entries.get e).state <;> simp [OfferState.bidding, h]

section
variable {c : Instr} {kind : Nat} {f : RxFrame} {how : Addressing} {deliver : Addressing → State → State} {s work : State}
  (hc : effect c s = receiveFrame kind f deliver s) (h : Accepted kind f how s)
  (hwork : deliver how (resumeHunting s) = work)
include hc h hwork

/-- A frame that ends a bid. -/
theorem completes_bidEnded {e : Fin 8} {state : OfferState} {reason : OfferReason}
    (hended : EndedByBase e state reason (resumeHunting s) work) :
    Completes c s fun t => BidEnded e state reason s t ∧ RaisesJudged [.offerResult] s t ∧ OnlyHunting s t ∧
      Keeps [.dsc, .oft, .txq, .ale, .atc, .pins] s t ∧ OnlyLines s t := by
  refine completes_frame hc h hwork ⟨hended.bid, ?_, hended.keeps .ale (by decide),
    (((resumeHunting_keeps s).trans hended.keeps).trans (driveLines_keeps _)).mono (by decide),
    driveLines_onlyLines (hended.keeps .pins (by decide))⟩
  exact (hended.attends.rebase (s' := s) rfl rfl (.refl _)).beside hended.now

/-- A frame that ends an offer. -/
theorem completes_entryEnded {e : Fin 8} {state : OfferState} {reason : OfferReason}
    (hended : EntryEnded e state reason (resumeHunting s) work) :
    Completes c s fun t => t.oft.entries.get e = (s.oft.entries.get e).ended state reason ∧ OnlyOffer e s t ∧
      RaisesJudged [.offerResult] s t ∧ OnlyHunting s t ∧ Keeps [.oft, .ale, .atc, .pins] s t ∧ OnlyLines s t := by
  obtain ⟨honly, hentry⟩ := onlyOffer_of_entries hended.oft
  refine completes_frame hc h hwork ⟨hentry, honly, ?_, hended.keeps .ale (by decide),
    (((resumeHunting_keeps s).trans hended.keeps).trans (driveLines_keeps _)).mono (by decide),
    driveLines_onlyLines (hended.keeps .pins (by decide))⟩
  exact (hended.attends.rebase (s' := s) rfl rfl (.refl _)).beside hended.now

end

/-- Settles O37: the award wait and either frame end a bid by the same settlement; each other state of the entry is a case of
its own. -/
theorem bidEndsOnTheBasesSide : Obligations.BidEndsOnTheBasesSide := by
  refine ⟨fun s e he hst => ?_, fun s f how e h hfound hother => ?_, fun s f how e h hfound => ?_, ?_⟩
  · have hended := endBidByBase_ended e .lost .noAward hst
    exact completes_of_effect (if_pos he) ⟨hended.bid, hended.attends.beside hended.now,
      (hended.keeps.trans (driveLines_keeps _)).mono (by decide), driveLines_onlyLines (hended.keeps .pins (by decide))⟩
  · have hwork : takeAward (bodyWord f.body 0) (bodyWord f.body 2) (resumeHunting s) = takeOtherAward e (resumeHunting s) := by
      have hf : offerWithNumber (resumeHunting s) (bodyWord f.body 0) = some e := hfound
      rw [takeAward, hf]
      exact if_neg hother
    obtain ⟨hbid, hopen, -⟩ := takeOtherAward_ended (e := e) (s := resumeHunting s)
    exact ⟨fun hb hst => completes_bidEnded rfl h (hwork.trans (hbid hb)) (endBidByBase_ended e _ _ hst),
      fun ho => completes_entryEnded rfl h (hwork.trans (hopen ho)) (endOffer_ended e _ _ _)⟩
  · have hf : offerWithNumber (resumeHunting s) (bodyWord f.body 0) = some e := hfound
    obtain ⟨hbid, hopen, hawarded, -⟩ := takeWithdraw_ended hf
    refine ⟨fun hb hst => completes_bidEnded rfl h (hbid hb) (endBidByBase_ended e _ _ hst), fun ho => ?_,
      fun ha hassigned hst hroom => ?_⟩
    · have hwork : takeWithdraw (bodyWord f.body 0) (resumeHunting s) =
          setChannel .offerResult (endOffer e .withdrawn .base (resumeHunting s)) := by
        rcases ho with ho | ⟨ha, hno⟩
        · exact hopen ho
        · exact (hawarded ha).trans (withdrawAwarded_other hno)
      exact completes_entryEnded rfl h hwork (endOffer_ended e _ _ _)
    · have hback := withdrawAwarded_back (s := resumeHunting s) hassigned hst hroom
      refine completes_frame rfl h (hawarded ha) ⟨hback.oft, hback.becomes, hback.joined, ?_, hback.keeps .ale (by decide),
        (((resumeHunting_keeps s).trans hback.keeps).trans (driveLines_keeps _)).mono (by decide),
        driveLines_onlyLines (hback.keeps .pins (by decide))⟩
      exact (hback.attends.rebase (s' := s) rfl rfl (.refl _)).beside hback.now
  · intro s kind f how h found unchanged final
    have halone : ∀ work, work = resumeHunting s → unchanged (driveLines work) := by
      rintro _ rfl
      obtain ⟨hhunting, hkeeps, hlines⟩ := resumeHunting_alone s
      exact ⟨hhunting, hkeeps, hlines⟩
    refine ⟨?_, ?_⟩
    · rintro rfl hother hstate
      refine completes_frame rfl h rfl (halone _ ?_)
      cases hfound : found with
      | none =>
        have hf : offerWithNumber (resumeHunting s) (bodyWord f.body 0) = none := hfound
        rw [takeAward, hf]
        exact if_neg hother
      | some e =>
        have hf : offerWithNumber (resumeHunting s) (bodyWord f.body 0) = some e := hfound
        rw [takeAward, hf]
        exact (if_neg hother).trans (takeOtherAward_ended.2.2 (hstate e hfound))
    · rintro rfl hstate
      refine completes_frame rfl h rfl (halone _ ?_)
      cases hfound : found with
      | none =>
        have hf : offerWithNumber (resumeHunting s) (bodyWord f.body 0) = none := hfound
        rw [takeWithdraw, hf]
      | some e =>
        have hf : offerWithNumber (resumeHunting s) (bodyWord f.body 0) = some e := hfound
        exact (takeWithdraw_ended hf).2.2.2 (hstate e hfound)

end Sys2Proof.Machine
end

section
/-! PROOF. An AWARD for this cab (O38). -/

namespace Sys2Proof.Machine

/-! OPEN entries that end together (R78, R84). -/

/-- One OPEN entry of those that leave is withdrawn, and the host is told or not. -/
def withdrawStep (tell : State → State) (reason : OfferReason) (leaves : Fin 8 → Bool) (s : State) (i : Fin 8) : State :=
  if leaves i = true ∧ (s.oft.entries.get i).state = .open then tell (endOffer i .withdrawn reason s) else s

/-- Telling the host of an entry: at most the pending flags change. -/
structure Tells (cs : List Channel) (tell : State → State) : Prop where
  keeps : ∀ s, Keeps [.atc] s (tell s)
  attends : ∀ s, Attends s.atc cs s (tell s)
  now : ∀ s, MatchesNow s → MatchesNow (tell s)

theorem tells_nothing : Tells [] id := ⟨fun s => .refl _ s, fun _ => .of_atc rfl rfl (.refl _), fun _ => id⟩

theorem tells_offerResult : Tells [.offerResult] (setChannel .offerResult) :=
  ⟨setChannel_keeps _, setChannel_attends (by decide), fun _ h => h.setChannel _⟩

/-- Some OPEN entry of a list leaves. -/
def someLeaves (leaves : Fin 8 → Bool) (l : List (Fin 8)) (s : State) : Bool :=
  l.any fun x => leaves x && (s.oft.entries.get x).state == .open

/-- The OPEN entries of a list that leave have been withdrawn. -/
structure OpenLeft (cs : List Channel) (reason : OfferReason) (leaves : Fin 8 → Bool) (l : List (Fin 8)) (s t : State) : Prop where
  rest : t.oft = { s.oft with entries := t.oft.entries }
  entry : ∀ x, t.oft.entries.get x =
    if x ∈ l ∧ leaves x = true ∧ (s.oft.entries.get x).state = .open then (s.oft.entries.get x).ended .withdrawn reason
    else s.oft.entries.get x
  keeps : Keeps [.oft, .atc] s t
  attends : Attends s.atc (if someLeaves leaves l s = true then cs else []) s t
  now : MatchesNow s → MatchesNow t

theorem withdrawStep_left {cs : List Channel} {tell : State → State} (ht : Tells cs tell) (reason : OfferReason)
    (leaves : Fin 8 → Bool) (s : State) (i : Fin 8) : OpenLeft cs reason leaves [i] s (withdrawStep tell reason leaves s i) := by
  by_cases h : leaves i = true ∧ (s.oft.entries.get i).state = .open
  · have hstep : withdrawStep tell reason leaves s i = tell (endOffer i .withdrawn reason s) := if_pos h
    have hend : Keeps [.oft, .atc] s (endOffer i .withdrawn reason s) := updateOffer_keeps i _ s
    have htell := ht.keeps (endOffer i .withdrawn reason s)
    have hoft : (withdrawStep tell reason leaves s i).oft = { s.oft with
        entries := s.oft.entries.set i.val ((s.oft.entries.get i).ended .withdrawn reason) i.isLt } := by
      rw [hstep, htell .oft (by decide)]
      exact updateOffer_oft i _ s
    obtain ⟨⟨hrest, hothers⟩, hentry⟩ := onlyOffer_of_entries hoft
    refine ⟨hrest, fun x => ?_, ?_, ?_, fun _ => ?_⟩
    · by_cases hx : x = i
      · subst hx
        rw [hentry, if_pos ⟨List.mem_singleton_self x, h⟩]
      · rw [hothers x hx, if_neg (by simp [hx])]
    · rw [hstep]
      exact (hend.trans htell).mono (by decide)
    · have hsome : someLeaves leaves [i] s = true := by simp [someLeaves, h]
      rw [hstep, if_pos hsome]
      exact ((updateOffer_attends s i _).trans (ht.attends _)).congr (by simp)
    · rw [hstep]
      exact ht.now _ (updateOffer_matchesNow s i _)
  · have hstep : withdrawStep tell reason leaves s i = s := if_neg h
    have hsome : someLeaves leaves [i] s = false := by
      simpa [someLeaves] using h
    rw [hstep]
    refine ⟨rfl, fun x => ?_, .refl _ s, ?_, id⟩
    · rw [if_neg]
      rintro ⟨hx, hl⟩
      rw [List.mem_singleton] at hx
      exact h (hx ▸ hl)
    · rw [hsome]
      exact .of_atc rfl rfl (.refl _)

theorem withdrawSteps_left {cs : List Channel} {tell : State → State} (ht : Tells cs tell) (reason : OfferReason)
    (leaves : Fin 8 → Bool) (l : List (Fin 8)) (s : State) :
    OpenLeft cs reason leaves l s (l.foldl (withdrawStep tell reason leaves) s) := by
  induction l generalizing s with
  | nil => exact ⟨rfl, fun x => by simp, .refl _ s, .of_atc rfl rfl (.refl _), id⟩
  | cons i l ih =>
    have hone := withdrawStep_left ht reason leaves s i
    have hmore := ih (withdrawStep tell reason leaves s i)
    refine ⟨?_, fun x => ?_, (hone.keeps.trans hmore.keeps).mono (by decide), ?_, fun h => hmore.now (hone.now h)⟩
    · rw [List.foldl_cons, hmore.rest, hone.rest]
    · have hx := hone.entry x
      rw [List.foldl_cons, hmore.entry x, hx]
      simp only [List.mem_cons, List.not_mem_nil, or_false]
      by_cases hleft : x = i ∧ leaves x = true ∧ (s.oft.entries.get x).state = .open
      · rw [if_pos hleft, if_neg (by simp [OfferEntry.ended]), if_pos ⟨.inl hleft.1, hleft.2⟩]
      · rw [if_neg hleft]
        refine if_congr ?_ rfl rfl
        tauto
    · have hcons : someLeaves leaves (i :: l) s = (someLeaves leaves [i] s || someLeaves leaves l s) := by simp [someLeaves]
      refine (hone.attends.trans hmore.attends).congr fun c => ?_
      rw [hcons]
      by_cases hi : someLeaves leaves [i] s = true
      · simp [hi]
      · have hstep : withdrawStep tell reason leaves s i = s := if_neg (by simpa [someLeaves] using hi)
        simp [hi, hstep]


theorem mem_offerIndices (x : Fin 8) : x ∈ offerIndices := by
  revert x
  decide

/-- Every other OPEN entry has been withdrawn (R78). -/
theorem withdrawOthers_left (e : Fin 8) (s : State) :
    OpenLeft [] .base (fun x => x != e) offerIndices s (withdrawOthers e s) := by
  have heq : withdrawOthers e s = offerIndices.foldl (withdrawStep id .base fun x => x != e) s := by
    refine congrArg (fun g => offerIndices.foldl g s) (funext fun t => funext fun i => ?_)
    simp only [withdrawStep, bne_iff_ne, id_eq]
  rw [heq]
  exact withdrawSteps_left tells_nothing ..

/-! An award taken (R78, R79). -/

section
variable {e : Fin 8} {bf : BidFrame} {s t u : State}

theorem awardTaken_of_left
    (hoft : u.oft = { s.oft with
      assignment := some e
      entries := s.oft.entries.set e.val { (s.oft.entries.get e).ended .awarded .none with bidFrame := bf } e.isLt })
    (h : OpenLeft [] .base (fun x => x != e) offerIndices u t) : AwardTaken e bf s t := by
  refine ⟨?_, ?_, fun x hx => ?_⟩
  · rw [h.rest, hoft]
  · rw [h.entry e, if_neg (by simp), hoft]
    simp [Vector.get_eq_getElem]
  · have hne : e.val ≠ x.val := fun hval => hx (Fin.ext hval.symm)
    have hsame : u.oft.entries.get x = s.oft.entries.get x := by
      rw [hoft]
      simp [Vector.get_eq_getElem, Vector.getElem_set_ne, hne]
    rw [h.entry x, hsame]
    refine if_congr ?_ rfl rfl
    simp [mem_offerIndices, hx]

/-- What an award for this cab comes to: the offer table, and what its callers carry on from. -/
structure Awarded (e : Fin 8) (bf : BidFrame) (changed : List Part) (cs : List Channel) (s t : State) : Prop where
  taken : AwardTaken e bf s t
  keeps : Keeps (.oft :: .atc :: changed) s t
  attends : Attends s.atc cs s t
  now : MatchesNow t

end

section
variable (e : Fin 8) (s : State)

/-- The entry's BID frame has left the queue without an outcome (R78). -/
def bidFrameLeft : State := modFrames (fun fs => withoutNewest fs (isBidOf e (s.oft.entries.get e).number)) s

theorem endBidFrame_eq :
    endBidFrame e s = updateOffer e (fun x => { x with bidFrame := .none }) (bidFrameLeft e s) := rfl

theorem bidFrameLeft_keeps : Keeps [.txq] s (bidFrameLeft e s) := modTxq_keeps _ s

theorem endBidFrame_keeps : Keeps [.oft, .txq, .atc] s (endBidFrame e s) := by
  rw [endBidFrame_eq]
  exact ((bidFrameLeft_keeps e s).trans (updateOffer_keeps e _ _)).mono (by decide)

theorem endBidFrame_attends : Attends s.atc [] s (endBidFrame e s) := by
  rw [endBidFrame_eq]
  have hk := bidFrameLeft_keeps e s
  have hmark := updateOffer_attends (bidFrameLeft e s) e (fun x => { x with bidFrame := .none })
  rw [hk .atc (by decide)] at hmark
  exact hmark.rebase (hk .atc (by decide)).symm (hk .phase (by decide)).symm (.of_mem (hk .mem (by decide)).symm)

theorem endBidFrame_oft : (endBidFrame e s).oft =
    { s.oft with entries := s.oft.entries.set e.val { s.oft.entries.get e with bidFrame := .none } e.isLt } := by
  rw [endBidFrame_eq, updateOffer_oft, bidFrameLeft_keeps e s .oft (by decide)]

theorem endBidFrame_txq : (endBidFrame e s).txq =
    { s.txq with frames := withoutNewest s.txq.frames (isBidOf e (s.oft.entries.get e).number) } := by
  rw [endBidFrame_eq, updateOffer_keeps e _ _ .txq (by decide)]
  rfl

/-- The bid of an entry has been awarded: its frame has left the queue, and the entry is the assignment (R78). -/
def bidAwarded : State := assign e (endBidFrame e (endOffer e .awarded .none s))

theorem awardedEntry : (endOffer e .awarded .none s).oft.entries.get e = (s.oft.entries.get e).ended .awarded .none :=
  updateOffer_entry e _ s

theorem endOffer_keeps (state : OfferState) (reason : OfferReason) : Keeps [.oft, .atc] s (endOffer e state reason s) :=
  updateOffer_keeps e _ s

theorem endOffer_oft (state : OfferState) (reason : OfferReason) : (endOffer e state reason s).oft =
    { s.oft with entries := s.oft.entries.set e.val ((s.oft.entries.get e).ended state reason) e.isLt } := updateOffer_oft e _ s

theorem bidAwarded_keeps : Keeps [.oft, .txq, .atc] s (bidAwarded e s) :=
  (((endOffer_keeps e s _ _).trans (endBidFrame_keeps e _)).trans (modOft_keeps _ _)).mono (by decide)

theorem bidAwarded_attends : Attends s.atc [] s (bidAwarded e s) := by
  have hend : Attends s.atc [] s (endOffer e .awarded .none s) := updateOffer_attends s e _
  have hboth := hend.trans (endBidFrame_attends e (endOffer e .awarded .none s))
  have hassign := modOft_keeps (fun o => { o with assignment := some e }) (endBidFrame e (endOffer e .awarded .none s))
  exact (hboth.then_atc (hassign .atc (by decide)) (hassign .phase (by decide)) (.of_mem (hassign .mem (by decide)))).congr (by simp)

theorem bidAwarded_oft : (bidAwarded e s).oft = { s.oft with
    assignment := some e
    entries := s.oft.entries.set e.val { (s.oft.entries.get e).ended .awarded .none with bidFrame := .none } e.isLt } := by
  rw [bidAwarded, assign, State.modOft_oft, endBidFrame_oft, awardedEntry, endOffer_oft, Vector.set_set]

theorem bidAwarded_txq : (bidAwarded e s).txq = { s.txq with
    frames := withoutNewest s.txq.frames (isBidOf e (s.oft.entries.get e).number) } := by
  rw [bidAwarded, assign, State.modOft_txq, endBidFrame_txq, awardedEntry, endOffer_keeps e s _ _ .txq (by decide)]
  rfl

end

/-- The award of a bid (R78). -/
theorem awardBid_awarded {e : Fin 8} {s : State} (hst : s.dsc.status = .bidding) :
    Awarded e .none [.dsc, .txq] [.offerResult] s (awardBid e s) ∧ (awardBid e s).dsc = { s.dsc with status := .assigned } ∧
      (awardBid e s).txq = { s.txq with frames := withoutNewest s.txq.frames (isBidOf e (s.oft.entries.get e).number) } := by
  let assigned := statusJudged .assigned (bidAwarded e s)
  have haward := bidAwarded_keeps e s
  have hold : (bidAwarded e s).dsc.status = .bidding := by rw [haward .dsc (by decide), hst]
  have hjudged : Keeps [.dsc, .atc] (bidAwarded e s) assigned := statusJudged_keeps
  have hleft := withdrawOthers_left e assigned
  have hwork : awardBid e s = setChannel .offerResult (withdrawOthers e assigned) := by
    have hrequest : requestStatus .assigned [.bidding, .available] (bidAwarded e s) = assigned := by
      rw [requestStatus, if_pos (by simp [hold]), setStatus_leavesBidding hold (by decide) (by decide)]
    exact congrArg (fun x => setChannel .offerResult (withdrawOthers e x)) hrequest
  have hlast := setChannel_keeps .offerResult (withdrawOthers e assigned)
  have hk : Keeps [.oft, .atc] assigned (awardBid e s) := by
    rw [hwork]
    exact (hleft.keeps.trans hlast).mono (by decide)
  have htaken : AwardTaken e .none s (withdrawOthers e assigned) :=
    awardTaken_of_left ((hjudged .oft (by decide)).trans (bidAwarded_oft e s)) hleft
  have hattends : Attends s.atc [] s (withdrawOthers e assigned) :=
    (((bidAwarded_attends e s).trans statusJudged_attends).trans hleft.attends).congr (by simp)
  refine ⟨⟨?_, ((haward.trans hjudged).trans hk).mono (by decide), ?_, ?_⟩, ?_, ?_⟩
  · rw [AwardTaken, hwork, hlast .oft (by decide)]
    exact htaken
  · rw [hwork]
    exact (hattends.setChannel (by decide)).congr (by simp)
  · rw [hwork]
    exact (hleft.now statusJudged_matchesNow).setChannel _
  · rw [hk .dsc (by decide), statusJudged_leavesBidding hold, haward .dsc (by decide)]
  · rw [hk .txq (by decide), hjudged .txq (by decide), bidAwarded_txq]

/-- A late or unasked award that is honoured (R79). -/
theorem honourAward_awarded {e : Fin 8} {s : State} (hst : s.dsc.status = .available) (hroom : HasRoom s) :
    Awarded e (s.oft.entries.get e).bidFrame [.dsc, .txq] [.status, .offerResult] s (honourAward e s) ∧
      StatusBecomes .assigned .change s (honourAward e s) ∧ JoinedLive .status s (honourAward e s) := by
  let assigned := assign e (endOffer e .awarded .none s)
  let told := setChannel .offerResult (withdrawOthers e assigned)
  have hassigned : Keeps [.oft, .atc] s assigned := ((endOffer_keeps e s _ _).trans (modOft_keeps _ _)).mono (by decide)
  have hleft := withdrawOthers_left e assigned
  have hset := setChannel_keeps .offerResult (withdrawOthers e assigned)
  have htold : Keeps [.oft, .atc] s told := ((hassigned.trans hleft.keeps).trans hset).mono (by decide)
  have hdsc : told.dsc = s.dsc := htold .dsc (by decide)
  have htxq : told.txq = s.txq := htold .txq (by decide)
  have hmoved : StatusMoved .assigned .change told (setStatus .assigned .change told) :=
    setStatus_moved (by rwa [HasRoom, htxq]) (by simp [hdsc, hst]) (by simp [hdsc, hst]) (by decide)
  have hwork : honourAward e s = setStatus .assigned .change told := if_pos (by rw [show _ = told.dsc.status from rfl, hdsc, hst]; decide)
  have hoft : assigned.oft = { s.oft with
      assignment := some e
      entries := s.oft.entries.set e.val ((s.oft.entries.get e).ended .awarded .none) e.isLt } := by
    rw [show assigned.oft = { (endOffer e .awarded .none s).oft with assignment := some e } from rfl, endOffer_oft]
  have htaken : AwardTaken e (s.oft.entries.get e).bidFrame s (withdrawOthers e assigned) :=
    awardTaken_of_left hoft hleft
  have hattends : Attends s.atc [] s assigned := by
    have hend : Attends s.atc [] s (endOffer e .awarded .none s) := updateOffer_attends s e _
    exact hend.then_atc rfl rfl (.refl _)
  rw [hwork]
  refine ⟨⟨?_, (htold.trans hmoved.keeps).mono (by decide), ?_, hmoved.now⟩, hmoved.becomes.congr hdsc.symm rfl,
    hmoved.joined.congr htxq.symm rfl⟩
  · have hkept : (setStatus .assigned .change told).oft = (withdrawOthers e assigned).oft := by
      rw [hmoved.ends, hdsc, if_neg (by simp [hst]), show told.oft = _ from hset .oft (by decide)]
    rw [AwardTaken, hkept]
    exact htaken
  · exact (((hattends.trans hleft.attends).setChannel (by decide)).trans hmoved.attends).congr (by simp [or_comm])

/-! An award refused (R80). -/

theorem offerWithNumber_held {s : State} {number : Nat} {e : Fin 8} (h : offerWithNumber s number = some e) :
    (s.oft.entries.get e).state ≠ .empty ∧ (s.oft.entries.get e).number = number := by
  simpa using List.find?_some h

/-- The reason of a refusal, by the call, the status and the entry (R80). -/
theorem refuseReason_entry (s : State) (state : OfferState) : refuseReason s (some state) =
    (if s.emc.state ≠ .quiet then .emergency
      else if s.dsc.status = .hired then .hired
      else if s.dsc.status = .bidding ∨ s.dsc.status = .assigned then .busy
      else if s.dsc.status = .onBreak ∨ s.dsc.status = .offDuty then .unavailable
      else if state = .declined then .declined else .withdrawn) := by
  unfold refuseReason
  cases h : s.dsc.status <;> simp

theorem refuseReason_none (s : State) : refuseReason s none = (if s.emc.state = .quiet then .noOffer else .emergency) := by
  rw [refuseReason]
  simp only [ne_eq, ite_not]

/-- An award for this cab, by the state of the entry that holds the number (R78, R79). -/
theorem takeOwnAward_judged (e : Fin 8) (s : State) :
    ((s.oft.entries.get e).state.bidding = true → takeOwnAward e s = awardBid e s) ∧
    ((s.oft.entries.get e).state ∈ [OfferState.open, .lost, .expired] → s.dsc.status = .available ∧ s.emc.state = .quiet →
      takeOwnAward e s = honourAward e s) ∧
    ((s.oft.entries.get e).state ∈ [OfferState.withdrawn, .declined] ∨
      ((s.oft.entries.get e).state ∈ [OfferState.open, .lost, .expired] ∧ ¬(s.dsc.status = .available ∧ s.emc.state = .quiet)) →
      takeOwnAward e s = refuseAward e s) ∧
    ((s.oft.entries.get e).state = .awarded → takeOwnAward e s = s) := by
  have hmay : mayHonour s = true ↔ s.dsc.status = .available ∧ s.emc.state = .quiet := by simp [mayHonour]
  unfold takeOwnAward
  rw [← hmay]
  cases hm : mayHonour s <;> cases (s.oft.entries.get e).state <;> simp [OfferState.bidding]

/-- Settles O38: an award is judged by the state of the entry that holds its number, and each state is a case of its own. -/
theorem awardIsJudged : Obligations.AwardIsJudged := by
  intro s f how h hcab number
  have hfound : ∀ e, offerWithNumber s number = some e →
      takeAward (bodyWord f.body 0) (bodyWord f.body 2) (resumeHunting s) = takeOwnAward e (resumeHunting s) := fun e he => by
    have hf : offerWithNumber (resumeHunting s) (bodyWord f.body 0) = some e := he
    rw [takeAward, hf]
    exact if_pos hcab
  refine ⟨fun e he hb hst => ?_, fun e he hstate hst hq hroom => ?_, ?_, fun e he hawarded => ?_, fun hnone hroom => ?_⟩
  · obtain ⟨hbid, -⟩ := takeOwnAward_judged e (resumeHunting s)
    obtain ⟨haward, hdsc, htxq⟩ := awardBid_awarded (e := e) (s := resumeHunting s) hst
    refine completes_frame rfl h ((hfound e he).trans (hbid hb)) ⟨haward.taken, hdsc, htxq, ?_, haward.keeps .ale (by decide),
      (((resumeHunting_keeps s).trans haward.keeps).trans (driveLines_keeps _)).mono (by decide),
      driveLines_onlyLines (haward.keeps .pins (by decide))⟩
    exact (haward.attends.rebase (s' := s) rfl rfl (.refl _)).beside haward.now
  · obtain ⟨-, hhonour, -⟩ := takeOwnAward_judged e (resumeHunting s)
    obtain ⟨haward, hbecomes, hjoined⟩ := honourAward_awarded (e := e) (s := resumeHunting s) hst hroom
    refine completes_frame rfl h ((hfound e he).trans (hhonour hstate ⟨hst, hq⟩)) ⟨haward.taken, hbecomes, hjoined, ?_,
      haward.keeps .ale (by decide), (((resumeHunting_keeps s).trans haward.keeps).trans (driveLines_keeps _)).mono (by decide),
      driveLines_onlyLines (haward.keeps .pins (by decide))⟩
    exact (haward.attends.rebase (s' := s) rfl rfl (.refl _)).beside haward.now
  · intro e reason he state honoured hcase hreason
    obtain ⟨-, -, hrefused, -⟩ := takeOwnAward_judged e (resumeHunting s)
    have hown : takeOwnAward e (resumeHunting s) = queueRefuse e reason (resumeHunting s) := by
      have hr := refuseReason_entry (resumeHunting s) ((resumeHunting s).oft.entries.get e).state
      rw [hrefused hcase, refuseAward, hr, hreason]
      rfl
    have hnumber : (s.oft.entries.get e).number = number := (offerWithNumber_held he).2
    refine ⟨fun hp hroom => ?_, fun hp => ?_⟩
    · have href : Refuses e reason (resumeHunting s) (queueRefuse e reason (resumeHunting s)) := queueRefuse_refuses hroom
      obtain ⟨honly, hentry⟩ := onlyOffer_of_entries (href.oft hp)
      have hjoin := href.joined hp
      have hframe : refusalOf e reason (resumeHunting s) = newFrame .refuse [.offer e number] (.fixed (.refuse number reason)) := by
        rw [← hnumber]
        rfl
      rw [hframe] at hjoin
      refine completes_frame rfl h ((hfound e he).trans hown) ⟨hentry, honly, hjoin, ?_, href.keeps .ale (by decide),
        (((resumeHunting_keeps s).trans href.keeps).trans (driveLines_keeps _)).mono (by decide),
        driveLines_onlyLines (href.keeps .pins (by decide))⟩
      exact (href.attends.rebase (s' := s) rfl rfl (.refl _)).beside (href.now (.inr hp))
    · exact completes_frame rfl h ((hfound e he).trans (hown.trans (if_pos hp))) (resumeHunting_alone s)
  · obtain ⟨-, -, -, hagain⟩ := takeOwnAward_judged e (resumeHunting s)
    exact completes_frame rfl h ((hfound e he).trans (hagain hawarded)) (resumeHunting_alone s)
  · have hf : offerWithNumber (resumeHunting s) (bodyWord f.body 0) = none := hnone
    have hwork : takeAward (bodyWord f.body 0) (bodyWord f.body 2) (resumeHunting s) =
        joinQueue (newFrame .refuse [.refusals] (.fixed (.refuse number (if s.emc.state = .quiet then .noOffer else .emergency))))
          (resumeHunting s) := by
      have hr := refuseReason_none (resumeHunting s)
      rw [takeAward, hf]
      exact (if_pos hcab).trans (by rw [hr]; rfl)
    have hjoin := joinQueue_keeps (s := resumeHunting s) hroom
      (newFrame .refuse [.refusals] (.fixed (.refuse number (if s.emc.state = .quiet then .noOffer else .emergency))))
    refine completes_frame rfl h hwork ⟨joinQueue_joined (s := resumeHunting s) hroom _, hjoin .ale (by decide),
      (((resumeHunting_keeps s).trans hjoin).trans (driveLines_keeps _)).mono (by decide),
      driveLines_onlyLines (hjoin .pins (by decide))⟩

end Sys2Proof.Machine
end

section
/-! PROOF. HIRE opens a trip (O17). -/

namespace Sys2Proof.Machine

/-! The tariff that a HIRE chooses (R10, R20). -/

/-- The tariff has been chosen, by a fresh evaluation where there is no override (R10). -/
structure TariffChosen (s t : State) : Prop where
  frc : t.frc = { s.frc with
    scheduled := if s.frc.override = none then scheduledNow s else s.frc.scheduled
    fareGroup := t.frc.fareGroup }
  keeps : Keeps [.frc, .wpt] s t
  port : OnlyUpdates s t
  still : s.frc.override ≠ none ∨ scheduledNow s = s.frc.scheduled ∨ s.mtc.meter = .payment → t.wpt = s.wpt

theorem tariffChosen_refl {s : State} (h : s.frc.override ≠ none ∨ scheduledNow s = s.frc.scheduled) : TariffChosen s s := by
  refine ⟨?_, .refl _ s, ⟨⟨rfl, id⟩, rfl⟩, fun _ => rfl⟩
  rcases h with h | h
  · rw [if_neg h]
  · rw [h, ite_self]

theorem evaluateSchedule_chosen {s : State} (hover : s.frc.override = none)
    (hm : s.mtc.meter = .vacant ∨ s.mtc.meter = .payment) : TariffChosen s (evaluateSchedule s) := by
  by_cases hsame : scheduledNow s = s.frc.scheduled
  · rw [evaluateSchedule, if_pos hsame]
    exact tariffChosen_refl (.inr hsame)
  · let moved := s.modFrc fun f => { f with scheduled := scheduledNow s }
    have hmoved : Keeps [.frc] s moved := modFrc_keeps _ s
    rcases hm with hm | hm
    · have heval : evaluateSchedule s = rewriteFareGroup moved := by
        rw [evaluateSchedule, if_neg hsame, changeSchedule, hm]
        exact if_pos hover
      have hk := rewriteFareGroup_keeps moved
      rw [heval]
      refine ⟨?_, (hmoved.trans hk).mono (by decide), ?_, fun h => ?_⟩
      · rw [rewriteFareGroup_frc, if_pos hover]
        rfl
      · exact ((rewriteFareGroup_updated moved).congr (s' := s) rfl rfl).onlyUpdates
      · rcases h with h | h | h
        exacts [absurd hover h, absurd h hsame, absurd h (by simp [hm])]
    · have heval : evaluateSchedule s = moved := by
        rw [evaluateSchedule, if_neg hsame, changeSchedule, hm]
      rw [heval]
      exact ⟨by rw [if_pos hover]; rfl, hmoved.mono (by decide), ⟨⟨rfl, id⟩, rfl⟩, fun _ => rfl⟩

theorem chooseTariff_chosen {s : State} (hm : s.mtc.meter = .vacant ∨ s.mtc.meter = .payment) :
    TariffChosen s (chooseTariff s).1 ∧ (chooseTariff s).2 = s.frc.override.getD (scheduledNow s) := by
  unfold chooseTariff
  cases hover : s.frc.override with
  | some n => exact ⟨tariffChosen_refl (.inl (by simp [hover])), rfl⟩
  | none =>
    have hchosen := evaluateSchedule_chosen hover hm
    exact ⟨hchosen, by rw [hchosen.frc, if_pos hover]; rfl⟩

/-! The hire and its trip, before the meter moves (R10, R29). -/

/-- The hire has started and its trip is open. -/
def tripOpened (n : Nat) (s : State) : State := openTrip (startHire n s)

/-- The hire that starts under a tariff (R10, steps 1 to 4). -/
def startedHire (n : Nat) (s : State) : Hire :=
  { Hire.zero (windowTariff s n) with
    fare := (windowTariff s n).flagFare
    accumulator := -(((windowTariff s n).allowance * (3600 * pulsesPerKm s) : Nat) : Int)
    startingTariff := n }

theorem tripOpened_keeps (n : Nat) (s : State) : Keeps [.frc, .mtc] s (tripOpened n s) :=
  (modFrc_keeps _ s).trans (modMtc_keeps _ _)

theorem tripOpened_frc (n : Nat) (s : State) :
    (tripOpened n s).frc = { s.frc with override := none, hire := startedHire n s } := rfl

theorem tripOpened_mtc (n : Nat) (s : State) : (tripOpened n s).mtc = { s.mtc with trip := openedTrip s } := by
  have hnumber : (match s.oft.assignment with
      | some e => (s.oft.entries.get e).number
      | none => 0) = (s.oft.assignment.map fun e => (s.oft.entries.get e).number).getD 0 := by
    cases s.oft.assignment <;> rfl
  simp only [tripOpened, openTrip, modTrip, State.modMtc_mtc, startHire, State.modFrc_mtc, openedTrip, ← hnumber]
  rfl

/-- The close of the second finds a hire that has just started (R2, R4; log entry 20). -/
theorem hireAfterSecond_started {n : Nat} {s u : State} (hhire : u.frc.hire = startedHire n s)
    (hm : u.mtc.meter = .vacant ∨ u.mtc.meter = .payment) : hireAfterSecond u 0 =
      { startedHire n s with
        discardedPulses := if u.mtc.meter.tripOpen = true then min 4294967295 (pulsesOver u) else 0
        pulsesDiscarded := u.mtc.meter.tripOpen && decide (0 < pulsesOver u) } := by
  unfold hireAfterSecond
  rw [hhire]
  rcases hm with hm | hm
  · simp [hm, startedHire, Hire.zero, MeterState.tripOpen]
  · by_cases h0 : pulsesOver u = 0
    · simp [hm, h0, startedHire, Hire.zero, MeterState.tripOpen]
    · simp [hm, Nat.pos_of_ne_zero h0, startedHire, Hire.zero, MeterState.tripOpen]

/-- The states that a hire goes through: the tariff chosen in `v`, the last trip closed in `w`, the meter moved in `t` (R10, R29,
R32). -/
structure HirePath (n : Nat) (changed : List Part) (cs : List Channel) (s v w t : State) : Prop where
  meter : s.mtc.meter = .vacant ∨ s.mtc.meter = .payment
  chosen : TariffChosen s v
  closes : Keeps [.mtc, .txq, .cps] v w
  same : w.mtc.meter = s.mtc.meter
  bank : w.cps.bank = s.cps.bank
  moved : MeterMoved changed cs .hired (tripOpened n w) t

namespace HirePath

variable {n : Nat} {changed : List Part} {cs : List Channel} {s v w t : State}

/-- The close of the second in the trip opened does as in the state before, but for the hire. -/
theorem secondSame (h : HirePath n changed cs s v w t) :
    SecondSame { s with frc := { s.frc with hire := startedHire n s } } (tripOpened n w) ∧
    (tripOpened n w).frc = { v.frc with override := none, hire := startedHire n s } ∧
    (tripOpened n w).mtc.meter = s.mtc.meter := by
  have hk := tripOpened_keeps n w
  have hmem : w.mem = s.mem := (h.closes .mem (by decide)).trans (h.chosen.keeps .mem (by decide))
  have hstarted : startedHire n w = startedHire n s := by
    simp only [startedHire, windowTariff, pulsesPerKm, bank16, h.bank, hmem]
  have hfrc : (tripOpened n w).frc = { v.frc with override := none, hire := startedHire n s } := by
    rw [tripOpened_frc, hstarted, h.closes .frc (by decide)]
  have hmeter : (tripOpened n w).mtc.meter = s.mtc.meter := by
    rw [← h.same, tripOpened_mtc]
  have hvfrc := h.chosen.frc
  exact ⟨⟨hmeter, by rw [hfrc, hvfrc], by rw [hfrc, hvfrc], by rw [hfrc], by rw [hfrc, hvfrc], by rw [hk .cps (by decide), h.bank],
    ((hk .atc (by decide)).trans (h.closes .atc (by decide))).trans (h.chosen.keeps .atc (by decide))⟩, hfrc, hmeter⟩

theorem started (h : HirePath n changed cs s v w t) : HireStarted n s t := by
  obtain ⟨hsame, hfrc, hmeter⟩ := h.secondSame
  have hover : pulsesOver (tripOpened n w) = pulsesOver s := hsame.excess
  have hshift : shiftPulsesAfter (tripOpened n w) = shiftPulsesAfter s := hsame.shiftPulses
  have hcloses := h.moved.closes
  rw [ClosesSecond, hireAfterSecond_started (s := s) hsame.hire (by rw [hmeter]; exact h.meter), hshift, hover, hmeter, hfrc,
    h.chosen.frc] at hcloses
  exact hcloses

theorem toOpened (h : HirePath n changed cs s v w t) : Keeps [.frc, .mtc, .wpt, .txq, .cps] s (tripOpened n w) :=
  ((h.chosen.keeps.trans h.closes).trans (tripOpened_keeps n w)).mono (by decide)

theorem port (h : HirePath n changed cs s v w t) : OnlyUpdates s t ∧ (v.wpt = s.wpt → RewritesOnce s t) := by
  have hw : (tripOpened n w).wpt = v.wpt := (tripOpened_keeps n w .wpt (by decide)).trans (h.closes .wpt (by decide))
  have hport : PortUpdated v t := h.moved.port.congr hw.symm rfl
  exact ⟨h.chosen.port.trans hport.onlyUpdates, fun hv => (hport.congr hv.symm rfl).rewritesOnce⟩

theorem attends (h : HirePath n changed cs s v w t) : Attends (ringAtClose s) (channelsAtClose s ++ cs) s t := by
  obtain ⟨hsame, -, -⟩ := h.secondSame
  have hk := h.toOpened
  have hring : ringAtClose (tripOpened n w) = ringAtClose s := hsame.ring
  have hchannels : channelsAtClose (tripOpened n w) = channelsAtClose s := hsame.channels
  have hatt := h.moved.attends
  rw [hring, hchannels] at hatt
  exact hatt.rebase (hk .atc (by decide)).symm (hk .phase (by decide)).symm (.of_mem (hk .mem (by decide)))

theorem keeps (h : HirePath n changed cs s v w t) : Keeps ([.frc, .mtc, .txq, .wpt, .atc, .cps] ++ changed) s t :=
  (h.toOpened.trans h.moved.keeps).mono fun p hp => by
    simp only [List.mem_append, List.mem_cons, List.not_mem_nil, or_false] at hp ⊢
    tauto

end HirePath

/-! The presses. -/

section
variable {s : State}

theorem pressHire_vacant (hm : s.mtc.meter = .vacant) (hv : (windowTariff s (s.frc.override.getD (scheduledNow s))).valid = true)
    (b : Bool) : pressKey .hire b s =
      (.done, meterChange .hired (tripOpened (s.frc.override.getD (scheduledNow s)) (chooseTariff s).1)) := by
  obtain ⟨hchosen, hn⟩ := chooseTariff_chosen (s := s) (.inl hm)
  have hmem : (chooseTariff s).1.mem = s.mem := hchosen.keeps .mem (by decide)
  have hwindow : windowTariff (chooseTariff s).1 (s.frc.override.getD (scheduledNow s)) =
      windowTariff s (s.frc.override.getD (scheduledNow s)) := by
    simp only [windowTariff, hmem]
  rw [pressKey, pressHire, hm]
  dsimp only
  rw [hn, hwindow, if_pos hv, if_neg (by simp)]
  rfl

theorem pressHire_payment (hm : s.mtc.meter = .payment)
    (hv : (windowTariff s (s.frc.override.getD (scheduledNow s))).valid = true) (b : Bool) : pressKey .hire b s =
      (.done, meterChange .hired
        (tripOpened (s.frc.override.getD (scheduledNow s)) (stopHold (closeTrip (chooseTariff s).1)))) := by
  obtain ⟨hchosen, hn⟩ := chooseTariff_chosen (s := s) (.inr hm)
  have hmem : (chooseTariff s).1.mem = s.mem := hchosen.keeps .mem (by decide)
  have hwindow : windowTariff (chooseTariff s).1 (s.frc.override.getD (scheduledNow s)) =
      windowTariff s (s.frc.override.getD (scheduledNow s)) := by
    simp only [windowTariff, hmem]
  rw [pressKey, pressHire, hm]
  dsimp only
  rw [hn, hwindow, if_pos hv, if_pos rfl]
  rfl

end

/-- A path out of VACANT closes no trip. -/
theorem hirePath_vacant {s t : State} {n : Nat} {changed : List Part} {cs : List Channel} (hm : s.mtc.meter = .vacant)
    (hmoved : MeterMoved changed cs .hired (tripOpened n (chooseTariff s).1) t) :
    HirePath n changed cs s (chooseTariff s).1 (chooseTariff s).1 t := by
  obtain ⟨hchosen, -⟩ := chooseTariff_chosen (s := s) (.inl hm)
  exact ⟨.inl hm, hchosen, (Keeps.refl [] _).mono (by decide), by rw [hchosen.keeps .mtc (by decide)],
    by rw [hchosen.keeps .cps (by decide)], hmoved⟩

/-- The trip that opens is the one of the state at the press. -/
theorem openedTrip_congr {s t : State} (hclock : t.frc.clock = s.frc.clock) (hdsc : t.dsc = s.dsc) (hoft : t.oft = s.oft) :
    openedTrip t = openedTrip s := by
  simp only [openedTrip, hclock, hdsc, hoft]

/-! HIRE in VACANT with the status free (R50). -/

/-- What such a HIRE leaves. -/
structure HireFree (n : Nat) (s t : State) : Prop where
  started : TripStarted n s t
  path : ∃ v, HirePath n [.dsc, .oft, .txq] [.status, .meter] s v v t

theorem hire_free {s : State} {n : Nat} (hm : s.mtc.meter = .vacant)
    (hst : s.dsc.status ∈ [DispatchStatus.available, .onBreak, .assigned]) (hroom : HasRoom s) :
    HireFree n s (meterChange .hired (tripOpened n (chooseTariff s).1)) := by
  obtain ⟨hchosen, -⟩ := chooseTariff_chosen (s := s) (.inl hm)
  let v := (chooseTariff s).1
  let u := tripOpened n v
  have hk : Keeps [.frc, .mtc, .wpt] s u := (hchosen.keeps.trans (tripOpened_keeps n v)).mono (by decide)
  have hdsc : u.dsc = s.dsc := hk .dsc (by decide)
  have htxq : u.txq = s.txq := hk .txq (by decide)
  have hvm : v.mtc = s.mtc := hchosen.keeps .mtc (by decide)
  have humtc : u.mtc = { s.mtc with trip := openedTrip s } := by
    rw [show u.mtc = _ from tripOpened_mtc n v, hvm,
      openedTrip_congr (s := s) (by rw [hchosen.frc]) (hchosen.keeps .dsc (by decide)) (hchosen.keeps .oft (by decide))]
  have hstatus : s.dsc.status ≠ .hired ∧ s.dsc.status ≠ .bidding := by
    simp only [List.mem_cons, List.not_mem_nil, or_false] at hst
    rcases hst with h | h | h <;> simp [h]
  have htold : MeterTold .hired .hired u (meterChange .hired u) :=
    meterChange_told (fun x => by rw [humtc, hm]; rfl) (by rwa [HasRoom, htxq]) (by rw [hdsc]; exact hstatus.1.symm)
      (by rw [hdsc]; exact hstatus.2) (by decide)
  have hpath := hirePath_vacant (n := n) hm htold.moved
  refine ⟨⟨hpath.started, ?_, htold.becomes.congr hdsc.symm rfl, htold.ends.congr hdsc.symm (hk .oft (by decide)).symm rfl,
    htold.joined.congr htxq.symm rfl, ?_⟩, v, hpath⟩
  · rw [htold.moved.mtc, humtc]
  · rw [AsksCommit, htold.moved.asks, hk .cps (by decide)]

/-! HIRE in VACANT out of BIDDING (R49, R83). -/

theorem biddingEntry_only {s : State} {e : Fin 8} (he : (s.oft.entries.get e).state.bidding = true)
    (hothers : ∀ x, x ≠ e → (s.oft.entries.get x).state.bidding = false) : biddingEntry s = some e := by
  have hfind : offerIndices = List.finRange 8 := by decide
  rw [biddingEntry, hfind]
  exact find_finRange he fun x hx => hothers x (ne_of_lt hx)

theorem BidGivenUp.congr {e : Fin 8} {reason : OfferReason} {refusal : RefuseReason} {s s' t t' : State}
    (h : BidGivenUp e reason refusal s t) (hoft : s'.oft = s.oft) (htxq : s'.txq = s.txq) (hoft' : t'.oft = t.oft)
    (htxq' : t'.txq = t.txq) : BidGivenUp e reason refusal s' t' := by
  simpa only [BidGivenUp, OnlyOffer, hoft, htxq, hoft', htxq'] using h

/-- The status goes from BIDDING to HIRED, and the bid is given up (R49, R83). -/
theorem setStatus_streetHire {e : Fin 8} {s : State} (hst : s.dsc.status = .bidding)
    (he : (s.oft.entries.get e).state.bidding = true) (hothers : ∀ x, x ≠ e → (s.oft.entries.get x).state.bidding = false)
    (hroom : HasRoom s) :
    let t := setStatus .hired .change s
    t.dsc = { s.dsc with status := .hired } ∧ BidGivenUp e .hired .hired s t ∧ Keeps [.dsc, .oft, .txq, .atc] s t ∧
      Attends s.atc [.offerResult] s t ∧ MatchesNow t := by
  let judged := statusJudged .hired s
  have hjudged : Keeps [.dsc, .atc] s judged := statusJudged_keeps
  have hoft : judged.oft = s.oft := hjudged .oft (by decide)
  have htxq : judged.txq = s.txq := hjudged .txq (by decide)
  have hentry : biddingEntry judged = some e := biddingEntry_only (by rw [hoft]; exact he) (by rw [hoft]; exact hothers)
  have hwork : setStatus .hired .change s = setChannel .offerResult (endBid e .withdrawn .hired (some .hired) judged) := by
    have hstreet : streetHire judged = setChannel .offerResult (endBid e .withdrawn .hired (some .hired) judged) := by
      rw [streetHire, hentry]
    rw [← hstreet]
    unfold setStatus
    simp [hst, reportStatus, judged, statusJudged]
  have hgave : GaveUp e .hired .hired judged (endBid e .withdrawn .hired (some .hired) judged) :=
    endBid_gaveUp (by rwa [HasRoom, htxq])
  have hlast := setChannel_keeps .offerResult (endBid e .withdrawn .hired (some .hired) judged)
  intro t
  have ht : t = _ := hwork
  rw [ht]
  refine ⟨?_, hgave.bid.congr hoft.symm htxq.symm (hlast .oft (by decide)) (hlast .txq (by decide)),
    ((hjudged.trans hgave.keeps).trans hlast).mono (by decide), ?_, hgave.now.setChannel _⟩
  · rw [hlast .dsc (by decide), hgave.keeps .dsc (by decide), statusJudged_leavesBidding hst]
  · exact ((statusJudged_attends.trans hgave.attends).setChannel (by decide)).congr (by simp)

/-- What such a HIRE leaves. -/
structure HireStreet (n : Nat) (e : Fin 8) (s t : State) : Prop where
  started : HireStarted n s t
  mtc : t.mtc = { s.mtc with meter := .hired, trip := openedTrip s }
  dsc : t.dsc = { s.dsc with status := .hired }
  bid : BidGivenUp e .hired .hired s t
  asks : AsksCommit s t
  path : ∃ v, HirePath n [.dsc, .oft, .txq] [.offerResult, .meter] s v v t

theorem hire_street {s : State} {n : Nat} {e : Fin 8} (hm : s.mtc.meter = .vacant) (hst : s.dsc.status = .bidding)
    (hroom : HasRoom s) (he : (s.oft.entries.get e).state.bidding = true)
    (hothers : ∀ x, x ≠ e → (s.oft.entries.get x).state.bidding = false) :
    HireStreet n e s (meterChange .hired (tripOpened n (chooseTariff s).1)) := by
  obtain ⟨hchosen, -⟩ := chooseTariff_chosen (s := s) (.inl hm)
  let v := (chooseTariff s).1
  let u := tripOpened n v
  have hk : Keeps [.frc, .mtc, .wpt] s u := (hchosen.keeps.trans (tripOpened_keeps n v)).mono (by decide)
  have hvm : v.mtc = s.mtc := hchosen.keeps .mtc (by decide)
  have humtc : u.mtc = { s.mtc with trip := openedTrip s } := by
    rw [show u.mtc = _ from tripOpened_mtc n v, hvm,
      openedTrip_congr (s := s) (by rw [hchosen.frc]) (hchosen.keeps .dsc (by decide)) (hchosen.keeps .oft (by decide))]
  have hshown : Keeps [.frc, .mtc, .wpt, .atc] s (meterShown .hired u) := (hk.trans (meterShown_keeps .hired u)).mono (by decide)
  have hdsc := hshown .dsc (by decide)
  have hoft := hshown .oft (by decide)
  have htxq := hshown .txq (by decide)
  obtain ⟨hstatus, hbid, hkeeps, hattends, hnow⟩ := setStatus_streetHire (s := meterShown .hired u) (e := e) (by rw [hdsc, hst])
    (by rw [hoft]; exact he) (by rw [hoft]; exact hothers) (by rwa [HasRoom, htxq])
  have hreport : reportMeter u.mtc.meter .hired (meterShown .hired u) = setStatus .hired .change (meterShown .hired u) := by
    rw [humtc, hm]
    rfl
  have hmoved := meterMoved_of_report hreport (changed := [.dsc, .oft, .txq]) (hkeeps.mono (by decide)) (by decide) (by decide)
    (by decide) (by decide) hattends hnow
  have hlast : Keeps [.atc, .cps] (setStatus .hired .change (meterShown .hired u)) (meterChange .hired u) := by
    rw [meterChange_eq, hreport]
    exact ((requestCommit_keeps _).trans (setChannel_keeps _ _)).mono (by decide)
  have hpath := hirePath_vacant (n := n) hm hmoved
  refine ⟨hpath.started, ?_, ?_, hbid.congr hoft.symm htxq.symm (hlast .oft (by decide)) (hlast .txq (by decide)), ?_, v, hpath⟩
  · rw [hmoved.mtc, humtc]
  · rw [hlast .dsc (by decide), hstatus, hdsc]
  · rw [AsksCommit, hmoved.asks, hk .cps (by decide)]

/-! HIRE in PAYMENT (R32). -/

theorem tripEntryIs_congr {e : Fin 24} {lost : Bool} {s t : State} (hmtc : t.mtc = s.mtc) (h : TripEntryIs e lost s) :
    TripEntryIs e lost t := by
  simpa only [TripEntryIs, hmtc] using h

theorem mtcAfterTrip_congr {e : Fin 24} {lost : Bool} {s t : State} (h : TariffChosen s t) :
    mtcAfterTrip t e lost = mtcAfterTrip s e lost := by
  have hmtc : t.mtc = s.mtc := h.keeps .mtc (by decide)
  have hmem : t.mem = s.mem := h.keeps .mem (by decide)
  have hcps : t.cps = s.cps := h.keeps .cps (by decide)
  have hdsc : t.dsc = s.dsc := h.keeps .dsc (by decide)
  have hhire : t.frc.hire = s.frc.hire := by rw [h.frc]
  have hshift : t.frc.shiftPulses = s.frc.shiftPulses := by rw [h.frc]
  have hreporting : tripReporting t = tripReporting s := by simp only [tripReporting, settingFlag, setting, hmem]
  have hrecord : recordOfTrip t = recordOfTrip s := by
    simp only [recordOfTrip, hreporting, pulsesPerKm, bank16, hmtc, hcps, hdsc, hhire]
  have hmetres : shiftMetres t = shiftMetres s := by simp only [shiftMetres, pulsesPerKm, bank16, hcps, hshift]
  simp only [mtcAfterTrip, hrecord, hmetres, hmtc]

theorem withoutTripFrame_congr {e : Fin 24} {lost : Bool} {s t : State} (hmtc : t.mtc = s.mtc) (htxq : t.txq = s.txq) :
    withoutTripFrame e lost t = withoutTripFrame e lost s := by
  simp only [withoutTripFrame, withoutOrigin, hmtc, htxq]

/-- What such a HIRE leaves. -/
structure HireAgain (n : Nat) (e : Fin 24) (lost : Bool) (s t : State) : Prop where
  started : HireStarted n s t
  mtc : t.mtc = { mtcAfterTrip s e lost with meter := .hired, holdTimer := none, trip := openedTrip s }
  txq : t.txq = withoutTripFrame e lost s
  asks : AsksCommitBeside (writeWithoutEntry e) s t
  path : ∃ v w, HirePath n [] [.meter] s v w t ∧ v.wpt = s.wpt

theorem hire_again {s : State} {n : Nat} {e : Fin 24} {lost : Bool} (hm : s.mtc.meter = .payment) (he : TripEntryIs e lost s) :
    HireAgain n e lost s (meterChange .hired (tripOpened n (stopHold (closeTrip (chooseTariff s).1)))) := by
  obtain ⟨hchosen, -⟩ := chooseTariff_chosen (s := s) (.inr hm)
  let v := (chooseTariff s).1
  let w := stopHold (closeTrip v)
  let u := tripOpened n w
  have hv : v.mtc = s.mtc := hchosen.keeps .mtc (by decide)
  have hvcps : v.cps = s.cps := hchosen.keeps .cps (by decide)
  have hclosed : TripClosed e lost v (closeTrip v) := closeTrip_closed (tripEntryIs_congr hv he)
  have hvw : Keeps [.mtc, .txq, .cps] v w := (hclosed.keeps.trans (modMtc_keeps _ _)).mono (by decide)
  have hwmtc : w.mtc = { mtcAfterTrip s e lost with holdTimer := none } := by
    rw [← mtcAfterTrip_congr hchosen, ← hclosed.mtc]
    rfl
  have hwcps : w.cps = _ := hclosed.asks
  have hwtxq : w.txq = withoutTripFrame e lost s :=
    hclosed.txq.trans (withoutTripFrame_congr hv (hchosen.keeps .txq (by decide)))
  have hwu := tripOpened_keeps n w
  have hwfrc : w.frc = v.frc := hvw .frc (by decide)
  have hmeter : w.mtc.meter = s.mtc.meter := by rw [hwmtc]; rfl
  have humtc : u.mtc = { w.mtc with trip := openedTrip s } := by
    rw [show u.mtc = _ from tripOpened_mtc n w, openedTrip_congr (s := s) (by rw [hwfrc, hchosen.frc])
      ((hvw .dsc (by decide)).trans (hchosen.keeps .dsc (by decide))) ((hvw .oft (by decide)).trans (hchosen.keeps .oft (by decide)))]
  have hmoved : MeterMoved [] [.meter] .hired u (meterChange .hired u) :=
    meterChange_quiet (by rw [humtc]; simp [hmeter, hm])
  have hpath : HirePath n [] [.meter] s v w (meterChange .hired u) :=
    ⟨.inr hm, hchosen, hvw, hmeter, by rw [hwcps, hvcps], hmoved⟩
  refine ⟨hpath.started, ?_, ?_, ?_, v, w, hpath, hchosen.still (.inr (.inr hm))⟩
  · rw [hmoved.mtc, humtc, hwmtc]
  · rw [hmoved.keeps .txq (by decide), hwu .txq (by decide), hwtxq]
  · rw [AsksCommitBeside, hmoved.asks, hwu .cps (by decide), hwcps, hvcps]
    split_ifs <;> simp_all

/-! What the lines and an answer leave of it. -/

theorem HireStarted.of_keeps {n : Nat} {s t u : State} (h : HireStarted n s t) (hu : Keeps [.mem, .atc, .pins] t u) :
    HireStarted n s u := by
  rw [HireStarted, fareGroupNow_of_answer hu, hu .frc (by decide)]
  exact h

theorem TripStarted.of_keeps {n : Nat} {s t u : State} (h : TripStarted n s t) (hu : Keeps [.mem, .atc, .pins] t u) :
    TripStarted n s u := by
  obtain ⟨hstarted, hmtc, hbecomes, hends, hjoined, hasks⟩ := h
  exact ⟨hstarted.of_keeps hu, (hu .mtc (by decide)).trans hmtc, hbecomes.congr rfl (hu .dsc (by decide)),
    hends.congr rfl rfl (hu .oft (by decide)), hjoined.congr rfl (hu .txq (by decide)), (hu .cps (by decide)).trans hasks⟩

theorem HireStreet.of_keeps {n : Nat} {e : Fin 8} {s t u : State} (h : HireStreet n e s t) (hu : Keeps [.mem, .atc, .pins] t u) :
    HireStarted n s u ∧ u.mtc = { s.mtc with meter := .hired, trip := openedTrip s } ∧
      u.dsc = { s.dsc with status := .hired } ∧ BidGivenUp e .hired .hired s u ∧ AsksCommit s u :=
  ⟨h.started.of_keeps hu, (hu .mtc (by decide)).trans h.mtc, (hu .dsc (by decide)).trans h.dsc,
    h.bid.congr rfl rfl (hu .oft (by decide)) (hu .txq (by decide)), (hu .cps (by decide)).trans h.asks⟩

theorem HireAgain.of_keeps {n : Nat} {e : Fin 24} {lost : Bool} {s t u : State} (h : HireAgain n e lost s t)
    (hu : Keeps [.mem, .atc, .pins] t u) :
    HireStarted n s u ∧ u.mtc = { mtcAfterTrip s e lost with meter := .hired, holdTimer := none, trip := openedTrip s } ∧
      u.txq = withoutTripFrame e lost s ∧ AsksCommitBeside (writeWithoutEntry e) s u :=
  ⟨h.started.of_keeps hu, (hu .mtc (by decide)).trans h.mtc, (hu .txq (by decide)).trans h.txq,
    (hu .cps (by decide)).trans h.asks⟩

/-- A HIRE by the key, once its press is known. -/
theorem completes_hireKey {s v w work : State} {n : Nat} {changed : List Part} {cs : List Channel}
    (hstage : 3 ≤ s.phase.stagesEnded) (hpress : pressKey .hire false s = (.done, work))
    (hpath : HirePath n changed cs s v w work) (hpins : .pins ∉ changed) (hnow : MatchesNow work) {post : State → Prop}
    (hpost : ∀ t, Keeps [.pins] work t → RaisesAtChange cs s t → OnlyUpdates s t → (v.wpt = s.wpt → RewritesOnce s t) →
      Keeps ([.frc, .mtc, .txq, .wpt, .atc, .cps] ++ changed ++ [.pins]) s t → OnlyLines s t → post t) :
    Completes (.keyPress .hire) s post := by
  obtain ⟨hport, honce⟩ := hpath.port
  exact completes_keyPress hstage hpress hpath.keeps (by simp [hpins]) hpath.attends hnow fun t ht hraises hk hlines =>
    hpost t ht hraises (hport.congr rfl (ht .wpt (by decide)))
      (fun hv => by rw [RewritesOnce, ht .wpt (by decide)]; exact honce hv) hk hlines

/-- A HIRE by request, once its press is known. -/
theorem completes_hireRequest {s v w work : State} {r : Fin 16} {rest : List (Fin 16)} {n : Nat} {changed : List Part}
    {cs : List Channel} (hwf : s.mem.Wf) (h : HeadIs .meterKey r rest s) (hcode : param8 s r 8 = 0)
    (hctl : hostMeterControl s = true) (hpress : pressKey .hire true (leaveList rest s) = (.done, work))
    (hpath : HirePath n changed cs (leaveList rest s) v w work) (hmem : .mem ∉ changed) (hpins : .pins ∉ changed)
    {post : State → Prop}
    (hpost : ∀ t, Keeps [.mem, .atc, .pins] work t → RaisesAtChange (cs ++ [.request]) s t →
      AnsweredPromptly r rest .done 2 s t → ListAndUpdates s t → (v.wpt = (leaveList rest s).wpt → RewritesOnce s t) →
      Keeps ([.wpt] ++ ([.frc, .mtc, .txq, .wpt, .atc, .cps] ++ changed) ++ [.mem, .atc, .pins]) s t → OnlyLines s t → post t) :
    Completes .meterKey s post := by
  obtain ⟨hport, honce⟩ := hpath.port
  exact completes_meterKey (new := .hired) hwf h hcode rfl hctl hpress hpath.keeps (by simp [hmem]) (by simp [hpins]) hport
    (by rw [hpath.moved.mtc]) hpath.attends hpath.moved.now fun t ht hraises hprompt hlist hk hlines =>
      hpost t ht hraises hprompt hlist (fun hv => by rw [RewritesOnce, ht .wpt (by decide)]; exact honce hv) hk hlines

/-- Settles O17: the tariff is chosen, in PAYMENT the last trip is closed, and then the meter moves to HIRED; the three ways
differ in what the status controller and the offer table do with it. -/
theorem hireOpensATrip : Obligations.HireOpensATrip := by
  intro s n hv free once street again bidder
  have hstill : ∀ {u v : State} {t : State}, TariffChosen u v → u.frc = s.frc → scheduledNow u = scheduledNow s →
      (v.wpt = u.wpt → RewritesOnce s t) → once t := fun hchosen hfrc hnow honce h =>
    honce (hchosen.still (by rw [hfrc, hnow]; exact h.elim .inl fun h => .inr (.inl h)))
  refine ⟨fun hstage => ⟨fun hfree => ?_, fun e hbidder => ?_, fun e lost hm he => ?_⟩, fun r rest hwf h hcode hctl => ?_⟩
  · obtain ⟨hm, hst, hroom⟩ := hfree
    obtain ⟨hstarted, v, hpath⟩ := hire_free (n := n) hm hst hroom
    exact completes_hireKey hstage (pressHire_vacant hm hv false) hpath (by decide) hpath.moved.now
      fun t ht hraises hport honce hk hlines =>
        ⟨hstarted.of_keeps (ht.mono (by decide)), hraises, hport, hstill hpath.chosen rfl rfl honce, hk.mono (by decide), hlines⟩
  · obtain ⟨hm, hst, hroom, he, hothers⟩ := hbidder
    have hstreet := hire_street (n := n) hm hst hroom he hothers
    obtain ⟨v, hpath⟩ := hstreet.path
    exact completes_hireKey hstage (pressHire_vacant hm hv false) hpath (by decide) hpath.moved.now
      fun t ht hraises hport honce hk hlines =>
        ⟨hstreet.of_keeps (ht.mono (by decide)), hraises, hport, hstill hpath.chosen rfl rfl honce, hk.mono (by decide), hlines⟩
  · have hagain := hire_again (n := n) hm he
    obtain ⟨v, w, hpath, hwpt⟩ := hagain.path
    exact completes_hireKey hstage (pressHire_payment hm hv false) hpath (by decide) hpath.moved.now
      fun t ht hraises hport honce hk hlines =>
        ⟨hagain.of_keeps (ht.mono (by decide)), hraises, hport, honce hwpt, hk.mono (by decide), hlines⟩
  · intro answered
    have hv' : (windowTariff (leaveList rest s) n).valid = true := hv
    refine ⟨fun hfree => ?_, fun e hbidder => ?_, fun e lost hm he => ?_⟩
    · obtain ⟨hm, hst, hroom⟩ := hfree
      obtain ⟨hstarted, v, hpath⟩ := hire_free (s := leaveList rest s) (n := n) hm hst hroom
      exact completes_hireRequest hwf h hcode hctl (pressHire_vacant (s := leaveList rest s) hm hv' true) hpath (by decide)
        (by decide) fun t ht hraises hprompt hlist honce hk hlines =>
          ⟨hstarted.of_keeps ht, hraises, ⟨hprompt, hlist, hlines⟩, hstill hpath.chosen rfl rfl honce, hk.mono (by decide)⟩
    · obtain ⟨hm, hst, hroom, he, hothers⟩ := hbidder
      have hstreet := hire_street (s := leaveList rest s) (n := n) hm hst hroom he hothers
      obtain ⟨v, hpath⟩ := hstreet.path
      exact completes_hireRequest hwf h hcode hctl (pressHire_vacant (s := leaveList rest s) hm hv' true) hpath (by decide)
        (by decide) fun t ht hraises hprompt hlist honce hk hlines =>
          ⟨hstreet.of_keeps ht, hraises, ⟨hprompt, hlist, hlines⟩, hstill hpath.chosen rfl rfl honce, hk.mono (by decide)⟩
    · have hagain := hire_again (s := leaveList rest s) (n := n) hm he
      obtain ⟨v, w, hpath, hwpt⟩ := hagain.path
      exact completes_hireRequest hwf h hcode hctl (pressHire_payment (s := leaveList rest s) hm hv' true) hpath (by decide)
        (by decide) fun t ht hraises hprompt hlist honce hk hlines =>
          ⟨hagain.of_keeps ht, hraises, ⟨hprompt, hlist, hlines⟩, honce hwpt, hk.mono (by decide)⟩

end Sys2Proof.Machine
end

section
/-! PROOF. Presses and requests that are refused (O20). -/

namespace Sys2Proof.Machine

/-! What a refused press does. -/

section
variable {s : State} (b : Bool)

theorem pressKey_outOfTable {k : MeterKey} (h : (s.mtc.meter, k) ∈
    [(MeterState.off, MeterKey.hire), (.off, .stop), (.off, .pay), (.off, .clear), (.vacant, .stop), (.vacant, .pay),
     (.vacant, .clear), (.hired, .hire), (.hired, .clear), (.stopped, .hire), (.stopped, .clear), (.payment, .stop),
     (.payment, .pay)]) : pressKey k b s = (.refusedState, s) := by
  cases hm : s.mtc.meter <;> cases k <;> simp [hm] at h <;>
    simp [pressKey, pressHire, pressStop, pressPay, pressClear, hm]

theorem pressExtra_noTrip (i : Fin 8) (h : s.mtc.meter = .off ∨ s.mtc.meter = .vacant) :
    pressExtra i s = (.refusedState, s) := by
  refine if_neg ?_
  rcases h with h | h <;> simp [h, MeterState.tripOpen]

theorem pressExtra_overLimit (i : Fin 8) (hopen : s.mtc.meter.tripOpen = true)
    (h : extraLimit s i.val ≤ s.mtc.trip.extraCounts.get i ∨
      999999 < s.frc.hire.fare + s.mtc.trip.extrasSum + extraValue s i.val) : pressExtra i s = (.refusedRange, s) := by
  have hrefused : extraRefused i s = true := by
    rw [extraRefused, Bool.or_eq_true, decide_eq_true_iff, decide_eq_true_iff]
    exact h
  rw [pressExtra, if_pos hopen, if_pos hrefused]

theorem pressClear_early (hm : s.mtc.meter = .payment) (hh : s.mtc.holdEnded = false) : pressKey .clear b s = (.tooEarly, s) := by
  rw [pressKey, pressClear, hm]
  simp [hh]

/-- A HIRE under a tariff that is not valid (R10). -/
theorem pressHire_invalid {n : Nat} (hm : s.mtc.meter = .vacant ∨ s.mtc.meter = .payment) (hv : (windowTariff s n).valid = false)
    (h : s.frc.override = some n ∨ (s.frc.override = none ∧ scheduledNow s = n ∧ s.frc.scheduled = n)) :
    pressKey .hire b s = (.refusedRange, if b = true then s else recordFault .tariffInvalid n s) := by
  have hchoose : chooseTariff s = (s, n) := by
    rcases h with h | ⟨h, hnow, hscheduled⟩
    · rw [chooseTariff, h]
    · have heval : evaluateSchedule s = s := if_pos (hnow.trans hscheduled.symm)
      rw [chooseTariff, h]
      simp [heval, hscheduled]
  rw [pressKey, pressHire]
  rcases hm with hm | hm <;> rw [hm] <;> simp [hchoose, hv]

end

/-- A key that its press leaves aside, at any stage of the start-up (R25). -/
theorem completes_ignoredKey {s : State} {k : MeterKey} {x : Result} (h : pressKey k false s = (x, s)) :
    Completes (.keyPress k) s fun t => Keeps [.pins] s t ∧ OnlyLines s t := by
  have heff : effect (.keyPress k) s = s := by
    have hpress : effect (.keyPress k) s = if inputsWatched s then (pressKey k false s).2 else s := rfl
    rw [hpress, h, ite_self]
  exact completes_of_effect heff ⟨driveLines_keeps s, driveLines_onlyLines rfl⟩

section
variable {s : State} {r : Fin 16} {rest : List (Fin 16)} {x : Result}

/-- A METER_KEY request that its press refuses. -/
theorem completes_refusedMeterKey {k : MeterKey} {code : Nat} (hwf : s.mem.Wf) (h : HeadIs .meterKey r rest s)
    (hctl : hostMeterControl s = true) (hcode : param8 s r 8 = code) (hk : keyOfCode code = some k) (hx : x ≠ .done)
    (hpress : pressKey k true (leaveList rest s) = (x, leaveList rest s)) :
    Completes .meterKey s (AnsweredAlone r rest x 0 s) := by
  refine completes_answered hwf rfl h nofun ?_
  have hp : keyOfCode (param8 (leaveList rest s) r 8) = some k := by
    rw [show param8 (leaveList rest s) r 8 = code from hcode, hk]
  rw [ownMeterKey_pressed (s := leaveList rest s) hctl hp, hpress, answerKey, if_neg hx]

/-- An ADD_EXTRA request that its press refuses. -/
theorem completes_refusedExtra {i : Fin 8} (hwf : s.mem.Wf) (h : HeadIs .addExtra r rest s) (hctl : hostMeterControl s = true)
    (hi : param8 s r 8 = i.val) (hx : x ≠ .done) (hpress : pressExtra i (leaveList rest s) = (x, leaveList rest s)) :
    Completes .addExtra s (AnsweredAlone r rest x 0 s) := by
  refine completes_answered hwf rfl h nofun ?_
  rw [ownAddExtra_pressed (s := leaveList rest s) hctl hi, hpress, answerExtra, if_neg hx]

end

/-- Settles O20: every refused press leaves the state, and a request so refused is answered with the press's result. -/
theorem refusedPressIsIgnored : Obligations.RefusedPressIsIgnored := by
  refine ⟨fun s k h => ?_, fun s n hstage h => ?_, ?_, ?_⟩
  · rcases h with h | h | ⟨hm, rfl, hh⟩ | ⟨rfl, h⟩
    · exact completes_ignoredKey (pressKey_outOfTable false h)
    · simp only [List.mem_cons, Prod.mk.injEq, List.not_mem_nil, or_false] at h
      rcases h with ⟨hm, rfl⟩ | ⟨hm, rfl⟩
      · exact completes_ignoredKey (pressExtra_noTrip 0 (.inl hm))
      · exact completes_ignoredKey (pressExtra_noTrip 0 (.inr hm))
    · exact completes_ignoredKey (pressClear_early false hm hh)
    · by_cases hopen : s.mtc.meter.tripOpen = true
      · exact completes_ignoredKey (pressExtra_overLimit 0 hopen h)
      · exact completes_ignoredKey (if_neg hopen)
  · obtain ⟨hm, hv, hchoice⟩ := h
    have heff : effect (.keyPress .hire) s = recordFault .tariffInvalid n s := by
      rw [keyPress_effect hstage, pressHire_invalid false hm hv hchoice]
      rfl
    obtain ⟨hrecords, hkeeps, hlines⟩ := recordFault_lines .tariffInvalid n s
    exact completes_of_effect heff ⟨hrecords, hkeeps, hlines⟩
  · intro s r rest hwf h hctl refused
    refine ⟨fun row hrow hcode htable => ?_, fun hm hcode hh => ?_, fun n hcode hrefused => ?_⟩
    · have hkey : keyOfCode row.2 = some row.1 := by
        simp only [List.mem_cons, List.not_mem_nil, or_false] at hrow
        rcases hrow with rfl | rfl | rfl | rfl <;> rfl
      exact completes_refusedMeterKey hwf h hctl hcode hkey (by decide) (pressKey_outOfTable (s := leaveList rest s) true htable)
    · exact completes_refusedMeterKey hwf h hctl hcode rfl (by decide) (pressClear_early (s := leaveList rest s) true hm hh)
    · obtain ⟨hm, hv, hchoice⟩ := hrefused
      exact completes_refusedMeterKey hwf h hctl hcode rfl (by decide)
        (pressHire_invalid (s := leaveList rest s) true hm hv hchoice)
  · intro s r rest i hwf h hctl hi refused
    exact ⟨fun hm => completes_refusedExtra hwf h hctl hi (by decide) (pressExtra_noTrip (s := leaveList rest s) i hm),
      fun hopen hlimit => completes_refusedExtra hwf h hctl hi (by decide)
        (pressExtra_overLimit (s := leaveList rest s) i hopen hlimit)⟩

end Sys2Proof.Machine
end

section
/-! PROOF. A press raises or renews a call (O43). -/

namespace Sys2Proof.Machine

/-! The entry into ALERTING at the offer table (R84). -/

section
variable {s : State}

/-- Some offer is OPEN. -/
theorem someLeaves_all : someLeaves (fun _ => true) offerIndices s = offerOpen s := by
  have hany : offerOpen s = true ↔ ∃ x : Fin 8, (s.oft.entries.get x).state = .open := by
    simp only [offerOpen, List.any_eq_true, beq_iff_eq]
    constructor
    · rintro ⟨entry, hmem, hopen⟩
      obtain ⟨i, hi, rfl⟩ := List.mem_iff_getElem.mp hmem
      exact ⟨⟨i, by simpa using hi⟩, by simpa [Vector.get_eq_getElem] using hopen⟩
    · rintro ⟨x, hopen⟩
      exact ⟨_, Vector.mem_toList_iff.mpr (by rw [Vector.get_eq_getElem]; exact Vector.getElem_mem _), hopen⟩
  rw [Bool.eq_iff_iff, hany]
  simp [someLeaves, mem_offerIndices]

/-- Every OPEN entry has been withdrawn (R84). -/
def offersWithdrawn (s : State) : State :=
  offerIndices.foldl (withdrawStep (setChannel .offerResult) .emergency fun _ => true) s

theorem offersWithdrawn_left : OpenLeft [.offerResult] .emergency (fun _ => true) offerIndices s (offersWithdrawn s) :=
  withdrawSteps_left tells_offerResult ..

theorem withdrawForEmergency_of :
    (biddingEntry (offersWithdrawn s) = none → withdrawForEmergency s = offersWithdrawn s) ∧
    ∀ e, biddingEntry (offersWithdrawn s) = some e → withdrawForEmergency s = requestStatus .available [.bidding]
      (setChannel .offerResult (endBid e .withdrawn .emergency (some .emergency) (offersWithdrawn s))) := by
  have hfold : offerIndices.foldl (fun t e =>
      if (t.oft.entries.get e).state = .open then setChannel .offerResult (endOffer e .withdrawn .emergency t) else t) s =
      offersWithdrawn s := by
    refine congrArg (fun g => offerIndices.foldl g s) (funext fun t => funext fun i => ?_)
    simp [withdrawStep]
  rw [withdrawForEmergency, hfold]
  exact ⟨fun h => by rw [h], fun e h => by rw [h]⟩

theorem offersWithdrawn_oft : (offersWithdrawn s).oft = { s.oft with entries := openWithdrawn s } := by
  have h := offersWithdrawn_left (s := s)
  have hentries : (offersWithdrawn s).oft.entries = openWithdrawn s := by
    refine Vector.ext fun i hi => ?_
    have := h.entry ⟨i, hi⟩
    simp only [mem_offerIndices, true_and, Vector.get_eq_getElem] at this
    rw [this, openWithdrawn, Vector.getElem_map]
  rw [h.rest, hentries]

theorem openWithdrawn_bidding (x : Fin 8) :
    ((openWithdrawn s).get x).state.bidding = (s.oft.entries.get x).state.bidding := by
  rw [openWithdrawn, Vector.get_eq_getElem, Vector.getElem_map, ← Vector.get_eq_getElem]
  split_ifs with h
  · rw [h]
    rfl
  · rfl

end

/-- The entry into ALERTING with no bid in progress (R84). -/
theorem withdrawForEmergency_idle {s : State} (hidle : ∀ e, (s.oft.entries.get e).state.bidding = false) :
    withdrawForEmergency s = offersWithdrawn s := by
  have hnone : biddingEntry (offersWithdrawn s) = none := by
    refine biddingEntry_none fun x => ?_
    rw [offersWithdrawn_oft, openWithdrawn_bidding, hidle]
  exact withdrawForEmergency_of.1 hnone

/-- The entry into ALERTING out of a bid (R84, R74). -/
structure WithdrawnFromBid (e : Fin 8) (s t : State) : Prop where
  bid : BidGivenUp e .emergency .emergency { s with oft := { s.oft with entries := openWithdrawn s } } t
  dsc : t.dsc = { s.dsc with status := .available }
  keeps : Keeps [.dsc, .oft, .txq, .atc] s t
  attends : Attends s.atc [.offerResult] s t
  now : MatchesNow t

theorem withdrawForEmergency_bidder {s : State} {e : Fin 8} (he : (s.oft.entries.get e).state.bidding = true)
    (hothers : ∀ x, x ≠ e → (s.oft.entries.get x).state.bidding = false) (hst : s.dsc.status = .bidding) (hroom : HasRoom s) :
    WithdrawnFromBid e s (withdrawForEmergency s) := by
  have hleft := offersWithdrawn_left (s := s)
  have hoft := offersWithdrawn_oft (s := s)
  let left := offersWithdrawn s
  let gone := endBid e .withdrawn .emergency (some .emergency) left
  have hentry : biddingEntry left = some e :=
    biddingEntry_only (by rw [show left.oft = _ from hoft, openWithdrawn_bidding, he])
      fun x hx => by rw [show left.oft = _ from hoft, openWithdrawn_bidding, hothers x hx]
  have htxq : left.txq = s.txq := hleft.keeps .txq (by decide)
  have hgave : GaveUp e .emergency .emergency left gone := endBid_gaveUp (by rwa [HasRoom, htxq])
  have hset := setChannel_keeps .offerResult gone
  have hold : (setChannel .offerResult gone).dsc.status = .bidding := by
    rw [hset .dsc (by decide), hgave.keeps .dsc (by decide), show left.dsc = _ from hleft.keeps .dsc (by decide), hst]
  have hwork : withdrawForEmergency s = statusJudged .available (setChannel .offerResult gone) := by
    rw [withdrawForEmergency_of.2 e hentry, requestStatus, if_pos (by rw [hold]; decide),
      setStatus_leavesBidding hold (by decide) (by decide)]
  have hjudged : Keeps [.dsc, .atc] (setChannel .offerResult gone) (statusJudged .available (setChannel .offerResult gone)) :=
    statusJudged_keeps
  rw [hwork]
  refine ⟨hgave.bid.congr hoft.symm htxq.symm ((hjudged .oft (by decide)).trans (hset .oft (by decide)))
    ((hjudged .txq (by decide)).trans (hset .txq (by decide))), ?_,
    (((hleft.keeps.trans hgave.keeps).trans hset).trans hjudged).mono (by decide), ?_, statusJudged_matchesNow⟩
  · rw [statusJudged_leavesBidding hold, hset .dsc (by decide), hgave.keeps .dsc (by decide),
      show left.dsc = _ from hleft.keeps .dsc (by decide)]
  · refine (((hleft.attends.trans hgave.attends).setChannel (by decide)).trans statusJudged_attends).congr fun c => ?_
    split_ifs <;> simp

/-! The press. -/

/-- No entry bids. -/
def NoBid (s : State) : Prop := ∀ e, (s.oft.entries.get e).state.bidding = false

/-- Entry `e` alone bids, and the queue has room for what its end may ask. -/
def BidsAlone (e : Fin 8) (s : State) : Prop :=
  s.dsc.status = .bidding ∧ s.txq.frames.length ≤ 14 ∧ (s.oft.entries.get e).state.bidding = true ∧
  ∀ x, x ≠ e → (s.oft.entries.get x).state.bidding = false

/-- The channels of the entry into ALERTING (R107, R84). -/
def CallChannels (s : State) (cs : List Channel) : Prop :=
  ∀ c, c ∈ cs ↔ c = .emergency ∨ (c = .offerResult ∧ ¬(NoBid s ∧ offerOpen s = false))

/-- A call has been entered from `s` (R107, R110, R84). -/
structure CallEntered (s t : State) : Prop where
  emc : t.emc = { s.emc with state := .alerting, owed := owedAfterAsk .alert s }
  asks : AsksCommit s t
  idle : NoBid s → t.txq = { s.txq with frames := framesAfterAsk .alert s } ∧
    t.oft = { s.oft with entries := openWithdrawn s } ∧ t.dsc = s.dsc
  bidder : ∀ e, BidsAlone e s → BidGivenUp e .emergency .emergency
      { s with oft := { s.oft with entries := openWithdrawn s }, txq := { s.txq with frames := framesAfterAsk .alert s } } t ∧
    t.dsc = { s.dsc with status := .available }
  keeps : Keeps [.dsc, .emc, .oft, .txq, .atc, .cps] s t
  attends : ∀ cs, CallChannels s cs → Attends s.atc cs s t
  now : MatchesNow t

/-- The frames after an ask are at most one more. -/
theorem framesAfterAsk_length (k : EmergencyKind) (s : State) : (framesAfterAsk k s).length ≤ s.txq.frames.length + 1 := by
  have hins : ∀ fs (f : Frame), (insertFrame fs f).length = fs.length + 1 := insertFrame_length
  unfold framesAfterAsk
  cases hf : s.txq.frames.find? (fun f => f.cls == 0) with
  | none => exact (hins _ _).le
  | some g =>
    dsimp only
    split_ifs
    · omega
    · rw [hins]
      have := List.length_eraseP_le (l := s.txq.frames) (p := fun f : Frame => f.cls == 0)
      omega

theorem call_entered {s : State} (hroom : NoEmergencyFrame s → HasRoom s) (hbids : NoBid s ∨ ∃ e, BidsAlone e s) :
    CallEntered s (withdrawForEmergency (askEmergency .alert (setEmergency .alerting s))) := by
  have hcall := setEmergency_moved .alerting s
  let moved := setEmergency .alerting s
  let asked := askEmergency .alert moved
  have htxq : moved.txq = s.txq := hcall.keeps .txq (by decide)
  obtain ⟨hemc, hframes, hask⟩ := askEmergency_effect .alert (s := moved) (by
    simpa only [NoEmergencyFrame, HasRoom, htxq] using hroom)
  obtain ⟨hasks, hkeeps, hattends, hnow⟩ := hcall.then_work hask (by rw [hemc, hcall.emc])
  have hsame : framesAfterAsk .alert moved = framesAfterAsk .alert s := by
    simp only [framesAfterAsk, htxq, askedFrame]
  have howed : owedAfterAsk .alert moved = owedAfterAsk .alert s := by
    simp only [owedAfterAsk, htxq, show moved.emc = _ from hcall.emc]
  have hemc' : asked.emc = { s.emc with state := .alerting, owed := owedAfterAsk .alert s } := by
    rw [show asked.emc = _ from hemc, howed, show moved.emc = _ from hcall.emc]
  have hframes' : asked.txq = { s.txq with frames := framesAfterAsk .alert s } := by
    rw [show asked.txq = _ from hframes, hsame, htxq]
  have hoft : asked.oft = s.oft := hkeeps .oft (by decide)
  have hdsc : asked.dsc = s.dsc := hkeeps .dsc (by decide)
  have hopen : offerOpen asked = offerOpen s := by rw [offerOpen, hoft, offerOpen]
  have hwithdrawn : openWithdrawn asked = openWithdrawn s := by rw [openWithdrawn, hoft, openWithdrawn]
  have hcollide : NoBid s → ∀ e, BidsAlone e s → False := fun hno e hb => by
    have := hno e
    rw [hb.2.2.1] at this
    exact absurd this (by decide)
  rcases hbids with hno | ⟨e, hst, hlen, he, hothers⟩
  · have hno' : ∀ e, (asked.oft.entries.get e).state.bidding = false := by rwa [hoft]
    have hleft := offersWithdrawn_left (s := asked)
    have hwork : withdrawForEmergency asked = offersWithdrawn asked := withdrawForEmergency_idle hno'
    rw [hwork]
    refine ⟨(hleft.keeps .emc (by decide)).trans hemc', (hleft.keeps .cps (by decide)).trans hasks,
      fun _ => ⟨(hleft.keeps .txq (by decide)).trans hframes', ?_, (hleft.keeps .dsc (by decide)).trans hdsc⟩,
      fun e hb => (hcollide hno e hb).elim, (hkeeps.trans hleft.keeps).mono (by decide), fun cs hcs => ?_, hleft.now hnow⟩
    · rw [offersWithdrawn_oft, hwithdrawn, hoft]
    · refine (hattends.trans hleft.attends).congr fun c => ?_
      rw [someLeaves_all, hopen, hcs]
      cases hany : offerOpen s <;> simp [hno]
  · have hwork := withdrawForEmergency_bidder (s := asked) (e := e) (by rwa [hoft]) (by rwa [hoft]) (by rwa [hdsc]) (by
      rw [HasRoom, hframes']
      exact (framesAfterAsk_length .alert s).trans_lt (by omega))
    have hbid : ¬NoBid s := fun hno => hcollide hno e ⟨hst, hlen, he, hothers⟩
    refine ⟨(hwork.keeps .emc (by decide)).trans hemc', (hwork.keeps .cps (by decide)).trans hasks, fun hno => absurd hno hbid,
      fun x hx => ?_, (hkeeps.trans hwork.keeps).mono (by decide), fun cs hcs => ?_, hwork.now⟩
    · have hxe : x = e := by
        by_contra hne
        have := hothers x hne
        rw [hx.2.2.1] at this
        exact absurd this (by decide)
      rw [hxe]
      exact ⟨hwork.bid.congr (by rw [hwithdrawn, hoft]) hframes'.symm rfl rfl, by rw [hwork.dsc, hdsc]⟩
    · exact (hattends.trans hwork.attends).congr fun c => by rw [hcs]; simp [hbid]

/-- The press enters ALERTING (R110, R111). -/
def EntersCall (s : State) : Prop := s.emc.state = .quiet ∨ s.emc.state = .cancelling

/-- The call after a press in an emergency state, but for what it is owed (R110, R111). -/
def callAfterPressIn (state : EmergencyState) (s : State) : Emc :=
  match state with
  | .quiet => { s.emc with
      state := .alerting, count := min 65535 (s.emc.count + 1), presses := 1, code := min (setting16 s 4) 9999 }
  | .alerting => { s.emc with presses := min 255 (s.emc.presses + 1), updateTimer := none }
  | .acked => { s.emc with presses := min 255 (s.emc.presses + 1), updateTimer := some (updateInterval s) }
  | .cancelling => { s.emc with presses := min 255 (s.emc.presses + 1), state := .alerting }

/-- The call after a press. -/
def callAfterPress (s : State) : Emc := callAfterPressIn s.emc.state s

theorem callAfterPress_in {s : State} {state : EmergencyState} (h : s.emc.state = state) :
    callAfterPress s = callAfterPressIn state s := congrArg (fun x => callAfterPressIn x s) h

/-- What a press leaves (R110 to R112). -/
structure Pressed (s t : State) : Prop where
  emc : t.emc = { callAfterPress s with owed := owedAfterAsk .alert s }
  entered : EntersCall s → AsksCommit s t ∧
    (NoBid s → t.txq = { s.txq with frames := framesAfterAsk .alert s } ∧
      t.oft = { s.oft with entries := openWithdrawn s } ∧ t.dsc = s.dsc) ∧
    (∀ e, BidsAlone e s → BidGivenUp e .emergency .emergency
        { s with oft := { s.oft with entries := openWithdrawn s }, txq := { s.txq with frames := framesAfterAsk .alert s } } t ∧
      t.dsc = { s.dsc with status := .available }) ∧
    (∀ cs, CallChannels s cs → Attends s.atc cs s t) ∧ MatchesNow t
  renewed : ¬EntersCall s → t.txq = { s.txq with frames := framesAfterAsk .alert s } ∧ Keeps [.emc, .txq] s t
  keeps : Keeps [.dsc, .emc, .oft, .txq, .atc, .cps] s t

/-- A press that enters ALERTING, from the call's counts as the press sets them. -/
theorem pressed_of_entered {s t : State} (g : Emc → Emc) (henters : EntersCall s) (howed : (g s.emc).owed = s.emc.owed)
    (hcall : callAfterPress s = { g s.emc with state := .alerting }) (h : CallEntered (s.modEmc g) t) : Pressed s t := by
  have hk : Keeps [.emc] s (s.modEmc g) := modEmc_keeps g s
  have howed' : owedAfterAsk .alert (s.modEmc g) = owedAfterAsk .alert s := by
    simp only [owedAfterAsk, State.modEmc_txq, State.modEmc_emc, howed]
  refine ⟨?_, fun _ => ⟨h.asks, h.idle, h.bidder, fun cs hcs => (h.attends cs hcs).rebase rfl rfl (.refl _), h.now⟩,
    fun hno => absurd henters hno, (hk.trans h.keeps).mono (by decide)⟩
  rw [h.emc, howed', hcall]
  rfl

/-- A press in a call renews it. -/
theorem pressed_of_renewed {s asked t : State} (g : Emc → Emc) (hroom : NoEmergencyFrame s → HasRoom s)
    (henters : ¬EntersCall s) (hasked : asked = askEmergency .alert (countPress s)) (ht : t = asked.modEmc g)
    (hcall : callAfterPress s = { g { s.emc with presses := min 255 (s.emc.presses + 1) } with owed := s.emc.owed })
    (hg : ∀ x o, g { x with owed := o } = { g x with owed := o }) : Pressed s t := by
  obtain ⟨hemc, htxq, hk⟩ := askEmergency_effect .alert (s := countPress s) hroom
  rw [← hasked] at hemc htxq hk
  have hkeeps : Keeps [.emc, .txq] s t := by
    rw [ht]
    exact (((modEmc_keeps _ s).trans hk).trans (modEmc_keeps g _)).mono (by decide)
  have htxq' : t.txq = { s.txq with frames := framesAfterAsk .alert s } := by
    rw [ht]
    exact htxq
  refine ⟨?_, fun h => absurd h henters, fun _ => ⟨htxq', hkeeps⟩, hkeeps.mono (by decide)⟩
  rw [ht, State.modEmc_emc, hemc, hg, hcall]
  rfl

theorem pressAlarm_pressed {s : State} (hroom : NoEmergencyFrame s → HasRoom s)
    (hbids : ¬EntersCall s ∨ NoBid s ∨ ∃ e, BidsAlone e s) : Pressed s (pressAlarm s) := by
  have henter : EntersCall s → NoBid s ∨ ∃ e, BidsAlone e s := fun h => hbids.resolve_left (not_not_intro h)
  cases hstate : s.emc.state with
  | quiet =>
    have he : EntersCall s := .inl hstate
    have hcode : cancelCode s = min (setting16 s 4) 9999 := by simp [cancelCode, clamp]
    have hwork : pressAlarm s = raiseCall s := by rw [pressAlarm, hstate]
    rw [hwork]
    exact pressed_of_entered (fun e => { e with count := satAdd u16Max e.count 1, presses := 1, code := cancelCode s }) he rfl
      ((callAfterPress_in hstate).trans (by rw [hcode]; rfl)) (call_entered (s := s.modEmc _) hroom (henter he))
  | cancelling =>
    have he : EntersCall s := .inr hstate
    have hwork : pressAlarm s = withdrawForEmergency (askEmergency .alert (setEmergency .alerting (countPress s))) := by
      rw [pressAlarm, hstate]
    rw [hwork]
    exact pressed_of_entered (fun e => { e with presses := satAdd 255 e.presses 1 }) he rfl
      (callAfterPress_in hstate) (call_entered (s := s.modEmc _) hroom (henter he))
  | alerting =>
    have hwork : pressAlarm s = stopUpdateTimer (askEmergency .alert (countPress s)) := by rw [pressAlarm, hstate]
    exact pressed_of_renewed (fun e => { e with updateTimer := none }) hroom (by simp [EntersCall, hstate]) rfl hwork
      (callAfterPress_in hstate) (fun _ _ => rfl)
  | acked =>
    have hmem : (askEmergency .alert (countPress s)).mem = s.mem := by
      obtain ⟨-, -, hk⟩ := askEmergency_effect .alert (s := countPress s) hroom
      exact hk .mem (by decide)
    have hinterval : updateInterval (askEmergency .alert (countPress s)) = updateInterval s := by
      rw [updateInterval, setting16, hmem, updateInterval, setting16]
    have hwork : pressAlarm s = (askEmergency .alert (countPress s)).modEmc
        fun e => { e with updateTimer := some (updateInterval s) } := by
      rw [pressAlarm, hstate, ← hinterval]
      rfl
    exact pressed_of_renewed (fun e => { e with updateTimer := some (updateInterval s) }) hroom (by simp [EntersCall, hstate])
      rfl hwork (callAfterPress_in hstate) (fun _ _ => rfl)

/-! The two ways of a press. -/

theorem callAfterPress_released (s u : State) (b : Bool) (hemc : u.emc = { s.emc with alarmReleased := b })
    (hmem : u.mem = s.mem) : callAfterPress u = { callAfterPress s with alarmReleased := b } := by
  have hset : setting16 u = setting16 s := funext fun a => by rw [setting16, setting16, hmem]
  have hinterval : updateInterval u = updateInterval s := by rw [updateInterval, updateInterval, hset]
  unfold callAfterPress callAfterPressIn
  rw [hinterval, hset, hemc]
  cases s.emc.state <;> rfl

/-- What a press leaves, in the terms of the state before it and of the state once it has been answered and the lines driven. -/
structure PressEffect (released : Bool) (s t : State) : Prop where
  emc : t.emc = { callAfterPress s with owed := owedAfterAsk .alert s, alarmReleased := released }
  entered : EntersCall s → AsksCommit s t ∧
    (NoBid s → t.txq = { s.txq with frames := framesAfterAsk .alert s } ∧
      t.oft = { s.oft with entries := openWithdrawn s } ∧ t.dsc = s.dsc) ∧
    ∀ e, BidsAlone e s → BidGivenUp e .emergency .emergency
        { s with oft := { s.oft with entries := openWithdrawn s }, txq := { s.txq with frames := framesAfterAsk .alert s } } t ∧
      t.dsc = { s.dsc with status := .available }
  renewed : ¬EntersCall s → t.cps = s.cps ∧ t.oft = s.oft ∧ t.dsc = s.dsc ∧
    t.txq = { s.txq with frames := framesAfterAsk .alert s }

theorem pressEffect_of_pressed {s u work t : State} {b : Bool} (hp : Pressed u work)
    (hemc : u.emc = { s.emc with alarmReleased := b }) (hu : Keeps [.emc, .wpt, .pins] s u)
    (ht : Keeps [.mem, .atc, .pins] work t) : PressEffect b s t := by
  have htxq : u.txq = s.txq := hu .txq (by decide)
  have hoft : u.oft = s.oft := hu .oft (by decide)
  have hdsc : u.dsc = s.dsc := hu .dsc (by decide)
  have hcps : u.cps = s.cps := hu .cps (by decide)
  have henters : EntersCall u ↔ EntersCall s := by simp only [EntersCall, hemc]
  have hno : NoBid u ↔ NoBid s := by simp only [NoBid, hoft]
  have halone : ∀ e, BidsAlone e u ↔ BidsAlone e s := fun e => by simp only [BidsAlone, hoft, hdsc, htxq]
  have hframes : framesAfterAsk .alert u = framesAfterAsk .alert s := by simp only [framesAfterAsk, askedFrame, htxq]
  have howed : owedAfterAsk .alert u = owedAfterAsk .alert s := by simp only [owedAfterAsk, htxq, hemc]
  have hopen : openWithdrawn u = openWithdrawn s := by simp only [openWithdrawn, hoft]
  refine ⟨?_, fun he => ?_, fun he => ?_⟩
  · rw [ht .emc (by decide), hp.emc, howed, callAfterPress_released s u b hemc (hu .mem (by decide))]
  · obtain ⟨hasks, hidle, hbidder, -, -⟩ := hp.entered (henters.mpr he)
    refine ⟨by rw [AsksCommit, ht .cps (by decide), hasks, hcps], fun hn => ?_, fun e hb => ?_⟩
    · obtain ⟨h1, h2, h3⟩ := hidle (hno.mpr hn)
      exact ⟨by rw [ht .txq (by decide), h1, hframes, htxq], by rw [ht .oft (by decide), h2, hopen, hoft],
        by rw [ht .dsc (by decide), h3, hdsc]⟩
    · obtain ⟨h1, h2⟩ := hbidder e ((halone e).mpr hb)
      exact ⟨h1.congr (by rw [hopen, hoft]) (by rw [hframes, htxq]) (ht .oft (by decide)) (ht .txq (by decide)),
        by rw [ht .dsc (by decide), h2, hdsc]⟩
  · obtain ⟨hq, hk⟩ := hp.renewed (henters.not.mpr he)
    exact ⟨by rw [ht .cps (by decide), hk .cps (by decide), hcps], by rw [ht .oft (by decide), hk .oft (by decide), hoft],
      by rw [ht .dsc (by decide), hk .dsc (by decide), hdsc], by rw [ht .txq (by decide), hq, hframes, htxq]⟩

theorem Completes.imp {c : Instr} {s : State} {p q : State → Prop} (h : Completes c s p) (hpq : ∀ t, p t → q t) :
    Completes c s q := by
  obtain ⟨t, ht, hp⟩ := h
  exact ⟨t, ht, hpq t hp⟩

theorem RaisesJudged.congr {cs ds : List Channel} {s t : State} (h : RaisesJudged cs s t) (hcs : ∀ c, c ∈ cs ↔ c ∈ ds) :
    RaisesJudged ds s t := by
  obtain ⟨hatc, hset, hrest⟩ := h
  exact ⟨hatc, fun c hc => by rw [hset c hc, hcs], hrest⟩

/-- The ALARM line, from start-up stage 3 on (R108). -/
theorem alarmPress_effect {s : State} (high : Bool) (hstage : 3 ≤ s.phase.stagesEnded) :
    effect (.alarmPress high) s = judgeAlarm (s.modPins fun p => { p with alarm := high }) :=
  if_pos (by simpa [inputsWatched] using hstage)

/-- A press by the ALARM line. -/
theorem completes_alarm {s : State} {high : Bool} (hstage : 3 ≤ s.phase.stagesEnded) (hhigh : high = settingFlag s 0x12)
    (hreleased : s.emc.alarmReleased = true) (hroom : NoEmergencyFrame s → HasRoom s)
    (hbids : ¬EntersCall s ∨ NoBid s ∨ ∃ e, BidsAlone e s) {cs : List Channel} (hcs : CallChannels s cs) :
    Completes (.alarmPress high) s fun t => PressEffect false s t ∧ (EntersCall s → RaisesJudged cs s t) ∧
      (¬EntersCall s → t.atc = s.atc) ∧ Keeps [.dsc, .emc, .oft, .txq, .atc, .cps, .pins] s t ∧ SamplesAlarm high s t := by
  let sampled := s.modPins fun p => { p with alarm := high }
  let taken := sampled.modEmc fun e => { e with alarmReleased := false }
  have hu : Keeps [.emc, .pins] s taken := ((modPins_keeps _ s).trans (modEmc_keeps _ _)).mono (by decide)
  have heff : effect (.alarmPress high) s = pressAlarm taken := by
    rw [alarmPress_effect high hstage]
    exact (if_pos hhigh).trans (if_pos hreleased)
  have hp : Pressed taken (pressAlarm taken) := pressAlarm_pressed (s := taken) hroom hbids
  refine completes_of_effect heff ⟨pressEffect_of_pressed hp rfl (hu.mono (by decide)) ((driveLines_keeps _).mono (by decide)),
    fun he => ?_, fun he => ?_, ((hu.trans hp.keeps).trans (driveLines_keeps _)).mono (by decide), ?_⟩
  · obtain ⟨-, -, -, hattends, hnow⟩ := hp.entered he
    exact ((hattends cs hcs).rebase (s' := s) rfl rfl (.refl _)).beside hnow
  · obtain ⟨-, hk⟩ := hp.renewed he
    exact hk .atc (by decide)
  · have hpins : (pressAlarm taken).pins = taken.pins := hp.keeps .pins (by decide)
    rw [SamplesAlarm, driveLines_onlyLines hpins]
    rfl

/-- A press by request. -/
theorem completes_raise {s : State} {r : Fin 16} {rest : List (Fin 16)} (hwf : s.mem.Wf) (h : HeadIs .emergencyRaise r rest s)
    (hroom : NoEmergencyFrame s → HasRoom s) (hbids : ¬EntersCall s ∨ NoBid s ∨ ∃ e, BidsAlone e s) {cs : List Channel}
    (hcs : CallChannels s cs) :
    Completes .emergencyRaise s fun t => PressEffect s.emc.alarmReleased s t ∧
      (EntersCall s → RaisesJudged (.request :: cs) s t) ∧ (¬EntersCall s → Raises [.request] s t) ∧
      AnsweredPromptly r rest .done (if s.emc.state = .acked then 2 else 1) s t ∧ OnlyList s t ∧
      Keeps [.mem, .dsc, .emc, .oft, .txq, .wpt, .atc, .cps, .pins] s t ∧ OnlyLines s t := by
  let work := pressAlarm (leaveList rest s)
  have hp : Pressed (leaveList rest s) work := pressAlarm_pressed (s := leaveList rest s) hroom hbids
  have hcode : work.emc.state.code = if s.emc.state = .acked then 2 else 1 := by
    have hstate : work.emc.state = (callAfterPressIn s.emc.state (leaveList rest s)).state := by
      rw [hp.emc]
      rfl
    rw [hstate]
    cases hs : s.emc.state
    · rfl
    · simp [callAfterPressIn, leaveList, hs, EmergencyState.code]
    · simp [callAfterPressIn, leaveList, hs, EmergencyState.code]
    · rfl
  have hown : ownEmergencyRaise r (leaveList rest s) = answer r .done (if s.emc.state = .acked then 2 else 1) work := by
    rw [← hcode]
    rfl
  have hpress : ∀ t, Keeps [.mem, .atc, .pins] work t → PressEffect s.emc.alarmReleased s t := fun t ht =>
    pressEffect_of_pressed hp rfl ((leaveList_keeps rest s).mono (by decide)) ht
  by_cases he : EntersCall s
  · obtain ⟨-, -, -, hattends, hnow⟩ := hp.entered he
    obtain ⟨hprompt, hlist, hraises, hkeeps, hlines, hlast⟩ :=
      answered_work hwf hp.keeps (by decide) (by decide) (by decide) (hattends cs hcs) hnow r .done
        (if s.emc.state = .acked then 2 else 1)
    exact completes_request rfl h nofun hown ⟨hpress _ hlast, fun _ => hraises.congr fun c => by simp [or_comm],
      fun hno => absurd he hno, hprompt, hlist, hkeeps.mono (by decide), hlines⟩
  · obtain ⟨-, hk⟩ := hp.renewed he
    have hset : Sets s.atc [] (leaveList rest s) work := .of_atc (hk .atc (by decide))
    obtain ⟨hprompt, hlist, hraises, hkeeps, hlines, hlast⟩ :=
      answered_plain hwf hk (by decide) (by decide) (by decide) hset r .done (if s.emc.state = .acked then 2 else 1)
    exact completes_request rfl h nofun hown ⟨hpress _ hlast, fun hyes => absurd hyes he, fun _ => hraises, hprompt, hlist,
      hkeeps.mono (by decide), hlines⟩

/-- Settles O43: a press enters ALERTING or renews the call; the ALARM line and the request differ in what stands around it. -/
theorem pressRaisesACall : Obligations.PressRaisesACall := by
  refine ⟨?_, ?_⟩
  · intro s hroom emc enters idle bidder asked offers eff channels hbids
    have hcalls : CallChannels s channels := fun c => by
      by_cases hq : NoBid s ∧ offerOpen s = false
      · have hch : channels = [.emergency] := if_pos hq
        simp [hch, hq]
      · have hch : channels = [.emergency, .offerResult] := if_neg hq
        simp only [hch, List.mem_cons, List.not_mem_nil, or_false, hq, not_false_eq_true, and_true]
    have heff : ∀ {released t}, PressEffect released s t → eff released t := fun h =>
      ⟨h.emc, h.entered, h.renewed⟩
    refine ⟨fun high hstage hhigh hreleased => ?_, fun r rest hwf h => ?_⟩
    · exact (completes_alarm hstage hhigh hreleased hroom hbids hcalls).imp fun t ht =>
        ⟨heff ht.1, ht.2⟩
    · exact (completes_raise hwf h hroom hbids hcalls).imp fun t ht => ⟨heff ht.1, ht.2⟩
  · intro s high
    refine ⟨fun hstage => ?_, fun hstage hhigh hreleased => ?_, fun hstage hhigh => ?_⟩
    · have heff : effect (.alarmPress high) s = s := if_neg (by simpa [inputsWatched] using hstage)
      exact completes_of_effect heff ⟨driveLines_keeps s, driveLines_onlyLines rfl⟩
    · have heff : effect (.alarmPress high) s = s.modPins fun p => { p with alarm := high } := by
        rw [alarmPress_effect high hstage]
        exact (if_pos hhigh).trans (if_neg (by simp [hreleased]))
      exact completes_of_effect heff ⟨((modPins_keeps _ s).trans (driveLines_keeps _)).mono (by decide), rfl⟩
    · have heff : effect (.alarmPress high) s =
          (s.modPins fun p => { p with alarm := high }).modEmc fun e => { e with alarmReleased := true } := by
        rw [alarmPress_effect high hstage]
        exact if_neg hhigh
      exact completes_of_effect heff ⟨rfl,
        (((modPins_keeps _ s).trans (modEmc_keeps _ _)).trans (driveLines_keeps _)).mono (by decide), rfl⟩

end Sys2Proof.Machine
end

section
/-! PROOF. The clock, the schedule and the switch of the tariff (O15, O16). -/

namespace Sys2Proof.Machine

/-! The switch of a tariff (R22, R23). -/

section
variable {s : State}

/-- A settlement inside another group's rewrite leaves the update count (R162). -/
theorem rewriteFareGroup_still (h : s.wpt.rewriting ≠ 0) : (rewriteFareGroup s).wpt = s.wpt := by
  rw [(rewriteFareGroup_updated s).port, if_neg h]

theorem settle_still (h : s.wpt.rewriting ≠ 0) : (settle s).wpt = s.wpt := by
  have hset : ∀ u : State, u.wpt = s.wpt → (rewriteFareGroup u).wpt = s.wpt := fun u hu => by
    rw [rewriteFareGroup_still (by rwa [hu]), hu]
  have htaken : ∀ n a, (takeDrops n a s).wpt = s.wpt := fun _ _ => rfl
  unfold settle
  dsimp only
  split_ifs
  · rfl
  all_goals exact hset _ (by simp [htaken])

/-- The rates of a tariff in place of those in force (R22, step 1). -/
def ratesReplaced (n : Nat) (s : State) : State := replaceRates (windowTariff s n) s

/-- What a switch leaves (R22, R23). -/
structure SwitchMade (n : Nat) (s t : State) : Prop where
  frc : t.frc = { s.frc with hire := hireAfterSwitch s n, fareGroup := fareGroupNow t }
  asks : AsksCommit s t
  sets : Sets s.atc
    (if s.frc.hire.fareLimit = false ∧
        (((windowTariff s n).dropValue * (3600 * pulsesPerKm s) : Nat) : Int) ≤ s.frc.hire.accumulator
      then [.fare, .clock] else [.clock]) s t
  port : OnlyUpdates s t
  still : s.wpt.rewriting ≠ 0 → t.wpt = s.wpt
  keeps : Keeps [.frc, .wpt, .atc, .cps] s t

/-- What the settlement of a switch leaves, at the fare limit or below it (R22 step 2, R23; log entry 26). -/
structure SwitchSettled (n : Nat) (s t : State) : Prop where
  frc : t.frc = { s.frc with
    fareGroup := t.frc.fareGroup, hire := { hireAfterSwitch s n with switchCount := s.frc.hire.switchCount } }
  cps : (requestCommit t).cps = (requestCommit s).cps
  sets : Sets s.atc
    (if s.frc.hire.fareLimit = false ∧
        (((windowTariff s n).dropValue * (3600 * pulsesPerKm s) : Nat) : Int) ≤ s.frc.hire.accumulator
      then [.fare] else []) s t
  port : OnlyUpdates s t
  still : s.wpt.rewriting ≠ 0 → t.wpt = s.wpt
  keeps : Keeps [.frc, .wpt, .atc, .cps] s t

theorem Tariff.dropValue_pos {t : Tariff} (h : t.valid = true) : 1 ≤ t.dropValue := by
  simp only [Tariff.valid, Bool.and_eq_true, decide_eq_true_eq] at h
  omega

/-- Below the fare limit a switch settles as R12 and R13 do (R22). -/
theorem hireAfterSwitch_settled {n : Nat} (hl : s.frc.hire.fareLimit = false) :
    let w := ratesReplaced n s
    hireAfterSwitch s n = { w.frc.hire with
      accumulator := if limitReached w then (dropThreshold w : Int) - 1 else w.frc.hire.accumulator - dropsTaken w * dropThreshold w,
      dropCount := w.frc.hire.dropCount + dropsTaken w,
      fare := w.frc.hire.fare + dropsTaken w * w.frc.hire.tariff.dropValue, fareLimit := w.frc.hire.fareLimit || limitReached w,
      switchCount := min 255 (s.frc.hire.switchCount + 1) } := by
  intro w
  have hwl : w.frc.hire.fareLimit = false := hl
  have hlimit : (s.frc.hire.fareLimit || limitReached w) = limitReached w := by rw [hl, Bool.false_or]
  have htaken : (if s.frc.hire.fareLimit = true ∨ s.frc.hire.accumulator < dropThreshold w then 0
      else if dropsDue w * (windowTariff s n).dropValue ≤ headroom w then dropsDue w
      else headroom w / (windowTariff s n).dropValue) = dropsTaken w := by
    rw [hl]
    simp only [Bool.false_eq_true, false_or]
    rfl
  rw [hwl, Bool.false_or, ← htaken, ← hlimit]
  rfl

/-- A commit asked again is asked once. -/
theorem requestCommit_again {t u : State} (h : t.cps = (requestCommit u).cps) : (requestCommit t).cps = (requestCommit u).cps := by
  rw [requestCommit_asks t, h, requestCommit_asks u]
  simp only [commit_idem]

theorem settleSwitch_settled {n : Nat} (hv : (windowTariff s n).valid = true) :
    SwitchSettled n s (settleSwitch (ratesReplaced n s)) := by
  have hrates : Keeps [.frc] s (ratesReplaced n s) := modFrc_keeps _ s
  by_cases hl : s.frc.hire.fareLimit = true
  · have hwork : settleSwitch (ratesReplaced n s) =
        modHire (fun h => { h with accumulator := (dropThreshold (ratesReplaced n s) : Int) - 1 }) (ratesReplaced n s) := if_pos hl
    rw [hwork]
    refine ⟨?_, rfl, ?_, .of_port rfl, fun _ => rfl, (hrates.trans (modFrc_keeps _ _)).mono (by decide)⟩
    · simp [hireAfterSwitch, hl, ratesReplaced, replaceRates, modHire, dropThreshold, scale, pulsesPerKm, bank16]
    · rw [if_neg (by simp [hl])]
      exact .of_atc rfl
  · have hl' : s.frc.hire.fareLimit = false := by simpa using hl
    have hwork : settleSwitch (ratesReplaced n s) = settle (ratesReplaced n s) := if_neg hl
    have hset : Settled (ratesReplaced n s) (settle (ratesReplaced n s)) :=
      settle_settled (s := ratesReplaced n s) (Tariff.dropValue_pos (t := windowTariff s n) hv) hl'
    rw [hwork]
    refine ⟨?_, ?_, ?_, hset.port.congr rfl rfl, settle_still (s := ratesReplaced n s), (hrates.trans hset.keeps).mono (by decide)⟩
    · rw [hset.frc, hireAfterSwitch_settled hl']
      rfl
    · have hcps := hset.cps
      split_ifs at hcps
      · exact requestCommit_again hcps
      · rw [requestCommit_asks, hcps]
        rfl
    · have hs := hset.sets.rebase (s' := s) rfl rfl (.refl _)
      have hcond : (s.frc.hire.fareLimit = false ∧
          (((windowTariff s n).dropValue * (3600 * pulsesPerKm s) : Nat) : Int) ≤ s.frc.hire.accumulator) ↔
          ¬(ratesReplaced n s).frc.hire.accumulator < dropThreshold (ratesReplaced n s) := by
        rw [Int.not_lt]
        exact ⟨fun h => h.2, fun h => ⟨hl', h⟩⟩
      by_cases hA : (ratesReplaced n s).frc.hire.accumulator < dropThreshold (ratesReplaced n s)
      · rw [if_pos hA] at hs
        rw [if_neg (hcond.not.mpr (not_not_intro hA))]
        exact hs
      · rw [if_neg hA] at hs
        rw [if_pos (hcond.mpr hA)]
        exact hs

/-- A switch to a valid tariff of another number (R22). -/
theorem switchTariff_made {n : Nat} (hne : s.frc.hire.tariff.number ≠ n) (hv : (windowTariff s n).valid = true) :
    SwitchMade n s (switchTariff n s) := by
  let settled := settleSwitch (ratesReplaced n s)
  have hset : SwitchSettled n s settled := settleSwitch_settled hv
  let counted := modHire (fun h => { h with switchCount := satAdd 255 h.switchCount 1 }) settled
  let told := setChannel .clock counted
  have hcounted : Keeps [.frc] settled counted := modFrc_keeps _ _
  have htold : Keeps [.atc] counted told := setChannel_keeps _ _
  have hr := rewriteFareGroup_keeps told
  have hwork : switchTariff n s = requestCommit (rewriteFareGroup told) := (if_neg hne).trans (if_pos hv)
  have hlast := requestCommit_keeps (rewriteFareGroup told)
  have hk : Keeps [.frc, .wpt, .atc, .cps] s (switchTariff n s) := by
    rw [hwork]
    exact ((((hset.keeps.trans hcounted).trans htold).trans hr).trans hlast).mono (by decide)
  have hfrc : counted.frc = { s.frc with fareGroup := settled.frc.fareGroup, hire := hireAfterSwitch s n } := by
    rw [show counted.frc = { settled.frc with
      hire := { settled.frc.hire with switchCount := satAdd 255 settled.frc.hire.switchCount 1 } } from rfl, hset.frc]
    rfl
  have hwpt : told.wpt = settled.wpt := (htold .wpt (by decide)).trans (hcounted .wpt (by decide))
  rw [hwork] at hk ⊢
  refine ⟨?_, ?_, ?_, ?_, fun hrw => ?_, hk⟩
  · have hgroup : fareGroupNow (requestCommit (rewriteFareGroup told)) = fareGroupNow told := by
      have hf : (requestCommit (rewriteFareGroup told)).frc = (rewriteFareGroup told).frc := hlast .frc (by decide)
      rw [← fareGroupNow_rewriteFareGroup told]
      exact fareGroupNow_of_parts (by rw [hf]) (by rw [hf]) (by rw [hf]) (hlast .mtc (by decide)) rfl
    rw [hgroup, hlast .frc (by decide), rewriteFareGroup_frc, htold .frc (by decide), hfrc]
  · have hcps : (rewriteFareGroup told).cps = settled.cps :=
      ((hr .cps (by decide)).trans (htold .cps (by decide))).trans (hcounted .cps (by decide))
    rw [AsksCommit, requestCommit_asks, hcps, ← requestCommit_asks settled, hset.cps, requestCommit_asks]
  · have hclock : Sets settled.atc [.clock] settled told :=
      (setChannel_sets .clock counted).rebase rfl rfl (.refl _)
    have hboth := (hset.sets.trans hclock (.of_mem (hset.keeps .mem (by decide)))).rebase (s' := s)
      (t' := requestCommit (rewriteFareGroup told)) rfl ((hlast .atc (by decide)).trans (hr .atc (by decide))) (.refl _)
    exact hboth.congr fun c => by split_ifs <;> simp
  · exact hset.port.trans ((rewriteFareGroup_updated told).onlyUpdates.congr hwpt.symm (hlast .wpt (by decide)))
  · have hsame := hset.still hrw
    rw [hlast .wpt (by decide), rewriteFareGroup_still (by rw [hwpt, hsame]; exact hrw), hwpt, hsame]

end

/-! An evaluation of the schedule (R20). -/

/-- An evaluation in HIRED or STOPPED calls for a switch (R22). -/
def CallsForSwitch (s : State) : Prop :=
  scheduledNow s ≠ s.frc.scheduled ∧ autoSwitch s = true ∧ s.frc.hire.tariff.number ≠ scheduledNow s

/-- What every evaluation leaves. -/
structure ScheduleEvaluated (s t : State) : Prop where
  scheduled : t.frc.scheduled = scheduledNow s
  port : OnlyUpdates s t
  still : s.wpt.rewriting ≠ 0 ∨ scheduledNow s = s.frc.scheduled → t.wpt = s.wpt
  keeps : Keeps [.frc, .wpt, .atc, .cps] s t

/-- What an evaluation in HIRED or STOPPED leaves (R20, R22, R23). -/
structure RoadEvaluated (s t : State) : Prop extends ScheduleEvaluated s t where
  quiet : ¬CallsForSwitch s → t.frc = { s.frc with scheduled := scheduledNow s } ∧ t.atc = s.atc ∧ t.cps = s.cps
  invalid : CallsForSwitch s → (windowTariff s (scheduledNow s)).valid = false →
    t.frc = { s.frc with scheduled := scheduledNow s } ∧
    Sets (ringAfter s.atc .tariffInvalid (scheduledNow s) s.frc.clock.seconds) [.fault] s t ∧ t.cps = s.cps
  switched : CallsForSwitch s → (windowTariff s (scheduledNow s)).valid = true →
    t.frc = { s.frc with
      scheduled := scheduledNow s, hire := hireAfterSwitch s (scheduledNow s), fareGroup := fareGroupNow t } ∧
    AsksCommit s t ∧
    Sets s.atc
      (if s.frc.hire.fareLimit = false ∧
          (((windowTariff s (scheduledNow s)).dropValue * (3600 * pulsesPerKm s) : Nat) : Int) ≤ s.frc.hire.accumulator
        then [.fare, .clock] else [.clock]) s t

section
variable {s : State}

/-- The scheduled tariff has changed, and nothing else yet. -/
def scheduleMoved (s : State) : State := s.modFrc fun f => { f with scheduled := scheduledNow s }

theorem scheduleMoved_keeps : Keeps [.frc] s (scheduleMoved s) := modFrc_keeps _ s

theorem evaluateSchedule_same (h : scheduledNow s = s.frc.scheduled) : evaluateSchedule s = s := if_pos h

theorem scheduleMoved_evaluated : ScheduleEvaluated s (scheduleMoved s) :=
  ⟨rfl, .of_port rfl, fun _ => rfl, scheduleMoved_keeps.mono (by decide)⟩

theorem evaluateSchedule_road (hroad : s.mtc.meter = .hired ∨ s.mtc.meter = .stopped) :
    RoadEvaluated s (evaluateSchedule s) := by
  by_cases hsame : scheduledNow s = s.frc.scheduled
  · have hno : ¬CallsForSwitch s := fun h => h.1 hsame
    rw [evaluateSchedule_same hsame]
    exact ⟨⟨hsame.symm, .of_port rfl, fun _ => rfl, (Keeps.refl [] s).mono (by decide)⟩, fun _ => ⟨by rw [hsame], rfl, rfl⟩,
      fun h => absurd h hno, fun h => absurd h hno⟩
  · have hwork : evaluateSchedule s =
        if autoSwitch s = true then switchTariff (scheduledNow s) (scheduleMoved s) else scheduleMoved s := by
      rw [evaluateSchedule, if_neg hsame, changeSchedule]
      rcases hroad with hm | hm <;> rw [hm] <;> rfl
    by_cases hauto : autoSwitch s = true
    · by_cases hnumber : s.frc.hire.tariff.number = scheduledNow s
      · have hno : ¬CallsForSwitch s := fun h => h.2.2 hnumber
        have heq : evaluateSchedule s = scheduleMoved s := (hwork.trans (if_pos hauto)).trans (if_pos hnumber)
        rw [heq]
        exact ⟨scheduleMoved_evaluated, fun _ => ⟨rfl, rfl, rfl⟩, fun h => absurd h hno, fun h => absurd h hno⟩
      · have hcalls : CallsForSwitch s := ⟨hsame, hauto, hnumber⟩
        cases hv : (windowTariff s (scheduledNow s)).valid with
        | true =>
          have hmade : SwitchMade (scheduledNow s) (scheduleMoved s) (switchTariff (scheduledNow s) (scheduleMoved s)) :=
            switchTariff_made (s := scheduleMoved s) hnumber hv
          rw [hwork, if_pos hauto]
          refine ⟨⟨?_, hmade.port.congr rfl rfl, fun h => h.elim hmade.still fun h => absurd h hsame,
            (scheduleMoved_keeps.trans hmade.keeps).mono (by decide)⟩, fun h => absurd hcalls h, fun _ h => ?_, fun _ _ => ?_⟩
          · rw [hmade.frc]
            rfl
          · rw [hv] at h
            exact absurd h (by decide)
          · exact ⟨hmade.frc, hmade.asks, hmade.sets.rebase rfl rfl (.refl _)⟩
        | false =>
          have heq : evaluateSchedule s = recordFault .tariffInvalid (scheduledNow s) (scheduleMoved s) := by
            rw [hwork, if_pos hauto]
            refine (if_neg hnumber).trans (if_neg ?_)
            rw [show windowTariff (scheduleMoved s) (scheduledNow s) = windowTariff s (scheduledNow s) from rfl, hv]
            decide
          have hrec : Keeps [.atc] (scheduleMoved s) (recordFault .tariffInvalid (scheduledNow s) (scheduleMoved s)) :=
            keeps_of_atc (recordFault_eq ..)
          have hset : Sets _ [.fault] (scheduleMoved s) (recordFault .tariffInvalid (scheduledNow s) (scheduleMoved s)) :=
            recordFault_records .tariffInvalid (scheduledNow s) (scheduleMoved s)
          rw [heq]
          refine ⟨⟨?_, .of_port (hrec .wpt (by decide)), fun _ => hrec .wpt (by decide),
            (scheduleMoved_keeps.trans hrec).mono (by decide)⟩, fun h => absurd hcalls h,
            fun _ _ => ⟨hrec .frc (by decide), hset.rebase rfl rfl (.refl _), hrec .cps (by decide)⟩, fun _ h => ?_⟩
          · rw [hrec .frc (by decide)]
            rfl
          · rw [hv] at h
            exact absurd h (by decide)
    · have hno : ¬CallsForSwitch s := fun h => hauto h.2.1
      rw [hwork, if_neg hauto]
      exact ⟨scheduleMoved_evaluated, fun _ => ⟨rfl, rfl, rfl⟩, fun h => absurd h hno, fun h => absurd h hno⟩

theorem shownTariff_rewriteFareGroup (s : State) : shownTariff (rewriteFareGroup s) = shownTariff s := by
  rw [shownTariff, rewriteFareGroup_frc, rewriteFareGroup_keeps s .mtc (by decide), shownTariff]

/-- What an evaluation outside HIRED and STOPPED leaves (R20, R21). -/
structure ParkedEvaluated (s t : State) : Prop extends ScheduleEvaluated s t where
  frc : t.frc = { s.frc with scheduled := scheduledNow s, fareGroup := t.frc.fareGroup }
  number : s.frc.fareGroup.number = shownTariff s → t.frc.fareGroup.number = shownTariff t
  rest : Keeps [.frc, .wpt] s t

theorem evaluateSchedule_parked (hroad : ¬(s.mtc.meter = .hired ∨ s.mtc.meter = .stopped)) :
    ParkedEvaluated s (evaluateSchedule s) := by
  by_cases hsame : scheduledNow s = s.frc.scheduled
  · rw [evaluateSchedule_same hsame]
    exact ⟨⟨hsame.symm, .of_port rfl, fun _ => rfl, (Keeps.refl [] s).mono (by decide)⟩, by rw [hsame], id,
      (Keeps.refl [] s).mono (by decide)⟩
  · have hshown : ∀ h : s.mtc.meter = .payment ∨ s.frc.override ≠ none, shownTariff (scheduleMoved s) = shownTariff s := by
      intro h
      rcases h with h | h
      · simp [shownTariff, scheduleMoved, h, MeterState.tripOpen]
      · obtain ⟨n, hn⟩ := Option.ne_none_iff_exists'.mp h
        simp [shownTariff, scheduleMoved, hn]
    have hquiet : s.mtc.meter = .payment ∨ s.frc.override ≠ none → ParkedEvaluated s (scheduleMoved s) := fun h =>
      ⟨scheduleMoved_evaluated, rfl, fun hn => by rw [hshown h]; exact hn, scheduleMoved_keeps.mono (by decide)⟩
    have hr := rewriteFareGroup_keeps (scheduleMoved s)
    have hrewrite : ParkedEvaluated s (rewriteFareGroup (scheduleMoved s)) := by
      refine ⟨⟨?_, (rewriteFareGroup_updated (scheduleMoved s)).onlyUpdates.congr rfl rfl,
        fun h => h.elim (fun h => rewriteFareGroup_still (s := scheduleMoved s) h) fun h => absurd h hsame,
        (scheduleMoved_keeps.trans hr).mono (by decide)⟩, ?_, fun _ => ?_, (scheduleMoved_keeps.trans hr).mono (by decide)⟩
      · rw [rewriteFareGroup_frc]
        rfl
      · rw [rewriteFareGroup_frc]
        rfl
      · rw [shownTariff_rewriteFareGroup, rewriteFareGroup_frc]
        rfl
    rw [evaluateSchedule, if_neg hsame, changeSchedule]
    cases hm : s.mtc.meter with
    | hired => exact absurd (.inl hm) hroad
    | stopped => exact absurd (.inr hm) hroad
    | payment => exact hquiet (.inl hm)
    | off | vacant =>
      by_cases ho : s.frc.override = none
      · dsimp only
        rw [if_pos ho]
        exact hrewrite
      · dsimp only
        rw [if_neg ho]
        exact hquiet (.inr ho)

theorem evaluateSchedule_evaluated (s : State) : ScheduleEvaluated s (evaluateSchedule s) := by
  by_cases hroad : s.mtc.meter = .hired ∨ s.mtc.meter = .stopped
  · exact (evaluateSchedule_road hroad).toScheduleEvaluated
  · exact (evaluateSchedule_parked hroad).toScheduleEvaluated

/-! The clock group's rewrite with its evaluation (R20, R162). -/

/-- The clock has changed, and the schedule has been evaluated in `u`, which differs from the state before in the clock and
in how far the rewrite is; `t` differs from what the evaluation made in the latter alone. -/
structure ClockEvaluated (change : Frc → Frc) (s u t : State) : Prop where
  begun : u = { s with frc := change s.frc, wpt := u.wpt }
  ended : t = { evaluateSchedule u with wpt := t.wpt }
  port : OnlyUpdates s t
  once : scheduledNow u = u.frc.scheduled → RewritesOnce s t

theorem clockBegun_port (change : Frc → Frc) (s : State) : PortUpdated s (endRewrite ((beginRewrite s).modFrc change)) :=
  ⟨groupRewrite_wpt (fun t => t.modFrc change) s fun _ => rfl⟩

theorem endRewrite_wpt_congr {s t : State} (h : t.wpt = s.wpt) : (endRewrite t).wpt = (endRewrite s).wpt := by
  rw [endRewrite, State.modWpt_wpt, h, endRewrite, State.modWpt_wpt]

theorem rewriteClockAndEvaluate_evaluated (change : Frc → Frc) (s : State) :
    ∃ u, ClockEvaluated change s u (rewriteClockAndEvaluate change s) := by
  let begun := (beginRewrite s).modFrc change
  have hport := clockBegun_port change s
  by_cases hlap : scheduledNow begun ≠ begun.frc.scheduled ∧ Config.rewritesOverlap s.wpt.updateCount = true
  · have hwork : rewriteClockAndEvaluate change s = endRewrite (evaluateSchedule begun) := if_pos hlap
    have hrewriting : begun.wpt.rewriting ≠ 0 := Nat.succ_ne_zero _
    have hstill := (evaluateSchedule_evaluated begun).still (.inl hrewriting)
    rw [hwork]
    exact ⟨begun, rfl, rfl, (hport.congr (s' := s) rfl (endRewrite_wpt_congr hstill)).onlyUpdates, fun h => absurd h hlap.1⟩
  · have hwork : rewriteClockAndEvaluate change s = evaluateSchedule (endRewrite begun) := if_neg hlap
    have heval := evaluateSchedule_evaluated (endRewrite begun)
    rw [hwork]
    exact ⟨endRewrite begun, rfl, rfl, hport.onlyUpdates.trans heval.port,
      fun h => (hport.congr (s' := s) rfl (heval.still (.inr h))).rewritesOnce⟩

end

/-- A change of the clock and of its set flag alone. -/
def ClockOnly (change : Frc → Frc) : Prop :=
  ∀ f, change f = { f with clock := (change f).clock, clockSet := (change f).clockSet }

theorem scheduledNow_congr {s t : State} (hmem : t.mem = s.mem) (hclock : t.frc.clock = s.frc.clock)
    (hset : t.frc.clockSet = s.frc.clockSet) : scheduledNow t = scheduledNow s := by
  have hentry : scheduleEntry t = scheduleEntry s := funext fun i => by simp only [scheduleEntry, hmem]
  have hqualifying : qualifyingEntry t = qualifyingEntry s := by simp only [qualifyingEntry, hentry, hclock]
  rw [scheduledNow, scheduledNow, hset, hqualifying]

/-- The hire after a switch reads the hire, and nothing else of the fare computer. -/
theorem hireAfterSwitch_congr {s : State} {f : Frc} {w : Wpt} {n : Nat} (h : f.hire = s.frc.hire) :
    hireAfterSwitch { s with frc := f, wpt := w } n = hireAfterSwitch s n := by
  cases f
  subst h
  rfl

namespace ClockEvaluated

variable {change : Frc → Frc} {s u t : State} (h : ClockEvaluated change s u t) (hc : ClockOnly change)
include h

theorem frc_eq : t.frc = (evaluateSchedule u).frc := by rw [h.ended]

theorem before : u.frc = change s.frc := by rw [h.begun]

theorem keeps : Keeps [.frc, .wpt, .atc, .cps] s t := by
  have hu : Keeps [.frc, .wpt] s u := by
    rw [h.begun]
    simp [keeps_iff]
  have ht : Keeps [.wpt] (evaluateSchedule u) t := by
    rw [h.ended]
    simp [keeps_iff]
  exact ((hu.trans (evaluateSchedule_evaluated u).keeps).trans ht).mono (by decide)

include hc

/-- Nothing else of the fare computer changes. -/
theorem frc_only : t.frc = { s.frc with
    clock := (change s.frc).clock, clockSet := (change s.frc).clockSet, scheduled := t.frc.scheduled, hire := t.frc.hire,
    fareGroup := t.frc.fareGroup } := by
  have heval : (evaluateSchedule u).frc = { u.frc with
      scheduled := (evaluateSchedule u).frc.scheduled, hire := (evaluateSchedule u).frc.hire,
      fareGroup := (evaluateSchedule u).frc.fareGroup } := by
    by_cases hroad : u.mtc.meter = .hired ∨ u.mtc.meter = .stopped
    · have he := evaluateSchedule_road hroad
      by_cases hcalls : CallsForSwitch u
      · cases hv : (windowTariff u (scheduledNow u)).valid with
        | true =>
          obtain ⟨hfrc, -, -⟩ := he.switched hcalls hv
          rw [hfrc]
        | false =>
          obtain ⟨hfrc, -, -⟩ := he.invalid hcalls hv
          rw [hfrc]
      · obtain ⟨hfrc, -, -⟩ := he.quiet hcalls
        rw [hfrc]
    · rw [(evaluateSchedule_parked hroad).frc]
  rw [h.frc_eq, heval, h.before, hc]

theorem clock_kept : t.frc.clock = (change s.frc).clock ∧ t.frc.clockSet = (change s.frc).clockSet ∧
    t.frc.override = s.frc.override ∧ t.frc.pulseCounter = s.frc.pulseCounter ∧ t.frc.shiftPulses = s.frc.shiftPulses := by
  rw [h.frc_only hc]
  exact ⟨rfl, rfl, rfl, rfl, rfl⟩

theorem scheduledNow_eq : scheduledNow t = scheduledNow u := by
  obtain ⟨hclock, hset, -⟩ := h.clock_kept hc
  refine scheduledNow_congr ?_ (by rw [hclock, h.before]) (by rw [hset, h.before])
  rw [h.keeps .mem (by decide), h.begun]

theorem scheduled_eq : t.frc.scheduled = scheduledNow t := by
  rw [h.frc_eq, (evaluateSchedule_evaluated u).scheduled, h.scheduledNow_eq hc]

theorem once_of_same (hsame : t.frc.scheduled = s.frc.scheduled) : RewritesOnce s t := by
  refine h.once ?_
  rw [← h.scheduledNow_eq hc, ← h.scheduled_eq hc, hsame, h.before, hc]

theorem due_iff : SwitchDue s t ↔ CallsForSwitch u := by
  have hauto : autoSwitch u = autoSwitch s := by rw [h.begun]; rfl
  have hb := h.before
  rw [hc] at hb
  rw [SwitchDue, CallsForSwitch, h.scheduledNow_eq hc, hauto, hb]

theorem window_eq : windowTariff u = windowTariff s ∧ hireAfterSwitch u = hireAfterSwitch s ∧ u.frc.hire = s.frc.hire := by
  have hhire : u.frc.hire = s.frc.hire := by rw [h.before, hc]
  have hmem : u.mem = s.mem := by rw [h.begun]
  have hwindow : windowTariff u = windowTariff s := funext fun n => by simp only [windowTariff, hmem]
  exact ⟨hwindow, funext fun n => by rw [h.begun, hireAfterSwitch_congr (h.before ▸ hhire)], hhire⟩

/-- The fare computer where no switch is made. -/
theorem frc_kept (hfrc : (evaluateSchedule u).frc = { u.frc with scheduled := scheduledNow u }) :
    t.frc = { s.frc with clock := t.frc.clock, clockSet := t.frc.clockSet, scheduled := scheduledNow t } := by
  obtain ⟨hclock, hset, -⟩ := h.clock_kept hc
  rw [h.scheduledNow_eq hc, hclock, hset, h.frc_eq, hfrc, h.before, hc]

omit hc in
theorem atc_eq : t.atc = (evaluateSchedule u).atc ∧ u.atc = s.atc := ⟨by rw [h.ended], by rw [h.begun]⟩

omit hc in
/-- What an evaluation sets, from the state before the clock's change. -/
theorem sets_eq {ring : Atc} {cs : List Channel} (hs : Sets ring cs u (evaluateSchedule u)) : Sets ring cs s t :=
  hs.rebase (by rw [h.begun]) (by rw [h.ended]) (.of_mem (by rw [h.begun]))

/-- The evaluation in HIRED or STOPPED, with what the command sets besides. -/
theorem tariffEvaluated (hroad : s.mtc.meter = .hired ∨ s.mtc.meter = .stopped) {t' : State} {cs : List Channel}
    (hfrc : t'.frc = t.frc) (hgroup : fareGroupNow t' = fareGroupNow t) (hmem : scheduledNow t' = scheduledNow t)
    (hsets : Sets t.atc cs t t') : TariffEvaluated cs s t' := by
  have hroad' : u.mtc.meter = .hired ∨ u.mtc.meter = .stopped := by rwa [h.begun]
  have he := evaluateSchedule_road hroad'
  have hsettings : SameSettings s t := .of_mem (h.keeps .mem (by decide))
  obtain ⟨hwindow, hhire, hsame⟩ := h.window_eq hc
  obtain ⟨hclock, hset, -⟩ := h.clock_kept hc
  have hnow := h.scheduledNow_eq hc
  have hdue : SwitchDue s t' ↔ CallsForSwitch u := by
    rw [← h.due_iff hc, SwitchDue, hmem, SwitchDue]
  have hswitched : Switched s t' ↔ CallsForSwitch u ∧ (windowTariff u (scheduledNow u)).valid = true := by
    rw [Switched, hdue, hmem, hnow, hwindow]
  have hatc := h.atc_eq
  unfold TariffEvaluated
  intro n kept drops
  have hn : n = scheduledNow u := hmem.trans hnow
  refine ⟨fun hno => ?_, fun hyes hinvalid => ?_, fun hyes => ?_⟩
  · obtain ⟨hkept, hquiet, -⟩ := he.quiet (hdue.not.mp hno)
    have hsame : Sets s.atc [] s t := .of_atc (hatc.1.trans (hquiet.trans hatc.2))
    refine ⟨?_, (hsame.trans hsets hsettings)⟩
    have := h.frc_kept hc hkept
    simp only [kept, hfrc, hn, ← hnow]
    exact this
  · have hcalls := hdue.mp hyes
    have hv : (windowTariff u (scheduledNow u)).valid = false := by
      by_contra hne
      exact hinvalid (hswitched.mpr ⟨hcalls, by simpa using hne⟩)
    obtain ⟨hkept, hrecord, -⟩ := he.invalid hcalls hv
    have hrec := ((h.sets_eq hrecord).trans hsets hsettings)
    refine ⟨?_, ?_⟩
    · have := h.frc_kept hc hkept
      simp only [kept, hfrc, hn, ← hnow]
      exact this
    · rw [h.before, ← hclock, hatc.2] at hrec
      rw [hn, hfrc]
      exact hrec
  · obtain ⟨hcalls, hv⟩ := hswitched.mp hyes
    obtain ⟨hmade, -, hchannels⟩ := he.switched hcalls hv
    have hrec := ((h.sets_eq hchannels).trans hsets hsettings)
    have hgroup' : fareGroupNow t = fareGroupNow (evaluateSchedule u) := by rw [h.ended]; rfl
    have hdrops : drops ↔ u.frc.hire.fareLimit = false ∧
        (((windowTariff u (scheduledNow u)).dropValue * (3600 * pulsesPerKm u) : Nat) : Int) ≤ u.frc.hire.accumulator := by
      have hcps : pulsesPerKm u = pulsesPerKm s := by rw [h.begun]; rfl
      rw [hsame, hwindow, hcps, ← hn]
    rw [hatc.2] at hrec
    refine ⟨?_, fun hd => ?_, fun hd => ?_⟩
    · rw [hgroup, hgroup', hfrc]
      simp only [kept, hfrc, hclock, hset]
      rw [h.frc_eq, hmade, hhire, h.before, hn, hc]
    · rw [if_pos (hdrops.mp hd)] at hrec
      exact hrec
    · rw [if_neg (hdrops.not.mp hd)] at hrec
      exact hrec

/-- The commit that a switch asks. -/
theorem commit_of_switch (hroad : s.mtc.meter = .hired ∨ s.mtc.meter = .stopped) :
    (Switched s t → AsksCommit s t) ∧ (¬Switched s t → t.cps = s.cps) := by
  have hroad' : u.mtc.meter = .hired ∨ u.mtc.meter = .stopped := by rwa [h.begun]
  have he := evaluateSchedule_road hroad'
  obtain ⟨hwindow, -, -⟩ := h.window_eq hc
  have hswitched : Switched s t ↔ CallsForSwitch u ∧ (windowTariff u (scheduledNow u)).valid = true := by
    rw [Switched, h.due_iff hc, h.scheduledNow_eq hc, hwindow]
  have hcps : t.cps = (evaluateSchedule u).cps := by rw [h.ended]
  have hcps' : u.cps = s.cps := by rw [h.begun]
  rw [hswitched, AsksCommit, hcps]
  refine ⟨fun hyes => ?_, fun hno => ?_⟩
  · obtain ⟨-, hasks, -⟩ := he.switched hyes.1 hyes.2
    rw [hasks, hcps']
  · by_cases hcalls : CallsForSwitch u
    · have hv : (windowTariff u (scheduledNow u)).valid = false := by
        by_contra hne
        exact hno ⟨hcalls, by simpa using hne⟩
      obtain ⟨-, -, hq⟩ := he.invalid hcalls hv
      rw [hq, hcps']
    · obtain ⟨-, -, hq⟩ := he.quiet hcalls
      rw [hq, hcps']

/-- The evaluation in the other states. -/
theorem parked (hroad : ¬(s.mtc.meter = .hired ∨ s.mtc.meter = .stopped)) :
    t.frc = { s.frc with
      clock := t.frc.clock, clockSet := t.frc.clockSet, scheduled := t.frc.scheduled, fareGroup := t.frc.fareGroup } ∧
    (s.frc.fareGroup.number = shownTariff s → t.frc.fareGroup.number = shownTariff t) ∧ t.atc = s.atc ∧ t.cps = s.cps := by
  have hroad' : ¬(u.mtc.meter = .hired ∨ u.mtc.meter = .stopped) := by rwa [h.begun]
  have he := evaluateSchedule_parked hroad'
  have hatc := h.atc_eq
  obtain ⟨hclock, hset, -⟩ := h.clock_kept hc
  refine ⟨?_, fun hn => ?_, hatc.1.trans ((he.rest .atc (by decide)).trans hatc.2), ?_⟩
  · rw [hclock, hset, h.frc_eq, he.frc, h.before, hc]
  · have hshown : shownTariff t = shownTariff (evaluateSchedule u) := by rw [h.ended]; rfl
    have hbefore : u.frc.fareGroup.number = shownTariff u := by
      have hmtc : u.mtc = s.mtc := by rw [h.begun]
      rw [shownTariff, hmtc, h.before, hc]
      exact hn
    rw [h.frc_eq, hshown]
    exact he.number hbefore
  · have hcps : t.cps = (evaluateSchedule u).cps := by rw [h.ended]
    rw [hcps, he.rest .cps (by decide), h.begun]

end ClockEvaluated

end Sys2Proof.Machine
end

section
/-! PROOF. The calendar second and the setting of the clock (O15, O16). -/

namespace Sys2Proof.Machine

/-! The calendar (R17). -/

section
variable {t : Stamp}

theorem nextSecond_seconds (h : t.valid = true) : t.nextSecond.seconds = (t.seconds + 1) % 86400 := by
  have hs : t.seconds ≤ 86399 := by
    simp only [Stamp.valid, Bool.and_eq_true, decide_eq_true_eq] at h
    exact h.2
  unfold Stamp.nextSecond
  split_ifs with hlt
  · rw [Nat.mod_eq_of_lt (by omega)]
  · rw [show t.seconds = 86399 by omega]

theorem nextSecond_within (h : t.seconds < 86399) : t.nextSecond = { t with seconds := t.seconds + 1 } := if_pos h

theorem nextSecond_midnight (h : t.seconds = 86399) : t.nextSecond = { t.nextDay with seconds := 0 } := if_neg (by omega)

theorem nextDay_within (h : t.day < monthLength t.year t.month) : t.nextDay = { t with day := t.day + 1 } := if_pos h

theorem nextDay_month (h : t.day = monthLength t.year t.month) (hm : t.month < 12) :
    t.nextDay = { t with month := t.month + 1, day := 1 } := by
  rw [Stamp.nextDay, if_neg (by omega), if_pos hm]

theorem nextDay_year (hv : t.valid = true) (h : t.day = monthLength t.year t.month) (hm : t.month = 12) :
    t.nextDay = { t with year := if t.year = 2099 then 2000 else t.year + 1, month := 1, day := 1 } := by
  have hy : t.year ≤ 2099 := by
    simp only [Stamp.valid, Bool.and_eq_true, decide_eq_true_eq] at hv
    omega
  rw [Stamp.nextDay, if_neg (by omega), if_neg (by omega)]
  by_cases hlast : t.year = 2099
  · rw [if_neg (by omega), if_pos hlast]
  · rw [if_pos (by omega), if_neg hlast]

end

/-! The entry that qualifies (R20). -/

/-- The best of the first entries of the schedule. -/
def qualifyingAmong (s : State) (n : Nat) : Option ScheduleEntry :=
  (List.range n).foldl (fun best i =>
    if (scheduleEntry s i).qualifies s.frc.clock then laterEntry best (scheduleEntry s i) else best) none

section
variable {s : State}

theorem qualifyingAmong_succ (n : Nat) : qualifyingAmong s (n + 1) =
    if (scheduleEntry s n).qualifies s.frc.clock then laterEntry (qualifyingAmong s n) (scheduleEntry s n)
    else qualifyingAmong s n := by
  simp only [qualifyingAmong, List.range_succ, List.foldl_append, List.foldl_cons, List.foldl_nil]

/-- The best entry is one of those that qualify. -/
theorem qualifyingAmong_mem (n : Nat) : qualifyingAmong s n = none ∨
    ∃ j, j < n ∧ (scheduleEntry s j).qualifies s.frc.clock = true ∧ qualifyingAmong s n = some (scheduleEntry s j) := by
  induction n with
  | zero => exact .inl rfl
  | succ n ih =>
    have hkept : (∃ j, j < n ∧ (scheduleEntry s j).qualifies s.frc.clock = true ∧
        qualifyingAmong s n = some (scheduleEntry s j)) → ∃ j, j < n + 1 ∧ (scheduleEntry s j).qualifies s.frc.clock = true ∧
        qualifyingAmong s n = some (scheduleEntry s j) := fun ⟨j, hj, h⟩ => ⟨j, by omega, h⟩
    rw [qualifyingAmong_succ]
    by_cases hq : (scheduleEntry s n).qualifies s.frc.clock = true
    · rw [if_pos hq]
      right
      rcases ih with ih | ⟨j, hj, hqj, ih⟩
      · exact ⟨n, by omega, hq, by rw [ih]; rfl⟩
      · rw [ih]
        by_cases hlater : (scheduleEntry s j).minute < (scheduleEntry s n).minute
        · exact ⟨n, by omega, hq, if_pos hlater⟩
        · exact ⟨j, by omega, hqj, if_neg hlater⟩
    · rw [if_neg hq]
      exact ih.imp_right hkept

theorem qualifyingAmong_none {n : Nat} (h : ∀ i, i < n → (scheduleEntry s i).qualifies s.frc.clock = false) :
    qualifyingAmong s n = none := by
  rcases qualifyingAmong_mem (s := s) n with hn | ⟨j, hj, hq, -⟩
  · exact hn
  · rw [h j hj] at hq
    exact absurd hq (by decide)

/-- The lowest-numbered of the entries with the latest start minute is the best. -/
theorem qualifyingAmong_some {i n : Nat} (hi : i < n) (hq : (scheduleEntry s i).qualifies s.frc.clock = true)
    (hbest : ∀ j, j < n → (scheduleEntry s j).qualifies s.frc.clock = true →
      (scheduleEntry s j).minute < (scheduleEntry s i).minute ∨ ((scheduleEntry s j).minute = (scheduleEntry s i).minute ∧ i ≤ j)) :
    qualifyingAmong s n = some (scheduleEntry s i) := by
  induction n with
  | zero => exact absurd hi (Nat.not_lt_zero i)
  | succ n ih =>
    rw [qualifyingAmong_succ]
    rcases Nat.lt_succ_iff_lt_or_eq.mp hi with hlt | rfl
    · rw [ih hlt fun j hj => hbest j (by omega)]
      by_cases hqn : (scheduleEntry s n).qualifies s.frc.clock = true
      · rw [if_pos hqn]
        exact if_neg (by rcases hbest n (by omega) hqn with h | h <;> omega)
      · rw [if_neg hqn]
    · rw [if_pos hq]
      rcases qualifyingAmong_mem (s := s) i with hnone | ⟨j, hj, hqj, hsome⟩
      · rw [hnone]
        rfl
      · rw [hsome]
        exact if_pos (by rcases hbest j (by omega) hqj with h | h <;> omega)

theorem scheduledNow_clear (h : s.frc.clockSet = false) : scheduledNow s = 0 := if_neg (by rw [h]; decide)

theorem scheduledNow_none (h : qualifyingAmong s 16 = none) : scheduledNow s = 0 := by
  have hq : qualifyingEntry s = none := h
  rw [scheduledNow, hq]
  split_ifs <;> rfl

theorem scheduledNow_some {x : ScheduleEntry} (hset : s.frc.clockSet = true) (h : qualifyingAmong s 16 = some x) :
    scheduledNow s = x.tariff := by
  have hq : qualifyingEntry s = some x := h
  rw [scheduledNow, if_pos hset, hq]

end

section
variable {s t : State}

/-- An entry of the schedule is read from its eight bytes. -/
theorem scheduleEntry_congr {i : Nat} (h : ∀ o, o < 8 → t.mem.read (0x2C00 + 8 * i + o) = s.mem.read (0x2C00 + 8 * i + o)) :
    scheduleEntry t i = scheduleEntry s i := by
  have h0 := h 0 (by omega)
  rw [Nat.add_zero] at h0
  simp only [scheduleEntry, Memory.readNat, Memory.readBytes, h0, h 1 (by omega), h 2 (by omega), h 4 (by omega),
    show 0x2C00 + 8 * i + 2 + 1 = 0x2C00 + 8 * i + 3 from rfl, h 3 (by omega)]

theorem qualifyingAmong_congr {n : Nat} (hclock : t.frc.clock = s.frc.clock)
    (h : ∀ i, i < n → scheduleEntry t i = scheduleEntry s i) : qualifyingAmong t n = qualifyingAmong s n := by
  induction n with
  | zero => rfl
  | succ n ih => rw [qualifyingAmong_succ, qualifyingAmong_succ, h n (by omega), hclock, ih fun i hi => h i (by omega)]

theorem scheduledNow_of_qualifying (hset : t.frc.clockSet = s.frc.clockSet) (h : qualifyingAmong t 16 = qualifyingAmong s 16) :
    scheduledNow t = scheduledNow s := by
  cases hs : s.frc.clockSet with
  | false => rw [scheduledNow_clear hs, scheduledNow_clear (hset.trans hs)]
  | true =>
    cases hq : qualifyingAmong s 16 with
    | none => rw [scheduledNow_none hq, scheduledNow_none (h.trans hq)]
    | some x => rw [scheduledNow_some hs hq, scheduledNow_some (hset.trans hs) (h.trans hq)]

/-- An answer leaves what the schedule gives. -/
theorem scheduledNow_of_answer {r : Fin 16} (hfrc : t.frc = s.frc) (h : OnlyAnswerBytes r s t) :
    scheduledNow t = scheduledNow s := by
  refine scheduledNow_of_qualifying (by rw [hfrc]) (qualifyingAmong_congr (by rw [hfrc]) fun i hi => scheduleEntry_congr fun o _ => ?_)
  refine h _ ?_
  simp only [IsAnswerByte, recordBase]
  omega

end

/-! The end of a calendar second. -/

theorem tick_clockOnly : ClockOnly Frc.tick := fun _ => rfl

section
variable {s : State}

/-- Off a minute boundary the clock alone changes (R17). -/
theorem endCalendarSecond_within (h : s.frc.clock.nextSecond.seconds % 60 ≠ 0) :
    endCalendarSecond s = endRewrite ((beginRewrite s).modFrc Frc.tick) := if_neg h

/-- The total metres are taken, and a commit is asked, while the shift is open (R44, R45). -/
def metresTaken (s : State) : State := if s.mtc.totals.shiftOpen = true then requestCommit (refreshMetres s) else s

theorem endCalendarSecond_boundary (h : s.frc.clock.nextSecond.seconds % 60 = 0) :
    endCalendarSecond s = metresTaken (rewriteClockAndEvaluate Frc.tick s) := if_pos h

theorem metresTaken_keeps (s : State) : Keeps [.mtc, .cps] s (metresTaken s) := by
  unfold metresTaken
  split_ifs
  · exact ((modMtc_keeps _ s).trans (requestCommit_keeps (refreshMetres s))).mono (by decide)
  · exact (Keeps.refl [] s).mono (by decide)

theorem fareGroupNow_metresTaken (s : State) : fareGroupNow (metresTaken s) = fareGroupNow s := by
  unfold metresTaken
  split_ifs <;> rfl

/-- What the end of a calendar second leaves at a minute boundary. -/
theorem calendarSecond_boundary {u t : State} (h : ClockEvaluated Frc.tick s u t) :
    let v := driveLines (metresTaken t)
    let onRoad := s.mtc.meter = .hired ∨ s.mtc.meter = .stopped
    v.frc.scheduled = scheduledNow v ∧
    v.mtc = { s.mtc with totals := if s.mtc.totals.shiftOpen = true then refreshedTotals s else s.mtc.totals } ∧
    (s.mtc.totals.shiftOpen = true ∨ (onRoad ∧ Switched s v) → AsksCommit s v) ∧
    (s.mtc.totals.shiftOpen = false → ¬(onRoad ∧ Switched s v) → v.cps = s.cps) ∧
    (onRoad → TariffEvaluated [] s v) ∧
    (¬onRoad → v.frc = { s.frc with
        clock := v.frc.clock, scheduled := v.frc.scheduled, fareGroup := v.frc.fareGroup } ∧
      (s.frc.fareGroup.number = shownTariff s → v.frc.fareGroup.number = shownTariff v) ∧ v.atc = s.atc) := by
  intro v onRoad
  have hlast : Keeps [.mtc, .cps, .pins] t v := ((metresTaken_keeps t).trans (driveLines_keeps _)).mono (by decide)
  have hfrc : v.frc = t.frc := hlast .frc (by decide)
  have hatc : v.atc = t.atc := hlast .atc (by decide)
  have hmtc : t.mtc = s.mtc := h.keeps .mtc (by decide)
  have hnow : scheduledNow v = scheduledNow t :=
    scheduledNow_congr (hlast .mem (by decide)) (by rw [hfrc]) (by rw [hfrc])
  have hswitched : Switched s v ↔ Switched s t := by simp only [Switched, SwitchDue, hnow]
  have hopen : metresTaken t = if s.mtc.totals.shiftOpen = true then requestCommit (refreshMetres t) else t := by
    rw [metresTaken, hmtc]
  obtain ⟨-, hset, -, -, hpulses⟩ := h.clock_kept tick_clockOnly
  have hroadCommit : AsksCommit s t ∨ t.cps = s.cps := by
    by_cases hroad : onRoad
    · by_cases hs : Switched s t
      · exact .inl ((h.commit_of_switch tick_clockOnly hroad).1 hs)
      · exact .inr ((h.commit_of_switch tick_clockOnly hroad).2 hs)
    · obtain ⟨-, -, -, hcps⟩ := h.parked tick_clockOnly hroad
      exact .inr hcps
  have hbank : t.cps.bank = s.cps.bank := by
    rcases hroadCommit with hc | hc <;> rw [hc]
  have hmetres : shiftMetres t = shiftMetres s := by
    rw [shiftMetres, shiftMetres, hpulses, pulsesPerKm, pulsesPerKm, bank16, bank16, hbank]
  refine ⟨?_, ?_, fun hasks => ?_, fun hclosed hno => ?_, fun hroad => ?_, fun hroad => ?_⟩
  · rw [hfrc, h.scheduled_eq tick_clockOnly, hnow]
  · rw [driveLines_keeps _ .mtc (by decide), hopen]
    split_ifs
    · rw [requestCommit_keeps _ .mtc (by decide), refreshMetres_mtc, hmetres, hmtc]
      rfl
    · exact hmtc
  · rw [AsksCommit, driveLines_keeps _ .cps (by decide), hopen]
    by_cases ho : s.mtc.totals.shiftOpen = true
    · rw [if_pos ho]
      rcases hroadCommit with hc | hc
      · exact requestCommit_again (t := refreshMetres t) (u := s) hc
      · rw [requestCommit_asks, show (refreshMetres t).cps = t.cps from rfl, hc]
    · rw [if_neg ho]
      obtain ⟨hroad, hs⟩ := hasks.resolve_left ho
      exact (h.commit_of_switch tick_clockOnly hroad).1 (hswitched.mp hs)
  · rw [driveLines_keeps _ .cps (by decide), hopen, if_neg (by rw [hclosed]; decide)]
    by_cases hroad : onRoad
    · exact (h.commit_of_switch tick_clockOnly hroad).2 fun hs => hno ⟨hroad, hswitched.mpr hs⟩
    · obtain ⟨-, -, -, hcps⟩ := h.parked tick_clockOnly hroad
      exact hcps
  · exact h.tariffEvaluated tick_clockOnly hroad hfrc (fareGroupNow_metresTaken t) hnow (.of_atc hatc)
  · obtain ⟨hkept, hnumber, hsame, -⟩ := h.parked tick_clockOnly hroad
    have hshown : shownTariff v = shownTariff t := congrArg FareGroup.number (fareGroupNow_metresTaken t)
    rw [hfrc, hatc, hshown]
    refine ⟨?_, hnumber, hsame⟩
    rw [hset] at hkept
    exact hkept

/-- Settles O15: a second off a minute boundary rewrites the clock; at one the evaluation of the schedule does the rest. -/
theorem calendarAdvancesAndSchedules : Obligations.CalendarAdvancesAndSchedules := by
  refine ⟨?_, fun s => scheduledNow_clear, fun s hnone => scheduledNow_none (qualifyingAmong_none hnone),
    fun s i hset hi hq hbest => scheduledNow_some hset (qualifyingAmong_some hi hq hbest)⟩
  intro s htimer hvalid now last boundary onRoad
  have heffect : effect .calendarSecondExpiry s = endCalendarSecond s := if_pos htimer
  have hseconds : now.nextSecond.seconds = (now.seconds + 1) % 86400 := nextSecond_seconds hvalid
  have hboundary : boundary ↔ now.nextSecond.seconds % 60 = 0 := by
    rw [hseconds]
    show (now.seconds + 1) % 60 = 0 ↔ _
    omega
  have hdate : ∀ t : State, t.frc.clock = now.nextSecond →
      t.frc.clock.seconds = (now.seconds + 1) % 86400 ∧
      (now.seconds < 86399 → t.frc.clock = { now with seconds := now.seconds + 1 }) ∧
      (now.seconds = 86399 → now.day < last → t.frc.clock = ⟨now.year, now.month, now.day + 1, 0⟩) ∧
      (now.seconds = 86399 → now.day = last → now.month < 12 → t.frc.clock = ⟨now.year, now.month + 1, 1, 0⟩) ∧
      (now.seconds = 86399 → now.day = last → now.month = 12 →
        t.frc.clock = ⟨if now.year = 2099 then 2000 else now.year + 1, 1, 1, 0⟩) := by
    intro t ht
    rw [ht]
    exact ⟨hseconds, nextSecond_within, fun h hd => by rw [nextSecond_midnight h, nextDay_within hd],
      fun h hd hm => by rw [nextSecond_midnight h, nextDay_month hd hm],
      fun h hd hm => by rw [nextSecond_midnight h, nextDay_year hvalid hd hm]⟩
  by_cases hb : boundary
  · obtain ⟨u, h⟩ := rewriteClockAndEvaluate_evaluated Frc.tick s
    let t := rewriteClockAndEvaluate Frc.tick s
    have hlast : Keeps [.mtc, .cps, .pins] t (driveLines (metresTaken t)) :=
      ((metresTaken_keeps t).trans (driveLines_keeps _)).mono (by decide)
    have hfrc : (driveLines (metresTaken t)).frc = t.frc := hlast .frc (by decide)
    have hwpt : (driveLines (metresTaken t)).wpt = t.wpt := hlast .wpt (by decide)
    obtain ⟨hclock, hset, hover, hpulse, -⟩ := h.clock_kept tick_clockOnly
    obtain ⟨hday, hnext, hmonth, hyear, hnew⟩ := hdate (driveLines (metresTaken t)) (by rw [hfrc]; exact hclock)
    refine completes_of_effect (heffect.trans (endCalendarSecond_boundary (hboundary.mp hb))) ⟨hday, hnext, hmonth, hyear, hnew,
      by rw [hfrc]; exact hset, by rw [hfrc]; exact hover, by rw [hfrc]; exact hpulse, fun hno => absurd hb hno,
      fun _ => calendarSecond_boundary h, h.port.congr rfl hwpt, fun hsame => ?_, (h.keeps.trans hlast).mono (by decide),
      driveLines_onlyLines ?_⟩
    · rw [RewritesOnce, hwpt]
      exact h.once_of_same tick_clockOnly (by rw [← hfrc]; exact hsame)
    · exact ((metresTaken_keeps t) .pins (by decide)).trans (h.keeps .pins (by decide))
  · have hport := clockBegun_port Frc.tick s
    let t := endRewrite ((beginRewrite s).modFrc Frc.tick)
    obtain ⟨hday, hnext, hmonth, hyear, hnew⟩ := hdate (driveLines t) rfl
    exact completes_of_effect (heffect.trans (endCalendarSecond_within (hboundary.not.mp hb)))
      ⟨hday, hnext, hmonth, hyear, hnew, rfl, rfl, rfl,
      fun _ => ⟨rfl, by simp [keeps_iff]⟩, fun hyes => absurd hyes hb, hport.onlyUpdates.congr rfl rfl, fun _ => hport.rewritesOnce,
      by simp [keeps_iff], driveLines_onlyLines rfl⟩


end

/-! The clock is set (R18, R19). -/

/-- The clock takes a stamp and is set. -/
def clockTaken (clock : Stamp) (f : Frc) : Frc := { f with clock := clock, clockSet := true }

theorem clockTaken_clockOnly (clock : Stamp) : ClockOnly (clockTaken clock) := fun _ => rfl

section
variable {s u work : State} {clock : Stamp}

/-- What a clock that has been set shows, whatever else the command does to window memory and the pending flags. -/
theorem clockTaken_shows (h : ClockEvaluated (clockTaken clock) s u work) {t : State} {cs : List Channel}
    (hlast : Keeps [.mem, .atc, .pins] work t) (hnow : scheduledNow t = scheduledNow work) (hsets : Sets work.atc cs work t) :
    let onRoad := s.mtc.meter = .hired ∨ s.mtc.meter = .stopped
    t.frc.clock = clock ∧ t.frc.clockSet = true ∧ t.frc.scheduled = scheduledNow t ∧
      t.frc.pulseCounter = s.frc.pulseCounter ∧ t.frc.override = s.frc.override ∧
      (t.frc.scheduled = s.frc.scheduled → RewritesOnce s t) ∧
      (onRoad → TariffEvaluated cs s t ∧ (Switched s t → AsksCommit s t) ∧ (¬Switched s t → t.cps = s.cps)) ∧
      (¬onRoad →
        t.frc = { s.frc with
          clock := clock, clockSet := true, scheduled := t.frc.scheduled, fareGroup := t.frc.fareGroup } ∧
        (s.frc.fareGroup.number = shownTariff s → t.frc.fareGroup.number = shownTariff t) ∧
        Raises cs s t ∧ t.cps = s.cps) := by
  intro onRoad
  have hc := clockTaken_clockOnly clock
  have hfrc : t.frc = work.frc := hlast .frc (by decide)
  have hcps : t.cps = work.cps := hlast .cps (by decide)
  have hwpt : t.wpt = work.wpt := hlast .wpt (by decide)
  obtain ⟨hclock, hset, hover, hpulse, -⟩ := h.clock_kept hc
  have hswitched : Switched s t ↔ Switched s work := by simp only [Switched, SwitchDue, hnow]
  have hgroup : fareGroupNow t = fareGroupNow work :=
    fareGroupNow_of_parts (by rw [hfrc]) (by rw [hfrc]) (by rw [hfrc]) (hlast .mtc (by decide)) (by rw [hcps])
  refine ⟨by rw [hfrc, hclock]; rfl, by rw [hfrc, hset]; rfl, by rw [hfrc, hnow, h.scheduled_eq hc], by rw [hfrc, hpulse],
    by rw [hfrc, hover], fun hsame => ?_, fun hroad => ⟨?_, fun hs => ?_, fun hs => ?_⟩, fun hroad => ?_⟩
  · rw [RewritesOnce, hwpt]
    exact h.once_of_same hc (by rw [← hfrc]; exact hsame)
  · exact h.tariffEvaluated hc hroad hfrc hgroup hnow hsets
  · rw [AsksCommit, hcps]
    exact (h.commit_of_switch hc hroad).1 (hswitched.mp hs)
  · rw [hcps]
    exact (h.commit_of_switch hc hroad).2 fun hs' => hs (hswitched.mpr hs')
  · obtain ⟨hkept, hnumber, hatc, hsame⟩ := h.parked hc hroad
    have hshown : shownTariff t = shownTariff work := congrArg FareGroup.number hgroup
    rw [hclock, hset] at hkept
    rw [hshown, hfrc, hcps]
    refine ⟨hkept, hnumber, ?_, hsame⟩
    exact (Sets.of_atc hatc).trans hsets (.of_mem (h.keeps .mem (by decide)))

end

/-- Settles O16: the request and the frame set the clock by one work, and differ in what they set besides. -/
theorem clockIsSet : Obligations.ClockIsSet := by
  refine ⟨?_, ?_, ?_⟩
  · intro s onRoad set
    refine ⟨fun r rest hwf hhead hvalid => ?_, fun f how haccepted haccept hvalid => ?_⟩
    · let work := setClockTo (paramClock s r) (leaveList rest s)
      obtain ⟨u, h⟩ := rewriteClockAndEvaluate_evaluated (clockTaken (paramClock s r)) (leaveList rest s)
      have hmem : work.mem = s.mem := h.keeps .mem (by decide)
      obtain ⟨hprompt, hlist, hkeeps, hlines, hlast⟩ := answered_updating (rest := rest) hwf h.keeps (by decide) (by decide) h.port r .done 0
      have howner : ownSetClock r (leaveList rest s) = answer r .done 0 work := if_pos hvalid
      refine completes_request rfl hhead (fun hl => absurd hl (by decide)) howner ?_
      have hfrc : (driveLines (answer r .done 0 work)).frc = work.frc := hlast .frc (by decide)
      have hbytes : OnlyAnswerBytes r work (driveLines (answer r .done 0 work)) := answer_onlyAnswerBytes (hmem ▸ hwf) r .done 0
      exact ⟨clockTaken_shows h hlast (scheduledNow_of_answer hfrc hbytes) (answer_raises (hmem ▸ hwf) r .done _), hprompt, hlist,
        hkeeps.mono (by decide), hlines⟩
    · let hunting := resumeHunting s
      let work := setClockTo (parseTime f.body) hunting
      obtain ⟨u, h⟩ := rewriteClockAndEvaluate_evaluated (clockTaken (parseTime f.body)) hunting
      have hset := setChannel_keeps .clock work
      have hlast : Keeps [.mem, .atc, .pins] work (driveLines (setChannel .clock work)) :=
        (hset.trans (driveLines_keeps _)).mono (by decide)
      have hsets : Sets work.atc [.clock] work (driveLines (setChannel .clock work)) :=
        (setChannel_sets .clock work).rebase rfl rfl (.refl _)
      have hfrc : (driveLines (setChannel .clock work)).frc = work.frc := hlast .frc (by decide)
      have hwork : takeTime (parseTime f.body) hunting = setChannel .clock work := (if_pos haccept).trans (if_pos hvalid)
      refine completes_frame rfl haccepted hwork ?_
      have hkeeps := ((resumeHunting_keeps s).trans h.keeps).trans hset
      exact ⟨clockTaken_shows h hlast
          (scheduledNow_congr (hset .mem (by decide)) (congrArg Frc.clock hfrc) (congrArg Frc.clockSet hfrc)) hsets,
        (hlast .ale (by decide)).trans (h.keeps .ale (by decide)), h.port.congr rfl (hlast .wpt (by decide)),
        (hkeeps.trans (driveLines_keeps _)).mono (by decide), driveLines_onlyLines (hkeeps .pins (by decide))⟩
  · exact fun s r rest hwf hhead hvalid => completes_answered hwf rfl hhead (fun hl => absurd hl (by decide)) (if_neg (by
      rw [show paramClock (leaveList rest s) r = paramClock s r from rfl, hvalid]
      decide))
  · intro s f how haccepted hrefused
    by_cases haccept : acceptBaseTime s = true
    · have hvalid : (parseTime f.body).valid = false := hrefused.resolve_left (by rw [haccept]; decide)
      have hwork : takeTime (parseTime f.body) (resumeHunting s) = countFormatError (resumeHunting s) :=
        (if_pos haccept).trans (if_neg (by rw [hvalid]; decide))
      refine completes_frame rfl haccepted hwork ?_
      rw [if_pos haccept]
      exact ⟨rfl, ((resumeHunting_keeps s).trans ((modAle_keeps _ _).trans (driveLines_keeps _))).mono (by decide),
        driveLines_onlyLines rfl⟩
    · have hwork : takeTime (parseTime f.body) (resumeHunting s) = resumeHunting s := if_neg haccept
      obtain ⟨hhunting, hkeeps, hlines⟩ := resumeHunting_alone s
      refine completes_frame rfl haccepted hwork ?_
      rw [if_neg haccept]
      exact ⟨hhunting, hkeeps, hlines⟩

end Sys2Proof.Machine
end

section
/-! PROOF. The link fades and is lost (O50). -/

namespace Sys2Proof.Machine

/-! The fault ring after a list of failures (R156, R178). -/

/-- These failures recorded in the ring, in order. -/
def failuresRecorded (n : Nat) (details : List Nat) (a : Atc) : Atc :=
  details.foldl (fun a d => ringAfter a .frameFailed d n) a

theorem failuresRecorded_beside (n : Nat) (details : List Nat) (a : Atc) (p : Word16) (mA mB : Bool) :
    failuresRecorded n details { a with pending := p, matchA := mA, matchB := mB } =
      { failuresRecorded n details a with pending := p, matchA := mA, matchB := mB } := by
  induction details generalizing a with
  | nil => rfl
  | cons d ds ih => exact (congrArg (failuresRecorded n ds) (ringAfter_beside a ..)).trans (ih _)

theorem failuresRecorded_matches (n : Nat) (details : List Nat) (a : Atc) :
    (failuresRecorded n details a).matchA = a.matchA ∧ (failuresRecorded n details a).matchB = a.matchB := by
  induction details generalizing a with
  | nil => exact ⟨rfl, rfl⟩
  | cons d ds ih =>
    obtain ⟨hA, hB⟩ := ih (ringAfter a .frameFailed d n)
    obtain ⟨hA', hB'⟩ := ringAfter_matches a .frameFailed d n
    exact ⟨hA.trans hA', hB.trans hB'⟩

theorem failuresRecorded_cons (n d : Nat) (ds : List Nat) (a : Atc) :
    failuresRecorded n (d :: ds) a = failuresRecorded n ds (ringAfter a .frameFailed d n) := rfl

/-- A frame of an internal origin alone, which nothing detaches. -/
def IsInternal (f : Frame) : Prop :=
  f.origins = [{ origin := .dispatch, detached := false }] ∨ f.origins = [{ origin := .receipts, detached := false }] ∨
    f.origins = [{ origin := .refusals, detached := false }]

/-- The failure of such a frame (R156). -/
def internalFailed (code : Nat) (s : State) : State := setChannel .queue (recordFault .frameFailed code s)

section
variable {f : Frame} {s : State}

/-- The failure of a frame of one origin is what that origin hears. -/
theorem deliverOutcome_one {o : Origin} {outcome : TxOutcome} (h : f.origins = [{ origin := o, detached := false }])
    (hcall : o ≠ .emergency) : deliverOutcome f outcome s = routeToOrigin f outcome o s := by
  have hno : f.hasOrigin .emergency = false := by simp [Frame.hasOrigin, h, hcall]
  simp [deliverOutcome, hno, routeOutcome, h]

theorem deliverOutcome_internal {reason : FailReason} (h : IsInternal f) :
    deliverOutcome f (.failed reason) s = internalFailed f.kind.code s := by
  rcases h with h | h | h <;> exact deliverOutcome_one h (by decide)

theorem internalFailed_keeps (code : Nat) (s : State) : Keeps [.atc] s (internalFailed code s) :=
  ((keeps_of_atc (recordFault_eq ..)).trans (setChannel_keeps _ _)).mono (by decide)

theorem internalFailed_sets (code : Nat) (s : State) :
    Sets (ringAfter s.atc .frameFailed code s.frc.clock.seconds) [.fault, .queue] s (internalFailed code s) := by
  have hrecord : Sets (ringAfter s.atc .frameFailed code s.frc.clock.seconds) [.fault] s (recordFault .frameFailed code s) :=
    recordFault_records .frameFailed code s
  exact hrecord.trans (setChannel_sets .queue _) (.of_mem (keeps_of_atc (recordFault_eq ..) .mem (by decide)))

/-- The frames that failed have been recorded one after the other. -/
theorem internalFailures {fs : List Frame} {reason : FailReason} (h : ∀ f ∈ fs, IsInternal f) :
    let t := fs.foldl (fun t f => deliverOutcome f (.failed reason) t) s
    Keeps [.atc] s t ∧ Sets (failuresRecorded s.frc.clock.seconds (fs.map fun f => f.kind.code) s.atc)
      (if fs = [] then [] else [.fault, .queue]) s t := by
  induction fs generalizing s with
  | nil => exact ⟨(Keeps.refl [] s).mono (by decide), .of_atc rfl⟩
  | cons f fs ih =>
    intro t
    let u := internalFailed f.kind.code s
    have hu : deliverOutcome f (.failed reason) s = u := deliverOutcome_internal (h f List.mem_cons_self)
    have ht : t = fs.foldl (fun t f => deliverOutcome f (.failed reason) t) u :=
      congrArg (fun u => fs.foldl (fun t f => deliverOutcome f (.failed reason) t) u) hu
    have hkeeps : Keeps [.atc] s u := internalFailed_keeps _ s
    obtain ⟨hk, hatc, hset⟩ := ih (s := u) fun g hg => h g (List.mem_cons_of_mem f hg)
    obtain ⟨hatc', hset'⟩ := internalFailed_sets f.kind.code s
    rw [← ht] at hk hatc hset
    refine ⟨(hkeeps.trans hk).mono (by decide), ?_, fun c => ?_⟩
    · let ring := ringAfter s.atc .frameFailed f.kind.code s.frc.clock.seconds
      have hu' : u.atc = { ring with pending := u.atc.pending, matchA := ring.matchA, matchB := ring.matchB } := hatc'
      have hseconds : u.frc.clock.seconds = s.frc.clock.seconds := by rw [hkeeps .frc (by decide)]
      rw [hatc, hu', failuresRecorded_beside, hseconds]
      obtain ⟨hA, hB⟩ := failuresRecorded_matches s.frc.clock.seconds (fs.map fun f => f.kind.code) ring
      rw [List.map_cons, failuresRecorded_cons, ← hA, ← hB]
    · have hen : IsEnabled u c ↔ IsEnabled s c := (SameSettings.of_mem (hkeeps .mem (by decide))).isEnabled c
      rw [hset, hset', hen, if_neg (List.cons_ne_nil f fs)]
      split_ifs
      · simp
      · tauto

end

/-! The link. -/

section
variable {s : State}

/-- The link has changed, and the host is told (R139). -/
def linkMoved (new : LinkState) (s : State) : State := setChannel .link (rejudge (s.modAle fun a => { a with link := new }))

theorem linkMoved_keeps (new : LinkState) (s : State) : Keeps [.ale, .atc] s (linkMoved new s) :=
  (((modAle_keeps _ s).trans (rejudge_keeps _)).trans (setChannel_keeps _ _)).mono (by decide)

theorem linkMoved_ale (new : LinkState) (s : State) : (linkMoved new s).ale = { s.ale with link := new } :=
  (setChannel_keeps _ _ .ale (by decide)).trans (rejudge_keeps _ .ale (by decide))

theorem linkMoved_matchesNow (new : LinkState) (s : State) : MatchesNow (linkMoved new s) :=
  (rejudge_matchesNow _).setChannel _

theorem linkMoved_attends (new : LinkState) (s : State) : Attends s.atc [.link] s (linkMoved new s) :=
  (((rejudge_attends (s.modAle fun a => { a with link := new })).rebase (s' := s) rfl rfl (.refl _)).setChannel (c := .link)
    (by decide)).congr (by simp)

/-- The link is LOST, and the frames not yet judged (R139). -/
def linkLost (s : State) : State := linkMoved .lost (s.modAle fun a => { a with lossExpiry := none })

theorem loseLink_lost {n : Nat} (htimer : s.ale.lossExpiry = some n) (hlink : s.ale.link = .fading) :
    loseLink s = failFrames isStale .link (loseBidToLink (linkLost s)) := by
  have hne : (s.modAle fun a => { a with lossExpiry := none }).ale.link ≠ .lost := by
    show s.ale.link ≠ _
    rw [hlink]
    decide
  rw [loseLink, if_neg (by rw [htimer]; exact Option.some_ne_none n)]
  exact (if_pos hlink).trans (if_neg hne)

theorem linkLost_keeps (s : State) : Keeps [.ale, .atc] s (linkLost s) :=
  ((modAle_keeps _ s).trans (linkMoved_keeps _ _)).mono (by decide)

theorem linkLost_ale (s : State) : (linkLost s).ale = { s.ale with lossExpiry := none, link := .lost } := linkMoved_ale _ _

theorem linkLost_attends (s : State) : Attends s.atc [.link] s (linkLost s) :=
  (linkMoved_attends .lost (s.modAle fun a => { a with lossExpiry := none })).rebase rfl rfl (.refl _)

theorem loseBidToLink_idle (h : ∀ e, (s.oft.entries.get e).state.bidding = false) : loseBidToLink s = s := by
  have hnone : biddingEntry s = none := List.find?_eq_none.mpr fun e _ => by simp [h e]
  rw [loseBidToLink, hnone]

theorem loseBidToLink_bidder {e : Fin 8} (h : biddingEntry s = some e) : loseBidToLink s = endBidByBase e .lost .link s := by
  rw [loseBidToLink, h]
  rfl

/-- The queue without the frames that a change to LOST purges (R153). -/
def stalePurged (s : State) : State := modFrames (fun fs => fs.filter fun f => !isStale f) s

theorem stalePurged_keeps (s : State) : Keeps [.txq] s (stalePurged s) := modTxq_keeps _ s

/-- What a loss of the link leaves where no entry bids. -/
theorem loseLink_idle {n : Nat} (htimer : s.ale.lossExpiry = some n) (hlink : s.ale.link = .fading)
    (hidle : ∀ e, (s.oft.entries.get e).state.bidding = false) :
    loseLink s = (s.txq.frames.filter isStale).foldl (fun t f => deliverOutcome f (.failed .link) t)
      (stalePurged (linkLost s)) := by
  have hk := linkLost_keeps s
  have hidle' : ∀ e, ((linkLost s).oft.entries.get e).state.bidding = false := by rwa [hk .oft (by decide)]
  rw [loseLink_lost htimer hlink, loseBidToLink_idle hidle', failFrames, hk .txq (by decide), stalePurged]

/-- What an entry is once it has forgotten a frame that named it with this number (R76). -/
def forgotten (kind : UplinkKind) (number : Nat) (entry : OfferEntry) : OfferEntry :=
  if ¬(entry.state ≠ .empty ∧ entry.number = number) then entry
  else if kind = .refuse then { entry with refusePending := false } else { entry with bidFrame := .none }

/-- An entry that bids for nothing has forgotten a frame, if it still held the number (R76). -/
structure Forgot (kind : UplinkKind) (e : Fin 8) (number : Nat) (s t : State) : Prop where
  only : OnlyOffer e s t
  entry : t.oft.entries.get e = forgotten kind number (s.oft.entries.get e)
  keeps : Keeps [.oft, .atc] s t
  attends : Attends s.atc [] s t
  now : MatchesNow s → MatchesNow t

theorem Forgot.of_update {kind : UplinkKind} {e : Fin 8} {number : Nat} {g : OfferEntry → OfferEntry}
    (h : g (s.oft.entries.get e) = forgotten kind number (s.oft.entries.get e)) : Forgot kind e number s (updateOffer e g s) :=
  ⟨updateOffer_onlyOffer e g s, (updateOffer_entry ..).trans h, updateOffer_keeps e g s, updateOffer_attends s e g,
    fun _ => updateOffer_matchesNow s e g⟩

theorem routeToOffer_forgot {kind : UplinkKind} {e : Fin 8} {number : Nat} {reason : FailReason}
    (hidle : (s.oft.entries.get e).state.bidding = false) :
    Forgot kind e number s (routeToOffer kind (.failed reason) e number s) := by
  unfold routeToOffer
  by_cases hk : (s.oft.entries.get e).state ≠ .empty ∧ (s.oft.entries.get e).number = number
  · dsimp only
    rw [if_neg fun h => h.elim hk.1 fun h => h hk.2]
    by_cases hkind : kind = .refuse
    · rw [if_pos hkind]
      exact .of_update (by rw [forgotten, if_neg (not_not_intro hk), if_pos hkind])
    · rw [if_neg hkind, if_neg (by rw [hidle]; decide)]
      exact .of_update (by rw [forgotten, if_neg (not_not_intro hk), if_neg hkind])
  · dsimp only
    rw [if_pos (by tauto)]
    exact ⟨⟨rfl, fun _ _ => rfl⟩, by rw [forgotten, if_pos hk], (Keeps.refl [] s).mono (by decide), .of_atc rfl rfl (.refl _), id⟩

end

section
variable {s : State}

theorem eq_of_countP_le_one {p : Frame → Bool} {l : List Frame} (h : l.countP p ≤ 1) {f g : Frame} (hf : f ∈ l) (hg : g ∈ l)
    (hpf : p f = true) (hpg : p g = true) : f = g := by
  have hf' : f ∈ l.filter p := List.mem_filter.mpr ⟨hf, hpf⟩
  have hg' : g ∈ l.filter p := List.mem_filter.mpr ⟨hg, hpg⟩
  rw [List.countP_eq_length_filter] at h
  match hl : l.filter p with
  | [] => simp [hl] at hf'
  | [a] =>
    rw [hl, List.mem_singleton] at hf' hg'
    rw [hf', hg']
  | a :: b :: rest => simp [hl] at h

/-- Once the only BID frame of the bidding entry is settled, no stale frame waits. -/
theorem queueSettled_fresh {e : Fin 8} (hstale : ∀ f ∈ s.txq.frames, isStale f = true → isBidOf e (s.oft.entries.get e).number f = true)
    (hone : s.txq.frames.countP (isBidOf e (s.oft.entries.get e).number) ≤ 1)
    (hnone : (s.oft.entries.get e).bidFrame = .none → s.txq.frames.countP (isBidOf e (s.oft.entries.get e).number) = 0) :
    (queueSettled e s).filter isStale = [] := by
  let own := isBidOf e (s.oft.entries.get e).number
  have hsub : ∀ f ∈ queueSettled e s, f ∈ s.txq.frames := fun f hf => by
    unfold queueSettled at hf
    dsimp only at hf
    split_ifs at hf
    exacts [(withoutNewest_sublist _ _).subset hf, hf]
  refine List.filter_eq_nil_iff.mpr fun g hg hgs => ?_
  have hmem := hsub g hg
  have hgown : own g = true := hstale g hmem hgs
  have hmark : (s.oft.entries.get e).bidFrame ≠ .none := fun hb =>
    absurd hgown (by simpa using List.countP_eq_zero.mp (hnone hb) g hmem)
  obtain ⟨f, hf⟩ : ∃ f, newestFrame s.txq.frames own = some f := by
    cases hn : newestFrame s.txq.frames own with
    | some f => exact ⟨f, rfl⟩
    | none => exact absurd hgown (List.find?_eq_none.mp hn g (List.mem_reverse.mpr hmem))
  have hfown : own f = true := List.find?_some hf
  have hfmem : f ∈ s.txq.frames := List.mem_reverse.mp (List.mem_of_find?_eq_some hf)
  have hfg : f = g := eq_of_countP_le_one hone hfmem hmem hfown hgown
  obtain ⟨-, -, hqueue⟩ := settled_of_newest (state := .lost) (reason := .link) hmark hf
  have hwaits : f.inFlight = false := by
    rw [hfg]
    simp only [isStale, Bool.and_eq_true, Bool.not_eq_true'] at hgs
    exact hgs.1
  rw [hqueue, hwaits, if_neg (by decide)] at hg
  rw [withoutNewest_eq_filter hone, List.mem_filter] at hg
  exact absurd hgown (by simpa using hg.2)

/-- Where no stale frame waits, the purge does nothing. -/
theorem failFrames_none {gone : Frame → Bool} {reason : FailReason} (h : s.txq.frames.filter gone = []) :
    failFrames gone reason s = s := by
  have hall : s.txq.frames.filter (fun f => !gone f) = s.txq.frames :=
    List.filter_eq_self.mpr fun f hf => by simpa using List.filter_eq_nil_iff.mp h f hf
  rw [failFrames, h, List.foldl_nil, modFrames, State.modTxq, hall]

/-- What stands once the link is LOST and the stale frames have been purged. -/
theorem stalePurged_stands (s : State) :
    let u := stalePurged (linkLost s)
    Keeps [.txq, .ale, .atc] s u ∧ u.ale = { s.ale with lossExpiry := none, link := .lost } ∧
      u.txq = { s.txq with frames := s.txq.frames.filter fun f => !isStale f } ∧ Attends s.atc [.link] s u ∧ MatchesNow u := by
  intro u
  have hlost := linkLost_keeps s
  have hlast : Keeps [.txq] (linkLost s) u := stalePurged_keeps _
  refine ⟨(hlost.trans hlast).mono (by decide), (hlast .ale (by decide)).trans (linkLost_ale s), ?_,
    (linkLost_attends s).then_atc rfl rfl (.refl _), ?_⟩
  · show ({ (linkLost s).txq with frames := (linkLost s).txq.frames.filter fun f => !isStale f } : Txq) = _
    rw [hlost .txq (by decide)]
  · exact (linkMoved_matchesNow .lost _).of_flags rfl ⟨rfl, rfl, rfl, rfl, rfl, rfl, rfl⟩ (.refl _) rfl rfl

/-- The stale frames of internal origins have failed at a loss of the link (R153, R156). -/
theorem loseLink_internal {n : Nat} (htimer : s.ale.lossExpiry = some n) (hlink : s.ale.link = .fading)
    (hidle : ∀ e, (s.oft.entries.get e).state.bidding = false) (hall : ∀ f ∈ s.txq.frames.filter isStale, IsInternal f) :
    let failures := (s.txq.frames.filter isStale).map fun f => f.kind.code
    Completes .lossExpiry s fun t =>
      t.txq = { s.txq with frames := s.txq.frames.filter fun f => !isStale f } ∧
      (t.ale = { s.ale with lossExpiry := none, link := .lost } ∧ OnlyLines s t) ∧
      RaisesBeside (ringAfterFailures s failures) (if failures = [] then [.link] else [.link, .fault, .queue]) s t ∧
      Keeps [.txq, .ale, .atc, .pins] s t := by
  intro failures
  let u := stalePurged (linkLost s)
  let v := (s.txq.frames.filter isStale).foldl (fun t f => deliverOutcome f (.failed .link) t) u
  obtain ⟨hku, hale, htxq, hatt, hnow⟩ := stalePurged_stands s
  obtain ⟨hk, hsets⟩ := internalFailures (s := u) (reason := .link) hall
  have hsettings : SameSettings u v := .of_mem (hk .mem (by decide))
  have hwhole : Attends (failuresRecorded u.frc.clock.seconds failures u.atc) _ u v :=
    .of_sets hsets (by split_ifs <;> decide) (hk .phase (by decide)) hsettings (failuresRecorded_matches ..)
  have hring : Attends (ringAfterFailures s failures) ([.link] ++ if s.txq.frames.filter isStale = [] then [] else [.fault, .queue])
      s v := hatt.step hwhole (by rw [hatt.atc, failuresRecorded_beside, hku .frc (by decide)]; rfl)
  have hempty : failures = [] ↔ s.txq.frames.filter isStale = [] := List.map_eq_nil_iff
  have hkeeps := hku.trans hk
  refine completes_of_effect (loseLink_idle htimer hlink hidle) ⟨(hk .txq (by decide)).trans htxq,
    ⟨(hk .ale (by decide)).trans hale, driveLines_onlyLines (hkeeps .pins (by decide))⟩, ?_,
    (hkeeps.trans (driveLines_keeps _)).mono (by decide)⟩
  refine (hring.congr fun c => ?_).beside (hnow.of_same (hk.mono (by decide)) hsettings ?_ ?_)
  · simp only [hempty]
    split_ifs <;> simp
  · rw [hsets.1]
    exact (failuresRecorded_matches ..).1
  · rw [hsets.1]
    exact (failuresRecorded_matches ..).2

end

/-- Settles O50: an expiry changes the link, and its loss fails the stale frames one after the other. -/
theorem linkFadesAndIsLost : Obligations.LinkFadesAndIsLost := by
  refine ⟨?_, ?_⟩
  · intro s n htimer hlink
    let faded := linkMoved .fading (s.modAle fun a => { a with fadeExpiry := none })
    have hwork : fade s = dropAssignments faded := by
      have hne : (s.modAle fun a => { a with fadeExpiry := none }).ale.link ≠ .fading := by
        show s.ale.link ≠ _
        rw [hlink]
        decide
      rw [fade, if_neg (by rw [htimer]; exact Option.some_ne_none n)]
      exact (if_pos hlink).trans (if_neg hne)
    have hale : faded.ale = { s.ale with fadeExpiry := none, link := .fading } := linkMoved_ale _ _
    have hk : Keeps [.ale, .atc] s faded := ((modAle_keeps _ s).trans (linkMoved_keeps _ _)).mono (by decide)
    have hlast : Keeps [.ale] faded (dropAssignments faded) := modAle_keeps _ _
    have hmoved : Attends s.atc [.link] s faded :=
      (linkMoved_attends .fading (s.modAle fun a => { a with fadeExpiry := none })).rebase rfl rfl (.refl _)
    have hatt : Attends s.atc [.link] s (dropAssignments faded) := hmoved.then_atc rfl rfl (.refl _)
    have hnow : MatchesNow (dropAssignments faded) :=
      (linkMoved_matchesNow .fading _).of_flags rfl ⟨rfl, rfl, rfl, rfl, rfl, rfl, rfl⟩ (.refl _) rfl rfl
    refine completes_of_effect hwork ⟨?_, hatt.beside hnow, ((hk.trans hlast).trans (driveLines_keeps _)).mono (by decide),
      driveLines_onlyLines ((hk.trans hlast) .pins (by decide))⟩
    show ({ faded.ale with assignments := [] } : Ale) = _
    rw [hale]
  · intro s n htimer hlink stale lost purged idle
    refine ⟨fun hidle hall => ?_, fun x hidle hx hpoll => ⟨fun e number horigin => ?_, fun horigin => ?_⟩, fun e he hlaw => ?_⟩
    · exact loseLink_internal htimer hlink hidle fun f hf =>
        .inl (hall f (List.mem_of_mem_filter hf) (List.of_mem_filter hf)).2
    · let u := stalePurged (linkLost s)
      let v := routeToOffer x.kind (.failed .link) e number u
      obtain ⟨hku, hale, htxq, hatt, hnow⟩ := stalePurged_stands s
      have hoft : u.oft = s.oft := hku .oft (by decide)
      have hf : Forgot x.kind e number u v := routeToOffer_forgot (by rw [hoft]; exact hidle e)
      have hwork : loseLink s = v := by
        rw [loseLink_idle htimer hlink hidle, show s.txq.frames.filter isStale = [x] from hx]
        exact deliverOutcome_one horigin (by simp)
      have hkeeps := hku.trans hf.keeps
      refine completes_of_effect hwork ?_
      intro entry known
      refine ⟨(hf.keeps .txq (by decide)).trans htxq, ⟨(hf.keeps .ale (by decide)).trans hale, driveLines_onlyLines (hkeeps .pins (by decide))⟩,
        ?_, ?_, ((hatt.trans hf.attends).congr (by simp)).beside (hf.now hnow), (hkeeps.trans (driveLines_keeps _)).mono (by decide)⟩
      · have h := hf.only
        rwa [OnlyOffer, hoft] at h
      · have h := hf.entry
        rwa [hoft] at h
    · have hone : ∀ f ∈ s.txq.frames.filter isStale, IsInternal f := fun f hf => by
        rw [show s.txq.frames.filter isStale = [x] from hx, List.mem_singleton] at hf
        exact .inr (.inr (hf ▸ horigin))
      have h := loseLink_internal htimer hlink hidle hone
      rw [show s.txq.frames.filter isStale = [x] from hx] at h
      obtain ⟨t, heff, htxq, hlost, hraises, hkeeps⟩ := h
      exact ⟨t, heff, htxq, hlost, hraises, hkeeps⟩
    · intro entry own hstale hone hnone
      obtain ⟨honly, hstatus⟩ := hlaw
      let u := linkLost s
      let v := endBidByBase e .lost .link u
      have hku := linkLost_keeps s
      have hoft : u.oft = s.oft := hku .oft (by decide)
      have htxq : u.txq = s.txq := hku .txq (by decide)
      have hdsc : u.dsc = s.dsc := hku .dsc (by decide)
      have hended : EndedByBase e .lost .link u v := endBidByBase_ended e .lost .link (by rw [hdsc]; exact hstatus.mp ⟨e, he⟩)
      have hbidder : biddingEntry u = some e := biddingEntry_only (by rwa [hoft]) fun x hx => by
        rw [hoft]
        by_contra hbids
        exact hx (honly x e (by simpa using hbids) he)
      have hfresh : v.txq.frames.filter isStale = [] := by
        rw [hended.queue]
        refine queueSettled_fresh ?_ ?_ ?_ <;> rw [htxq, hoft]
        exacts [hstale, hone, hnone]
      have hwork : loseLink s = v := by
        rw [loseLink_lost htimer hlink, loseBidToLink_bidder hbidder, failFrames_none hfresh]
      have hkeeps := hku.trans hended.keeps
      refine completes_of_effect hwork ⟨?_, ⟨(hended.keeps .ale (by decide)).trans (linkLost_ale s),
        driveLines_onlyLines (hkeeps .pins (by decide))⟩, ?_, (hkeeps.trans (driveLines_keeps _)).mono (by decide)⟩
      · have h := hended.bid
        rw [BidEnded, OnlyOffer, hoft, htxq, hdsc] at h
        exact h
      · exact ((linkLost_attends s).trans hended.attends).beside hended.now

end Sys2Proof.Machine
end

section
/-! PROOF. A port reset (O54). -/

namespace Sys2Proof.Machine

/-! The records' bytes are cleared (R172). -/

theorem Memory.read_filter {m : Memory} (h : m.Wf) (p : Host.Cell → Bool) {a : Nat} (hp : ∀ c : Host.Cell, c.1 = a → p c = true) :
    Memory.read (m.filter p) a = m.read a := by
  induction m with
  | nil => rfl
  | cons c m ih =>
    have htail := ih (Memory.wf_tail h)
    obtain ⟨k, x⟩ := c
    by_cases hc : p (k, x) = true
    · rw [List.filter_cons_of_pos hc, Memory.read, Memory.read, htail]
    · have hne : a ≠ k := fun he => hc (hp (k, x) he.symm)
      rw [List.filter_cons_of_neg hc, htail, Memory.read, if_neg hne]
      split_ifs with hlt
      · refine Memory.read_below fun d hd => ?_
        have hrel : k < d.1 := (List.pairwise_cons.mp h.1).1 d hd
        omega
      · rfl

theorem clearRecords_read_of (m : Memory) {a : Nat} (h : 0x100 ≤ a ∧ a < 0x500) : (clearRecords m).read a = 0#8 := by
  refine Memory.read_unlisted fun c hc he => ?_
  have hkept := (List.mem_filter.mp hc).2
  simp only [Bool.or_eq_true, decide_eq_true_eq] at hkept
  omega

theorem clearRecords_read_other {m : Memory} (hwf : m.Wf) {a : Nat} (h : ¬(0x100 ≤ a ∧ a < 0x500)) :
    (clearRecords m).read a = m.read a := by
  refine Memory.read_filter hwf _ fun c hc => ?_
  simp only [Bool.or_eq_true, decide_eq_true_eq, hc]
  omega

/-! Inbox entries that become READ again (R155). -/

/-- The inbox entry of one origin of a text frame that leaves becomes READ (R155). -/
def readAgainStep (s : State) (l : OriginLink) : State :=
  match l.origin with
  | .inbox i => updateInbox i (fun x => { x with state := .read }) s
  | .record _ | .offer _ _ | .trip _ | .lastShift | .emergency | .dispatch | .receipts | .refusals => s

/-- These origins name an inbox entry. -/
def NamesInbox (links : List OriginLink) (i : Fin 24) : Prop := ∃ l ∈ links, l.origin = .inbox i

/-- What the entries that these origins name have become (R155). -/
structure ReadAgain (links : List OriginLink) (s t : State) : Prop where
  entry : ∀ i, (NamesInbox links i → t.mst.inbox.get i = { s.mst.inbox.get i with state := .read }) ∧
    (¬NamesInbox links i → t.mst.inbox.get i = s.mst.inbox.get i)
  mst : t.mst = { s.mst with inbox := t.mst.inbox }
  keeps : Keeps [.mst, .atc] s t
  attends : Attends s.atc [] s t
  now : (∃ i, NamesInbox links i) → MatchesNow t
  same : (∀ i, ¬NamesInbox links i) → t = s

section
variable {s : State}

theorem readAgainStep_inbox {l : OriginLink} {i : Fin 24} (h : l.origin = .inbox i) :
    readAgainStep s l = updateInbox i (fun x => { x with state := .read }) s := by
  rw [readAgainStep, h]

theorem readAgainStep_other {l : OriginLink} (h : ∀ i, l.origin ≠ .inbox i) : readAgainStep s l = s := by
  unfold readAgainStep
  cases ho : l.origin with
  | inbox i => exact absurd ho (h i)
  | record | offer | trip | lastShift | emergency | dispatch | receipts | refusals => rfl

theorem namesInbox_append {xs ys : List OriginLink} {i : Fin 24} :
    NamesInbox (xs ++ ys) i ↔ NamesInbox xs i ∨ NamesInbox ys i := by
  simp only [NamesInbox, List.mem_append, or_and_right, exists_or]

theorem readAgain_refl (s : State) : ReadAgain [] s s := by
  have hno : ∀ i, ¬NamesInbox [] i := fun i ⟨l, hl, _⟩ => absurd hl List.not_mem_nil
  exact ⟨fun i => ⟨fun h => absurd h (hno i), fun _ => rfl⟩, rfl, (Keeps.refl [] s).mono (by decide), .of_atc rfl rfl (.refl _),
    fun ⟨i, h⟩ => absurd h (hno i), fun _ => rfl⟩

theorem readAgainStep_readAgain (s : State) (l : OriginLink) : ReadAgain [l] s (readAgainStep s l) := by
  have hnames : ∀ i, NamesInbox [l] i ↔ l.origin = .inbox i := fun i => by simp [NamesInbox]
  by_cases h : ∃ i, l.origin = .inbox i
  · obtain ⟨i, hi⟩ := h
    rw [readAgainStep_inbox hi]
    obtain ⟨hmst, hothers⟩ := updateInbox_onlyInbox s i fun x => { x with state := .read }
    refine ⟨fun x => ?_, hmst, updateInbox_keeps s i _, updateInbox_attends s i _, fun _ => updateInbox_matchesNow s i _,
      fun hno => absurd ((hnames i).mpr hi) (hno i)⟩
    rw [hnames, hi, Origin.inbox.injEq]
    exact ⟨fun hx => hx ▸ updateInbox_entry s i _, fun hx => hothers x (Ne.symm hx)⟩
  · have hno : ∀ i, ¬NamesInbox [l] i := fun i hi => h ⟨i, (hnames i).mp hi⟩
    rw [readAgainStep_other fun i hi => h ⟨i, hi⟩]
    exact ⟨fun i => ⟨fun hi => absurd hi (hno i), fun _ => rfl⟩, rfl, (Keeps.refl [] s).mono (by decide), .of_atc rfl rfl (.refl _),
      fun ⟨i, hi⟩ => absurd hi (hno i), fun _ => rfl⟩

theorem ReadAgain.trans {xs ys : List OriginLink} {t u : State} (h : ReadAgain xs s t) (h' : ReadAgain ys t u) :
    ReadAgain (xs ++ ys) s u := by
  refine ⟨fun i => ?_, by rw [h'.mst, h.mst], (h.keeps.trans h'.keeps).mono (by decide),
    (h.attends.trans h'.attends).congr (by simp), fun ⟨i, hi⟩ => ?_, fun hno => ?_⟩
  · obtain ⟨hin, hout⟩ := h.entry i
    obtain ⟨hin', hout'⟩ := h'.entry i
    rw [namesInbox_append]
    by_cases hx : NamesInbox xs i <;> by_cases hy : NamesInbox ys i
    · simp only [hx, hy, or_self, not_true_eq_false, false_implies, true_implies, and_true]
      rw [hin' hy, hin hx]
    · simp only [hx, hy, or_false, not_true_eq_false, false_implies, true_implies, and_true]
      rw [hout' hy, hin hx]
    · simp only [hx, hy, false_or, not_true_eq_false, false_implies, true_implies, and_true]
      rw [hin' hy, hout hx]
    · simp only [hx, hy, or_self, not_false_eq_true, false_implies, true_implies, true_and]
      rw [hout' hy, hout hx]
  · by_cases hy : ∃ i, NamesInbox ys i
    · exact h'.now hy
    · rw [h'.same fun i hi => hy ⟨i, hi⟩]
      exact h.now ⟨i, (namesInbox_append.mp hi).resolve_right fun hi => hy ⟨i, hi⟩⟩
  · rw [h'.same fun i hi => hno i (namesInbox_append.mpr (.inr hi)), h.same fun i hi => hno i (namesInbox_append.mpr (.inl hi))]

theorem readAgainSteps_readAgain (links : List OriginLink) (s : State) : ReadAgain links s (links.foldl readAgainStep s) := by
  induction links generalizing s with
  | nil => exact readAgain_refl s
  | cons l links ih => exact (readAgainStep_readAgain s l).trans (ih _)

/-- The queue's part of a port reset, with the origins of the frames that leave in one list. -/
theorem portResetQueue_eq (s : State) : portResetQueue s =
    ((s.txq.frames.filter fun f => !f.inFlight && f.origins.any recordLink).flatMap fun f => f.origins).foldl readAgainStep
      (modFrames (fun fs => (fs.filter fun f => !(!f.inFlight && f.origins.any recordLink)).map Frame.detachRecords) s) := by
  rw [List.foldl_flatMap]
  rfl

end

/-! Attention derived afresh (R179). -/

section
variable {s : State}

theorem vector_any_iff {α : Type} {n : Nat} (v : Vector α n) (p : α → Bool) :
    v.toList.any p = true ↔ ∃ i : Fin n, p (v.get i) = true := by
  rw [List.any_eq_true]
  constructor
  · rintro ⟨entry, hmem, hp⟩
    obtain ⟨i, hi, rfl⟩ := List.mem_iff_getElem.mp hmem
    exact ⟨⟨i, by simpa using hi⟩, by simpa [Vector.get_eq_getElem] using hp⟩
  · rintro ⟨i, hp⟩
    exact ⟨_, Vector.mem_toList_iff.mpr (by rw [Vector.get_eq_getElem]; exact Vector.getElem_mem _), hp⟩

theorem newMessageOf_iff {wanted : MessageClass → Bool} : newMessageOf s wanted = true ↔
    ∃ i, (s.mst.inbox.get i).state = .new ∧ wanted (s.mst.inbox.get i).cls = true := by
  simp only [newMessageOf, vector_any_iff, Bool.and_eq_true, beq_iff_eq]

theorem offerOpen_iff : offerOpen s = true ↔ ∃ e, (s.oft.entries.get e).state = .open := by
  simp only [offerOpen, vector_any_iff, beq_iff_eq]

/-- The channels that the owners derive after a port reset (R179). -/
def derivedChannels (s : State) : List Channel :=
  (if offerOpen s = true then [.offerNew] else []) ++ (if newMessageOf s (· == .routine) = true then [.message] else []) ++
    (if newMessageOf s (· != .routine) = true then [.messagePriority] else []) ++
    (if s.emc.state ≠ .quiet then [Channel.emergency] else [])

theorem mem_derivedChannels {c : Channel} : c ∈ derivedChannels s ↔
    (c = .offerNew ∧ offerOpen s = true) ∨ (c = .message ∧ newMessageOf s (· == .routine) = true) ∨
      (c = .messagePriority ∧ newMessageOf s (· != .routine) = true) ∨ (c = .emergency ∧ s.emc.state ≠ .quiet) := by
  have hone : ∀ (b : Prop) [Decidable b] (x : Channel), c ∈ (if b then [x] else []) ↔ c = x ∧ b := fun b _ x => by
    split_ifs with h <;> simp [h]
  simp only [derivedChannels, List.mem_append, hone, or_assoc]

/-- A channel set under a condition. -/
def setWhen (b : Prop) [Decidable b] (c : Channel) (s : State) : State := if b then setChannel c s else s

theorem setWhen_sets (b : Prop) [Decidable b] (c : Channel) (s : State) :
    Sets s.atc (if b then [c] else []) s (setWhen b c s) ∧ Keeps [.atc] s (setWhen b c s) := by
  unfold setWhen
  split_ifs
  · exact ⟨setChannel_sets c s, setChannel_keeps c s⟩
  · exact ⟨.of_atc rfl, (Keeps.refl [] s).mono (by decide)⟩

theorem deriveAttention_derived (s : State) :
    let t := deriveAttention s
    t.atc = { s.atc with pending := t.atc.pending, inService := 0#16 } ∧
      (∀ c, IsPending t c ↔ c ∈ derivedChannels s ∧ IsEnabled s c) ∧ Keeps [.atc] s t := by
  intro t
  let u := s.modAtc fun a => { a with pending := 0#16, inService := 0#16 }
  have hu : Keeps [.atc] s u := modAtc_keeps _ s
  have hno : ∀ c, ¬IsPending u c := fun c => by
    show ¬(0#16).getLsbD _ = true
    simp
  obtain ⟨h1, k1⟩ := setWhen_sets (offerOpen s = true) .offerNew u
  obtain ⟨h2, k2⟩ := setWhen_sets (newMessageOf s (· == .routine) = true) .message (setWhen (offerOpen s = true) .offerNew u)
  obtain ⟨h3, k3⟩ := setWhen_sets (newMessageOf s (· != .routine) = true) .messagePriority
    (setWhen (newMessageOf s (· == .routine) = true) .message (setWhen (offerOpen s = true) .offerNew u))
  obtain ⟨h4, k4⟩ := setWhen_sets (s.emc.state ≠ .quiet) .emergency
    (setWhen (newMessageOf s (· != .routine) = true) .messagePriority
      (setWhen (newMessageOf s (· == .routine) = true) .message (setWhen (offerOpen s = true) .offerNew u)))
  have hsame : ∀ {v w : State}, Keeps [.atc] v w → SameSettings v w := fun h => .of_mem (h .mem (by decide))
  obtain ⟨hatc, hpend⟩ := ((h1.trans h2 (hsame k1)).trans h3 ((hsame k1).trans (hsame k2))).trans h4
    (((hsame k1).trans (hsame k2)).trans (hsame k3))
  refine ⟨hatc, fun c => ?_, ((((hu.trans k1).trans k2).trans k3).trans k4).mono (by decide)⟩
  exact (hpend c).trans (or_iff_right (hno c))

end

/-! The reset. -/

section
variable {s : State}

/-- The port's records, list and store requests after a port reset (R172). -/
def recordsFreed (s : State) : State :=
  ((s.modWpt fun w => { w with posted := [] }).modMem fun m => (clearRecords m).write 0x50 0#8).modCps fun c =>
    { c with tariffRecord := none, settingsRecord := none }

theorem recordsFreed_keeps (s : State) : Keeps [.wpt, .mem, .cps] s (recordsFreed s) :=
  ((modWpt_keeps _ s).trans (modMem_keeps _ _)).trans (modCps_keeps _ _)

theorem recordsFreed_read (hwf : s.mem.Wf) (a : Nat) :
    (recordsFreed s).mem.read a = if a = 0x50 ∨ (0x100 ≤ a ∧ a < 0x500) then 0#8 else s.mem.read a := by
  have hcleared := clearRecords_wf hwf
  show ((clearRecords s.mem).write 0x50 0#8).read a = _
  by_cases hslot : a = 0x50
  · rw [hslot, Memory.read_write_same hcleared, if_pos (.inl rfl)]
  · rw [Memory.read_write_other hcleared _ hslot]
    by_cases hrecord : 0x100 ≤ a ∧ a < 0x500
    · rw [clearRecords_read_of s.mem hrecord, if_pos (.inr hrecord)]
    · rw [clearRecords_read_other hwf hrecord, if_neg (not_or_intro hslot hrecord)]

theorem recordsFreed_settings (hwf : s.mem.Wf) : SameSettings s (recordsFreed s) := fun o => by
  rw [recordsFreed_read hwf, if_neg (by omega)]

end

/-- The entries that the origins of the frames that leave name. -/
theorem namesInbox_flatMap {fs : List Frame} {i : Fin 24} :
    NamesInbox (fs.flatMap fun f => f.origins) i ↔ ∃ f ∈ fs, ∃ l ∈ f.origins, l.origin = .inbox i := by
  simp only [NamesInbox, List.mem_flatMap]
  constructor
  · rintro ⟨l, ⟨f, hf, hl⟩, ho⟩
    exact ⟨f, hf, l, hl, ho⟩
  · rintro ⟨f, hf, l, hl, ho⟩
    exact ⟨l, ⟨f, hf, hl⟩, ho⟩

/-- Settles O54: the records are cleared, the entries of the frames that leave become READ one after the other, and attention
is derived from what is left. -/
theorem portResets : Obligations.PortResets := by
  intro s hready hwf
  let freed := recordsFreed s
  let leaving := s.txq.frames.filter fun f => !f.inFlight && f.origins.any recordLink
  let links := leaving.flatMap fun f => f.origins
  let queued := modFrames (fun fs => (fs.filter fun f => !(!f.inFlight && f.origins.any recordLink)).map Frame.detachRecords) freed
  let heard := links.foldl readAgainStep queued
  have hheard : ReadAgain links queued heard := readAgainSteps_readAgain links queued
  have hwork : resetPort s = deriveAttention heard := congrArg deriveAttention (portResetQueue_eq freed)
  have hfreed : Keeps [.wpt, .mem, .cps, .txq] s queued :=
    ((recordsFreed_keeps s).trans (modTxq_keeps _ freed)).mono (by decide)
  obtain ⟨hatc, hpend, hderived⟩ := deriveAttention_derived heard
  have hlast : Keeps [.atc, .pins] heard (driveLines (deriveAttention heard)) := hderived.trans (driveLines_keeps _)
  have hall : Keeps [.mst, .atc, .pins] queued (driveLines (deriveAttention heard)) := (hheard.keeps.trans hlast).mono (by decide)
  have hinbox : (driveLines (deriveAttention heard)).mst = heard.mst := hlast .mst (by decide)
  have hsettings : SameSettings s heard := (recordsFreed_settings hwf).trans (.of_mem (hheard.keeps .mem (by decide)))
  have hread : ∀ a, (driveLines (deriveAttention heard)).mem.read a =
      if a = 0x50 ∨ (0x100 ≤ a ∧ a < 0x500) then 0#8 else s.mem.read a := fun a => by
    rw [hall .mem (by decide)]
    exact recordsFreed_read hwf a
  refine completes_of_effect ((if_pos hready).trans hwork) ?_
  intro ofRequest leaves readAgain isNew
  have hnames : ∀ i, NamesInbox links i ↔ readAgain i := fun i => by
    rw [namesInbox_flatMap]
    refine exists_congr fun f => ?_
    rw [List.mem_filter, and_assoc]
  have hmatches : (deriveAttention heard).atc.matchA = heard.atc.matchA ∧ (deriveAttention heard).atc.matchB = heard.atc.matchB := by
    rw [hatc]
    exact ⟨rfl, rfl⟩
  refine ⟨hall .wpt (by decide), fun a ha hb => ?_, ?_, fun a hslot hrecord => ?_, hall .cps (by decide),
    hall .txq (by decide), ?_, fun i => ?_, ?_, ?_, ?_, fun c => ?_, (hfreed.trans hall).mono (by decide), driveLines_onlyLines ?_⟩
  · rw [hread, if_pos (.inr ⟨ha, hb⟩)]
  · rw [hread, if_pos (.inl rfl)]
  · rw [hread, if_neg (not_or_intro hslot hrecord)]
  · rw [hinbox]
    exact hheard.mst
  · rw [hinbox, ← hnames]
    exact hheard.entry i
  · have hbefore := hheard.attends.atc
    obtain ⟨hA, hB⟩ := hmatches
    have hends : (driveLines (deriveAttention heard)).atc = (deriveAttention heard).atc := rfl
    rw [hends, hA, hB]
    refine hatc.trans ?_
    rw [hbefore]
    rfl
  · simp only [← hnames]
    intro hsome
    have hnow : MatchesNow (driveLines (deriveAttention heard)) :=
      (hheard.now hsome).of_same (hlast.mono (by decide)) (.of_mem (hlast .mem (by decide))) hmatches.1 hmatches.2
    refine hnow ?_
    rw [hall .phase (by decide)]
    exact hready
  · simp only [← hnames]
    intro hnone
    have hsame : heard = queued := hheard.same hnone
    rw [hsame] at hmatches
    show (deriveAttention heard).atc.matchA = _ ∧ (deriveAttention heard).atc.matchB = _
    rw [hsame]
    exact hmatches
  · have henabled : IsEnabled heard c ↔ IsEnabled s c := hsettings.isEnabled c
    have hcall : heard.emc.state = s.emc.state := by rw [hheard.keeps .emc (by decide)]; rfl
    have hoffer : offerOpen heard = true ↔ ∃ e, (s.oft.entries.get e).state = .open := by
      rw [offerOpen_iff, hheard.keeps .oft (by decide)]
      rfl
    have hnew : ∀ wanted, newMessageOf heard wanted = true ↔
        ∃ i, ((driveLines (deriveAttention heard)).mst.inbox.get i).state = .new ∧
          wanted ((driveLines (deriveAttention heard)).mst.inbox.get i).cls = true := fun wanted => by
      rw [hinbox]
      exact newMessageOf_iff
    have hurgent : newMessageOf heard (· != .routine) = true ↔ isNew .priority ∨ isNew .emergency := by
      rw [hnew]
      constructor
      · rintro ⟨i, hi, hcls⟩
        cases hc : ((driveLines (deriveAttention heard)).mst.inbox.get i).cls with
        | routine =>
          rw [hc] at hcls
          exact absurd hcls (by decide)
        | priority => exact .inl ⟨i, hi, hc⟩
        | emergency => exact .inr ⟨i, hi, hc⟩
      · rintro (⟨i, hi, hc⟩ | ⟨i, hi, hc⟩) <;> exact ⟨i, hi, by rw [hc]; decide⟩
    have hroutine : newMessageOf heard (· == .routine) = true ↔ isNew .routine := by
      simp only [hnew, beq_iff_eq, isNew]
    refine (hpend c).trans (and_comm.trans (and_congr henabled ?_))
    rw [mem_derivedChannels, hoffer, hroutine, hurgent, hcall]
  · exact (hderived .pins (by decide)).trans ((hheard.keeps .pins (by decide)).trans (hfreed .pins (by decide)))

end Sys2Proof.Machine
end

section
/-! PROOF. The hand field: requests posted, cancelled and of an unknown kind (O53). -/

namespace Sys2Proof.Machine

/-! An answer with a detail (R165, R170). -/

section
variable {s : State} (h : s.mem.Wf) (r : Fin 16) (x : Result) (d : Byte) (w : Nat)

theorem writeAnswer_mem (s : State) :
    (writeAnswer r x d w s).mem = (s.mem.writeBytes (recordBase r + 4) (answerBytes x d w)).write (recordBase r) 4#8 :=
  setChannel_mem ..

theorem writeAnswer_keeps (s : State) : Keeps [.mem, .atc] s (writeAnswer r x d w s) :=
  ((modMem_keeps _ s).trans ((modMem_keeps _ _).trans (setChannel_keeps _ _))).mono (by decide)

include h

theorem writeAnswer_onlyAnswerBytes : OnlyAnswerBytes r s (writeAnswer r x d w s) := by
  intro a ha
  obtain ⟨hhand, hrest⟩ := not_or.mp ha
  rw [writeAnswer_mem, Memory.read_write_other (Memory.wf_writeBytes h ..) _ hhand]
  refine Memory.read_writeBytes_other h _ ?_
  simp only [answerBytes, List.length_append, length_littleEndian, List.length_cons, List.length_nil]
  omega

theorem writeAnswer_answered : Answered r x d w (writeAnswer r x d w s) := by
  have hbyte : ∀ i (hi : i < (answerBytes x d w).length),
      (writeAnswer r x d w s).mem.read (recordBase r + 4 + i) = (answerBytes x d w)[i] := fun i hi => by
    rw [writeAnswer_mem, Memory.read_write_other (Memory.wf_writeBytes h ..) _ (by omega)]
    exact Memory.read_writeBytes h _ _ i hi
  have h2 := hbyte 2 (by simp [answerBytes])
  have h3 := hbyte 3 (by simp [answerBytes])
  refine ⟨?_, hbyte 0 (by simp [answerBytes]), hbyte 1 (by simp [answerBytes]), ?_⟩
  · rw [handField, writeAnswer_mem]
    exact Memory.read_write_same (Memory.wf_writeBytes h ..) _ _
  · simp only [Memory.readBytes, littleEndian]
    exact congrArg₂ (fun a b => [a, b]) h2 h3

theorem writeAnswer_sameSettings : SameSettings s (writeAnswer r x d w s) := fun o =>
  writeAnswer_onlyAnswerBytes h r x d w _ (by
    have := r.isLt
    simp only [IsAnswerByte, recordBase]
    omega)

theorem writeAnswer_sets : Sets s.atc [.request] s (writeAnswer r x d w s) := by
  let written := setHand r 4#8 (s.modMem fun m => m.writeBytes (recordBase r + 4) (answerBytes x d w))
  have hs : SameSettings s written := fun o => by
    rw [← writeAnswer_sameSettings h r x d w o, writeAnswer_mem]
    rfl
  exact (setChannel_sets .request written).rebase rfl rfl fun o => (hs o).symm

end

/-! A byte of a hand field alone. -/

section
variable {s : State} {r : Fin 16} {v : Byte}

theorem setHand_keeps (r : Fin 16) (v : Byte) (s : State) : Keeps [.mem] s (setHand r v s) := modMem_keeps _ s

theorem setHand_read (hwf : s.mem.Wf) : handField (setHand r v s) r = v := Memory.read_write_same hwf _ _

theorem setHand_read_other (hwf : s.mem.Wf) {a : Nat} (ha : a ≠ recordBase r) : (setHand r v s).mem.read a = s.mem.read a :=
  Memory.read_write_other hwf _ ha

theorem setHand_settings (hwf : s.mem.Wf) : SameSettings s (setHand r v s) := fun o =>
  setHand_read_other hwf (by simp only [recordBase]; omega)

/-- An illegal write of a hand field (R163). -/
theorem illegalHand_shows (d : Nat) (s : State) :
    let t := driveLines (illegalHand d s)
    t.wpt = { s.wpt with illegalHands := min 65535 (s.wpt.illegalHands + 1) } ∧ Records .handIllegal d [] s t ∧
      Keeps [.wpt, .atc, .pins] s t ∧ OnlyLines s t := by
  let counted := s.modWpt fun w => { w with illegalHands := satAdd u16Max w.illegalHands 1 }
  have hrecord : Keeps [.atc] counted (illegalHand d s) := keeps_of_atc (recordFault_eq .handIllegal d counted)
  exact ⟨hrecord .wpt (by decide), recordFault_records .handIllegal d counted,
    (((modWpt_keeps _ s).trans hrecord).trans (driveLines_keeps _)).mono (by decide), driveLines_onlyLines (hrecord .pins (by decide))⟩

/-- A cancel that comes too late leaves CANCEL_ASKED in the hand field (R167). -/
theorem tooLate_shows (hwf : s.mem.Wf) :
    let t := driveLines (setHand r 3#8 s)
    handField t r = 3#8 ∧ (∀ a, a ≠ recordBase r → t.mem.read a = s.mem.read a) ∧ Keeps [.mem, .pins] s t ∧ OnlyLines s t :=
  ⟨setHand_read hwf, fun _ => setHand_read_other hwf, (setHand_keeps r 3#8 s).trans (driveLines_keeps _), driveLines_onlyLines rfl⟩

/-- The answer CANCELLED, over work that leaves window memory (R167). -/
theorem cancelled_shows (hwf : s.mem.Wf) {work : State} {l : List Part} (hk : Keeps l (setHand r 3#8 s) work) (hmem : .mem ∉ l)
    (hpins : .pins ∉ l) (w : Nat) :
    let t := driveLines (writeAnswer r .cancelled 0#8 w work)
    Answered r .cancelled 0#8 w t ∧ OnlyAnswerBytes r s t ∧ Sets work.atc [.request] work t ∧ SameSettings work s ∧
      Keeps ([.mem] ++ l ++ [.mem, .atc, .pins]) s t ∧ Keeps [.mem, .atc, .pins] work t ∧ OnlyLines s t := by
  have hset := setHand_keeps r 3#8 s
  have hm : work.mem = (setHand r 3#8 s).mem := hk .mem hmem
  have hw : work.mem.Wf := by
    rw [hm]
    exact Memory.wf_write hwf _ _
  have hlast : Keeps [.mem, .atc, .pins] work (driveLines (writeAnswer r .cancelled 0#8 w work)) :=
    ((writeAnswer_keeps r .cancelled 0#8 w work).trans (driveLines_keeps _)).mono (by decide)
  refine ⟨writeAnswer_answered hw r _ _ _, fun a ha => ?_, (writeAnswer_sets hw r _ _ w).rebase rfl rfl (.refl _),
    fun o => (((setHand_settings hwf).trans (.of_mem hm)) o).symm, (hset.trans hk).trans hlast, hlast, driveLines_onlyLines ?_⟩
  · refine (writeAnswer_onlyAnswerBytes hw r _ _ w a ha).trans ?_
    rw [hm]
    exact setHand_read_other hwf fun he => ha (.inl he)
  · exact (writeAnswer_keeps r .cancelled 0#8 w work .pins (by decide)).trans ((hk .pins hpins).trans (hset .pins (by decide)))

end

/-! A cancel of a text request (R101, R103). -/

theorem newestFrame_split {before after : List Frame} {f : Frame} {p : Frame → Bool} (hf : p f = true)
    (h : ∀ g ∈ after, p g = false) : newestFrame (before ++ f :: after) p = some f := by
  have hafter : after.reverse.find? p = none := List.find?_eq_none.mpr fun g hg => by simp [h g (List.mem_reverse.mp hg)]
  simp [newestFrame, List.find?_append, hafter, hf]

theorem withoutNewest_split {before after : List Frame} {f : Frame} {p : Frame → Bool} (hf : p f = true)
    (h : ∀ g ∈ after, p g = false) : withoutNewest (before ++ f :: after) p = before ++ after := by
  have hafter : ∀ g ∈ after.reverse, ¬p g = true := fun g hg => by simp [h g (List.mem_reverse.mp hg)]
  rw [withoutNewest, List.reverse_append, List.reverse_cons, List.append_assoc, List.eraseP_append_right _ hafter]
  simp [hf]

section
variable {s : State} {r : Fin 16} {f : Frame} {before after : List Frame}
  (hframes : s.txq.frames = before ++ f :: after) (hothers : ∀ g ∈ before ++ after, g.hasOrigin (.record r) = false)
  (hf : f.hasOrigin (.record r) = true)
include hframes hothers hf

theorem cancelText_inFlight (h : f.inFlight = true) : cancelText r s = s := by
  have hnewest : newestFrame s.txq.frames (fun g => g.hasOrigin (.record r)) = some f := by
    rw [hframes]
    exact newestFrame_split hf fun g hg => hothers g (List.mem_append_right _ hg)
  simp only [cancelText, hnewest, h, if_true]

/-- A WAITING frame leaves, its inbox entry becomes READ, and the request is answered (R101, R103, R147). -/
theorem cancelText_waiting (h : f.inFlight = false) :
    cancelText r s =
      let left := f.origins.foldl readAgainStep (modFrames (fun _ => before ++ after) s)
      writeAnswer r .cancelled 0#8 (textAnswerWord left r) left := by
  have hafter : ∀ g ∈ after, g.hasOrigin (.record r) = false := fun g hg => hothers g (List.mem_append_right _ hg)
  have hnewest : newestFrame s.txq.frames (fun g => g.hasOrigin (.record r)) = some f := by
    rw [hframes]
    exact newestFrame_split hf hafter
  have hremoved : removeWaiting (fun g => g.hasOrigin (.record r)) s = modFrames (fun _ => before ++ after) s := by
    have hremoval : removalOf s.txq.frames (fun g => g.hasOrigin (.record r)) = .removed := by
      rw [removalOf, hnewest]
      exact if_neg (by rw [h]; decide)
    have hwithout : withoutNewest s.txq.frames (fun g => g.hasOrigin (.record r)) = before ++ after := by
      rw [hframes]
      exact withoutNewest_split hf hafter
    rw [removeWaiting, if_pos hremoval, modFrames, modFrames, State.modTxq, State.modTxq, hwithout]
  simp only [cancelText, hnewest, h, hremoved, Bool.false_eq_true, if_false]
  rfl

end

theorem cancelArrival_text {r : Fin 16} {s : State} (h : kindByte s r = 0x30#8 ∨ kindByte s r = 0x31#8) :
    cancelArrival r s = cancelText r s := if_pos h

theorem cancelArrival_store {r : Fin 16} {s : State} (h : kindByte s r = 0x60#8 ∨ kindByte s r = 0x61#8) :
    cancelArrival r s = cancelStore r s := by
  have hno : ¬(kindByte s r = 0x30#8 ∨ kindByte s r = 0x31#8) := by
    rcases h with h | h <;> rw [h] <;> decide
  exact (if_neg hno).trans (if_pos h)

/-- A cancel over TAKEN is handed to the owner with CANCEL_ASKED in the hand field (R163, R167). -/
theorem requestCancel_taken {r : Fin 16} {s : State} (hready : s.phase = .ready) (h : handField s r = 2#8) :
    effect (.requestCancel r) s = cancelArrival r (setHand r 3#8 s) := by
  refine (if_pos hready).trans ((if_neg ?_).trans (if_pos ⟨h, rfl⟩))
  rw [h]
  decide

theorem beingWritten_iff {s : State} {k : StoreKind} : beingWritten s k = true ↔ ∃ j, s.cps.writing = some j ∧ j.kind = k := by
  unfold beingWritten
  cases s.cps.writing <;> simp

section
variable {s : State} {r : Fin 16}

/-- The answer word of a REPLY whose inbox entry is READ (R103; log entry 25). -/
theorem textAnswerWord_read {i : Fin 24} {x : InboxEntry} (hkind : kindByte s r = 0x31#8) (hi : param8 s r 8 = i.val)
    (hread : s.mst.inbox.get i = { x with state := .read }) : textAnswerWord s r = 2 := by
  have hbyte : (s.mem.read (recordBase r + 8)).toNat = i.val := hi
  have hentry : s.mst.inbox.get ⟨(s.mem.read (recordBase r + 8)).toNat, hbyte ▸ i.isLt⟩ = s.mst.inbox.get i :=
    congrArg s.mst.inbox.get (Fin.ext hbyte)
  rw [textAnswerWord, if_pos hkind, dif_pos (hbyte ▸ i.isLt), hentry, hread]
  rfl

theorem cancelStore_tariffs (hrecord : s.cps.tariffRecord = some r) (hqueued : StoreKind.tariffs ∈ s.cps.queue)
    (hfree : ¬∃ j, s.cps.writing = some j ∧ j.kind = .tariffs) :
    cancelStore r s =
      writeAnswer r .cancelled 0#8 0 ((removeWrite .tariffs s).modCps fun c => { c with tariffRecord := none }) :=
  if_pos ⟨hrecord, hqueued, by rwa [← Bool.not_eq_true, beingWritten_iff]⟩

theorem cancelStore_settings (hother : s.cps.tariffRecord ≠ some r) (hrecord : s.cps.settingsRecord = some r)
    (hqueued : StoreKind.settings ∈ s.cps.queue) (hfree : ¬∃ j, s.cps.writing = some j ∧ j.kind = .settings) :
    cancelStore r s =
      writeAnswer r .cancelled 0#8 0 ((removeWrite .settings s).modCps fun c => { c with settingsRecord := none }) :=
  (if_neg fun h => hother h.1).trans (if_pos ⟨hrecord, hqueued, by rwa [← Bool.not_eq_true, beingWritten_iff]⟩)

/-- Once the write of the record's request has begun, a cancel does nothing more (R184). -/
theorem cancelStore_late (ht : s.cps.tariffRecord = some r → ∃ j, s.cps.writing = some j ∧ j.kind = .tariffs)
    (hs : s.cps.settingsRecord = some r → ∃ j, s.cps.writing = some j ∧ j.kind = .settings) : cancelStore r s = s := by
  refine (if_neg fun ⟨h, _, hfree⟩ => ?_).trans (if_neg fun ⟨h, _, hfree⟩ => ?_)
  · rw [beingWritten_iff.mpr (ht h)] at hfree
    exact absurd hfree (by decide)
  · rw [beingWritten_iff.mpr (hs h)] at hfree
    exact absurd hfree (by decide)

end

/-- Settles O53: each value found in the hand field, and each owner of a cancel, is a case of its own. -/
theorem recordsArePostedAndCancelled : Obligations.RecordsArePostedAndCancelled := by
  refine ⟨?_, fun s r rest hwf hposted hkind => ?_⟩
  · intro s r hready hwf illegal onlyHand tooLate
    have hkindByte : kindByte (setHand r 3#8 s) r = kindByte s r := setHand_read_other hwf (by simp [recordBase])
    have hparam : param8 (setHand r 3#8 s) r 8 = param8 s r 8 :=
      congrArg BitVec.toNat (setHand_read_other hwf (by simp only [recordBase]; omega))
    have hillegal : ∀ {c : Instr} {v : Byte}, effect c s = writeHand r v s →
        ¬(handField s r = 0#8 ∧ v = 1#8) → ¬(handField s r = 2#8 ∧ v = 3#8) → ¬(handField s r = 4#8 ∧ v = 0#8) →
        ¬(handField s r = 4#8 ∧ v = 3#8) → Completes c s illegal := fun hc h1 h2 h3 h4 =>
      completes_of_effect (hc.trans ((if_neg h1).trans ((if_neg h2).trans ((if_neg h3).trans (if_neg h4)))))
        (illegalHand_shows r.val s)
    have htooLate : ∀ {t : State}, effect (.requestCancel r) s = t → t = setHand r 3#8 s → Completes (.requestCancel r) s tooLate :=
      fun hc ht => completes_of_effect (hc.trans ht) (tooLate_shows hwf)
    refine ⟨fun hfree => ?_, fun hfound => ?_, fun f before after htaken hkind hframes hothers horigins => ?_,
      fun f before after i htaken hkind hi hframes hothers horigins => ?_, fun htaken hkind ht hs => ?_,
      fun htaken hkind hs ht => ?_, fun hanswered => ?_, fun h2 h4 => ?_⟩
    · refine completes_of_effect ((if_pos hready).trans (if_pos ⟨hfree, rfl⟩)) ⟨setHand_read hwf, fun a => setHand_read_other hwf,
        rfl, (((setHand_keeps r 1#8 s).trans (modWpt_keeps _ _)).trans (driveLines_keeps _)).mono (by decide), driveLines_onlyLines rfl⟩
    · exact hillegal (if_pos hready) (fun h => hfound h.1) (fun h => absurd h.2 (by decide)) (fun h => absurd h.2 (by decide))
        fun h => absurd h.2 (by decide)
    · have hf : f.hasOrigin (.record r) = true := by simp [Frame.hasOrigin, horigins]
      have hc := (requestCancel_taken hready htaken).trans (cancelArrival_text (.inl (hkindByte.trans hkind)))
      refine ⟨fun hwaits => ?_, fun hflies => htooLate hc (cancelText_inFlight hframes hothers hf hflies)⟩
      let left := modFrames (fun _ => before ++ after) (setHand r 3#8 s)
      have hleft : Keeps [.txq] (setHand r 3#8 s) left := modTxq_keeps _ _
      have hword : textAnswerWord left r = 0 := by
        refine if_neg ?_
        rw [show kindByte left r = kindByte s r from hkindByte, hkind]
        decide
      have hwork : effect (.requestCancel r) s = writeAnswer r .cancelled 0#8 0 left := by
        rw [hc, cancelText_waiting (s := setHand r 3#8 s) hframes hothers hf hwaits, horigins]
        show writeAnswer r .cancelled 0#8 (textAnswerWord left r) left = _
        rw [hword]
      obtain ⟨hanswered, honly, hsets, hsettings, hkeeps, hlast, hlines⟩ := cancelled_shows hwf hleft (by decide) (by decide) 0
      exact completes_of_effect hwork ⟨hanswered, honly, hlast .txq (by decide), hsets.rebase rfl rfl hsettings,
        hkeeps.mono (by decide), hlines⟩
    · have hf : f.hasOrigin (.record r) = true := by simp [Frame.hasOrigin, horigins]
      have hc := (requestCancel_taken hready htaken).trans (cancelArrival_text (.inr (hkindByte.trans hkind)))
      refine ⟨fun hwaits => ?_, fun hflies => htooLate hc (cancelText_inFlight hframes hothers hf hflies)⟩
      let gone := modFrames (fun _ => before ++ after) (setHand r 3#8 s)
      let left := updateInbox i (fun x => { x with state := .read }) gone
      have hgone : Keeps [.txq] (setHand r 3#8 s) gone := modTxq_keeps _ _
      have hread : Keeps [.mst, .atc] gone left := updateInbox_keeps _ i _
      have hleft := hgone.trans hread
      have hword : textAnswerWord left r = 2 :=
        textAnswerWord_read (i := i) (by rw [kindByte, hleft .mem (by decide)]; exact hkindByte.trans hkind)
          (by rw [param8, hleft .mem (by decide)]; exact hparam.trans hi) (updateInbox_entry gone i _)
      have hwork : effect (.requestCancel r) s = writeAnswer r .cancelled 0#8 2 left := by
        rw [hc, cancelText_waiting (s := setHand r 3#8 s) hframes hothers hf hwaits, horigins]
        show writeAnswer r .cancelled 0#8 (textAnswerWord left r) left = _
        rw [hword]
      obtain ⟨hanswered, honly, hsets, hsettings, hkeeps, hlast, hlines⟩ := cancelled_shows hwf hleft (by decide) (by decide) 2
      have hmst : (driveLines (writeAnswer r .cancelled 0#8 2 left)).mst = left.mst := hlast .mst (by decide)
      obtain ⟨hinbox, hrest⟩ := updateInbox_onlyInbox gone i fun x => { x with state := .read }
      refine completes_of_effect hwork ⟨?_, ?_, hanswered, honly, (hlast .txq (by decide)).trans (hread .txq (by decide)), ?_,
        hkeeps.mono (by decide), hlines⟩
      · rw [hmst]
        exact updateInbox_entry gone i _
      · rw [OnlyInbox, hmst]
        exact ⟨hinbox, hrest⟩
      · have hatt : Attends s.atc [] s left := (updateInbox_attends gone i _).rebase rfl rfl (setHand_settings hwf)
        have hanswer : SameSettings left (driveLines (writeAnswer r .cancelled 0#8 2 left)) :=
          writeAnswer_sameSettings (by rw [hleft .mem (by decide)]; exact Memory.wf_write hwf _ _) r _ _ 2
        exact (hatt.then_sets hsets (by decide) (hlast .phase (by decide)) hanswer).beside
          ((updateInbox_matchesNow gone i _).then_sets hsets (hlast.mono (by decide)) hanswer)
    · have hc := (requestCancel_taken hready htaken).trans (cancelArrival_store (.inl (hkindByte.trans hkind)))
      refine ⟨fun hqueued hfree => ?_, fun j hj hkind => htooLate hc (cancelStore_late (fun _ => ⟨j, hj, hkind⟩) fun h => absurd h hs)⟩
      have hfree' : ¬∃ j, s.cps.writing = some j ∧ j.kind = .tariffs := fun ⟨j, hj, hk⟩ => hfree j hj hk
      let left := (removeWrite .tariffs (setHand r 3#8 s)).modCps fun c => { c with tariffRecord := none }
      have hleft : Keeps [.cps] (setHand r 3#8 s) left := ((modCps_keeps _ _).trans (modCps_keeps _ _)).mono (by decide)
      obtain ⟨hanswered, honly, hsets, hsettings, hkeeps, hlast, hlines⟩ := cancelled_shows hwf hleft (by decide) (by decide) 0
      exact completes_of_effect (hc.trans (cancelStore_tariffs ht hqueued hfree')) ⟨hlast .cps (by decide), hanswered, honly,
        hsets.rebase rfl rfl hsettings, hkeeps.mono (by decide), hlines⟩
    · have hc := (requestCancel_taken hready htaken).trans (cancelArrival_store (.inr (hkindByte.trans hkind)))
      refine ⟨fun hqueued hfree => ?_, fun j hj hkind => htooLate hc (cancelStore_late (fun h => absurd h ht) fun _ => ⟨j, hj, hkind⟩)⟩
      have hfree' : ¬∃ j, s.cps.writing = some j ∧ j.kind = .settings := fun ⟨j, hj, hk⟩ => hfree j hj hk
      let left := (removeWrite .settings (setHand r 3#8 s)).modCps fun c => { c with settingsRecord := none }
      have hleft : Keeps [.cps] (setHand r 3#8 s) left := ((modCps_keeps _ _).trans (modCps_keeps _ _)).mono (by decide)
      obtain ⟨hanswered, honly, hsets, hsettings, hkeeps, hlast, hlines⟩ := cancelled_shows hwf hleft (by decide) (by decide) 0
      exact completes_of_effect (hc.trans (cancelStore_settings ht hs hqueued hfree')) ⟨hlast .cps (by decide), hanswered, honly,
        hsets.rebase rfl rfl hsettings, hkeeps.mono (by decide), hlines⟩
    · refine completes_of_effect ((if_pos hready).trans ((if_neg ?_).trans ((if_neg ?_).trans ((if_neg ?_).trans (if_pos ⟨hanswered, rfl⟩)))))
        ⟨driveLines_keeps s, driveLines_onlyLines rfl⟩ <;> rw [hanswered] <;> decide
    · exact hillegal (if_pos hready) (fun h => absurd h.2 (by decide)) (fun h => h2 h.1) (fun h => h4 h.1) fun h => h4 h.1
  · have hwork : effect .unknownKind s = answer r .unknownKind 0 (leaveList rest s) := by
      show takeUnknown s = _
      rw [takeUnknown, hposted]
      exact if_pos hkind
    exact completes_of_effect hwork (answer_alone hwf r rest .unknownKind 0)

end Sys2Proof.Machine
end

section
/-! PROOF. A host write of both bytes over a window memory that is not canonical (O52). -/

namespace Sys2Proof.Machine

/-- A part that is READY with two cells of window memory in falling order: the hand field of record 0, 2 in the second cell, is
hidden by the first and reads 0. -/
def fallingMemory : State := { State.reset with phase := .ready, mem := [(0x102, 1#8), (0x100, 2#8)] }

/-- The part once 0 has been written to byte 2 of record 0: the first cell is gone, and the hand field shows TAKEN. -/
def fallingMemoryLow : State := driveLines (effect (.hostWindowWrite 0x81#13 0x700#16 true false) fallingMemory)

theorem fallingMemory_free : handField fallingMemory 0 = 0#8 := by decide

theorem fallingMemoryLow_taken : handField fallingMemoryLow 0 = 2#8 := by decide

/-- Both bytes at once: the record reads FREE as they arrive, and both are taken. -/
theorem fallingMemory_both :
    (driveLines (effect (.hostWindowWrite 0x81#13 0x700#16 true true) fallingMemory)).mem.read 0x103 = 7#8 := by decide

/-- The high byte after the low one: the record is in work, and the byte is dropped. -/
theorem fallingMemoryLow_high :
    (driveLines (effect (.hostWindowWrite 0x81#13 0x700#16 false true) fallingMemoryLow)).mem.read 0x103 = 0#8 := by decide

/-- Refutes O52: the clause on a plain write of both bytes does not ask that window memory is canonical. In `fallingMemory`
the low byte uncovers a hand field of TAKEN, so that the high byte alone is dropped after it, while the write of both takes
it. -/
theorem not_hostWriteIsJudged : ¬Obligations.HostWriteIsJudged := by
  intro h
  obtain ⟨-, hplain, -⟩ := h.2 fallingMemory 0x81#13 0x700#16
  have hrecord : ∀ offset, recordBase 0 < offset → offset < recordBase 0 + 64 → TakenQuietly fallingMemory offset :=
    fun offset hlow hhigh => .inr (.inl ⟨0, hlow, hhigh, .inl fallingMemory_free⟩)
  have hsame := hplain rfl (.inl (hrecord _ (by decide) (by decide))) (.inl (hrecord _ (by decide) (by decide)))
    fallingMemoryLow (exec_eq_effect _ _)
  rw [exec_eq_effect, exec_eq_effect] at hsame
  injection hsame with hstate
  have hbyte := congrArg (fun t : State => t.mem.read 0x103) hstate
  rw [fallingMemory_both, fallingMemoryLow_high] at hbyte
  exact absurd hbyte (by decide)

end Sys2Proof.Machine
end

section
/-! PROOF. Slots, transmissions and what goes on the air (O49). -/

namespace Sys2Proof.Machine

/-! The bits (R124, R125, R135). -/

theorem byteBits_length (b : Byte) : (byteBits b).length = 8 := by simp [byteBits]

theorem byteBits_get (b : Byte) {j : Nat} (hj : j < 8) : (byteBits b)[j]? = some (b.getMsbD j) := by
  simp [byteBits, hj]

theorem flatMap_byteBits_length (bs : List Byte) : (bs.flatMap byteBits).length = 8 * bs.length := by
  induction bs with
  | nil => rfl
  | cons b bs ih =>
    rw [List.flatMap_cons, List.length_append, byteBits_length, ih, List.length_cons]
    omega

/-- The bits of a list of bytes, eight for each byte. -/
theorem flatMap_byteBits_get (bs : List Byte) {i j : Nat} (hi : i < bs.length) (hj : j < 8) :
    (bs.flatMap byteBits)[8 * i + j]? = some ((bs.getD i 0#8).getMsbD j) := by
  induction bs generalizing i with
  | nil => exact absurd hi (Nat.not_lt_zero i)
  | cons b bs ih =>
    rw [List.flatMap_cons]
    cases i with
    | zero =>
      rw [List.getElem?_append_left (by rw [byteBits_length]; omega), Nat.mul_zero, Nat.zero_add, byteBits_get b hj]
      rfl
    | succ i =>
      rw [List.getElem?_append_right (by rw [byteBits_length]; omega), byteBits_length,
        show 8 * (i + 1) + j - 8 = 8 * i + j by omega, ih (by simpa using hi)]
      rfl

/-- The preamble and the sync word. -/
def leadIn : List Bool := [0xAA#8, 0xAA#8, 0xB4#8, 0xE6#8, 0x1D#8].flatMap byteBits

theorem bits_eq (x : Transmission) : x.bits = leadIn ++ x.bytes.flatMap byteBits := List.flatMap_append

theorem leadIn_preamble : ∀ i < 16, leadIn[i]? = some (i % 2 == 0) := by decide

theorem leadIn_sync : ∀ i < 24, leadIn[16 + i]? = some ((0xB4E61D#24).getMsbD i) := by decide

theorem leadIn_length : leadIn.length = 40 := flatMap_byteBits_length _

theorem bits_lead (x : Transmission) {i : Nat} (hi : i < 40) : x.bits[i]? = leadIn[i]? := by
  rw [bits_eq, List.getElem?_append_left (by rwa [leadIn_length])]

/-! The bytes (R127, R141). -/

theorem fromBigEndian_bigEndian16 (n : Nat) : fromBigEndian (bigEndian16 n) = n % 65536 := by
  simp only [fromBigEndian, bigEndian16, byteOf, List.foldl_cons, List.foldl_nil, BitVec.toNat_ofNat]
  omega

/-- The bytes of a transmission before its CRC. -/
def Transmission.head (x : Transmission) : List Byte :=
  bigEndian16 x.fleet ++ [byteOf x.kind.code] ++ bigEndian16 x.address ++
    [byteOf (x.sequence + if x.more then 128 else 0), byteOf x.body.bytes.length] ++ x.body.bytes

theorem bytes_eq (x : Transmission) : x.bytes = x.head ++ bigEndian16 (crc16 x.head).toNat := rfl

theorem head_length (x : Transmission) : x.head.length = 7 + x.body.bytes.length := by
  simp [Transmission.head, bigEndian16]
  omega

theorem bytes_drop (x : Transmission) : x.bytes.drop 7 = x.body.bytes ++ bigEndian16 (crc16 x.head).toNat := rfl

theorem kind_code_lt (k : UplinkKind) : k.code < 256 := by cases k <;> decide

/-- Every transmission goes on the air as R124, R125, R127 and R135 give. -/
theorem onTheAir (x : Transmission) : OnTheAir x := by
  have hlength : x.bytes.length = 9 + x.body.bytes.length := by
    rw [bytes_eq, List.length_append, head_length]
    simp [bigEndian16]
    omega
  have hbits : x.bits.length = 40 + 8 * x.bytes.length := by
    rw [bits_eq, List.length_append, leadIn_length, flatMap_byteBits_length]
  have hcrc : x.bytes.length - 2 = x.head.length := by
    rw [hlength, head_length]
    omega
  unfold OnTheAir
  intro bytes
  refine ⟨fun i hi => ?_, fun i hi => ?_, fun i hi j hj => ?_, hbits, fromBigEndian_bigEndian16 x.fleet, ?_,
    fromBigEndian_bigEndian16 x.address, fun hq => ?_, fun hchars => ?_, fun n hn => ?_, ?_, ?_⟩
  · rw [bits_lead x (by omega), leadIn_preamble i hi]
  · rw [bits_lead x (by omega), leadIn_sync i hi]
  · rw [bits_eq, List.getElem?_append_right (by rw [leadIn_length]; omega), leadIn_length,
      show 40 + 8 * i + j - 40 = 8 * i + j by omega]
    exact flatMap_byteBits_get x.bytes hi hj
  · show (byteOf x.kind.code).toNat = _
    rw [byteOf, BitVec.toNat_ofNat, Nat.mod_eq_of_lt (kind_code_lt x.kind)]
  · show (byteOf (x.sequence + if x.more then 128 else 0)).toNat = _
    rw [byteOf, BitVec.toNat_ofNat]
    split_ifs <;> omega
  · have hbody := x.body.length_bytes
    have hroom : x.body.kind.room + x.body.characters.length ≤ 60 := by
      cases hb : x.body <;> simp_all [UplinkBody.kind, UplinkKind.room, UplinkBody.characters]
      omega
    have hbyte : (bytes.getD 6 0#8).toNat = x.body.bytes.length := by
      show (byteOf x.body.bytes.length).toNat = _
      rw [byteOf, BitVec.toNat_ofNat, Nat.mod_eq_of_lt (by omega)]
    rw [hbyte]
    exact ⟨hlength, by show x.bytes.length ≤ 69; omega⟩
  · obtain ⟨size, hleast, hinfix⟩ := UplinkBody.number_infix hn
    refine ⟨bigEndian size n.value, ?_, by rwa [length_bigEndian], by rw [length_bigEndian]; exact fromBigEndian_bigEndian ..⟩
    rw [show bytes.drop 7 = _ from bytes_drop x]
    exact hinfix.trans (List.prefix_append _ _).isInfix
  · rw [show bytes.drop 7 = _ from bytes_drop x]
    exact (UplinkBody.piece_infix (by simp [UplinkBody.pieces])).trans (List.prefix_append _ _).isInfix
  · have htake : bytes.take (bytes.length - 2) = x.head := by
      show x.bytes.take (x.bytes.length - 2) = _
      rw [hcrc, bytes_eq, List.take_left]
    have hdrop : bytes.drop (bytes.length - 2) = bigEndian16 (crc16 x.head).toNat := by
      show x.bytes.drop (x.bytes.length - 2) = _
      rw [hcrc, bytes_eq, List.drop_left]
    rw [htake, hdrop, fromBigEndian_bigEndian16, Nat.mod_eq_of_lt (crc16 x.head).isLt]

/-! Slots. -/

section
variable {s : State}

/-- The pins at the end of a command that set three of them (R176). -/
theorem driveLines_pinsAre {key txd ready : Bool} {t : State}
    (h : t.pins = { s.pins with key := key, txd := txd, modemReady := ready }) : PinsAre key txd ready s (driveLines t) := by
  show ({ t.pins with noteA := lineAsserted t false, noteB := lineAsserted t true } : Pins) = _
  rw [h]
  rfl

/-- The assignment has left, and MODEM_READY stands as the slot finds it (R135). -/
def slotBegun (slot : Nat) (ready : Bool) (s : State) : State :=
  (s.modAle fun x => { x with assignments := x.assignments.filter fun b => b.slot != slot }).modPins fun p =>
    { p with modemReady := ready }

theorem slotBegun_keeps (slot : Nat) (ready : Bool) (s : State) : Keeps [.ale, .pins] s (slotBegun slot ready s) :=
  (modAle_keeps _ s).trans (modPins_keeps _ _)

theorem startSlot_begun {slot : Nat} {ready : Bool} {a : Assignment}
    (h : s.ale.assignments.find? (fun b => b.slot == slot) = some a) :
    startSlot slot ready s = beginSlot a (slotBegun slot ready s) := by
  rw [startSlot, h]
  rfl

/-- A slot left unused (R135). -/
theorem slotBegun_unused (slot : Nat) (ready : Bool) (s : State) :
    let t := driveLines (slotBegun slot ready s)
    (t.ale = { s.ale with assignments := s.ale.assignments.filter fun b => b.slot != slot } ∧
      PinsAre s.pins.key s.pins.txd ready s t) ∧ Keeps [.ale, .pins] s t :=
  ⟨⟨rfl, driveLines_pinsAre rfl⟩, ((slotBegun_keeps slot ready s).trans (driveLines_keeps _)).mono (by decide)⟩

/-- The body that the queue supplies at a slot (R150). -/
theorem frameBodyNow_eq {f : Frame} (h : f.body = .fromTripRecord → f.origins.length ≤ 1) : frameBodyNow f s = bodyAtSlot s f := by
  unfold frameBodyNow bodyAtSlot
  cases hb : f.body with
  | fixed b => rfl
  | live => cases f.kind <;> rfl
  | fromTripRecord =>
    have hlength := h hb
    match ho : f.origins with
    | [] => simp [tripBody, ho]
    | [⟨o, detached⟩] => cases o <;> cases detached <;> simp [tripBody, ho]
    | x :: y :: rest => simp [ho] at hlength

section
variable {a : Assignment} {f : Frame} (hf : s.txq.frames.find? (inFlightWith (some a.sequence)) = some f)
include hf

theorem beginSlot_notReady (h : s.pins.modemReady = false) : beginSlot a s = recordFault .modemNotReady 3 s := by
  simp [beginSlot, hf, h]

theorem beginSlot_silent (hm : s.pins.modemReady = true) (h : s.phase ≠ .ready) : beginSlot a s = s := by
  simp [beginSlot, hf, hm, h]

theorem beginSlot_sends (hm : s.pins.modemReady = true) (hready : s.phase = .ready) (hgood : addressGood s = true)
    (hidle : s.ale.transmission = none) {b : UplinkBody} (hb : frameBodyNow f s = some b) :
    beginSlot a s = transmit f a.sequence b s := by
  simp [beginSlot, hf, hm, hready, hgood, hidle, hb]

theorem beginSlot_bodiless (hm : s.pins.modemReady = true) (hready : s.phase = .ready) (hb : frameBodyNow f s = none) :
    beginSlot a s = s := by
  simp [beginSlot, hf, hm, hready, hb]

end

theorem beginSlot_gone {a : Assignment} (h : s.txq.frames.find? (inFlightWith (some a.sequence)) = none) : beginSlot a s = s := by
  rw [beginSlot, h]

end

/-- Settles O49: each state of the slot's frame and of the line is a case, and the bytes of a transmission are read off. -/
theorem slotsAndTransmissions : Obligations.SlotsAndTransmissions := by
  refine ⟨?_, ?_, ?_, onTheAir⟩
  · intro s slot a ha rest held unused
    refine ⟨fun x hx horigins hready hgood hidle => ?_, fun x hx hready => ?_, fun x hx => ?_, fun ready hnone => ?_⟩
    · let begun := slotBegun slot true s
      have hbody : frameBodyNow x begun = bodyAtSlot s x := frameBodyNow_eq horigins
      refine ⟨fun body hb => ?_, fun hb => ?_⟩
      · have hwork : startSlot slot true s = transmit x a.sequence body begun :=
          (startSlot_begun ha).trans (beginSlot_sends (s := begun) hx rfl hready hgood hidle (hbody.trans hb))
        exact completes_of_effect hwork ⟨rfl, driveLines_pinsAre rfl,
          (((slotBegun_keeps slot true s).trans ((modAle_keeps _ _).trans (modPins_keeps _ _))).trans (driveLines_keeps _)).mono
            (by decide)⟩
      · have hwork : startSlot slot true s = begun :=
          (startSlot_begun ha).trans (beginSlot_bodiless (s := begun) hx rfl hready (hbody.trans hb))
        exact completes_of_effect hwork (slotBegun_unused slot true s)
    · have hwork : startSlot slot true s = slotBegun slot true s :=
        (startSlot_begun ha).trans (beginSlot_silent (s := slotBegun slot true s) hx rfl hready)
      exact completes_of_effect hwork (slotBegun_unused slot true s)
    · let begun := slotBegun slot false s
      have hwork : startSlot slot false s = recordFault .modemNotReady 3 begun :=
        (startSlot_begun ha).trans (beginSlot_notReady (s := begun) hx rfl)
      have hrecord : Keeps [.atc] begun (recordFault .modemNotReady 3 begun) := keeps_of_atc (recordFault_eq ..)
      refine completes_of_effect hwork ⟨⟨hrecord .ale (by decide), driveLines_pinsAre (hrecord .pins (by decide))⟩, ?_,
        (((slotBegun_keeps slot false s).trans hrecord).trans (driveLines_keeps _)).mono (by decide)⟩
      exact (recordFault_records .modemNotReady 3 begun)
    · have hwork : startSlot slot ready s = slotBegun slot ready s :=
        (startSlot_begun ha).trans (beginSlot_gone (s := slotBegun slot ready s) hnone)
      exact completes_of_effect hwork (slotBegun_unused slot ready s)
  · intro s x hx
    have hcut : ∀ detail (u : State), u.ale.transmission = some x →
        cutOff detail u = recordFault .modemNotReady detail (endTransmission false u) := fun detail u hu => by
      rw [cutOff, if_neg (by rw [hu]; exact Option.some_ne_none x)]
    have hends : ∀ txd (u : State), Keeps [.ale, .pins] u (endTransmission txd u) := fun txd u =>
      (modAle_keeps _ u).trans (modPins_keeps _ _)
    refine ⟨?_, ?_, ?_⟩
    · have hwork : finishTransmission s = endTransmission (Config.txdAfter x) s := by rw [finishTransmission, hx]
      exact completes_of_effect hwork ⟨rfl, driveLines_pinsAre rfl, ((hends _ s).trans (driveLines_keeps _)).mono (by decide)⟩
    · let fallen := endTransmission false (s.modPins fun p => { p with modemReady := false })
      have hwork : fallModemReady s = recordFault .modemNotReady 1 fallen := hcut 1 _ hx
      have hrecord : Keeps [.atc] fallen (recordFault .modemNotReady 1 fallen) := keeps_of_atc (recordFault_eq ..)
      refine completes_of_effect hwork ⟨hrecord .ale (by decide), recordFault_records .modemNotReady 1 fallen,
        driveLines_pinsAre (hrecord .pins (by decide)),
        ((((modPins_keeps _ s).trans (hends false _)).trans hrecord).trans (driveLines_keeps _)).mono (by decide)⟩
    · let stalled := endTransmission false s
      have hrecord : Keeps [.atc] stalled (recordFault .modemNotReady 2 stalled) := keeps_of_atc (recordFault_eq ..)
      refine completes_of_effect (hcut 2 s hx) ⟨hrecord .ale (by decide), recordFault_records .modemNotReady 2 stalled,
        driveLines_pinsAre (hrecord .pins (by decide)),
        (((hends false s).trans hrecord).trans (driveLines_keeps _)).mono (by decide)⟩
  · intro s hidle
    let fallen := s.modPins fun p => { p with modemReady := false }
    have hwork : fallModemReady s = fallen := if_pos hidle
    exact completes_of_effect hwork ⟨driveLines_pinsAre rfl, ((modPins_keeps _ s).trans (driveLines_keeps _)).mono (by decide)⟩

end Sys2Proof.Machine
end

section
/-! PROOF. Writes of the store that complete or fail (O28). -/

namespace Sys2Proof.Machine

/-! The answer of a request in work (R101, R166, R167). -/

section
variable {s : State} {r : Fin 16} {x : Result} {reason w : Nat}

/-- The detail of a late answer: its reason, beside the CANCEL_LATE mark where a cancel was asked (R167, R170). -/
def workDetail (reason : Nat) (r : Fin 16) (s : State) : Byte := if handField s r = 3#8 then byteOf reason ||| 0x80#8 else byteOf reason

theorem answerWork_inWork (h : handField s r = 2#8 ∨ handField s r = 3#8) :
    answerWork r x reason w s = writeAnswer r x (workDetail reason r s) w s := by
  rcases h with h | h <;> simp [answerWork, workDetail, h]

theorem answerWork_idle (h2 : handField s r ≠ 2#8) (h3 : handField s r ≠ 3#8) : answerWork r x reason w s = s := by
  simp [answerWork, h2, h3]

/-- What the answer of a request in work leaves. -/
structure LateAnswer (r : Fin 16) (x : Result) (d : Byte) (w : Nat) (s t : State) : Prop where
  answered : Answered r x d w t
  bytes : OnlyAnswerBytes r s t
  sets : Sets s.atc [.request] s t
  settings : SameSettings s t
  keeps : Keeps [.mem, .atc] s t

theorem answerWork_late (hwf : s.mem.Wf) (h : handField s r = 2#8 ∨ handField s r = 3#8) :
    LateAnswer r x (workDetail reason r s) w s (answerWork r x reason w s) := by
  rw [answerWork_inWork h]
  exact ⟨writeAnswer_answered hwf r _ _ _, writeAnswer_onlyAnswerBytes hwf r _ _ _, writeAnswer_sets hwf r _ _ _,
    writeAnswer_sameSettings hwf r _ _ _, writeAnswer_keeps r _ _ _ s⟩

end

/-! A write that completes. -/

section
variable {c : Instr} {s u : State}

/-- A write without a record that waits: nothing is answered. -/
theorem completes_unanswered (hc : effect c s = u) (hu : Keeps [.cps] s u) :
    Completes c s fun t => t.cps = u.cps ∧ Keeps [.cps, .pins] s t ∧ OnlyLines s t :=
  completes_of_effect hc ⟨rfl, hu.trans (driveLines_keeps _), driveLines_onlyLines (hu .pins (by decide))⟩

/-- A write whose request is in its record: the request is answered DONE while it is in work (R166, R167). -/
theorem completes_lateDone {r : Fin 16} (hwf : s.mem.Wf) (hc : effect c s = answerWork r .done 0 0 u) (hu : Keeps [.cps] s u) :
    Completes c s fun t => t.cps = u.cps ∧
      (handField s r = 2#8 → Answered r .done 0#8 0 t ∧ OnlyAnswerBytes r s t ∧ Raises [.request] s t) ∧
      (handField s r = 3#8 → Answered r .done 0x80#8 0 t ∧ OnlyAnswerBytes r s t ∧ Raises [.request] s t) ∧
      (handField s r = 0#8 → t.mem = s.mem ∧ t.atc = s.atc) ∧ Keeps [.mem, .atc, .cps, .pins] s t ∧ OnlyLines s t := by
  have hmem : u.mem = s.mem := hu .mem (by decide)
  have hatc : u.atc = s.atc := hu .atc (by decide)
  have hhand : handField u r = handField s r := by rw [handField, hmem, handField]
  have hsettings : SameSettings u s := .of_mem hmem.symm
  by_cases hwork : handField s r = 2#8 ∨ handField s r = 3#8
  · have hlate := answerWork_late (x := .done) (reason := 0) (w := 0) (hmem ▸ hwf) (hhand.symm ▸ hwork)
    have hk : Keeps [.mem, .atc, .cps] s (answerWork r .done 0 0 u) := (hu.trans hlate.keeps).mono (by decide)
    have hshows : ∀ d, workDetail 0 r u = d → Answered r .done d 0 (driveLines (answerWork r .done 0 0 u)) ∧
        OnlyAnswerBytes r s (driveLines (answerWork r .done 0 0 u)) ∧ Raises [.request] s (driveLines (answerWork r .done 0 0 u)) := by
      rintro d rfl
      refine ⟨hlate.answered, fun a ha => (hlate.bytes a ha).trans (by rw [hmem]), ?_⟩
      have hsets := hlate.sets.rebase (s' := s) (t' := driveLines (answerWork r .done 0 0 u)) hatc.symm rfl hsettings
      rwa [hatc] at hsets
    refine completes_of_effect hc ⟨hlate.keeps .cps (by decide), fun h => hshows _ ?_, fun h => hshows _ ?_, fun h => ?_,
      (hk.trans (driveLines_keeps _)).mono (by decide), driveLines_onlyLines (hk .pins (by decide))⟩
    · rw [workDetail, hhand, h, if_neg (by decide)]
      rfl
    · rw [workDetail, hhand, h, if_pos rfl]
      rfl
    · rw [h] at hwork
      exact absurd hwork (by decide)
  · obtain ⟨h2, h3⟩ := not_or.mp hwork
    rw [answerWork_idle (by rwa [hhand]) (by rwa [hhand])] at hc
    exact completes_of_effect hc ⟨rfl, fun h => absurd h h2, fun h => absurd h h3, fun _ => ⟨hmem, hatc⟩,
      (hu.trans (driveLines_keeps _)).mono (by decide), driveLines_onlyLines (hu .pins (by decide))⟩

/-- The failure of a write, before what it leads to (R183). -/
def writeLost (k : StoreKind) (s : State) : State := recordFault .writeFailed k.code (endWrite k id s)

theorem writeLost_keeps (k : StoreKind) (s : State) : Keeps [.atc, .cps] s (writeLost k s) :=
  ((modCps_keeps _ s).trans (keeps_of_atc (recordFault_eq ..))).mono (by decide)

theorem writeLost_cps (k : StoreKind) (s : State) :
    (writeLost k s).cps = { s.cps with writing := none, lastWasCommit := k == .meter } :=
  keeps_of_atc (recordFault_eq ..) .cps (by decide)

theorem writeLost_records (k : StoreKind) (s : State) : Records .writeFailed k.code [] s (writeLost k s) :=
  recordFault_records .writeFailed k.code (endWrite k id s)

theorem failCurrentWrite_of {job : StoreJob} (h : s.cps.writing = some job) :
    failCurrentWrite s = afterFailure job.kind (writeLost job.kind s) := by
  rw [failCurrentWrite, h]
  rfl

/-- A failed write without a record that waits. -/
theorem completes_lost {job : StoreJob} (h : s.cps.writing = some job)
    (hquiet : afterFailure job.kind (writeLost job.kind s) = writeLost job.kind s) :
    Completes .storeWriteFailed s fun t => t.cps = { s.cps with writing := none, lastWasCommit := job.kind == .meter } ∧
      Records .writeFailed job.kind.code [] s t ∧ Keeps [.atc, .cps, .pins] s t ∧ OnlyLines s t :=
  completes_of_effect ((failCurrentWrite_of h).trans hquiet) ⟨writeLost_cps _ _, writeLost_records _ _,
    (writeLost_keeps _ _).trans (driveLines_keeps _), driveLines_onlyLines (writeLost_keeps _ _ .pins (by decide))⟩

/-- A failed write whose request is in work: STORE_FAILED (R184). -/
theorem completes_storeFailed {r : Fin 16} {job : StoreJob} {u : State} (hwf : s.mem.Wf)
    (hhand : handField s r = 2#8 ∨ handField s r = 3#8) (h : s.cps.writing = some job)
    (hu : Keeps [.cps] (writeLost job.kind s) u)
    (hanswer : afterFailure job.kind (writeLost job.kind s) = answerWork r .storeFailed 0 0 u) :
    Completes .storeWriteFailed s fun t => t.cps = u.cps ∧
      Answered r .storeFailed (if handField s r = 2#8 then 0#8 else 0x80#8) 0 t ∧ OnlyAnswerBytes r s t ∧
      Records .writeFailed job.kind.code [.request] s t ∧ Keeps [.mem, .atc, .cps, .pins] s t ∧ OnlyLines s t := by
  have hk : Keeps [.atc, .cps] s u := ((writeLost_keeps _ s).trans hu).mono (by decide)
  have hmem : u.mem = s.mem := hk .mem (by decide)
  have hsame : handField u r = handField s r := by rw [handField, hmem, handField]
  have hlate := answerWork_late (x := .storeFailed) (reason := 0) (w := 0) (hmem ▸ hwf) (hsame.symm ▸ hhand)
  have hkeeps : Keeps [.mem, .atc, .cps] s (answerWork r .storeFailed 0 0 u) := (hk.trans hlate.keeps).mono (by decide)
  refine completes_of_effect ((failCurrentWrite_of h).trans hanswer) ⟨hlate.keeps .cps (by decide), ?_,
    fun a ha => (hlate.bytes a ha).trans (by rw [hmem]), ?_, (hkeeps.trans (driveLines_keeps _)).mono (by decide),
    driveLines_onlyLines (hkeeps .pins (by decide))⟩
  · have hdetail : workDetail 0 r u = if handField s r = 2#8 then 0#8 else 0x80#8 := by
      rw [workDetail, hsame]
      rcases hhand with h | h <;> rw [h] <;> decide
    rw [← hdetail]
    exact hlate.answered
  · have hlost : Sets _ [.fault] s (writeLost job.kind s) := writeLost_records job.kind s
    have hatc : u.atc = (writeLost job.kind s).atc := hu .atc (by decide)
    have hsets := hlate.sets.rebase (s' := writeLost job.kind s) (t' := driveLines (answerWork r .storeFailed 0 0 u)) hatc.symm rfl
      (.of_mem (hu .mem (by decide)).symm)
    rw [hatc] at hsets
    exact hlost.trans hsets (.of_mem (writeLost_keeps _ s .mem (by decide)))

end

theorem answerTariffs_some {s : State} {r : Fin 16} {x : Result} (h : s.cps.tariffRecord = some r) :
    answerTariffs x s = answerWork r x 0 0 (s.modCps fun c => { c with tariffRecord := none }) := by
  rw [answerTariffs, h]

theorem answerTariffs_none {s : State} {x : Result} (h : s.cps.tariffRecord = none) : answerTariffs x s = s := by
  rw [answerTariffs, h]

theorem answerSettings_some {s : State} {r : Fin 16} {x : Result} (h : s.cps.settingsRecord = some r) :
    answerSettings x s = answerWork r x 0 0 (s.modCps fun c => { c with settingsRecord := none }) := by
  rw [answerSettings, h]

theorem answerSettings_none {s : State} {x : Result} (h : s.cps.settingsRecord = none) : answerSettings x s = s := by
  rw [answerSettings, h]

/-- Settles O28: each kind of write, with and without its request, completes or fails. -/
theorem otherWritesEnd : Obligations.OtherWritesEnd := by
  refine ⟨fun s bank h => ?_, fun s bytes h => ⟨fun hr => ?_, fun r hwf hr => ?_⟩, fun s bytes h => ⟨fun hr => ?_, fun r hwf hr => ?_⟩,
    fun s job h hkind => ?_, fun s bytes r hwf hhand => ?_, fun s bytes h => ?_⟩
  · have hwork : finishCalibrationWrite s = endWrite .calibration (fun st => { st with calibration := some bank }) s := by
      rw [finishCalibrationWrite, h]
    exact completes_unanswered (c := .calibrationWriteComplete) hwork (modCps_keeps _ s)
  · have hwork : finishTariffWrite s = endWrite .tariffs (fun st => { st with tariffs := some bytes }) s := by
      rw [finishTariffWrite, h]
      exact answerTariffs_none hr
    exact completes_unanswered (c := .tariffWriteComplete) hwork (modCps_keeps _ s)
  · let ended := endWrite .tariffs (fun st => { st with tariffs := some bytes }) s
    have hwork : finishTariffWrite s = answerWork r .done 0 0 (ended.modCps fun c => { c with tariffRecord := none }) := by
      rw [finishTariffWrite, h]
      exact answerTariffs_some (s := ended) hr
    exact completes_lateDone (c := .tariffWriteComplete) hwf hwork (((modCps_keeps _ s).trans (modCps_keeps _ ended)).mono (by decide))
  · have hwork : finishSettingsWrite s = endWrite .settings (fun st => { st with settings := some bytes }) s := by
      rw [finishSettingsWrite, h]
      exact answerSettings_none hr
    exact completes_unanswered (c := .settingsWriteComplete) hwork (modCps_keeps _ s)
  · let ended := endWrite .settings (fun st => { st with settings := some bytes }) s
    have hwork : finishSettingsWrite s = answerWork r .done 0 0 (ended.modCps fun c => { c with settingsRecord := none }) := by
      rw [finishSettingsWrite, h]
      exact answerSettings_some (s := ended) hr
    exact completes_lateDone (c := .settingsWriteComplete) hwf hwork (((modCps_keeps _ s).trans (modCps_keeps _ ended)).mono (by decide))
  · have hasked : afterFailure job.kind (writeLost job.kind s) = requestWrite job.kind (writeLost job.kind s) := by
      rcases hkind with hk | hk <;> rw [hk] <;> rfl
    have hlast : Keeps [.cps] (writeLost job.kind s) (requestWrite job.kind (writeLost job.kind s)) := modCps_keeps _ _
    have hk := (writeLost_keeps job.kind s).trans hlast
    have hcode : (if job.kind = .meter then 1 else 2) = job.kind.code := by
      rcases hkind with hk | hk <;> rw [hk] <;> rfl
    rw [hcode]
    refine completes_of_effect ((failCurrentWrite_of h).trans hasked) ⟨?_, writeLost_records job.kind s,
      (hk.trans (driveLines_keeps _)).mono (by decide), driveLines_onlyLines (hk .pins (by decide))⟩
    show (requestWrite job.kind (writeLost job.kind s)).cps = _
    rw [requestWrite, State.modCps_cps, writeLost_cps]
  · intro failed
    refine ⟨fun h hr => ?_, fun h hr => ?_⟩
    · let lost := writeLost .tariffs s
      have hrecord : lost.cps.tariffRecord = some r := by rw [writeLost_cps]; exact hr
      have hdone := completes_storeFailed hwf hhand h (modCps_keeps _ lost) (answerTariffs_some (s := lost) hrecord)
      rw [State.modCps_cps, writeLost_cps] at hdone
      exact hdone
    · let lost := writeLost .settings s
      have hrecord : lost.cps.settingsRecord = some r := by rw [writeLost_cps]; exact hr
      have hdone := completes_storeFailed hwf hhand h (modCps_keeps _ lost) (answerSettings_some (s := lost) hrecord)
      rw [State.modCps_cps, writeLost_cps] at hdone
      exact hdone
  · rcases h with ⟨h, hr⟩ | ⟨h, hr⟩
    · have hrecord : (writeLost .tariffs s).cps.tariffRecord = none := by rw [writeLost_cps]; exact hr
      rw [if_pos h]
      exact completes_lost h (answerTariffs_none hrecord)
    · have hrecord : (writeLost .settings s).cps.settingsRecord = none := by rw [writeLost_cps]; exact hr
      rw [if_neg (by rw [h]; simp)]
      exact completes_lost h (answerSettings_none hrecord)

end Sys2Proof.Machine
end

section
/-! PROOF. A meter commit that completes (O27). -/

namespace Sys2Proof.Machine

theorem mem_insertFrame {fs : List Frame} {f g : Frame} : g ∈ insertFrame fs f ↔ g = f ∨ g ∈ fs := by
  have hsplit := List.takeWhile_append_dropWhile (p := fun x : Frame => decide (x.cls ≤ f.cls)) (l := fs)
  rw [insertFrame, List.mem_append, List.mem_cons, or_left_comm, ← List.mem_append, hsplit]

/-- The TRIP frame of a log entry (R37). -/
def tripFrame (e : Fin 24) : Frame := newFrame .trip [.trip e] .fromTripRecord

/-- The records of these entries that are QUEUED (R37, R41). -/
def queuedOf (carried : List (Option (Fin 24))) (s : State) : List (Fin 24) :=
  (carried.filterMap id).filter fun e => (s.mtc.tripLog.get e).sendState == .queued

/-- These carried records have been reported (R37, R39, R45). -/
structure CarriedReported (carried : List (Option (Fin 24))) (s t : State) : Prop where
  mtc : t.mtc = { s.mtc with uncommitted := t.mtc.uncommitted }
  uncommitted : ∀ e, e ∈ t.mtc.uncommitted ↔ e ∈ s.mtc.uncommitted ∧ some e ∉ carried
  txq : t.txq = { s.txq with frames := t.txq.frames }
  length : t.txq.frames.length = s.txq.frames.length + (queuedOf carried s).length
  stays : ∀ f ∈ s.txq.frames, f ∈ t.txq.frames
  joined : ∀ e ∈ queuedOf carried s, tripFrame e ∈ t.txq.frames
  sets : Sets s.atc (if carried = [] then [] else [.trip]) s t
  keeps : Keeps [.mtc, .txq, .atc] s t

section
variable {s : State}

/-- One entry is no longer uncommitted. -/
def entryCommitted (e : Fin 24) (s : State) : State :=
  s.modMtc fun m => { m with uncommitted := m.uncommitted.filter fun x => x != e }

theorem queuedOf_cons_none (carried : List (Option (Fin 24))) : queuedOf (none :: carried) s = queuedOf carried s := rfl

theorem queuedOf_cons_some (e : Fin 24) (carried : List (Option (Fin 24))) : queuedOf (some e :: carried) s =
    if (s.mtc.tripLog.get e).sendState = .queued then e :: queuedOf carried s else queuedOf carried s := by
  simp only [queuedOf, List.filterMap_cons, id, List.filter_cons, beq_iff_eq]

/-- What the report of one carried record leaves. -/
theorem reportCarriedTrip_reported (hroom : HasRoom s) (carried : Option (Fin 24)) :
    CarriedReported [carried] s (reportCarriedTrip carried s) := by
  cases carried with
  | none =>
    have hk := setChannel_keeps .trip s
    have hmtc : (setChannel .trip s).mtc = s.mtc := hk .mtc (by decide)
    have htxq : (setChannel .trip s).txq = s.txq := hk .txq (by decide)
    refine ⟨?_, fun e => ?_, ?_, ?_, fun f hf => ?_, fun e he => absurd he List.not_mem_nil, setChannel_sets .trip s,
      hk.mono (by decide)⟩
    all_goals
      simp only [reportCarriedTrip, hmtc, htxq]
    · simp
    · rfl
    · exact hf
  | some e =>
    let committed := entryCommitted e s
    have hfirst : Keeps [.mtc] s committed := modMtc_keeps _ s
    have hsent : sendCarriedTrip e s =
        if (s.mtc.tripLog.get e).sendState = .queued then joinQueue (tripFrame e) committed else committed := rfl
    have hjoined : Joined (tripFrame e) committed (joinQueue (tripFrame e) committed) := joinQueue_joined (s := committed) hroom _
    have hjoin : Keeps [.txq] committed (joinQueue (tripFrame e) committed) := joinQueue_keeps (s := committed) hroom _
    have hsend : Keeps [.mtc, .txq] s (sendCarriedTrip e s) := by
      rw [hsent]
      split_ifs
      · exact hfirst.trans hjoin
      · exact hfirst.mono (by decide)
    have hmtc : (sendCarriedTrip e s).mtc = committed.mtc := by
      rw [hsent]
      split_ifs
      · exact hjoin .mtc (by decide)
      · rfl
    have htxq : (sendCarriedTrip e s).txq = { s.txq with frames :=
        if (s.mtc.tripLog.get e).sendState = .queued then insertFrame s.txq.frames (tripFrame e) else s.txq.frames } := by
      rw [hsent]
      split_ifs
      · exact hjoined
      · rfl
    have hlast := setChannel_keeps .trip (sendCarriedTrip e s)
    have hmtc' : (reportCarriedTrip (some e) s).mtc = committed.mtc := (hlast .mtc (by decide)).trans hmtc
    have htxq' := (hlast .txq (by decide)).trans htxq
    refine ⟨by rw [hmtc']; rfl, fun x => ?_, by rw [show (reportCarriedTrip (some e) s).txq = _ from htxq'], ?_, fun f hf => ?_,
      fun x hx => ?_, ?_, (hsend.trans hlast).mono (by decide)⟩
    · rw [hmtc']
      show x ∈ s.mtc.uncommitted.filter (fun x => x != e) ↔ _
      simp [List.mem_filter]
    · rw [show (reportCarriedTrip (some e) s).txq = _ from htxq', queuedOf_cons_some]
      dsimp only
      split_ifs
      · rw [insertFrame_length]
        rfl
      · rfl
    · rw [show (reportCarriedTrip (some e) s).txq = _ from htxq']
      dsimp only
      split_ifs
      · exact mem_insertFrame.mpr (.inr hf)
      · exact hf
    · rw [queuedOf_cons_some] at hx
      rw [show (reportCarriedTrip (some e) s).txq = _ from htxq']
      dsimp only
      split_ifs at hx ⊢ with hq
      · rw [List.mem_singleton.mp hx]
        exact mem_insertFrame.mpr (.inl rfl)
      · exact absurd hx List.not_mem_nil
    · have hatc : (sendCarriedTrip e s).atc = s.atc := hsend .atc (by decide)
      have hset := (setChannel_sets .trip (sendCarriedTrip e s)).rebase (s' := s) hatc.symm rfl (.of_mem (hsend .mem (by decide)).symm)
      rwa [hatc] at hset

theorem queuedOf_cons (x : Option (Fin 24)) (carried : List (Option (Fin 24))) (s : State) :
    queuedOf (x :: carried) s = queuedOf [x] s ++ queuedOf carried s := by
  rw [queuedOf, queuedOf, queuedOf, ← List.filter_append, ← List.filterMap_append]
  rfl

/-- One report after another. -/
theorem CarriedReported.cons {x : Option (Fin 24)} {carried : List (Option (Fin 24))} {t u : State}
    (h : CarriedReported [x] s t) (h' : CarriedReported carried t u) : CarriedReported (x :: carried) s u := by
  have hqueued : queuedOf carried t = queuedOf carried s := by rw [queuedOf, h.mtc, queuedOf]
  refine ⟨by rw [h'.mtc, h.mtc], fun e => ?_, by rw [h'.txq, h.txq], ?_, fun f hf => h'.stays f (h.stays f hf), fun e he => ?_, ?_,
    (h.keeps.trans h'.keeps).mono (by decide)⟩
  · rw [h'.uncommitted, h.uncommitted, and_assoc, List.mem_singleton, List.mem_cons, not_or]
  · rw [h'.length, h.length, queuedOf_cons x carried, List.length_append, hqueued, Nat.add_assoc]
  · rw [queuedOf_cons, List.mem_append] at he
    exact he.elim (fun he => h'.stays _ (h.joined e he)) fun he => h'.joined e (hqueued.symm ▸ he)
  · refine (h.sets.trans h'.sets (.of_mem (h.keeps .mem (by decide)))).congr fun c => ?_
    by_cases hc : carried = [] <;> simp [hc]

theorem carriedReported (carried : List (Option (Fin 24))) (s : State) (hroom : s.txq.frames.length + carried.length ≤ 16) :
    CarriedReported carried s (carried.foldl (fun t e => reportCarriedTrip e t) s) := by
  induction carried generalizing s with
  | nil =>
    exact ⟨rfl, fun e => by simp, rfl, rfl, fun _ => id, fun e he => absurd he List.not_mem_nil, .of_atc rfl,
      (Keeps.refl [] s).mono (by decide)⟩
  | cons x carried ih =>
    rw [List.length_cons] at hroom
    have hfirst := reportCarriedTrip_reported (show s.txq.frames.length < 16 by omega) x
    have hone : (queuedOf [x] s).length ≤ 1 := (List.length_filter_le _ _).trans (List.length_filterMap_le _ _)
    exact hfirst.cons (ih _ (by rw [hfirst.length]; omega))

/-- The store has taken a commit, and the mirrors show it (R45). -/
def commitStored (c : MeterCommit) (s : State) : State :=
  rewriteMirrors c (endWrite .meter (fun st => { st with meter := some c }) s)

theorem commitStored_keeps (c : MeterCommit) (s : State) : Keeps [.mtc, .wpt, .cps] s (commitStored c s) := by
  simp [keeps_iff, commitStored, rewriteMirrors, groupRewrite, endWrite]

theorem commitStored_port (c : MeterCommit) (s : State) : PortUpdated s (commitStored c s) :=
  PortUpdated.congr (s := endWrite .meter (fun st => { st with meter := some c }) s) ⟨groupRewrite_wpt _ _ fun _ => rfl⟩ rfl rfl

end

/-- The SHIFT frame of a closed shift (R36). -/
def shiftFrame (g : TotalsGroup) : Frame :=
  newFrame .shift [.lastShift] (.fixed (.shift g.lastDriver g.lastOpenTime g.lastCloseTime g.last))

/-- What the report of a carried shift leaves (R36). -/
theorem reportCarriedShift_shows {s : State} (hroom : HasRoom s) :
    let t := reportCarriedShift s
    t.mtc = { s.mtc with totals := { s.mtc.totals with reportState := .queued }, shiftFrameDue := false } ∧
      Joined (shiftFrame s.mtc.totals) s t ∧ Keeps [.mtc, .txq] s t := by
  intro t
  let due := modTotals (fun g => { g with reportState := .queued }) (s.modMtc fun m => { m with shiftFrameDue := false })
  have hdue : Keeps [.mtc] s due := ((modMtc_keeps _ s).trans (modMtc_keeps _ _)).mono (by decide)
  have hjoin : Keeps [.txq] due t := joinQueue_keeps (s := due) hroom (shiftFrame s.mtc.totals)
  exact ⟨hjoin .mtc (by decide), joinQueue_joined (s := due) hroom (shiftFrame s.mtc.totals), (hdue.trans hjoin).mono (by decide)⟩

/-- Settles O27: the commit is stored and mirrored, its records are reported one after the other, and then its shift. -/
theorem meterCommitCompletes : Obligations.MeterCommitCompletes := by
  intro s c first due hwriting hroom
  let stored := commitStored c s
  let told := first.foldl (fun t e => reportCarriedTrip e t) stored
  have hstored := commitStored_keeps c s
  have hport := commitStored_port c s
  have htxq : stored.txq = s.txq := hstored .txq (by decide)
  have hatc : stored.atc = s.atc := hstored .atc (by decide)
  have htold : CarriedReported first stored told := carriedReported first stored (by rw [htxq]; omega)
  have hstoredMtc : stored.mtc = { s.mtc with windowLog := c.tripLog, windowTotals := c.totals } := rfl
  have hqueued : queuedOf first stored = queuedOf first s := by rw [queuedOf, hstoredMtc, queuedOf]
  have hlength : (queuedOf first s).length ≤ first.length := (List.length_filter_le _ _).trans (List.length_filterMap_le _ _)
  have hsets : Sets s.atc (if first = [] then [] else [.trip]) s told := by
    have h := htold.sets.rebase (s' := s) (t' := told) hatc.symm rfl (.of_mem (hstored .mem (by decide)).symm)
    rwa [hatc] at h
  have hmtc : told.mtc = { s.mtc with
      windowLog := c.tripLog, windowTotals := c.totals, uncommitted := told.mtc.uncommitted } := by
    rw [htold.mtc, hstoredMtc]
  have hwork : finishMeterCommit s = if due then reportCarriedShift told else told := by
    rw [finishMeterCommit, hwriting]
    rfl
  have hkeeps := hstored.trans htold.keeps
  cases due with
  | false =>
    refine completes_of_effect hwork ?_
    intro queued g
    refine ⟨(htold.keeps .cps (by decide)), hmtc, htold.uncommitted, ?_, ?_, fun f hf => htold.stays f (htxq.symm ▸ hf),
      fun e he => htold.joined e (hqueued.symm ▸ he), fun h => absurd h (by decide), hsets, ?_, ?_,
      (hkeeps.trans (driveLines_keeps _)).mono (by decide), driveLines_onlyLines (hkeeps .pins (by decide))⟩
    · exact htold.txq.trans (by rw [htxq]; rfl)
    · exact htold.length.trans (by rw [htxq, hqueued]; rfl)
    · exact hport.onlyUpdates.congr rfl (htold.keeps .wpt (by decide))
    · exact (hport.congr (s' := s) rfl (htold.keeps .wpt (by decide))).rewritesOnce
  | true =>
    have hroomTold : HasRoom told := by
      rw [HasRoom, htold.length, htxq, hqueued]
      omega
    obtain ⟨hshift, hjoined, hlast⟩ := reportCarriedShift_shows hroomTold
    have htotals : told.mtc.totals = s.mtc.totals := by rw [hmtc]
    have hall := hkeeps.trans hlast
    have hwork' : effect .meterCommitComplete s = reportCarriedShift told := hwork
    refine completes_of_effect hwork' ?_
    intro queued g
    have hframes : (driveLines (reportCarriedShift told)).txq.frames = insertFrame told.txq.frames (shiftFrame g) := by
      rw [show g = told.mtc.totals from htotals.symm]
      exact congrArg Txq.frames hjoined
    refine ⟨(hlast .cps (by decide)).trans (htold.keeps .cps (by decide)), ?_, fun e => ?_, ?_, ?_, fun f hf => ?_,
      fun e he => ?_, fun _ => ?_, hsets.rebase rfl (hlast .atc (by decide)) (.refl _), ?_, ?_,
      (hall.trans (driveLines_keeps _)).mono (by decide), driveLines_onlyLines (hall .pins (by decide))⟩
    · rw [show (driveLines (reportCarriedShift told)).mtc = _ from hshift, hmtc]
      rfl
    · rw [show (driveLines (reportCarriedShift told)).mtc = _ from hshift]
      exact htold.uncommitted e
    · show (reportCarriedShift told).txq = _
      have h : (reportCarriedShift told).txq = { told.txq with frames := (reportCarriedShift told).txq.frames } := by
        rw [hjoined]
      rw [h, htold.txq, htxq]
      rfl
    · rw [hframes, insertFrame_length, htold.length, htxq, hqueued]
      rfl
    · rw [hframes]
      exact mem_insertFrame.mpr (.inr (htold.stays f (htxq.symm ▸ hf)))
    · rw [hframes]
      exact mem_insertFrame.mpr (.inr (htold.joined e (hqueued.symm ▸ he)))
    · rw [hframes]
      exact mem_insertFrame.mpr (.inl rfl)
    · exact hport.onlyUpdates.congr rfl ((hlast .wpt (by decide)).trans (htold.keeps .wpt (by decide)))
    · exact (hport.congr (s' := s) rfl ((hlast .wpt (by decide)).trans (htold.keeps .wpt (by decide)))).rewritesOnce

end Sys2Proof.Machine
end

section
/-! PROOF. A CYCLE that finds the queue empty (O47). -/

namespace Sys2Proof.Machine

/-! A cycle over a queue of which no frame is in flight. -/

section
variable {s : State}

/-- An ack entry that names no frame in flight is stray (R151). -/
theorem takeAck_stray {n q : Nat} (h : ∀ f ∈ s.txq.frames, f.inFlight = false) :
    takeAck n q s = s.modTxq fun t => { t with stray := satAdd u16Max t.stray 1 } := by
  have hnone : s.txq.frames.find? (fun f => f.sequence == some q && windowOpen n f) = none :=
    List.find?_eq_none.mpr fun f hf => by simp [windowOpen, h f hf]
  rw [takeAck, hnone]

/-- The queue has counted this many stray ack entries (R151). -/
def straysCounted (k : Nat) (s : State) : State := s.modTxq fun t => { t with stray := min 65535 (t.stray + k) }

theorem straysCounted_zero (h : s.txq.stray ≤ 65535) : straysCounted 0 s = s := by
  rw [straysCounted, State.modTxq, Nat.add_zero, Nat.min_eq_right h]

theorem takeAcks_stray {n : Nat} (acks : List Nat) (h : ∀ f ∈ s.txq.frames, f.inFlight = false) (hs : s.txq.stray ≤ 65535) :
    acks.foldl (fun t q => takeAck n q t) s = straysCounted acks.length s := by
  induction acks generalizing s with
  | nil => rw [List.length_nil, straysCounted_zero hs, List.foldl_nil]
  | cons q acks ih =>
    rw [List.foldl_cons, takeAck_stray h]
    let u := s.modTxq fun t => { t with stray := satAdd u16Max t.stray 1 }
    rw [ih (s := u) h (Nat.min_le_left _ _)]
    have hcount : min 65535 (min 65535 (s.txq.stray + 1) + acks.length) = min 65535 (s.txq.stray + (acks.length + 1)) := by omega
    exact congrArg (fun k => s.modTxq fun t => { t with stray := k }) hcount

/-- The frames wait without backoff. -/
def AllWait (s : State) : Prop := ∀ f ∈ s.txq.frames, f.inFlight = false ∧ f.backoff = 0

/-- The acks of a cycle that finds every frame waiting without backoff (R151). -/
theorem takeCycleAcks_waiting {n : Nat} (acks : List Nat) (h : AllWait s) (hs : s.txq.stray ≤ 65535) :
    takeCycleAcks n acks s = straysCounted acks.length s := by
  have hfailing : (s.txq.frames.filter fun f => f.inFlight && !windowOpen n f) = [] :=
    List.filter_eq_nil_iff.mpr fun f hf => by simp [(h f hf).1]
  have hsame : s.txq.frames.map countBackoff = s.txq.frames := by
    refine (List.map_congr_left fun f hf => ?_).trans (List.map_id _)
    obtain ⟨hwaits, hback⟩ := h f hf
    cases f
    simp_all [countBackoff]
  have hfolded := takeAcks_stray (n := n) acks (fun f hf => (h f hf).1) hs
  rw [takeCycleAcks]
  simp only [hfolded]
  have hframes : (straysCounted acks.length s).txq.frames = s.txq.frames := rfl
  rw [hframes, hfailing, List.map_nil, List.foldl_nil]
  exact congrArg (fun fs => (straysCounted acks.length s).modTxq fun q => { q with frames := fs }) hsame

/-- No slot of a map is free for a frame of another class than 0, and no frame of class 0 waits. -/
theorem offerSlots_none {m : SlotMap} (hzero : s.txq.frames.find? waitingClassZero = none)
    (hother : s.txq.frames.find? waitingOther = none ∨ (m.reserved = none ∧ m.contention = [])) : offerSlots m s = s := by
  have hfirst : sendClassZero m s = (s, false) := by rw [sendClassZero, hzero]
  rw [offerSlots, hfirst]
  simp only [Bool.false_eq_true, if_false]
  unfold sendHead
  split_ifs
  · rfl
  · rcases hother with hnone | ⟨hres, hcont⟩
    · rw [hnone]
    · cases s.txq.frames.find? waitingOther with
      | none => rfl
      | some f => simp [headSlot, hres, hcont]

end

/-! The cycle. -/

/-- The part as a CYCLE finds it once the random register has moved and the watch is afresh (R138, R142). -/
def watched (s : State) : State := startWatch (s.modAle fun a => { a with rng := stepRng a.rng })

/-- The cycle number is stored, and the assignments are dropped (R133). -/
def cycleMarked (c : Cycle) (s : State) : State :=
  s.modAle fun a => { a with lastCycle := c.number, cycleHeard := true, assignments := [] }

/-- What a cycle leaves of a part whose frames wait. -/
def cycleCounted (c : Cycle) (ready : Bool) (s : State) : State :=
  (if addressGood s = true then straysCounted (acksFor c s) (cycleMarked c s) else cycleMarked c s).modPins fun p =>
    { p with modemReady := ready }

section
variable {c : Cycle} {s u : State} (hup : linkChange .up (watched s) = u) (hwait : AllWait u) (hs : u.txq.stray ≤ 65535)
include hup hwait hs

theorem takeCycle_acks {ready : Bool} : takeCycle c ready s =
    if ready then
      if addressGood (cycleCounted c ready u) then
        offerSlots (layOutSlots c (cabAddress (cycleCounted c ready u))) (cycleCounted c ready u)
      else cycleCounted c ready u
    else recordFault .modemNotReady 0 (cycleCounted c ready u) := by
  have hlength : ((c.acks.filter fun x => x.1 == cabAddress (cycleMarked c u)).map fun x => x.2 % 16).length = acksFor c u := by
    rw [List.length_map, ← List.countP_eq_length_filter]
    rfl
  have hacks : (if addressGood (cycleMarked c u) then
      takeCycleAcks c.number ((c.acks.filter fun x => x.1 == cabAddress (cycleMarked c u)).map fun x => x.2 % 16) (cycleMarked c u)
      else cycleMarked c u).modPins (fun p => { p with modemReady := ready }) = cycleCounted c ready u := by
    rw [takeCycleAcks_waiting (s := cycleMarked c u) _ hwait hs, hlength]
    rfl
  have hunfold : takeCycle c ready s =
      let s₅ := (if addressGood (cycleMarked c (linkChange .up (watched s))) then
        takeCycleAcks c.number ((c.acks.filter fun x => x.1 == cabAddress (cycleMarked c (linkChange .up (watched s)))).map
          fun x => x.2 % 16) (cycleMarked c (linkChange .up (watched s)))
        else cycleMarked c (linkChange .up (watched s))).modPins fun p => { p with modemReady := ready }
      if ready then if addressGood s₅ then offerSlots (layOutSlots c (cabAddress s₅)) s₅ else s₅
      else recordFault .modemNotReady 0 s₅ := rfl
  rw [hunfold, hup]
  simp only [hacks]

end

/-! The reports of a change to UP (R42, R54). -/

/-- These trips have been queued again, in this order behind the frames that stood (R42). -/
structure TripsRequeued (trips : List (Fin 24)) (s t : State) : Prop where
  frames : t.txq = { s.txq with frames := s.txq.frames ++ trips.map tripFrame }
  mtc : t.mtc = { s.mtc with tripLog := t.mtc.tripLog }
  entry : ∀ e, t.mtc.tripLog.get e = if e ∈ trips then { s.mtc.tripLog.get e with sendState := .queued } else s.mtc.tripLog.get e
  asks : trips ≠ [] → AsksCommit s t
  quiet : trips = [] → t.cps = s.cps
  keeps : Keeps [.mtc, .txq, .cps] s t

section
variable {s : State}

theorem tripsRequeued_refl (s : State) : TripsRequeued [] s s :=
  ⟨by simp, rfl, fun e => by simp, fun h => absurd rfl h, fun _ => rfl, (Keeps.refl [] s).mono (by decide)⟩

/-- A frame of the least urgent class of those that stand joins behind them (R144). -/
theorem insertFrame_last {fs : List Frame} {f : Frame} (h : ∀ g ∈ fs, g.cls ≤ f.cls) : insertFrame fs f = fs ++ [f] := by
  have hall : ∀ g ∈ fs, decide (g.cls ≤ f.cls) = true := fun g hg => by simpa using h g hg
  rw [insertFrame, List.takeWhile_eq_self_iff.mpr hall, List.dropWhile_eq_nil_iff.mpr hall]

theorem requeueTrip_requeued {e : Fin 24} (hunsent : (s.mtc.tripLog.get e).sendState = .unsent) (hroom : HasRoom s)
    (hcls : ∀ g ∈ s.txq.frames, g.cls ≤ 2) : TripsRequeued [e] s (requeueTrip e s) := by
  let marked := requestCommit (updateTripRecord e (fun r => { r with sendState := .queued }) s)
  have hmarked : Keeps [.mtc, .cps] s marked := (modMtc_keeps _ s).trans (requestCommit_keeps _)
  have hwork : requeueTrip e s = joinQueue (tripFrame e) marked := if_pos ⟨hunsent, hroom⟩
  have hjoin : Keeps [.txq] marked (joinQueue (tripFrame e) marked) := joinQueue_keeps (s := marked) hroom _
  have hjoined : Joined (tripFrame e) marked (joinQueue (tripFrame e) marked) := joinQueue_joined (s := marked) hroom _
  have hlast : insertFrame s.txq.frames (tripFrame e) = s.txq.frames ++ [tripFrame e] := insertFrame_last hcls
  have hmtc : (joinQueue (tripFrame e) marked).mtc = marked.mtc := hjoin .mtc (by decide)
  rw [hwork]
  refine ⟨?_, by rw [hmtc]; rfl, fun x => ?_, fun _ => hjoin .cps (by decide), fun h => absurd h (List.cons_ne_nil _ _),
    (hmarked.trans hjoin).mono (by decide)⟩
  · rw [hjoined]
    show ({ s.txq with frames := insertFrame s.txq.frames (tripFrame e) } : Txq) = _
    rw [hlast]
    rfl
  · rw [hmtc]
    show (s.mtc.tripLog.set e.val _ e.isLt).get x = _
    by_cases hx : x = e
    · simp [hx, Vector.get_eq_getElem]
    · have hne : e.val ≠ x.val := fun h => hx (Fin.ext h.symm)
      simp [hx, Vector.get_eq_getElem, Vector.getElem_set_ne, hne]

theorem TripsRequeued.trans {xs ys : List (Fin 24)} {t u : State} (h : TripsRequeued xs s t) (h' : TripsRequeued ys t u) :
    TripsRequeued (xs ++ ys) s u := by
  refine ⟨by rw [h'.frames, h.frames, List.map_append, List.append_assoc], by rw [h'.mtc, h.mtc], fun e => ?_, fun hne => ?_, fun he => ?_,
    (h.keeps.trans h'.keeps).mono (by decide)⟩
  · rw [h'.entry, h.entry]
    by_cases hx : e ∈ xs <;> by_cases hy : e ∈ ys <;> simp [hx, hy]
  · by_cases hy : ys = []
    · rw [AsksCommit, h'.quiet hy]
      exact h.asks (by simpa [hy] using hne)
    · by_cases hx : xs = []
      · have hasks := h'.asks hy
        rwa [AsksCommit, h.quiet hx] at hasks
      · have hasks := h'.asks hy
        have hfirst := h.asks hx
        rw [AsksCommit, hasks, hfirst]
        simp only [commit_idem]
  · obtain ⟨hx, hy⟩ := List.append_eq_nil_iff.mp he
    rw [h'.quiet hy, h.quiet hx]

/-- The UNSENT trips of a list, the first of them while there is room, are queued again (R42). -/
theorem requeueTrips_requeued (order : List (Fin 24)) (hnodup : order.Nodup) (s : State) (hcls : ∀ g ∈ s.txq.frames, g.cls ≤ 2)
    (hlength : s.txq.frames.length ≤ 16) :
    TripsRequeued ((order.filter fun e => (s.mtc.tripLog.get e).sendState == .unsent).take (16 - s.txq.frames.length)) s
      (order.foldl (fun t e => requeueTrip e t) s) := by
  induction order generalizing s with
  | nil => simpa using tripsRequeued_refl s
  | cons e order ih =>
    obtain ⟨hfresh, hnodup⟩ := List.nodup_cons.mp hnodup
    rw [List.foldl_cons]
    by_cases hwork : (s.mtc.tripLog.get e).sendState = .unsent ∧ HasRoom s
    · obtain ⟨hunsent, hroom⟩ := hwork
      have hroom' : s.txq.frames.length < 16 := hroom
      have hone := requeueTrip_requeued hunsent hroom hcls
      have hcls' : ∀ g ∈ (requeueTrip e s).txq.frames, g.cls ≤ 2 := fun g hg => by
        rw [hone.frames] at hg
        rcases List.mem_append.mp hg with hg | hg
        · exact hcls g hg
        · rw [List.mem_singleton.mp hg]
          exact le_rfl
      have hlength' : (requeueTrip e s).txq.frames.length = s.txq.frames.length + 1 := by
        rw [hone.frames]
        simp
      have hfilter : (order.filter fun x => ((requeueTrip e s).mtc.tripLog.get x).sendState == .unsent) =
          order.filter fun x => (s.mtc.tripLog.get x).sendState == .unsent :=
        List.filter_congr fun x hx => by
          rw [hone.entry, if_neg]
          rw [List.mem_singleton]
          rintro rfl
          exact hfresh hx
      have hrest := hone.trans (ih hnodup (requeueTrip e s) hcls' (by omega))
      rw [hfilter, hlength'] at hrest
      rw [List.filter_cons_of_pos (by simp [hunsent]), show 16 - s.txq.frames.length = (16 - (s.txq.frames.length + 1)) + 1 by omega,
        List.take_succ_cons]
      exact hrest
    · have hsame : requeueTrip e s = s := if_neg hwork
      have hrest := ih hnodup s hcls hlength
      rw [hsame]
      by_cases hunsent : (s.mtc.tripLog.get e).sendState = .unsent
      · have hfull : 16 - s.txq.frames.length = 0 := by
          have hno : ¬s.txq.frames.length < 16 := fun h => hwork ⟨hunsent, h⟩
          omega
        rw [hfull, List.take_zero] at hrest ⊢
        exact hrest
      · rwa [List.filter_cons_of_neg (by simpa using hunsent)]

/-- The trips that a change to UP queues again (R42). -/
def tripsDue (s : State) : List (Fin 24) :=
  (if tripReporting s = true then s.mtc.ageOrder.filter fun e => (s.mtc.tripLog.get e).sendState == .unsent else []).take 16

/-- The last shift is due as well (R42). -/
abbrev shiftDue (s : State) : Prop := s.mtc.totals.reportState = .unsent ∧ (tripsDue s).length < 16

/-- What the reports of a change to UP leave of a part whose queue was empty (R42). -/
structure ReportsMade (s t : State) : Prop where
  txq : t.txq = { s.txq with
    frames := (tripsDue s).map tripFrame ++ if shiftDue s then [shiftFrame s.mtc.totals] else [] }
  mtc : t.mtc = { s.mtc with
    tripLog := t.mtc.tripLog,
    totals := { s.mtc.totals with reportState := if shiftDue s then .queued else s.mtc.totals.reportState } }
  entry : ∀ e, t.mtc.tripLog.get e =
    if e ∈ tripsDue s then { s.mtc.tripLog.get e with sendState := .queued } else s.mtc.tripLog.get e
  asks : tripsDue s ≠ [] → AsksCommit s t
  quiet : tripsDue s = [] → t.cps = s.cps
  keeps : Keeps [.mtc, .txq, .cps] s t

theorem requeueReports_made (hempty : s.txq.frames = []) (hnodup : s.mtc.ageOrder.Nodup) : ReportsMade s (requeueReports s) := by
  let tripped := if tripReporting s then s.mtc.ageOrder.foldl (fun t e => requeueTrip e t) s else s
  have htrips : TripsRequeued (tripsDue s) s tripped := by
    by_cases hr : tripReporting s = true
    · have h := requeueTrips_requeued s.mtc.ageOrder hnodup s (by simp [hempty]) (by simp [hempty])
      rw [hempty, List.length_nil] at h
      have hwork : tripped = s.mtc.ageOrder.foldl (fun t e => requeueTrip e t) s := if_pos hr
      rw [hwork, tripsDue, if_pos hr]
      exact h
    · have hwork : tripped = s := if_neg hr
      rw [hwork, tripsDue, if_neg hr]
      exact tripsRequeued_refl s
  have hframes : tripped.txq = { s.txq with frames := (tripsDue s).map tripFrame } := by rw [htrips.frames, hempty, List.nil_append]
  have htotals : tripped.mtc.totals = s.mtc.totals := by rw [htrips.mtc]
  have hwork : requeueReports s =
      if tripped.mtc.totals.reportState = .unsent ∧ tripped.txq.frames.length < 16 then queueShiftFrame tripped else tripped := rfl
  have hdue : (tripped.mtc.totals.reportState = .unsent ∧ tripped.txq.frames.length < 16) ↔ shiftDue s := by
    rw [htotals, hframes, shiftDue, List.length_map]
  by_cases hs : shiftDue s
  · have hroom : HasRoom tripped := (hdue.mpr hs).2
    let marked := modTotals (fun g => { g with reportState := .queued }) tripped
    have hmarked : Keeps [.mtc] tripped marked := modMtc_keeps _ _
    have hqueue : queueShiftFrame tripped = joinQueue (shiftFrame s.mtc.totals) marked := by
      rw [← htotals]
      rfl
    have hjoin : Keeps [.txq] marked (joinQueue (shiftFrame s.mtc.totals) marked) := joinQueue_keeps (s := marked) hroom _
    have hjoined : Joined (shiftFrame s.mtc.totals) marked (joinQueue (shiftFrame s.mtc.totals) marked) :=
      joinQueue_joined (s := marked) hroom _
    have hlast : insertFrame ((tripsDue s).map tripFrame) (shiftFrame s.mtc.totals) =
        (tripsDue s).map tripFrame ++ [shiftFrame s.mtc.totals] := insertFrame_last fun g hg => by
      obtain ⟨e, -, rfl⟩ := List.mem_map.mp hg
      exact le_rfl
    have hmtc := hjoin .mtc (by decide)
    rw [hwork, if_pos (hdue.mpr hs), hqueue]
    refine ⟨?_, ?_, fun e => ?_, fun h => ?_, fun h => ?_, ((htrips.keeps.trans hmarked).trans hjoin).mono (by decide)⟩
    · rw [hjoined, show marked.txq = tripped.txq from rfl, hframes, if_pos hs, hlast]
    · rw [hmtc, show marked.mtc = { tripped.mtc with totals := { tripped.mtc.totals with reportState := .queued } } from rfl, htotals,
        htrips.mtc, if_pos hs]
    · rw [hmtc]
      exact htrips.entry e
    · rw [AsksCommit, hjoin .cps (by decide)]
      exact htrips.asks h
    · rw [hjoin .cps (by decide)]
      exact htrips.quiet h
  · rw [hwork, if_neg (hdue.not.mpr hs)]
    refine ⟨by rw [hframes, if_neg hs, List.append_nil], ?_, htrips.entry, htrips.asks, htrips.quiet, htrips.keeps⟩
    rw [if_neg hs]
    exact htrips.mtc

/-- The STATUS frame of the first change to UP heads a queue of reports (R54, R144). -/
theorem reportFirstUp_made {reports : List Frame} (hframes : s.txq.frames = reports) (hcls : ∀ g ∈ reports, g.cls = 2)
    (hroom : s.dsc.upSeen = false ∧ s.dsc.status ≠ .offDuty → reports.length < 16) :
    let t := reportFirstUp s
    t.dsc = { s.dsc with upSeen := true, heldReason := if s.dsc.upSeen = true then s.dsc.heldReason else .startup } ∧
      t.txq = { s.txq with frames :=
        (if s.dsc.upSeen = false ∧ s.dsc.status ≠ .offDuty then [newFrame .status [.dispatch] .live] else []) ++ reports } ∧
      Keeps [.dsc, .txq] s t := by
  intro t
  have hsame : s.txq = { s.txq with frames := reports } := by rw [← hframes]
  by_cases hseen : s.dsc.upSeen = true
  · have ht : t = s := if_pos hseen
    rw [ht, hseen]
    have hdsc : s.dsc = { s.dsc with upSeen := true, heldReason := s.dsc.heldReason } := by
      rw [← hseen]
    exact ⟨hdsc, by simpa using hsame, (Keeps.refl [] s).mono (by decide)⟩
  · have hseen' : s.dsc.upSeen = false := by simpa using hseen
    let greeted := s.modDsc fun d => { d with upSeen := true, heldReason := .startup }
    have hgreeted : Keeps [.dsc] s greeted := modDsc_keeps _ s
    have ht : t = if s.dsc.status = .offDuty then greeted else askLive .status greeted := if_neg hseen
    by_cases hoff : s.dsc.status = .offDuty
    · rw [ht, if_pos hoff]
      refine ⟨by rw [if_neg hseen]; rfl, ?_, hgreeted.mono (by decide)⟩
      rw [if_neg (by simp [hoff])]
      exact hsame
    · have hnone : kindWaiting greeted .status = false := by
        rw [kindWaiting, show greeted.txq.frames = reports from hframes]
        refine List.any_eq_false.mpr fun g hg => ?_
        have hg2 := hcls g hg
        have hk : g.kind ≠ .status := fun h => by
          rw [Frame.cls, h] at hg2
          exact absurd hg2 (by decide)
        simp [hk]
      have hspace : HasRoom greeted := by
        rw [HasRoom, show greeted.txq.frames = reports from hframes]
        exact hroom ⟨hseen', hoff⟩
      have hask : askLive .status greeted = joinQueue (newFrame .status [.dispatch] .live) greeted := by
        rw [askLive, hnone]
        rfl
      have hjoin := joinQueue_keeps hspace (newFrame .status [.dispatch] .live)
      have hjoined := joinQueue_joined hspace (newFrame .status [.dispatch] .live)
      rw [ht, if_neg hoff, hask]
      refine ⟨?_, ?_, (hgreeted.trans hjoin).mono (by decide)⟩
      · rw [hjoin .dsc (by decide), if_neg hseen]
        rfl
      · rw [hjoined, show greeted.txq = s.txq from rfl, if_pos ⟨hseen', hoff⟩, hframes]
        have hfirst : insertFrame reports (newFrame .status [.dispatch] .live) = newFrame .status [.dispatch] .live :: reports := by
          cases reports with
          | nil => rfl
          | cons g rest =>
            have hg : ¬g.cls ≤ 1 := by rw [hcls g List.mem_cons_self]; decide
            have hno : decide (g.cls ≤ (newFrame .status [.dispatch] .live).cls) = false := decide_eq_false hg
            rw [insertFrame, List.takeWhile_cons, List.dropWhile_cons, hno]
            rfl
        rw [hfirst]
        rfl

/-- The first change to UP is over: nothing more is told of a later one (R54). -/
theorem reportFirstUp_seen (h : s.dsc.upSeen = true) : reportFirstUp s = s := if_pos h

/-- With nothing UNSENT a change to UP queues no report (R42). -/
theorem requeueReports_settled (hshift : s.mtc.totals.reportState ≠ .unsent) (htrips : ∀ e, (s.mtc.tripLog.get e).sendState ≠ .unsent) :
    requeueReports s = s := by
  have hfold : ∀ order : List (Fin 24), order.foldl (fun t e => requeueTrip e t) s = s := fun order => by
    induction order with
    | nil => rfl
    | cons e order ih => rw [List.foldl_cons, show requeueTrip e s = s from if_neg fun h => htrips e h.1, ih]
  have hwork : (if tripReporting s then s.mtc.ageOrder.foldl (fun t e => requeueTrip e t) s else s) = s := by
    rw [hfold, ite_self]
  rw [requeueReports]
  simp only [hwork]
  exact if_neg fun h => hshift h.1

/-- The reports of the first change to UP stand in one order, unless a STATUS frame could take the last place of one. -/
theorem reportUp_plain (h : upOrderShows s = false) : reportUp s = reportFirstUp (requeueReports s) :=
  if_neg (by rw [h]; exact Bool.false_ne_true)

end

/-- The UNSENT trips that trip reporting finds (R42). -/
def tripsUnsent (s : State) : List (Fin 24) :=
  if tripReporting s = true then s.mtc.ageOrder.filter fun e => (s.mtc.tripLog.get e).sendState == .unsent else []

/-- The first change to UP tells the status (R54). -/
abbrev greetsUp (s : State) : Prop := s.dsc.upSeen = false ∧ s.dsc.status ≠ .offDuty

/-- The frames that a change to UP queues (R42, R54). -/
def upFrames (s : State) : List Frame :=
  (if greetsUp s then [newFrame .status [.dispatch] .live] else []) ++ (tripsDue s).map tripFrame ++
    if shiftDue s then [shiftFrame s.mtc.totals] else []

/-- The shift report state after a change to UP (R42). -/
def upReportState (s : State) : SendState := if shiftDue s then .queued else s.mtc.totals.reportState

/-- The reports due are those of the meter and the status alone. -/
theorem upFrames_congr {s t : State} (hmtc : t.mtc = s.mtc) (hdsc : t.dsc = s.dsc) (hdue : tripsDue t = tripsDue s) :
    upFrames t = upFrames s ∧ upReportState t = upReportState s := by
  have hshift : shiftDue t ↔ shiftDue s := by rw [shiftDue, shiftDue, hmtc, hdue]
  have hgreets : greetsUp t ↔ greetsUp s := by rw [greetsUp, greetsUp, hdsc]
  unfold upFrames upReportState
  simp only [hshift, hgreets, hmtc, hdue, and_self]

/-- What a change to UP leaves of a part whose queue was empty (R42, R54). -/
structure UpReported (s t : State) : Prop where
  txq : t.txq = { s.txq with frames := upFrames s }
  dsc : t.dsc = { s.dsc with
    upSeen := true, heldReason := if s.dsc.upSeen = true then s.dsc.heldReason else .startup }
  mtc : t.mtc = { s.mtc with
    tripLog := t.mtc.tripLog,
    totals := { s.mtc.totals with reportState := upReportState s } }
  entry : ∀ e, t.mtc.tripLog.get e =
    if e ∈ tripsDue s then { s.mtc.tripLog.get e with sendState := .queued } else s.mtc.tripLog.get e
  asks : tripsDue s ≠ [] → AsksCommit s t
  quiet : tripsDue s = [] → t.cps = s.cps
  keeps : Keeps [.mtc, .dsc, .txq, .cps] s t

section
variable {s : State}

/-- The STATUS frame, the trips and the shift find their places, so that no order of them shows (R42, R54). -/
theorem upOrderShows_no (hempty : s.txq.frames = [])
    (hroom : greetsUp s → (tripsUnsent s).length + (if s.mtc.totals.reportState = .unsent then 1 else 0) < 16) :
    upOrderShows s = false := by
  have hwaiting : reportsWaiting s = (tripsUnsent s).length + (if s.mtc.totals.reportState = .unsent then 1 else 0) := by
    rw [reportsWaiting, tripsUnsent]
    congr 1
    by_cases hr : tripReporting s = true
    · rw [if_pos hr, if_pos hr]
    · rw [if_neg hr, if_neg hr, List.length_nil]
  by_cases hg : greetsUp s
  · have hfew := hroom hg
    have hno : decide (16 < 0 + reportsWaiting s + 1) = false := decide_eq_false (by omega)
    rw [upOrderShows, hempty, List.length_nil, hno]
    simp
  · by_cases hseen : s.dsc.upSeen = true
    · simp [upOrderShows, hseen]
    · have hoff : s.dsc.status = .offDuty := by
        by_contra h
        exact hg ⟨by simpa using hseen, h⟩
      simp [upOrderShows, hoff]

theorem reportUp_reported (hempty : s.txq.frames = []) (hnodup : s.mtc.ageOrder.Nodup)
    (hroom : greetsUp s → (tripsUnsent s).length + (if s.mtc.totals.reportState = .unsent then 1 else 0) < 16) :
    UpReported s (reportUp s) := by
  have hmade := requeueReports_made hempty hnodup
  rw [reportUp_plain (upOrderShows_no hempty hroom)]
  generalize requeueReports s = u at hmade
  have hdsc : u.dsc = s.dsc := hmade.keeps .dsc (by decide)
  have hcls : ∀ x ∈ (tripsDue s).map tripFrame ++ (if shiftDue s then [shiftFrame s.mtc.totals] else []), x.cls = 2 := fun x hx => by
    rcases List.mem_append.mp hx with hx | hx
    · obtain ⟨e, -, rfl⟩ := List.mem_map.mp hx
      rfl
    · split_ifs at hx
      · rw [List.mem_singleton.mp hx]
        rfl
      · cases hx
  have htake : (tripsDue s).length ≤ (tripsUnsent s).length := by
    rw [tripsDue, List.length_take]
    exact Nat.min_le_right _ _
  have hlength : ((tripsDue s).map tripFrame ++ (if shiftDue s then [shiftFrame s.mtc.totals] else [])).length ≤
      (tripsUnsent s).length + (if s.mtc.totals.reportState = .unsent then 1 else 0) := by
    rw [List.length_append, List.length_map]
    refine Nat.add_le_add htake ?_
    by_cases hs : shiftDue s
    · rw [if_pos hs, if_pos hs.1]
      exact le_rfl
    · rw [if_neg hs]
      exact Nat.zero_le _
  obtain ⟨hfirst, hqueue, hlast⟩ := reportFirstUp_made (by rw [hmade.txq]) hcls fun hg => by
    rw [hdsc] at hg
    exact lt_of_le_of_lt hlength (hroom hg)
  have hmtc : (reportFirstUp u).mtc = u.mtc := hlast .mtc (by decide)
  have hcps : (reportFirstUp u).cps = u.cps := hlast .cps (by decide)
  rw [hdsc] at hfirst hqueue
  refine ⟨by rw [hqueue, hmade.txq, upFrames, List.append_assoc], hfirst, by rw [hmtc]; exact hmade.mtc, fun e => by rw [hmtc]; exact hmade.entry e, fun h => ?_,
    fun h => by rw [hcps]; exact hmade.quiet h, (hmade.keeps.trans hlast).mono (by decide)⟩
  rw [AsksCommit, hcps]
  exact hmade.asks h

end

/-! The state that a cycle leaves. -/

/-- The stray ack entries counted once a cycle has been taken (R151). -/
def straysHeard (c : Cycle) (s : State) : Nat :=
  if addressGood s = true then min 65535 (s.txq.stray + acksFor c s) else s.txq.stray

section
variable {c : Cycle} {s u : State} {ready : Bool}

theorem addressGood_congr {t : State} (h : t.mem = s.mem) : addressGood t = addressGood s := by
  rw [addressGood, cabAddress, setting16, h]
  rfl

theorem acksFor_congr {t : State} (h : t.mem = s.mem) : acksFor c t = acksFor c s := by
  simp only [acksFor, cabAddress, setting16, h]

theorem cycleCounted_keeps : Keeps [.ale, .txq, .pins] u (cycleCounted c ready u) := by
  have hmarked : Keeps [.ale] u (cycleMarked c u) := modAle_keeps _ u
  unfold cycleCounted
  by_cases h : addressGood u = true
  · rw [if_pos h]
    exact ((hmarked.trans (modTxq_keeps _ _)).trans (modPins_keeps _ _)).mono (by decide)
  · rw [if_neg h]
    exact (hmarked.trans (modPins_keeps _ _)).mono (by decide)

/-- A cycle is taken where the change to UP left the receiver's other registers alone (R133). -/
theorem cycleCounted_taken (hale : u.ale = { (watched (resumeHunting s)).ale with link := .up }) :
    CycleTaken c s (cycleCounted c ready u) := by
  have hrng : RandomNext s.ale.rng (stepRng s.ale.rng) := Tests.witness_CycleSendsAndSettles_random _
  have hmarked : (cycleCounted c ready u).ale = (cycleMarked c u).ale := by
    unfold cycleCounted
    by_cases h : addressGood u = true
    · rw [if_pos h]
      rfl
    · rw [if_neg h]
      rfl
  have hwhole : (cycleCounted c ready u).ale =
      { (watched (resumeHunting s)).ale with link := .up, lastCycle := c.number, cycleHeard := true, assignments := [] } := by
    rw [hmarked]
    show ({ u.ale with lastCycle := c.number, cycleHeard := true, assignments := [] } : Ale) = _
    rw [hale]
  refine ⟨?_, ?_⟩
  · rw [hwhole]
    rfl
  · rw [RandomStepped, hwhole]
    exact hrng

theorem cycleCounted_txq (hmem : u.mem = s.mem) (hstray : u.txq.stray = s.txq.stray) :
    (cycleCounted c ready u).txq = { u.txq with stray := straysHeard c s } := by
  unfold cycleCounted straysHeard
  rw [addressGood_congr hmem, acksFor_congr hmem, ← hstray]
  by_cases h : addressGood s = true
  · rw [if_pos h, if_pos h]
    rfl
  · rw [if_neg h, if_neg h]
    rfl

theorem cycleCounted_pins (hpins : u.pins = s.pins) :
    (cycleCounted c ready u).pins = { s.pins with key := s.pins.key, txd := s.pins.txd, modemReady := ready } := by
  have hmarked : (cycleCounted c ready u).pins = { u.pins with modemReady := ready } := by
    unfold cycleCounted
    by_cases h : addressGood u = true
    · rw [if_pos h]
      rfl
    · rw [if_neg h]
      rfl
  rw [hmarked, hpins]

/-- A cycle ends with its marks, where it hands over no slot. -/
theorem takeCycle_counted (hup : linkChange .up (watched s) = u) (hwait : AllWait u) (hs : u.txq.stray ≤ 65535)
    (hfree : u.txq.frames = [] ∨ ((∀ g ∈ u.txq.frames, g.cls ≠ 0) ∧ NoSlot c u)) :
    takeCycle c true s = cycleCounted c true u := by
  have hk : Keeps [.ale, .txq, .pins] u (cycleCounted c true u) := cycleCounted_keeps
  have hmem : (cycleCounted c true u).mem = u.mem := hk .mem (by decide)
  have hframes : (cycleCounted c true u).txq.frames = u.txq.frames := by
    rw [cycleCounted_txq (s := u) rfl rfl]
  have hzero : (cycleCounted c true u).txq.frames.find? waitingClassZero = none := by
    rw [hframes]
    refine List.find?_eq_none.mpr fun g hg => ?_
    rcases hfree with hnone | ⟨hcls, -⟩
    · simp [hnone] at hg
    · simp [waitingClassZero, hcls g hg]
  have hother : (cycleCounted c true u).txq.frames.find? waitingOther = none ∨
      ((layOutSlots c (cabAddress (cycleCounted c true u))).reserved = none ∧
        (layOutSlots c (cabAddress (cycleCounted c true u))).contention = []) := by
    rcases hfree with hnone | ⟨-, -, hcont, hres⟩
    · left
      rw [hframes, hnone]
      rfl
    · right
      have haddress : cabAddress (cycleCounted c true u) = cabAddress u := by simp only [cabAddress, setting16, hmem]
      rw [haddress]
      constructor
      · simp [layOutSlots, hres]
      · simp [layOutSlots, hcont]
  rw [takeCycle_acks hup hwait hs, if_pos rfl, offerSlots_none hzero hother, ite_self]

/-- What a cycle that changes nothing but the watch and the marks leaves, as O47 says it. -/
def CycleHeard (c : Cycle) (ready : Bool) (s t : State) : Prop :=
  CycleTaken c s t ∧ PinsAre s.pins.key s.pins.txd ready s t ∧ t.txq = { s.txq with stray := straysHeard c s } ∧
    Keeps [.txq, .ale, .atc, .pins] s t

theorem cycleCounted_heard (hk : Keeps [.ale, .atc] s u) (hale : u.ale = { (watched (resumeHunting s)).ale with link := .up }) :
    CycleHeard c ready s (driveLines (cycleCounted c ready u)) := by
  have hmem : u.mem = s.mem := hk .mem (by decide)
  have hmine : Keeps [.ale, .txq, .pins] u (cycleCounted c ready u) := cycleCounted_keeps
  refine ⟨cycleCounted_taken (ready := ready) hale, driveLines_pinsAre (cycleCounted_pins (hk .pins (by decide))), ?_,
    ((hk.trans hmine).trans (driveLines_keeps _)).mono (by decide)⟩
  show (cycleCounted c ready u).txq = _
  rw [cycleCounted_txq hmem (by rw [hk .txq (by decide)]), hk .txq (by decide)]

/-- A fault recorded after the cycle's marks changes none of them (R137). -/
theorem cycleCounted_recorded (hk : Keeps [.ale] s u) (hale : u.ale = { (watched (resumeHunting s)).ale with link := .up }) :
    let t := driveLines (recordFault .modemNotReady 0 (cycleCounted c ready u))
    CycleHeard c ready s t ∧ Records .modemNotReady 0 [] s t := by
  have hmine : Keeps [.ale, .txq, .pins] u (cycleCounted c ready u) := cycleCounted_keeps
  have hpins := cycleCounted_pins (c := c) (ready := ready) (s := s) (u := u) (hk .pins (by decide))
  have hatc : s.atc = (cycleCounted c ready u).atc := ((hk.trans hmine) .atc (by decide)).symm
  have hmem : s.mem = (cycleCounted c ready u).mem := ((hk.trans hmine) .mem (by decide)).symm
  have hfrc : s.frc = (cycleCounted c ready u).frc := ((hk.trans hmine) .frc (by decide)).symm
  have hrecord : Keeps [.atc] (cycleCounted c ready u) (recordFault .modemNotReady 0 (cycleCounted c ready u)) :=
    keeps_of_atc (recordFault_eq ..)
  obtain ⟨hcycle, -, htxq, -⟩ := cycleCounted_heard (c := c) (ready := ready) (hk.mono (by decide)) hale
  have hrecords := recordFault_records .modemNotReady 0 (cycleCounted c ready u)
  have hall := (hk.trans hmine).trans hrecord
  generalize recordFault .modemNotReady 0 (cycleCounted c ready u) = v at *
  have hsame : v.ale = (driveLines (cycleCounted c ready u)).ale := hrecord .ale (by decide)
  refine ⟨⟨?_, driveLines_pinsAre ((hrecord .pins (by decide)).trans hpins), (hrecord .txq (by decide)).trans htxq,
    (hall.trans (driveLines_keeps _)).mono (by decide)⟩, ?_⟩
  · rw [CycleTaken, RandomStepped, show (driveLines v).ale = _ from hsame]
    exact hcycle
  · have h := Sets.rebase (s' := s) (t' := driveLines v) hrecords hatc rfl (.of_mem hmem)
    rwa [← hatc, ← hfrc] at h

end

section
variable {s : State} {f : RxFrame} {how : Addressing}

theorem completes_cycle {ready : Bool} {work : State} (hf : Accepted 0x01 f how s)
    (hwork : takeCycle (parseCycle f.body) ready (resumeHunting s) = work) {post : State → Prop} (hpost : post (driveLines work)) :
    Completes (.cycleFrame f ready) s post :=
  completes_frame (deliver := fun _ t => takeCycle (parseCycle f.body) ready t) (c := .cycleFrame f ready) rfl hf hwork hpost

/-- A cycle is heard while the link is UP. -/
theorem cycle_whileUp (hf : Accepted 0x01 f how s) (hempty : s.txq.frames = []) (hstray : s.txq.stray ≤ 65535)
    (hlink : s.ale.link = .up) (ready : Bool) : Completes (.cycleFrame f ready) s fun t =>
      CycleHeard (parseCycle f.body) ready s t ∧ (ready = true → t.atc = s.atc) ∧
        (ready = false → Records .modemNotReady 0 [] s t) := by
  let u := watched (resumeHunting s)
  have hu : Keeps [.ale] s u :=
    ((resumeHunting_keeps s).trans ((modAle_keeps (fun a => { a with rng := stepRng a.rng }) _).trans (modAle_keeps _ _))).mono
      (by decide)
  have hup : linkChange .up u = u := if_pos hlink
  have hale : u.ale = { u.ale with link := .up } := by
    rw [← hlink]
    rfl
  have hwait : AllWait u := fun g hg => by
    rw [show u.txq.frames = [] from hempty] at hg
    cases hg
  cases ready with
  | true =>
    have hwork : takeCycle (parseCycle f.body) true (resumeHunting s) = cycleCounted (parseCycle f.body) true u :=
      takeCycle_counted hup hwait hstray (.inl hempty)
    have hmine : Keeps [.ale, .txq, .pins] u (cycleCounted (parseCycle f.body) true u) := cycleCounted_keeps
    exact completes_cycle hf hwork ⟨cycleCounted_heard (hu.mono (by decide)) hale,
      fun _ => (hu.trans hmine) .atc (by decide), fun h => Bool.noConfusion h⟩
  | false =>
    have hwork : takeCycle (parseCycle f.body) false (resumeHunting s) =
        recordFault .modemNotReady 0 (cycleCounted (parseCycle f.body) false u) :=
      (takeCycle_acks hup hwait hstray).trans (if_neg Bool.false_ne_true)
    obtain ⟨hheard, hrecords⟩ := cycleCounted_recorded (c := parseCycle f.body) (ready := false) hu hale
    exact completes_cycle hf hwork ⟨hheard, fun h => Bool.noConfusion h, fun _ => hrecords⟩

/-- The link as a CYCLE has brought it UP, before its reports (R139). -/
def cycleUp (s : State) : State := linkMoved .up (watched (resumeHunting s))

/-- The part once the link has come UP, before its reports. -/
theorem cycleUp_stands (s : State) :
    Keeps [.ale, .atc] s (cycleUp s) ∧ (cycleUp s).ale = { (watched (resumeHunting s)).ale with link := .up } ∧
      Attends s.atc [.link] s (cycleUp s) ∧ MatchesNow (cycleUp s) := by
  have hu : Keeps [.ale] s (watched (resumeHunting s)) :=
    ((resumeHunting_keeps s).trans ((modAle_keeps (fun a => { a with rng := stepRng a.rng }) _).trans (modAle_keeps _ _))).mono
      (by decide)
  exact ⟨(hu.trans (linkMoved_keeps _ _)).mono (by decide), linkMoved_ale _ _,
    (linkMoved_attends .up (watched (resumeHunting s))).rebase rfl rfl (.refl _), linkMoved_matchesNow _ _⟩

/-- The channel of the link, where the reports and the marks of the cycle change no match (R139, R177). -/
theorem cycleCounted_raises {c : Cycle} {u : State} (hk : Keeps [.mtc, .dsc, .txq, .cps] (cycleUp s) u)
    (hmeter : u.mtc.meter = s.mtc.meter) (hstatus : u.dsc.status = s.dsc.status) :
    RaisesJudged [.link] s (driveLines (cycleCounted c true u)) := by
  obtain ⟨hup, -, hatt, hnow⟩ := cycleUp_stands s
  have hmine : Keeps [.ale, .txq, .pins] u (cycleCounted c true u) := cycleCounted_keeps
  have hlink : (cycleCounted c true u).ale.link = u.ale.link := by
    unfold cycleCounted
    split <;> rfl
  have hall := (hk.trans hmine).trans (driveLines_keeps _)
  have hsettings : SameSettings (cycleUp s) (driveLines (cycleCounted c true u)) := .of_mem (hall .mem (by decide))
  have hatc : (driveLines (cycleCounted c true u)).atc = (cycleUp s).atc := hall .atc (by decide)
  refine (hatt.then_atc hatc (hall .phase (by decide)) hsettings).beside ?_
  refine hnow.of_flags (hall .phase (by decide)) ⟨?_, ?_, by rw [hall .emc (by decide)], ?_, by rw [hall .oft (by decide)],
    by rw [hall .mst (by decide)], by rw [hall .mst (by decide)]⟩ hsettings (by rw [hatc]) (by rw [hatc])
  · show (cycleCounted c true u).mtc.meter = _
    rw [hmine .mtc (by decide), hmeter, hup .mtc (by decide)]
  · show (cycleCounted c true u).dsc.status = _
    rw [hmine .dsc (by decide), hstatus, hup .dsc (by decide)]
  · show (cycleCounted c true u).ale.link = _
    rw [hlink, hk .ale (by decide)]

/-- A cycle brings the link UP where nothing is to be reported. -/
theorem cycle_upSettled (hf : Accepted 0x01 f how s) (hempty : s.txq.frames = []) (hstray : s.txq.stray ≤ 65535)
    (hlink : s.ale.link ≠ .up) (hseen : s.dsc.upSeen = true) (hshift : s.mtc.totals.reportState ≠ .unsent)
    (htrips : ∀ e, (s.mtc.tripLog.get e).sendState ≠ .unsent) : Completes (.cycleFrame f true) s fun t =>
      CycleHeard (parseCycle f.body) true s t ∧ RaisesJudged [.link] s t := by
  obtain ⟨hk, hale, -, -⟩ := cycleUp_stands s
  have hmtc : (cycleUp s).mtc = s.mtc := hk .mtc (by decide)
  have hdsc : (cycleUp s).dsc = s.dsc := hk .dsc (by decide)
  have htxq : (cycleUp s).txq = s.txq := hk .txq (by decide)
  have hup : linkChange .up (watched (resumeHunting s)) = cycleUp s := by
    have hno : upOrderShows (cycleUp s) = false := by simp [upOrderShows, hdsc, hseen]
    have hreports : requeueReports (cycleUp s) = cycleUp s :=
      requeueReports_settled (by rw [hmtc]; exact hshift) (by rw [hmtc]; exact htrips)
    have hchange : linkChange .up (watched (resumeHunting s)) = reportUp (cycleUp s) := if_neg hlink
    rw [hchange, reportUp_plain hno, hreports, reportFirstUp_seen (by rw [hdsc]; exact hseen)]
  have hframes : (cycleUp s).txq.frames = [] := by rw [htxq, hempty]
  have hwait : AllWait (cycleUp s) := fun g hg => by
    rw [hframes] at hg
    cases hg
  have hwork := takeCycle_counted (c := parseCycle f.body) hup hwait (by rw [htxq]; exact hstray) (.inl hframes)
  exact completes_cycle hf hwork ⟨cycleCounted_heard hk hale,
    cycleCounted_raises ((Keeps.refl [] _).mono (by decide)) (by rw [hmtc]) (by rw [hdsc])⟩

end

section
variable {s : State} {f : RxFrame} {how : Addressing}

/-- The reports due once the link has come UP are those due before (R42). -/
theorem cycleUp_due (s : State) : tripsUnsent (cycleUp s) = tripsUnsent s ∧ tripsDue (cycleUp s) = tripsDue s := by
  obtain ⟨hk, -⟩ := cycleUp_stands s
  have hmem : (cycleUp s).mem = s.mem := hk .mem (by decide)
  have hflag : tripReporting (cycleUp s) = tripReporting s := by
    rw [tripReporting, tripReporting, settingFlag, settingFlag, setting, setting, hmem]
  have hmtc : (cycleUp s).mtc = s.mtc := hk .mtc (by decide)
  exact ⟨by rw [tripsUnsent, hflag, hmtc]; rfl, by rw [tripsDue, hflag, hmtc]; rfl⟩

/-- A cycle brings the link UP, its reports are queued, and it hands over no slot (R42, R54). -/
theorem cycle_upReported (hempty : s.txq.frames = []) (hstray : s.txq.stray ≤ 65535) (hlink : s.ale.link ≠ .up)
    (hslot : NoSlot (parseCycle f.body) s) (hnodup : s.mtc.ageOrder.Nodup)
    (hroom : greetsUp s → (tripsUnsent s).length + (if s.mtc.totals.reportState = .unsent then 1 else 0) < 16) :
    let u := reportUp (cycleUp s)
    takeCycle (parseCycle f.body) true (resumeHunting s) = cycleCounted (parseCycle f.body) true u ∧ UpReported (cycleUp s) u := by
  intro u
  obtain ⟨hk, hale, -, -⟩ := cycleUp_stands s
  have hmtc : (cycleUp s).mtc = s.mtc := hk .mtc (by decide)
  have hdsc : (cycleUp s).dsc = s.dsc := hk .dsc (by decide)
  have htxq : (cycleUp s).txq = s.txq := hk .txq (by decide)
  have hmem : (cycleUp s).mem = s.mem := hk .mem (by decide)
  have hmade : UpReported (cycleUp s) u := reportUp_reported (by rw [htxq, hempty]) (by rw [hmtc]; exact hnodup) fun hg => by
    rw [(cycleUp_due s).1, hmtc]
    rw [greetsUp, hdsc] at hg
    exact hroom hg
  have hnew : ∀ x ∈ u.txq.frames, x.inFlight = false ∧ x.backoff = 0 ∧ x.cls ≠ 0 := fun x hx => by
    rw [hmade.txq, show (_ : Txq).frames = _ from upFrames.eq_def (cycleUp s), List.append_assoc] at hx
    rcases List.mem_append.mp hx with hx | hx
    · split_ifs at hx
      · rw [List.mem_singleton.mp hx]
        exact ⟨rfl, rfl, by decide⟩
      · cases hx
    rcases List.mem_append.mp hx with hx | hx
    · obtain ⟨e, -, rfl⟩ := List.mem_map.mp hx
      exact ⟨rfl, rfl, Nat.succ_ne_zero 1⟩
    · split_ifs at hx
      · rw [List.mem_singleton.mp hx]
        exact ⟨rfl, rfl, Nat.succ_ne_zero 1⟩
      · cases hx
  have haddress : cabAddress u = cabAddress s := by
    rw [cabAddress, cabAddress, setting16, setting16, hmade.keeps .mem (by decide), hmem]
  have hslot' : NoSlot (parseCycle f.body) u := by
    rw [NoSlot, haddress]
    exact hslot
  have hup : linkChange .up (watched (resumeHunting s)) = u := if_neg hlink
  refine ⟨takeCycle_counted hup (fun x hx => ⟨(hnew x hx).1, (hnew x hx).2.1⟩) ?_ (.inr ⟨fun x hx => (hnew x hx).2.2, hslot'⟩), hmade⟩
  rw [hmade.txq, htxq]
  exact hstray

end

/-- Settles O47: the watch is started, the reports of a change to UP are queued, and the cycle is marked. -/
theorem cycleTakesTheWatch : Obligations.CycleTakesTheWatch := by
  intro s f how hf hempty hstray c strays effect settled
  refine ⟨fun hlink ready => cycle_whileUp hf hempty hstray hlink ready,
    fun hlink ⟨hseen, hshift, htrips⟩ => cycle_upSettled hf hempty hstray hlink hseen hshift htrips, ?_⟩
  intro waiting trips shift greets g statusFrame shiftFrame' hlink hslot hnodup hroom
  obtain ⟨hwork, hmade⟩ := cycle_upReported (f := f) hempty hstray hlink hslot hnodup hroom
  obtain ⟨hk, hale, -, -⟩ := cycleUp_stands s
  have hdue : tripsDue (cycleUp s) = trips := (cycleUp_due s).2
  have hmtc : (cycleUp s).mtc = s.mtc := hk .mtc (by decide)
  have hdsc : (cycleUp s).dsc = s.dsc := hk .dsc (by decide)
  have htxq : (cycleUp s).txq = s.txq := hk .txq (by decide)
  obtain ⟨hframes, hstate⟩ := upFrames_congr hmtc hdsc (cycleUp_due s).2
  generalize reportUp (cycleUp s) = u at hwork hmade
  obtain ⟨hqueue, hfirst, htotals, hentry, hasks, hquiet, hkeeps⟩ := hmade
  rw [hdue, hmtc] at hentry
  rw [hdue] at hasks hquiet
  rw [htxq, hframes] at hqueue
  rw [hmtc, hstate] at htotals
  rw [hdsc] at hfirst
  have hmine : Keeps [.ale, .txq, .pins] u (cycleCounted c true u) := cycleCounted_keeps
  have hall := ((hk.trans hkeeps).trans hmine).trans (driveLines_keeps _)
  have hmem : u.mem = s.mem := (hk.trans hkeeps) .mem (by decide)
  have hcps : (cycleUp s).cps = s.cps := hk .cps (by decide)
  have hmeter : u.mtc.meter = s.mtc.meter := congrArg (fun m => m.meter) htotals
  have hstatus : u.dsc.status = s.dsc.status := congrArg (fun d => d.status) hfirst
  have htaken : CycleTaken c s (cycleCounted c true u) := cycleCounted_taken (by rw [hkeeps .ale (by decide), hale])
  have hraises : RaisesJudged [.link] s (driveLines (cycleCounted c true u)) :=
    cycleCounted_raises hkeeps hmeter hstatus
  have hcounted : (cycleCounted c true u).txq = { u.txq with stray := straysHeard c s } :=
    cycleCounted_txq hmem (by rw [hqueue])
  have hpins := cycleCounted_pins (c := c) (ready := true) (s := s) (u := u) ((hk.trans hkeeps) .pins (by decide))
  have hwmtc : (cycleCounted c true u).mtc = u.mtc := hmine .mtc (by decide)
  have hwdsc : (cycleCounted c true u).dsc = u.dsc := hmine .dsc (by decide)
  have hwcps : (cycleCounted c true u).cps = u.cps := hmine .cps (by decide)
  clear hmine
  generalize cycleCounted c true u = w at *
  have hlines : PinsAre s.pins.key s.pins.txd true s (driveLines w) := driveLines_pinsAre hpins
  have hwide : Keeps [.mtc, .dsc, .txq, .ale, .atc, .cps, .pins] s (driveLines w) := hall.mono (by decide)
  refine completes_cycle hf hwork ?_
  refine ⟨htaken, hlines, hraises, ?_, ?_, ?_, fun e => ?_, fun h => ?_, fun h => ?_, hwide⟩
  · rw [show (driveLines w).txq = _ from hcounted, hqueue]
    rfl
  · exact hwdsc.trans hfirst
  · rw [show (driveLines w).mtc = _ from hwmtc]
    exact htotals
  · rw [show (driveLines w).mtc = _ from hwmtc]
    exact hentry e
  · rw [AsksCommit, show (driveLines w).cps = _ from hwcps, hasks h, hcps]
  · rw [show (driveLines w).cps = _ from hwcps, hquiet h, hcps]

end Sys2Proof.Machine
end

section
/-! SUPPORT. What the laws of R48, R63 and R84 speak of, and the moves of the queue under which they stand: a bid may be lost
with its frame, and nothing more of it changes (R76). -/

namespace Sys2Proof.Machine

/-- The meter, the dispatch status, the states of the offer entries, the assignment and the emergency state. -/
structure View where
  meter : MeterState
  status : DispatchStatus
  states : Fin 8 → OfferState
  assignment : Option (Fin 8)
  call : EmergencyState

/-- What the laws speak of in a state. -/
def viewOf (s : State) : View :=
  { meter := s.mtc.meter, status := s.dsc.status, states := fun e => (s.oft.entries.get e).state,
    assignment := s.oft.assignment, call := s.emc.state }

namespace View

/-- An entry bids. -/
abbrev Bids (v : View) (e : Fin 8) : Prop := (v.states e).bidding = true

/-- One entry takes a state. -/
def entry (v : View) (e : Fin 8) (x : OfferState) : View := { v with states := fun i => if i = e then x else v.states i }

/-- The status once the bidding has ended (R51). -/
def left (v : View) : View := { v with status := if v.status = .bidding then .available else v.status }

/-- A law that the loss of a bid with its frame keeps (R76). -/
def LossKeeps (Q : View → Prop) : Prop := ∀ v e, Q v → v.Bids e → Q (v.entry e .lost).left

/-- Where nothing bids, no bid is lost. -/
theorem lossKeeps_of_none {v : View} (h : ∀ e, ¬v.Bids e) : LossKeeps fun w => w = v := by
  rintro _ e rfl hb
  exact absurd hb (h e)

end View

open View

section
variable {s : State}

theorem viewOf_updateOffer (e : Fin 8) (f : OfferEntry → OfferEntry) :
    viewOf (updateOffer e f s) = (viewOf s).entry e (f (s.oft.entries.get e)).state := by
  have hstates : ∀ i, ((updateOffer e f s).oft.entries.get i).state =
      if i = e then (f (s.oft.entries.get e)).state else (s.oft.entries.get i).state := fun i => by
    rw [updateOffer_get]
    split <;> rfl
  simp [viewOf, View.entry, hstates]

/-- An entry that keeps its state leaves the view. -/
theorem viewOf_updateOffer_same {e : Fin 8} {f : OfferEntry → OfferEntry} (h : (f (s.oft.entries.get e)).state = (s.oft.entries.get e).state) :
    viewOf (updateOffer e f s) = viewOf s := by
  rw [viewOf_updateOffer, h]
  have hsame : (fun i => if i = e then (s.oft.entries.get e).state else (s.oft.entries.get i).state) =
      fun i => (s.oft.entries.get i).state := funext fun i => by
    split_ifs with hi
    · rw [hi]
    · rfl
  simp [View.entry, viewOf, hsame]

theorem viewOf_leaveBidding : viewOf (leaveBidding s) = (viewOf s).left := by
  unfold leaveBidding
  by_cases h : s.dsc.status = .bidding
  · simp [h, viewOf, View.left]
  · simp [h, viewOf, View.left]

/-! Outcomes and asks. -/

section
variable {Q : View → Prop} (hQ : LossKeeps Q)
include hQ

theorem routeToOffer_view {k o e n} (h : Q (viewOf s)) : Q (viewOf (routeToOffer k o e n s)) := by
  have hsame : ∀ g : OfferEntry → OfferEntry, (g (s.oft.entries.get e)).state = (s.oft.entries.get e).state →
      Q (viewOf (updateOffer e g s)) := fun g hg => by rwa [viewOf_updateOffer_same hg]
  unfold routeToOffer
  refine iteInduction (motive := fun t => Q (viewOf t)) (fun _ => h) fun _ =>
    iteInduction (motive := fun t => Q (viewOf t)) (fun _ => hsame _ rfl) fun _ => ?_
  cases o with
  | delivered => exact hsame _ rfl
  | failed reason =>
    refine iteInduction (motive := fun t => Q (viewOf t)) (fun hb => ?_) fun _ => hsame _ rfl
    have hview : viewOf (setChannel .offerResult (leaveBidding (updateOffer e (fun x =>
        { x with bidFrame := .none, state := .lost, reason := reason.bidLoss, awardRemaining := 0 }) s))) =
        ((viewOf s).entry e .lost).left := by
      rw [← viewOf_updateOffer e (fun x =>
        { x with bidFrame := .none, state := .lost, reason := reason.bidLoss, awardRemaining := 0 }), ← viewOf_leaveBidding]
      simp [viewOf]
    exact (congrArg Q hview).mpr (hQ (viewOf s) e h hb)

theorem routeToOrigin_view {f o g} (h : Q (viewOf s)) : Q (viewOf (routeToOrigin f o g s)) := by
  cases g with
  | offer e n => exact routeToOffer_view hQ h
  | record r =>
    have hsame : viewOf (routeToOrigin f o (.record r) s) = viewOf s := by simp [viewOf, routeToOrigin]
    rwa [hsame]
  | inbox i =>
    have hsame : viewOf (routeToOrigin f o (.inbox i) s) = viewOf s := by simp [viewOf, routeToOrigin, updateInbox]
    rwa [hsame]
  | trip t =>
    have hsame : viewOf (routeToOrigin f o (.trip t) s) = viewOf s := by simp [viewOf, routeToOrigin, updateTripRecord]
    rwa [hsame]
  | lastShift | emergency => exact h
  | dispatch | receipts | refusals =>
    cases o with
    | delivered => exact h
    | failed reason =>
      have hsame : viewOf (setChannel .queue (recordFault .frameFailed f.kind.code s)) = viewOf s := by simp [viewOf]
      exact (congrArg Q hsame).mpr h

theorem routeOutcome_view {f o} (h : Q (viewOf s)) : Q (viewOf (routeOutcome f o s)) :=
  foldl_invariant (fun t => Q (viewOf t)) _ (fun t l ht => by
    split_ifs
    exacts [ht, routeToOrigin_view hQ ht]) _ _ h

theorem joinQueue_view {f} (h : Q (viewOf s)) : Q (viewOf (joinQueue f s)) := by
  unfold joinQueue
  split_ifs
  · exact h
  · split
    next v _ => exact routeOutcome_view hQ (s := modFrames _ s) h
    next => exact routeOutcome_view hQ h

theorem askLive_view {k} (h : Q (viewOf s)) : Q (viewOf (askLive k s)) := by
  unfold askLive
  split_ifs
  exacts [h, joinQueue_view hQ h]

theorem queueRefuse_view {e x} (h : Q (viewOf s)) : Q (viewOf (queueRefuse e x s)) := by
  unfold queueRefuse
  simp only
  split_ifs
  · exact h
  · refine joinQueue_view hQ ?_
    rwa [viewOf_updateOffer_same rfl]

theorem askEmergency_view {k} (h : Q (viewOf s)) : Q (viewOf (askEmergency k s)) := by
  unfold askEmergency
  split
  · exact joinQueue_view hQ h
  · split_ifs
    exacts [h, h, h]

theorem requeueTrip_view {e} (h : Q (viewOf s)) : Q (viewOf (requeueTrip e s)) := by
  unfold requeueTrip queueTripFrame
  split_ifs
  · refine joinQueue_view hQ ?_
    have hsame : viewOf (requestCommit (updateTripRecord e (fun r => { r with sendState := .queued }) s)) = viewOf s := by
      simp [viewOf, updateTripRecord]
    rwa [hsame]
  · exact h

theorem requeueReports_view (h : Q (viewOf s)) : Q (viewOf (requeueReports s)) := by
  have htrips : Q (viewOf (if tripReporting s then s.mtc.ageOrder.foldl (fun t e => requeueTrip e t) s else s)) :=
    iteInduction (motive := fun t => Q (viewOf t))
      (fun _ => foldl_invariant (fun t => Q (viewOf t)) _ (fun t e ht => requeueTrip_view hQ ht) _ _ h) fun _ => h
  exact iteInduction (motive := fun t => Q (viewOf t)) (fun _ => joinQueue_view hQ (s := modTotals _ _) htrips) fun _ => htrips

theorem reportFirstUp_view (h : Q (viewOf s)) : Q (viewOf (reportFirstUp s)) := by
  unfold reportFirstUp
  simp only
  split_ifs
  · exact h
  · exact h
  · exact askLive_view hQ (s := s.modDsc _) h

theorem reportUp_view (h : Q (viewOf s)) : Q (viewOf (reportUp s)) := by
  unfold reportUp
  simp only
  split_ifs
  · exact requeueReports_view hQ (reportFirstUp_view hQ h)
  · exact reportFirstUp_view hQ (requeueReports_view hQ h)
  · exact reportFirstUp_view hQ (requeueReports_view hQ h)

end

/-! What leaves the view. -/

theorem viewOf_removeWaiting (p : Frame → Bool) : viewOf (removeWaiting p s) = viewOf s := by
  unfold removeWaiting
  split_ifs <;> rfl

/-- Where no entry bids, an ask of the queue leaves the view. -/
theorem viewOf_joinQueue_idle {f : Frame} (h : ∀ e, ¬(viewOf s).Bids e) : viewOf (joinQueue f s) = viewOf s :=
  joinQueue_view (lossKeeps_of_none h) rfl

/-- The settling of a bid leaves the view, where no entry bids any more (R74). -/
theorem viewOf_settleBid_idle {e : Fin 8} {c : Option RefuseReason} (h : ∀ e, ¬(viewOf s).Bids e) :
    viewOf (settleBid e c s) = viewOf s := by
  have hsame : ∀ g : OfferEntry → OfferEntry, (g (s.oft.entries.get e)).state = (s.oft.entries.get e).state → ∀ p,
      ∀ b : BidFrame, viewOf (if b = .none then updateOffer e g s else removeWaiting p (updateOffer e g s)) = viewOf s := fun g hg p b => by
    split_ifs
    · exact viewOf_updateOffer_same hg
    · rw [viewOf_removeWaiting, viewOf_updateOffer_same hg]
  have hrefuse : ∀ t x, viewOf t = viewOf s → viewOf (queueRefuse e x t) = viewOf s := fun t x ht =>
    queueRefuse_view (Q := fun v => v = viewOf s) (lossKeeps_of_none h) ht
  unfold settleBid
  cases c with
  | none => exact hsame _ rfl _ _
  | some reason =>
    exact iteInduction (motive := fun t => viewOf t = viewOf s) (fun _ => hrefuse _ _ (hsame _ rfl _ _)) fun _ => hsame _ rfl _ _

theorem viewOf_endOffer (e : Fin 8) (x : OfferState) (y : OfferReason) : viewOf (endOffer e x y s) = (viewOf s).entry e x :=
  viewOf_updateOffer e _

end

end Sys2Proof.Machine
end

section
/-! SUPPORT. The laws of R48, R63 and R84 over what they speak of, and the changes that keep them. -/

namespace Sys2Proof.Machine

open View

namespace View

/-- The laws of R48, R63 and R84; while `early` holds no offer stands (R185). -/
structure Lawful (early : Prop) (v : View) : Prop where
  hired : v.status = .hired ↔ v.meter.tripOpen = true
  off : v.status = .offDuty ↔ v.meter = .off
  one : ∀ e x, v.Bids e → v.Bids x → e = x
  bidding : (∃ e, v.Bids e) ↔ v.status = .bidding
  awarded : ∀ e, v.assignment = some e → v.states e = .awarded
  assigned : v.assignment.isSome = true ↔ v.status = .assigned
  call : v.call ≠ .quiet → ∀ e, v.states e ≠ .open ∧ (v.states e).bidding = false
  empty : early → ∀ e, v.states e = .empty

/-- The states of an entry that no law forbids. -/
def settledState (x : OfferState) : Bool := !x.bidding && x != .open

variable {early : Prop} {v : View} {e : Fin 8} {x : OfferState}

theorem entry_states (i : Fin 8) : (v.entry e x).states i = if i = e then x else v.states i := rfl

theorem settled_not_bidding (h : settledState x = true) : x.bidding = false := by
  cases x <;> simp_all [settledState, OfferState.bidding]

theorem settled_not_open (h : settledState x = true) : x ≠ .open := by
  rintro rfl
  simp [settledState] at h

namespace Lawful

theorem idle (h : Lawful early v) (hs : v.status ≠ .bidding) (e : Fin 8) : ¬v.Bids e := fun hb => hs (h.bidding.mp ⟨e, hb⟩)

/-- The entry that bids is the only one. -/
theorem others_idle (h : Lawful early v) (hb : v.Bids e) {i : Fin 8} (hi : i ≠ e) : (v.states i).bidding = false := by
  by_contra hno
  exact hi (h.one i e (by simpa using hno) hb)

theorem not_early (h : Lawful early v) (he : v.states e ≠ .empty) : ¬early := fun hearly => he (h.empty hearly e)

theorem not_assigned (h : Lawful early v) (he : v.states e ≠ .awarded) : v.assignment ≠ some e := fun ha => he (h.awarded e ha)

/-- An entry that neither bids nor is the assignment takes another such state. -/
theorem entry_settled (h : Lawful early v) (hb : (v.states e).bidding = false) (ha : v.assignment ≠ some e)
    (hx : settledState x = true) (he : v.states e ≠ .empty ∨ x = .empty) : Lawful early (v.entry e x) := by
  have hnot := settled_not_bidding hx
  have hbids : ∀ i, (v.entry e x).Bids i ↔ v.Bids i := fun i => by
    rw [Bids, entry_states]
    by_cases hi : i = e
    · rw [if_pos hi, hi, hnot, Bids, hb]
    · rw [if_neg hi]
  refine ⟨h.hired, h.off, fun i j hi hj => h.one i j ((hbids i).mp hi) ((hbids j).mp hj), ?_, fun i hi => ?_, h.assigned,
    fun hc i => ?_, fun hearly i => ?_⟩
  · simp only [hbids]
    exact h.bidding
  · rw [entry_states, if_neg]
    · exact h.awarded i hi
    · rintro rfl
      exact ha hi
  · rw [entry_states]
    by_cases hi : i = e
    · rw [if_pos hi]
      exact ⟨settled_not_open hx, hnot⟩
    · rw [if_neg hi]
      exact h.call hc i
  · rw [entry_states]
    by_cases hi : i = e
    · rw [if_pos hi]
      exact he.elim (fun hne => absurd (h.empty hearly e) hne) id
    · rw [if_neg hi]
      exact h.empty hearly i

/-- A bid has ended in a state, and the cab is AVAILABLE again (R51, R74). -/
theorem bid_ended (h : Lawful early v) (hb : v.Bids e) (hx : settledState x = true) : Lawful early (v.entry e x).left := by
  have hnot := settled_not_bidding hx
  have hstatus : v.status = .bidding := h.bidding.mp ⟨e, hb⟩
  have hleft : (v.entry e x).left.status = .available := by simp [View.left, entry, hstatus]
  have hnone : ∀ i, ¬(v.entry e x).left.Bids i := fun i hi => by
    rw [Bids, show (v.entry e x).left.states i = _ from entry_states i] at hi
    by_cases hie : i = e
    · rw [if_pos hie, hnot] at hi
      exact Bool.false_ne_true hi
    · rw [if_neg hie, h.others_idle hb hie] at hi
      exact Bool.false_ne_true hi
  have hhired := h.hired
  have hoff := h.off
  have hassigned := h.assigned
  rw [hstatus] at hhired hoff hassigned
  refine ⟨?_, ?_, fun i j hi => absurd hi (hnone i), ⟨fun ⟨i, hi⟩ => absurd hi (hnone i), fun hs => ?_⟩, fun i hi => ?_, ?_,
    fun hc => ?_, fun hearly => ?_⟩
  · rw [hleft]
    exact ⟨fun h => DispatchStatus.noConfusion h, fun ht => DispatchStatus.noConfusion (hhired.mpr ht)⟩
  · rw [hleft]
    exact ⟨fun h => DispatchStatus.noConfusion h, fun ht => DispatchStatus.noConfusion (hoff.mpr ht)⟩
  · rw [hleft] at hs
    exact DispatchStatus.noConfusion hs
  · have hsome : v.assignment.isSome = true := by rw [show v.assignment = some i from hi]; rfl
    exact DispatchStatus.noConfusion (hassigned.mp hsome)
  · rw [hleft]
    exact ⟨fun ha => DispatchStatus.noConfusion (hassigned.mp ha), fun h => DispatchStatus.noConfusion h⟩
  · exact absurd (h.call hc e).2 (by simp [show (v.states e).bidding = true from hb])
  · exact absurd (h.empty hearly e) fun hempty => by simp [Bids, hempty, OfferState.bidding] at hb

theorem lossKeeps : LossKeeps (Lawful early) := fun _ _ h hb => h.bid_ended hb rfl

/-- A law that does not look at the call. -/
theorem lossKeeps_quiet : LossKeeps fun v => Lawful early { v with call := .quiet } := fun v e h hb =>
  Lawful.bid_ended (v := { v with call := .quiet }) (e := e) (x := .lost) h hb rfl

theorem quiet (h : Lawful early v) : Lawful early { v with call := .quiet } :=
  ⟨h.hired, h.off, h.one, h.bidding, h.awarded, h.assigned, fun hc => absurd rfl hc, h.empty⟩

/-- One stage of a call after another. -/
theorem call_goes (h : Lawful early v) (hc : v.call ≠ .quiet) (c : EmergencyState) : Lawful early { v with call := c } :=
  ⟨h.hired, h.off, h.one, h.bidding, h.awarded, h.assigned, fun _ => h.call hc, h.empty⟩

/-- The laws stand in a call where no entry is OPEN or bids. -/
theorem of_quiet (h : Lawful early { v with call := .quiet }) (hcall : ∀ e, v.states e ≠ .open ∧ (v.states e).bidding = false) :
    Lawful early v := ⟨h.hired, h.off, h.one, h.bidding, h.awarded, h.assigned, fun _ => hcall, h.empty⟩

/-- A bid has been transmitted for the first time (R75). -/
theorem bid_sent (h : Lawful early v) (hq : v.states e = .bidQueued) : Lawful early (v.entry e .bidSent) := by
  have hbids : ∀ i, (v.entry e .bidSent).Bids i ↔ v.Bids i := fun i => by
    rw [Bids, entry_states]
    by_cases hi : i = e
    · rw [if_pos hi, hi, Bids, hq]
      decide
    · rw [if_neg hi]
  have hb : v.Bids e := by rw [Bids, hq]; rfl
  refine ⟨h.hired, h.off, fun i j hi hj => h.one i j ((hbids i).mp hi) ((hbids j).mp hj), ?_, fun i hi => ?_, h.assigned,
    fun hc => absurd (h.call hc e).2 (by simp [show (v.states e).bidding = true from hb]),
    fun hearly => absurd (h.empty hearly e) (by simp [hq])⟩
  · simp only [hbids]
    exact h.bidding
  · rw [entry_states, if_neg]
    · exact h.awarded i hi
    · rintro rfl
      have := h.awarded i hi
      rw [hq] at this
      exact OfferState.noConfusion this

/-- An OPEN entry bids (R70, R71). -/
theorem bid_started (h : Lawful early v) (ho : v.states e = .open) (hs : v.status = .available) :
    Lawful early { v.entry e .bidQueued with status := .bidding } := by
  have hnone := h.idle (by rw [hs]; decide)
  have hbids : ∀ i, ((v.entry e .bidQueued).states i).bidding = true ↔ i = e := fun i => by
    rw [entry_states]
    by_cases hi : i = e
    · simp [hi, OfferState.bidding]
    · rw [if_neg hi]
      exact ⟨fun hb => absurd hb (hnone i), fun he => absurd he hi⟩
  have hhired := h.hired
  have hoff := h.off
  have hassigned := h.assigned
  rw [hs] at hhired hoff hassigned
  refine ⟨⟨fun h => DispatchStatus.noConfusion h, fun ht => DispatchStatus.noConfusion (hhired.mpr ht)⟩,
    ⟨fun h => DispatchStatus.noConfusion h, fun ht => DispatchStatus.noConfusion (hoff.mpr ht)⟩,
    fun i j hi hj => ((hbids i).mp hi).trans ((hbids j).mp hj).symm, ⟨fun _ => rfl, fun _ => ⟨e, (hbids e).mpr rfl⟩⟩, fun i hi => ?_,
    ⟨fun ha => DispatchStatus.noConfusion (hassigned.mp ha), fun h => DispatchStatus.noConfusion h⟩,
    fun hc => absurd ho (h.call hc e).1, fun hearly => absurd (h.empty hearly e) (by simp [ho])⟩
  have hsome : v.assignment.isSome = true := by rw [show v.assignment = some i from hi]; rfl
  exact DispatchStatus.noConfusion (hassigned.mp hsome)

/-- An entry is the assignment, and no entry bids any more (R78, R79). -/
theorem assigned_to (h : Lawful early v) (hs : v.status = .bidding ∧ v.Bids e ∨ v.status = .available)
    (he : v.states e ≠ .empty) : Lawful early { v.entry e .awarded with assignment := some e, status := .assigned } := by
  have hnone : ∀ i, ((v.entry e .awarded).states i).bidding = false := fun i => by
    rw [entry_states]
    by_cases hi : i = e
    · rw [if_pos hi]
      rfl
    · rw [if_neg hi]
      obtain ⟨-, hb⟩ | hav := hs
      · exact h.others_idle hb hi
      · simpa [Bids] using h.idle (by rw [hav]; decide) i
  have hclosed : v.meter.tripOpen ≠ true ∧ v.meter ≠ .off := by
    have hhired := h.hired
    have hoff := h.off
    obtain ⟨hbid, -⟩ | hav := hs
    · rw [hbid] at hhired hoff
      exact ⟨fun ht => DispatchStatus.noConfusion (hhired.mpr ht), fun ht => DispatchStatus.noConfusion (hoff.mpr ht)⟩
    · rw [hav] at hhired hoff
      exact ⟨fun ht => DispatchStatus.noConfusion (hhired.mpr ht), fun ht => DispatchStatus.noConfusion (hoff.mpr ht)⟩
  refine ⟨⟨fun h => DispatchStatus.noConfusion h, fun ht => absurd ht hclosed.1⟩,
    ⟨fun h => DispatchStatus.noConfusion h, fun ht => absurd ht hclosed.2⟩,
    fun i j hi => absurd hi (by simp [Bids, hnone]), ⟨fun ⟨i, hi⟩ => absurd hi (by simp [Bids, hnone]), fun h => DispatchStatus.noConfusion h⟩,
    fun i hi => ?_, ⟨fun _ => rfl, fun _ => rfl⟩, fun hc i => ⟨?_, hnone i⟩, fun hearly => absurd (h.empty hearly e) he⟩
  · rw [show e = i from Option.some.inj hi, entry_states, if_pos rfl]
  · rw [entry_states]
    by_cases hi : i = e
    · rw [if_pos hi]
      decide
    · rw [if_neg hi]
      exact (h.call hc i).1

/-- The status changes where neither a bid nor the assignment is concerned. -/
theorem status_goes {new : DispatchStatus} (h : Lawful early v) (hold : v.status ≠ .bidding)
    (hnew : new ≠ .bidding ∧ new ≠ .assigned) (m : MeterState) (hhired : new = .hired ↔ m.tripOpen = true)
    (hoff : new = .offDuty ↔ m = .off) : Lawful early { v with meter := m, status := new, assignment := none } :=
  ⟨hhired, hoff, h.one, ⟨fun ⟨e, he⟩ => absurd he (h.idle hold e), fun h => absurd h hnew.1⟩, fun _ ha => absurd ha (Option.some_ne_none _).symm,
    ⟨fun ha => Bool.noConfusion ha, fun ha => absurd ha hnew.2⟩, h.call, h.empty⟩

/-- The meter moves within a trip (R28). -/
theorem meter_goes (h : Lawful early v) (m : MeterState) (hopen : v.meter.tripOpen = true) (hm : m.tripOpen = true) :
    Lawful early { v with meter := m } := by
  have hs : v.status = .hired := h.hired.mpr hopen
  refine ⟨⟨fun _ => hm, fun _ => hs⟩, ⟨fun hoff => ?_, fun hoff => ?_⟩, h.one, h.bidding, h.awarded, h.assigned, h.call, h.empty⟩
  · exact absurd (hs.symm.trans hoff) (by decide)
  · rw [show m = .off from hoff] at hm
    exact absurd hm (by decide)

end Lawful

end View

end Sys2Proof.Machine
end

section
/-! SUPPORT. The changes of the dispatch status and the ends of bids and offers under the laws of R48, R63 and R84. -/

namespace Sys2Proof.Machine

open View

section
variable {s : State} {early : Prop}

/-- The laws hold in a state. -/
abbrev LawfulIn (early : Prop) (s : State) : Prop := Lawful early (viewOf s)

/-! Changes of the status. -/

/-- A change of the status with no entry bidding (R49, R83). -/
theorem viewOf_setStatus_idle {new : DispatchStatus} {x : StatusReason} (h : ∀ e, ¬(viewOf s).Bids e) (hne : new ≠ s.dsc.status) :
    viewOf (setStatus new x s) = { viewOf s with
      status := new, assignment := if s.dsc.status = .assigned then none else s.oft.assignment } := by
  let told := rejudge (s.modDsc fun d =>
    { d with status := new, queuePosition := if s.dsc.status = .available then 0 else d.queuePosition })
  have htold : viewOf told = { viewOf s with status := new } := by simp [told, viewOf]
  have hidle : ∀ e, ¬(viewOf told).Bids e := fun e => by
    rw [htold]
    exact h e
  let asked := if s.dsc.status ≠ .bidding ∧ new ≠ .bidding then setChannel .status (askStatusFrame x told) else told
  have hasked : viewOf asked = { viewOf s with status := new } := by
    refine iteInduction (motive := fun t => viewOf t = _) (fun _ => ?_) fun _ => htold
    have hask : viewOf (askStatusFrame x told) = viewOf told :=
      askLive_view (s := told.modDsc _) (Q := fun v => v = viewOf told) (lossKeeps_of_none hidle) rfl
    rw [← htold, ← hask]
    simp [viewOf]
  have hwork : setStatus new x s = reportStatus s.dsc.status new asked := if_neg hne
  have hreport : ∀ t : State, viewOf t = { viewOf s with status := new } → viewOf (reportStatus s.dsc.status new t) = { viewOf s with
      status := new, assignment := if s.dsc.status = .assigned then none else s.oft.assignment } := fun t ht => by
    let cleared := if s.dsc.status = .assigned then t.modOft fun o => { o with assignment := none } else t
    have hassignment : t.oft.assignment = s.oft.assignment := congrArg View.assignment ht
    have hstates : (fun e => (t.oft.entries.get e).state) = fun e => (s.oft.entries.get e).state := congrArg View.states ht
    have hcleared : viewOf cleared = { viewOf s with
        status := new, assignment := if s.dsc.status = .assigned then none else s.oft.assignment } := by
      by_cases ha : s.dsc.status = .assigned
      · have hc : cleared = t.modOft fun o => { o with assignment := none } := if_pos ha
        rw [hc, if_pos ha]
        show ({ viewOf t with assignment := none } : View) = _
        rw [ht]
      · have hc : cleared = t := if_neg ha
        rw [hc, if_neg ha, ht]
        rfl
    have hnone : biddingEntry cleared = none := by
      refine List.find?_eq_none.mpr fun e _ => ?_
      have hb := h e
      have hsame : (cleared.oft.entries.get e).state = (s.oft.entries.get e).state :=
        congrFun (congrArg View.states hcleared) e
      rw [hsame]
      exact hb
    have hhire : streetHire cleared = cleared := by rw [streetHire, hnone]
    have hlast : reportStatus s.dsc.status new t = if s.dsc.status = .bidding ∧ new = .hired then streetHire cleared else cleared := rfl
    rw [hlast, hhire, ite_self, hcleared]
  rw [hwork]
  exact hreport asked hasked

/-- A change of the status into or out of BIDDING, but not to HIRED (R49, R83). -/
theorem viewOf_setStatus_bidding {new : DispatchStatus} {x : StatusReason}
    (h : s.dsc.status = .bidding ∧ new ≠ .hired ∨ new = .bidding ∧ s.dsc.status ≠ .assigned) :
    viewOf (setStatus new x s) = { viewOf s with status := new } := by
  by_cases hne : new = s.dsc.status
  · have hwork : setStatus new x s = s := if_pos hne
    rw [hwork, hne]
    rfl
  let told := rejudge (s.modDsc fun d =>
    { d with status := new, queuePosition := if s.dsc.status = .available then 0 else d.queuePosition })
  have htold : viewOf told = { viewOf s with status := new } := by simp [told, viewOf]
  have hasked : (if s.dsc.status ≠ .bidding ∧ new ≠ .bidding then setChannel .status (askStatusFrame x told) else told) = told :=
    if_neg fun hno => h.elim (fun hb => hno.1 hb.1) fun hb => hno.2 hb.1
  have hclear : s.dsc.status ≠ .assigned := fun ha => h.elim (fun hb => by rw [ha] at hb; exact DispatchStatus.noConfusion hb.1) fun hb => hb.2 ha
  have hhire : ¬(s.dsc.status = .bidding ∧ new = .hired) := fun ⟨hb, hn⟩ => h.elim (fun hx => hx.2 hn) fun hx => by
    rw [hn] at hx
    exact DispatchStatus.noConfusion hx.1
  have hreport : reportStatus s.dsc.status new told = told := by
    unfold reportStatus
    simp only
    rw [if_neg hclear, if_neg hhire]
  have hwork : setStatus new x s = reportStatus s.dsc.status new
      (if s.dsc.status ≠ .bidding ∧ new ≠ .bidding then setChannel .status (askStatusFrame x told) else told) := if_neg hne
  rw [hwork, hasked, hreport, htold]

/-- The entry that the table finds bidding bids. -/
theorem bids_of_biddingEntry {e : Fin 8} (h : biddingEntry s = some e) : (viewOf s).Bids e :=
  List.find?_some (p := fun i => (s.oft.entries.get i).state.bidding) h

theorem idle_of_biddingEntry (h : biddingEntry s = none) (e : Fin 8) : ¬(viewOf s).Bids e := by
  have hmem : e ∈ offerIndices := by revert e; decide
  exact List.find?_eq_none.mp h e hmem

/-- A bid that ends leaves its entry's new state, where no other entry bids (R74). -/
theorem viewOf_endBid {e : Fin 8} {x : OfferState} {y : OfferReason} {c : Option RefuseReason} (hx : x.bidding = false)
    (h : ∀ i, i ≠ e → ((viewOf s).states i).bidding = false) : viewOf (endBid e x y c s) = (viewOf s).entry e x := by
  have hended := viewOf_endOffer (s := s) e x y
  have hidle : ∀ i, ¬(viewOf (endOffer e x y s)).Bids i := fun i hb => by
    rw [hended, Bids, entry_states] at hb
    by_cases hi : i = e
    · rw [if_pos hi, hx] at hb
      exact Bool.false_ne_true hb
    · rw [if_neg hi, h i hi] at hb
      exact Bool.false_ne_true hb
  rw [endBid, viewOf_settleBid_idle hidle, hended]

theorem viewOf_endBid_lawful {e : Fin 8} {x : OfferState} {y : OfferReason} {c : Option RefuseReason} (hx : x.bidding = false)
    (h : Lawful early { viewOf s with call := .quiet }) (hb : (viewOf s).Bids e) :
    viewOf (endBid e x y c s) = (viewOf s).entry e x :=
  viewOf_endBid hx fun _ hi => h.others_idle (e := e) hb hi

/-- A bid has ended and the cab is AVAILABLE again, with what is told of it (R51, R74). -/
theorem viewOf_bidOver {e : Fin 8} {x : OfferState} {y : OfferReason} {c : Option RefuseReason} (hx : x.bidding = false)
    (h : Lawful early { viewOf s with call := .quiet }) (hb : (viewOf s).Bids e) :
    viewOf (requestStatus .available [.bidding] (endBid e x y c s)) = ((viewOf s).entry e x).left := by
  have hended := viewOf_endBid_lawful (y := y) (c := c) hx h hb
  have hstatus : s.dsc.status = .bidding := h.bidding.mp ⟨e, hb⟩
  have hsame : (endBid e x y c s).dsc.status = .bidding := (congrArg View.status hended).trans hstatus
  have hwork : requestStatus .available [.bidding] (endBid e x y c s) = setStatus .available .change (endBid e x y c s) :=
    if_pos (by rw [hsame]; exact List.mem_singleton.mpr rfl)
  rw [hwork, viewOf_setStatus_bidding (.inl ⟨hsame, by decide⟩), hended]
  simp [View.left, View.entry, viewOf, hstatus]

theorem viewOf_setChannel (c : Channel) : viewOf (setChannel c s) = viewOf s := by simp [viewOf]

/-! The meter. -/

/-- The street hire out of a bid (R83). -/
theorem viewOf_streetHire {e : Fin 8} (hb : (viewOf s).Bids e) (hothers : ∀ i, i ≠ e → ((viewOf s).states i).bidding = false) :
    viewOf (streetHire s) = (viewOf s).entry e .withdrawn := by
  obtain ⟨i, hi⟩ : ∃ i, biddingEntry s = some i := by
    cases hn : biddingEntry s with
    | some i => exact ⟨i, rfl⟩
    | none => exact absurd hb (idle_of_biddingEntry hn e)
  have hie : i = e := by
    by_contra hne
    have hib : ((viewOf s).states i).bidding = true := bids_of_biddingEntry hi
    rw [hothers i hne] at hib
    exact Bool.false_ne_true hib
  rw [streetHire, hi, hie]
  show viewOf (setChannel .offerResult (endBid e .withdrawn .hired (some .hired) s)) = _
  rw [viewOf_setChannel, viewOf_endBid rfl hothers]

/-- The assignment is none while the cab is not ASSIGNED (R63). -/
theorem no_assignment (h : LawfulIn early s) (hs : s.dsc.status ≠ .assigned) : s.oft.assignment = none := by
  cases ha : s.oft.assignment with
  | none => rfl
  | some i => exact absurd (h.assigned.mp (by rw [show (viewOf s).assignment = some i from ha]; rfl)) hs

/-- The status follows the meter where no bid is concerned (R50). -/
theorem lawful_follows {new : DispatchStatus} {m : MeterState} {told : State} (h : LawfulIn early s)
    (htold : viewOf told = { viewOf s with meter := m }) (hb : s.dsc.status ≠ .bidding) (hne : new ≠ s.dsc.status)
    (hnew : new ≠ .bidding ∧ new ≠ .assigned) (hhired : new = .hired ↔ m.tripOpen = true) (hoff : new = .offDuty ↔ m = .off) :
    LawfulIn early (setStatus new .change told) := by
  have hstatus : told.dsc.status = s.dsc.status := congrArg View.status htold
  have hassignment : told.oft.assignment = s.oft.assignment := congrArg View.assignment htold
  have hidle : ∀ e, ¬(viewOf told).Bids e := fun e => by
    rw [htold]
    exact h.idle hb e
  have hview := viewOf_setStatus_idle (x := .change) hidle (by rw [hstatus]; exact hne)
  have hnone : (if told.dsc.status = .assigned then none else told.oft.assignment) = none := by
    by_cases ha : told.dsc.status = .assigned
    · exact if_pos ha
    · rw [if_neg ha, hassignment]
      exact no_assignment h (by rwa [← hstatus])
  rw [LawfulIn, hview, hnone, htold]
  exact h.status_goes hb hnew m hhired hoff

/-- The laws after a HIRE in VACANT (R50, R83). -/
theorem lawful_hire {told : State} (h : Lawful early (viewOf s)) (hm : s.mtc.meter = .vacant)
    (htold : viewOf told = { viewOf s with meter := .hired }) : LawfulIn early (setStatus .hired .change told) := by
  have hstatus : told.dsc.status = s.dsc.status := congrArg View.status htold
  have hclosed : (viewOf s).meter.tripOpen = false := by
    show s.mtc.meter.tripOpen = false
    rw [hm]
    rfl
  have hne : s.dsc.status ≠ .hired := fun hs => by
    have hopen := h.hired.mp hs
    rw [hclosed] at hopen
    exact Bool.false_ne_true hopen
  by_cases hb : s.dsc.status = .bidding
  · obtain ⟨e, he⟩ := h.bidding.mpr hb
    let moved := rejudge (told.modDsc fun d =>
      { d with status := .hired, queuePosition := if told.dsc.status = .available then 0 else d.queuePosition })
    have hmoved : viewOf moved = { viewOf s with meter := .hired, status := .hired } := by
      have hsame : viewOf moved = { viewOf told with status := .hired } := by simp [moved, viewOf]
      rw [hsame, htold]
    have hwork : setStatus .hired .change told = streetHire moved := by
      have hstart : setStatus .hired .change told = reportStatus told.dsc.status .hired
          (if told.dsc.status ≠ .bidding ∧ DispatchStatus.hired ≠ .bidding then setChannel .status (askStatusFrame .change moved) else moved) :=
        if_neg (by rw [hstatus, hb]; decide)
      rw [hstart, if_neg (by rw [hstatus, hb]; exact fun hno => hno.1 rfl), hstatus, hb]
      rfl
    have hview : viewOf (streetHire moved) = { (viewOf s).entry e .withdrawn with meter := .hired, status := .hired } := by
      have hbt : (viewOf moved).Bids e := by
        rw [hmoved]
        exact he
      have hothers : ∀ j, j ≠ e → ((viewOf moved).states j).bidding = false := fun j hj => by
        rw [hmoved]
        exact h.others_idle he hj
      rw [viewOf_streetHire hbt hothers, hmoved]
      rfl
    have hended := h.bid_ended (x := .withdrawn) he rfl
    have hlast := hended.status_goes (new := .hired) (by simp [View.left, View.entry, viewOf, hb]) (by decide) .hired (by decide) (by decide)
    have hnone : (viewOf s).assignment = none := no_assignment h (by rw [hb]; decide)
    rw [LawfulIn, hwork, hview]
    rw [← hnone] at hlast
    exact hlast
  · exact lawful_follows h htold hb hne.symm (by decide) (by decide) (by decide)

/-- A change of the meter state is told once the meter shows it (R28, R50). -/
theorem viewOf_meterChange (x : MeterState) : ∃ told, viewOf told = { viewOf s with meter := x } ∧
    viewOf (meterChange x s) = viewOf (reportMeter s.mtc.meter x told) := by
  refine ⟨rewriteFareGroup (rejudge ((closePulses s).modMtc fun m => { m with meter := x })), by simp [viewOf], ?_⟩
  simp [meterChange, viewOf]

theorem meterChange_within {x : MeterState} (h : LawfulIn early s) (hopen : s.mtc.meter.tripOpen = true) (hx : x.tripOpen = true) :
    LawfulIn early (meterChange x s) := by
  obtain ⟨told, htold, hview⟩ := viewOf_meterChange (s := s) x
  have hreport : reportMeter s.mtc.meter x told = told := by
    cases hm : s.mtc.meter <;> cases x <;> simp_all [MeterState.tripOpen, reportMeter]
  rw [LawfulIn, hview, hreport, htold]
  exact h.meter_goes x hopen hx

theorem meterChange_hire (h : LawfulIn early s) (hm : s.mtc.meter = .vacant) : LawfulIn early (meterChange .hired s) := by
  obtain ⟨told, htold, hview⟩ := viewOf_meterChange (s := s) .hired
  have hreport : reportMeter s.mtc.meter .hired told = setStatus .hired .change told := by
    rw [hm]
    rfl
  rw [LawfulIn, hview, hreport]
  exact lawful_hire h hm htold

theorem meterChange_clear (h : LawfulIn early s) (hm : s.mtc.meter = .payment) : LawfulIn early (meterChange .vacant s) := by
  obtain ⟨told, htold, hview⟩ := viewOf_meterChange (s := s) .vacant
  have hreport : reportMeter s.mtc.meter .vacant told = setStatus .available .change told := by
    rw [hm]
    rfl
  have hs : s.dsc.status = .hired := h.hired.mpr (by rw [show (viewOf s).meter = .payment from hm]; rfl)
  rw [LawfulIn, hview, hreport]
  exact lawful_follows h htold (by rw [hs]; decide) (by rw [hs]; decide) (by decide) (by decide) (by decide)

theorem meterChange_open (h : LawfulIn early s) (hm : s.mtc.meter = .off) : LawfulIn early (meterChange .vacant s) := by
  obtain ⟨told, htold, hview⟩ := viewOf_meterChange (s := s) .vacant
  have hreport : reportMeter s.mtc.meter .vacant told = setStatus .available .change told := by
    rw [hm]
    rfl
  have hs : s.dsc.status = .offDuty := h.off.mpr hm
  rw [LawfulIn, hview, hreport]
  exact lawful_follows h htold (by rw [hs]; decide) (by rw [hs]; decide) (by decide) (by decide) (by decide)

theorem meterChange_close (h : LawfulIn early s) (hm : s.mtc.meter = .vacant) (hs : s.dsc.status = .available ∨ s.dsc.status = .onBreak) :
    LawfulIn early (meterChange .off s) := by
  obtain ⟨told, htold, hview⟩ := viewOf_meterChange (s := s) .off
  have hreport : reportMeter s.mtc.meter .off told = setStatus .offDuty .change told := by
    rw [hm]
    rfl
  rw [LawfulIn, hview, hreport]
  refine lawful_follows h htold ?_ ?_ (by decide) (by decide) (by decide)
  all_goals obtain hs | hs := hs <;> rw [hs] <;> decide

end

end Sys2Proof.Machine
end

section
/-! SUPPORT. Every command but those of the stages keeps the laws of R48, R63 and R84. -/

namespace Sys2Proof.Machine

open View

/-- An entry of no bid and no assignment takes a state that no law forbids at that moment. -/
theorem View.Lawful.entry_goes {early : Prop} {v : View} {e : Fin 8} {x : OfferState} (h : Lawful early v)
    (hb : (v.states e).bidding = false) (ha : v.assignment ≠ some e) (hx : x.bidding = false) (ho : v.call = .quiet)
    (he : ¬early) : Lawful early (v.entry e x) := by
  have hbids : ∀ i, (v.entry e x).Bids i ↔ v.Bids i := fun i => by
    rw [Bids, entry_states]
    by_cases hi : i = e
    · rw [if_pos hi, hi, hx, Bids, hb]
    · rw [if_neg hi]
  refine ⟨h.hired, h.off, fun i j hi hj => h.one i j ((hbids i).mp hi) ((hbids j).mp hj), ?_, fun i hi => ?_, h.assigned,
    fun hc => absurd ho hc, fun hearly => absurd hearly he⟩
  · simp only [hbids]
    exact h.bidding
  · rw [entry_states, if_neg]
    · exact h.awarded i hi
    · rintro rfl
      exact ha hi

section
variable {s t : State} {early : Prop}

theorem LawfulIn.of_view (h : LawfulIn early s) (hv : viewOf t = viewOf s) : LawfulIn early t := by
  rw [LawfulIn, hv]
  exact h

/-- An operation under which a bid may be lost keeps the laws. -/
theorem LawfulIn.through {op : State → State} (h : LawfulIn early s)
    (hop : ∀ {Q : View → Prop}, LossKeeps Q → Q (viewOf s) → Q (viewOf (op s))) : LawfulIn early (op s) :=
  hop Lawful.lossKeeps h

/-! Offers. -/

theorem endOffer_lawful {e : Fin 8} {x : OfferState} {y : OfferReason} (h : LawfulIn early s)
    (hb : (s.oft.entries.get e).state.bidding = false) (ha : s.oft.assignment ≠ some e) (hx : settledState x = true)
    (he : (s.oft.entries.get e).state ≠ .empty) : LawfulIn early (endOffer e x y s) := by
  rw [LawfulIn, viewOf_endOffer]
  exact h.entry_settled hb ha hx (.inl he)

/-- An OPEN entry ends (R69, R72, R81, R82). -/
theorem endOpen_lawful {e : Fin 8} {x : OfferState} {y : OfferReason} (h : LawfulIn early s)
    (ho : (s.oft.entries.get e).state = .open) (hx : settledState x = true) : LawfulIn early (endOffer e x y s) :=
  endOffer_lawful h (by rw [ho]; rfl) (h.not_assigned (by show (s.oft.entries.get e).state ≠ _; rw [ho]; decide)) hx (by rw [ho]; decide)

theorem bidOver_lawful {e : Fin 8} {x : OfferState} {y : OfferReason} {c : Option RefuseReason} (h : LawfulIn early s)
    (hb : (s.oft.entries.get e).state.bidding = true) (hx : settledState x = true) :
    LawfulIn early (requestStatus .available [.bidding] (endBid e x y c s)) := by
  rw [LawfulIn, viewOf_bidOver (settled_not_bidding hx) h.quiet hb]
  exact h.bid_ended hb hx

theorem setChannel_lawful {c : Channel} (h : LawfulIn early s) : LawfulIn early (setChannel c s) := h.of_view (viewOf_setChannel c)

theorem endBidByBase_lawful {e : Fin 8} {x : OfferState} {y : OfferReason} (h : LawfulIn early s)
    (hb : (s.oft.entries.get e).state.bidding = true) (hx : settledState x = true) : LawfulIn early (endBidByBase e x y s) :=
  setChannel_lawful (bidOver_lawful h hb hx)

theorem expireOffer_lawful {e : Fin 8} (h : LawfulIn early s) : LawfulIn early (expireOffer e s) := by
  unfold expireOffer
  split_ifs with ho
  exacts [setChannel_lawful (endOpen_lawful h ho rfl), h]

theorem expireAwardWait_lawful {e : Fin 8} (h : LawfulIn early s) : LawfulIn early (expireAwardWait e s) := by
  unfold expireAwardWait
  split_ifs with hb
  · exact setChannel_lawful (bidOver_lawful h (by rw [hb]; rfl) rfl)
  · exact h

theorem stepRemaining_lawful {e : Fin 8} (h : LawfulIn early s) : LawfulIn early (stepRemaining e s) := by
  unfold stepRemaining
  simp only
  split_ifs
  exacts [h.of_view (viewOf_updateOffer_same rfl), h.of_view (viewOf_updateOffer_same rfl), h]

/-- Under the status that a cab is about to take, too. -/
theorem withdrawOthers_status {e : Fin 8} {st : DispatchStatus} (h : Lawful early { viewOf s with status := st }) :
    Lawful early { viewOf (withdrawOthers e s) with status := st } := by
  refine foldl_invariant (fun t => Lawful early { viewOf t with status := st }) _ (fun t i ht => ?_) offerIndices s h
  split_ifs with ho
  · have hnot := ht.not_assigned (e := i) (by show (t.oft.entries.get i).state ≠ _; rw [ho.2]; decide)
    have hended := ht.entry_settled (e := i) (x := .withdrawn) (by show (t.oft.entries.get i).state.bidding = _; rw [ho.2]; rfl) hnot rfl
      (.inl (by show (t.oft.entries.get i).state ≠ _; rw [ho.2]; decide))
    have hview := viewOf_endOffer (s := t) i .withdrawn .base
    show Lawful early { viewOf (endOffer i .withdrawn .base t) with status := st }
    rw [hview]
    exact hended
  · exact ht

theorem withdrawOthers_lawful {e : Fin 8} (h : LawfulIn early s) : LawfulIn early (withdrawOthers e s) :=
  foldl_invariant (LawfulIn early) _ (fun t i ht => by
    split_ifs with ho
    exacts [endOpen_lawful ht ho.2 rfl, ht]) _ _ h

theorem endBidFrame_view (e : Fin 8) : viewOf (endBidFrame e s) = viewOf s := by
  have hsame := viewOf_updateOffer_same (s := modFrames (fun fs => withoutNewest fs (isBidOf e (s.oft.entries.get e).number)) s)
    (e := e) (f := fun x => { x with bidFrame := .none }) rfl
  exact hsame

/-- The cab becomes ASSIGNED where the laws stand for that status (R51). -/
theorem assigned_lawful (h : Lawful early { viewOf s with status := .assigned })
    (hs : s.dsc.status = .bidding ∨ s.dsc.status = .available) :
    LawfulIn early (requestStatus .assigned [.bidding, .available] s) := by
  have hmem : s.dsc.status ∈ [DispatchStatus.bidding, .available] := by
    obtain hb | ha := hs
    · simp [hb]
    · simp [ha]
  have hassigned : s.dsc.status ≠ .assigned := by
    obtain hb | ha := hs
    · rw [hb]; decide
    · rw [ha]; decide
  have hidle : ∀ i, ¬(viewOf s).Bids i := fun i => h.idle (show (DispatchStatus.assigned : DispatchStatus) ≠ .bidding by decide) i
  have hwork : requestStatus .assigned [.bidding, .available] s = setStatus .assigned .change s := if_pos hmem
  rw [LawfulIn, hwork, viewOf_setStatus_idle hidle hassigned.symm, if_neg hassigned]
  exact h

theorem takeOwnAward_lawful {e : Fin 8} (h : LawfulIn early s) : LawfulIn early (takeOwnAward e s) := by
  have hrefused : LawfulIn early (refuseAward e s) := h.through (op := refuseAward e) fun hQ hq => queueRefuse_view hQ hq
  have hbid : (s.oft.entries.get e).state.bidding = true → LawfulIn early (awardBid e s) := fun hb => by
    let given := assign e (endBidFrame e (endOffer e .awarded .none s))
    have hview : viewOf given = { (viewOf s).entry e .awarded with assignment := some e } := by
      rw [← viewOf_endOffer (s := s) e .awarded .none, ← endBidFrame_view (s := endOffer e .awarded .none s) e]
      rfl
    have hstatus : s.dsc.status = .bidding := h.bidding.mp ⟨e, hb⟩
    have hheld : (s.oft.entries.get e).state ≠ .empty := fun hempty => by
      rw [hempty] at hb
      exact Bool.false_ne_true hb
    have hassigned : LawfulIn early (requestStatus .assigned [.bidding, .available] given) := by
      refine assigned_lawful ?_ (.inl ((congrArg View.status hview).trans hstatus))
      rw [hview]
      exact h.assigned_to (.inl ⟨hstatus, hb⟩) hheld
    exact setChannel_lawful (withdrawOthers_lawful hassigned)
  have hlate : (s.oft.entries.get e).state ≠ .empty → mayHonour s = true → LawfulIn early (honourAward e s) := fun he hm => by
    have hstatus : s.dsc.status = .available := by
      simp only [mayHonour, Bool.and_eq_true, beq_iff_eq] at hm
      exact hm.1
    let given := assign e (endOffer e .awarded .none s)
    have hview : viewOf given = { (viewOf s).entry e .awarded with assignment := some e } := by
      rw [← viewOf_endOffer (s := s) e .awarded .none]
      rfl
    have hothers : Lawful early { viewOf (withdrawOthers e given) with status := .assigned } := by
      refine withdrawOthers_status ?_
      rw [hview]
      exact h.assigned_to (.inr hstatus) he
    have hkept : (withdrawOthers e given).dsc.status = s.dsc.status := by
      have hfold := foldl_invariant (fun t => t.dsc.status = s.dsc.status) (fun t i =>
          if i ≠ e ∧ (t.oft.entries.get i).state = .open then endOffer i .withdrawn .base t else t) (fun t i ht => by
        split_ifs
        · simpa [endOffer] using ht
        · exact ht) offerIndices given (congrArg View.status hview)
      exact hfold
    have hview' := viewOf_setChannel (s := withdrawOthers e given) .offerResult
    refine assigned_lawful (s := setChannel .offerResult (withdrawOthers e given)) ?_ (.inr ?_)
    · rw [hview']
      exact hothers
    · exact (congrArg View.status hview').trans (hkept.trans hstatus)
  unfold takeOwnAward
  split
  case h_1 hq | h_2 hq => exact hbid (by rw [hq]; rfl)
  case h_5 hq | h_6 hq | h_7 hq =>
    exact iteInduction (motive := LawfulIn early) (fun hm => hlate (by rw [hq]; decide) hm) fun _ => hrefused
  case h_3 | h_4 => exact h
  case h_8 | h_9 => exact hrefused

theorem takeOtherAward_lawful {e : Fin 8} (h : LawfulIn early s) : LawfulIn early (takeOtherAward e s) := by
  unfold takeOtherAward
  split
  case h_1 ho => exact setChannel_lawful (endOpen_lawful h ho rfl)
  case h_2 hq | h_3 hq => exact endBidByBase_lawful h (by rw [hq]; rfl) rfl
  all_goals exact h

theorem takeAward_lawful {n a : Nat} (h : LawfulIn early s) : LawfulIn early (takeAward n a s) := by
  unfold takeAward
  split
  · split_ifs
    exacts [takeOwnAward_lawful h, takeOtherAward_lawful h]
  · split_ifs
    exacts [h.through (op := queueRefuseUnknown n _) fun hQ hq => joinQueue_view hQ hq, h]

theorem withdrawAwarded_lawful {e : Fin 8} (ha : (s.oft.entries.get e).state = .awarded) (h : LawfulIn early s) :
    LawfulIn early (withdrawAwarded e s) := by
  have hb : ((viewOf s).states e).bidding = false := by
    show (s.oft.entries.get e).state.bidding = false
    rw [ha]
    rfl
  have hheld : (viewOf s).states e ≠ .empty := by
    show (s.oft.entries.get e).state ≠ .empty
    rw [ha]
    decide
  refine setChannel_lawful ?_
  refine iteInduction (motive := LawfulIn early) (fun hnamed => ?_) fun hnamed => endOffer_lawful h hb hnamed rfl hheld
  have hstatus : s.dsc.status = .assigned := h.assigned.mp (by rw [show (viewOf s).assignment = some e from hnamed]; rfl)
  let ended := endOffer e .withdrawn .base s
  have hview : viewOf ended = (viewOf s).entry e .withdrawn := viewOf_endOffer e _ _
  have hsame : ended.dsc.status = .assigned := (congrArg View.status hview).trans hstatus
  have hidle : ∀ i, ¬(viewOf ended).Bids i := fun i hi => by
    rw [hview, Bids, entry_states] at hi
    by_cases hie : i = e
    · rw [if_pos hie] at hi
      exact Bool.false_ne_true hi
    · rw [if_neg hie] at hi
      exact h.idle (by rw [show (viewOf s).status = .assigned from hstatus]; decide) i hi
  have hwork : requestStatus .available [.assigned] ended = setStatus .available .change ended :=
    if_pos (by rw [hsame]; exact List.mem_singleton.mpr rfl)
  have hmeter := h.hired
  have hoff := h.off
  rw [show (viewOf s).status = .assigned from hstatus] at hmeter hoff
  have hfree := h.status_goes (new := .available) (by rw [show (viewOf s).status = .assigned from hstatus]; decide) (by decide)
    (viewOf s).meter ⟨fun h => DispatchStatus.noConfusion h, fun ht => DispatchStatus.noConfusion (hmeter.mpr ht)⟩
    ⟨fun h => DispatchStatus.noConfusion h, fun ht => DispatchStatus.noConfusion (hoff.mpr ht)⟩
  rw [LawfulIn, hwork, viewOf_setStatus_idle hidle (by rw [hsame]; decide), if_pos hsame, hview]
  exact hfree.entry_settled (e := e) (x := .withdrawn) hb (Option.some_ne_none e).symm rfl (.inl hheld)

theorem takeWithdraw_lawful {n : Nat} (h : LawfulIn early s) : LawfulIn early (takeWithdraw n s) := by
  unfold takeWithdraw
  split
  · exact h
  next e _ =>
    split
    case h_1 ho => exact setChannel_lawful (endOpen_lawful h ho rfl)
    case h_2 hq | h_3 hq => exact endBidByBase_lawful h (by rw [hq]; rfl) rfl
    case h_4 ha =>
      exact withdrawAwarded_lawful ha h
    all_goals exact h

theorem storeOffer_lawful {e : Fin 8} {how : Addressing} {o : OfferFields} (hempty : (s.oft.entries.get e).state = .empty)
    (hquiet : s.emc.state = .quiet) (hearly : ¬early) (h : LawfulIn early s) : LawfulIn early (storeOffer e how o s) := by
  obtain ⟨y, hy, hopen, -⟩ := storeOffer_entry (s := s) (e := e) how o
  have hrest : (storeOffer e how o s).mtc = s.mtc ∧ (storeOffer e how o s).dsc = s.dsc ∧
      (storeOffer e how o s).oft.assignment = s.oft.assignment ∧ (storeOffer e how o s).emc = s.emc := by
    unfold storeOffer storeDetails
    simp only
    split <;> simp
  obtain ⟨hmtc, hdsc, hassignment, hemc⟩ := hrest
  have hstates : ∀ i, ((storeOffer e how o s).oft.entries.get i).state = if i = e then .open else (s.oft.entries.get i).state := fun i => by
    rw [hy]
    split_ifs
    exacts [hopen, rfl]
  have hview : viewOf (storeOffer e how o s) = (viewOf s).entry e .open := by
    simp only [viewOf, View.entry, hmtc, hdsc, hassignment, hemc, hstates]
  rw [LawfulIn, hview]
  exact h.entry_goes (by show (s.oft.entries.get e).state.bidding = _; rw [hempty]; rfl)
    (h.not_assigned (by show (s.oft.entries.get e).state ≠ _; rw [hempty]; decide)) rfl hquiet hearly

theorem takeOffer_lawful {how : Addressing} {o : OfferFields} (hearly : ¬early) (h : LawfulIn early s) :
    LawfulIn early (takeOffer how o s) := by
  unfold takeOffer
  split_ifs with hzero hcons
  · exact h.of_view (by simp [viewOf, countFormatError])
  · have hquiet : s.emc.state = .quiet := by
      simp only [offerConsidered, Bool.and_eq_true, beq_iff_eq] at hcons
      exact hcons.1.1
    split
    next e _ =>
      unfold repeatOffer
      split_ifs
      exacts [h.of_view (viewOf_updateOffer_same rfl), h]
    next =>
      split
      next e he =>
        have hempty : (s.oft.entries.get e).state = .empty := by simpa using List.find?_some he
        exact storeOffer_lawful hempty hquiet hearly h
      next => exact h.of_view rfl
  · exact h

theorem startBid_lawful {e : Fin 8} (ho : (s.oft.entries.get e).state = .open) (hs : s.dsc.status = .available) (h : LawfulIn early s) :
    LawfulIn early (startBid e s) := by
  let queued := updateOffer e (fun x => { x with state := .bidQueued, bidFrame := .queued, windowRemaining := 0 }) s
  have hview : viewOf queued = (viewOf s).entry e .bidQueued := viewOf_updateOffer e _
  have hstatus : queued.dsc.status = .available := (congrArg View.status hview).trans hs
  have hbids : LawfulIn early (requestStatus .bidding [.available] queued) := by
    have hwork : requestStatus .bidding [.available] queued = setStatus .bidding .change queued :=
      if_pos (by rw [hstatus]; exact List.mem_singleton.mpr rfl)
    rw [LawfulIn, hwork, viewOf_setStatus_bidding (.inr ⟨rfl, by rw [hstatus]; decide⟩), hview]
    exact h.bid_started ho hs
  exact hbids.through (op := joinQueue _) fun hQ hq => joinQueue_view hQ hq

/-! The meter. -/

theorem viewOf_openTrip (n : Nat) : viewOf (openTrip (startHire n s)) = viewOf s := rfl

theorem viewOf_closed : viewOf (stopHold (closeTrip s)) = viewOf s := by simp [viewOf, stopHold]

/-- A hire starts in VACANT (R29). -/
theorem hireVacant_lawful {n : Nat} (h : LawfulIn early s) (hm : s.mtc.meter = .vacant) :
    LawfulIn early (meterChange .hired (openTrip (startHire n s))) :=
  meterChange_hire (h.of_view (viewOf_openTrip n)) ((congrArg View.meter (viewOf_openTrip n)).trans hm)

/-- A hire starts in PAYMENT (R32). -/
theorem hirePayment_lawful {n : Nat} (h : LawfulIn early s) (hm : s.mtc.meter = .payment) :
    LawfulIn early (meterChange .hired (openTrip (startHire n s))) := by
  refine meterChange_within (h.of_view (viewOf_openTrip n)) ?_ rfl
  have hsame : (openTrip (startHire n s)).mtc.meter = s.mtc.meter := congrArg View.meter (viewOf_openTrip n)
  rw [hsame, hm]
  rfl

/-- The trip in PAYMENT is closed first (R32). -/
theorem hireClosed_lawful {n : Nat} (h : LawfulIn early s) (hm : s.mtc.meter = .payment) :
    LawfulIn early (meterChange .hired (openTrip (startHire n (stopHold (closeTrip s))))) := by
  have hview := viewOf_closed (s := s)
  generalize stopHold (closeTrip s) = t at hview ⊢
  exact hirePayment_lawful (h.of_view hview) ((congrArg View.meter hview).trans hm)

theorem pressHire_lawful {request : Bool} (h : LawfulIn early s) : LawfulIn early (pressHire request s).2 := by
  have hview : viewOf (chooseTariff s).1 = viewOf s := by
    unfold chooseTariff
    split
    · rfl
    · simp [viewOf]
  unfold pressHire
  generalize chooseTariff s = chosen at hview
  obtain ⟨t, n⟩ := chosen
  have ht : LawfulIn early t := h.of_view hview
  have hmeter : t.mtc.meter = s.mtc.meter := congrArg View.meter hview
  have hrefused : LawfulIn early (if request then t else recordFault .tariffInvalid n t) :=
    iteInduction (motive := LawfulIn early) (fun _ => ht) fun _ => ht.of_view (by simp [viewOf])
  cases hm : s.mtc.meter with
  | vacant =>
    simp only [reduceCtorEq, if_false]
    split
    exacts [hireVacant_lawful ht (hmeter.trans hm), hrefused]
  | payment =>
    simp only [if_true]
    split
    exacts [hireClosed_lawful ht (hmeter.trans hm), hrefused]
  | off | hired | stopped => exact h

theorem pressExtra_lawful {i : Fin 8} (h : LawfulIn early s) : LawfulIn early (pressExtra i s).2 := by
  unfold pressExtra takeExtra
  split_ifs
  exacts [h, h.of_view (by simp [viewOf]), h]

theorem pressKey_lawful {k : MeterKey} {request : Bool} (h : LawfulIn early s) : LawfulIn early (pressKey k request s).2 := by
  cases k with
  | hire => exact pressHire_lawful h
  | stop =>
    change LawfulIn early (pressStop s).2
    unfold pressStop
    split
    case h_1 hm | h_2 hm => exact meterChange_within h (by rw [hm]; rfl) rfl
    all_goals exact h
  | pay =>
    have hpaid : s.mtc.meter.tripOpen = true →
        LawfulIn early (startHold (meterChange .payment (modTrip (fun t => { t with endTime := s.frc.clock }) s))) := fun hopen =>
      (meterChange_within (s := modTrip (fun t => { t with endTime := s.frc.clock }) s) h hopen rfl).of_view rfl
    change LawfulIn early (pressPay s).2
    unfold pressPay
    split
    case h_1 hm | h_2 hm => exact hpaid (by rw [hm]; rfl)
    all_goals exact h
  | clear =>
    change LawfulIn early (pressClear s).2
    unfold pressClear
    split
    next hm =>
      split_ifs
      · have hview : viewOf (stopHold (closeTrip s)) = viewOf s := by simp [viewOf, stopHold]
        exact meterChange_clear (h.of_view hview) ((congrArg View.meter hview).trans hm)
      · exact h
    all_goals exact h
  | extra => exact pressExtra_lawful h

theorem closeShift_lawful (hmay : mayCloseShift s = true) (h : LawfulIn early s) : LawfulIn early (closeShift s) := by
  simp only [mayCloseShift, Bool.and_eq_true, Bool.or_eq_true, beq_iff_eq] at hmay
  obtain ⟨hm, hs⟩ := hmay
  have hdetached : viewOf (detachLastShift (refreshMetres s)) = viewOf s := by
    unfold detachLastShift
    split_ifs <;> simp [viewOf, detachOrigin]
  unfold closeShift
  refine meterChange_close (s := State.modFrc _ _) (h.of_view hdetached) ?_ ?_
  · exact (congrArg View.meter hdetached).trans hm
  · have hstatus : (detachLastShift (refreshMetres s)).dsc.status = s.dsc.status := congrArg View.status hdetached
    exact hstatus.symm ▸ hs

theorem openShift_lawful {d : Nat} (hm : s.mtc.meter = .off) (h : LawfulIn early s) : LawfulIn early (openShift d s) := by
  unfold openShift
  exact meterChange_open (s := modTotals _ _) h hm

theorem endCalendarSecond_lawful (h : LawfulIn early s) : LawfulIn early (endCalendarSecond s) := by
  unfold endCalendarSecond groupRewrite
  simp only
  split_ifs <;> exact h.of_view (by simp [viewOf])

theorem setOverride_lawful {n : Nat} (h : LawfulIn early s) : LawfulIn early (setOverride n s) := by
  unfold setOverride
  simp only
  split_ifs <;> exact h.of_view (by simp [viewOf])

/-! The store. -/

theorem finishMeterCommit_lawful (h : LawfulIn early s) : LawfulIn early (finishMeterCommit s) := by
  have hone : ∀ t x, LawfulIn early t → LawfulIn early (reportCarriedTrip x t) := fun t x ht => by
    cases x with
    | none => exact ht.of_view (by simp [viewOf, reportCarriedTrip])
    | some e =>
      have hsent : LawfulIn early (sendCarriedTrip e t) := by
        unfold sendCarriedTrip queueTripFrame
        refine iteInduction (motive := LawfulIn early) (fun _ => ?_) fun _ => ht.of_view rfl
        exact LawfulIn.through (s := State.modMtc t _) ht (op := joinQueue _) fun hQ hq => joinQueue_view hQ hq
      exact hsent.of_view (by simp [viewOf, reportCarriedTrip])
  have hdone : ∀ c first due, LawfulIn early (completeMeterCommit c first due s) := fun c first due => by
    have htrips := foldl_invariant (LawfulIn early) (fun t e => reportCarriedTrip e t) hone first
      (rewriteMirrors c (endWrite .meter (fun st => { st with meter := some c }) s))
      (h.of_view (by simp [viewOf, rewriteMirrors, groupRewrite]))
    unfold completeMeterCommit reportCarriedShift queueShiftFrame
    refine iteInduction (motive := LawfulIn early) (fun _ => ?_) fun _ => htrips
    refine LawfulIn.through (s := modTotals _ _) ?_ (op := joinQueue _) fun hQ hq => joinQueue_view hQ hq
    exact htrips.of_view (by simp [viewOf])
  unfold finishMeterCommit
  split
  exacts [hdone _ _ _, h]

theorem answerTariffs_view {x : Result} : viewOf (answerTariffs x s) = viewOf s := by
  unfold answerTariffs
  split <;> simp [viewOf]

theorem answerSettings_view {x : Result} : viewOf (answerSettings x s) = viewOf s := by
  unfold answerSettings
  split <;> simp [viewOf]

theorem otherWrites_view : viewOf (finishCalibrationWrite s) = viewOf s ∧ viewOf (finishTariffWrite s) = viewOf s ∧
    viewOf (finishSettingsWrite s) = viewOf s ∧ viewOf (failCurrentWrite s) = viewOf s ∧ viewOf (beginNextWrite s) = viewOf s := by
  unfold finishCalibrationWrite finishTariffWrite finishSettingsWrite failCurrentWrite beginNextWrite
  refine ⟨?_, ?_, ?_, ?_, ?_⟩
  · split <;> simp [viewOf]
  · split
    exacts [answerTariffs_view.trans (by simp [viewOf]), rfl]
  · split
    exacts [answerSettings_view.trans (by simp [viewOf]), rfl]
  · split
    · unfold failWrite afterFailure
      split
      · simp [viewOf]
      · simp [viewOf]
      · exact answerTariffs_view.trans (by simp [viewOf])
      · exact answerSettings_view.trans (by simp [viewOf])
    · rfl
  · split_ifs
    · split <;> simp [viewOf, beginWrite, removeWrite]
    · rfl

end

end Sys2Proof.Machine
end

section
/-! SUPPORT. The call, the air link and the window port keep the laws of R48, R63 and R84. -/

namespace Sys2Proof.Machine

open View

section
variable {s t : State} {early : Prop}

/-! The call. -/

/-- The laws but for the call (R84). -/
abbrev LawfulUncalled (early : Prop) (s : State) : Prop := Lawful early { viewOf s with call := .quiet }

theorem viewOf_setEmergency (x : EmergencyState) : viewOf (setEmergency x s) = { viewOf s with call := x } := by
  simp [viewOf, setEmergency]

/-- Every OPEN entry of the table has been withdrawn (R84). -/
theorem viewOf_offersWithdrawn : viewOf (offersWithdrawn s) = { viewOf s with
    states := fun e => if (s.oft.entries.get e).state = .open then .withdrawn else (s.oft.entries.get e).state } := by
  have hk := (offersWithdrawn_left (s := s)).keeps
  have hmtc : (offersWithdrawn s).mtc = s.mtc := hk .mtc (by decide)
  have hdsc : (offersWithdrawn s).dsc = s.dsc := hk .dsc (by decide)
  have hemc : (offersWithdrawn s).emc = s.emc := hk .emc (by decide)
  have hstates : (fun e : Fin 8 => ((openWithdrawn s).get e).state) =
      fun e => if (s.oft.entries.get e).state = .open then .withdrawn else (s.oft.entries.get e).state := funext fun e => by
    rw [openWithdrawn, Vector.get_eq_getElem, Vector.getElem_map, ← Vector.get_eq_getElem]
    split_ifs <;> rfl
  simp only [viewOf, hmtc, hdsc, hemc, offersWithdrawn_oft, hstates]

theorem offersWithdrawn_uncalled (h : LawfulUncalled early s) : LawfulUncalled early (offersWithdrawn s) := by
  refine foldl_invariant (LawfulUncalled early) _ (fun t i ht => ?_) offerIndices s h
  unfold withdrawStep
  split_ifs with ho
  · have hopen : (t.oft.entries.get i).state = .open := by simpa using ho
    have hended := Lawful.entry_settled (v := { viewOf t with call := .quiet }) (e := i) (x := .withdrawn) ht
      (by show (t.oft.entries.get i).state.bidding = _; rw [hopen]; rfl)
      (ht.not_assigned (by show (t.oft.entries.get i).state ≠ _; rw [hopen]; decide)) rfl
      (.inl (by show (t.oft.entries.get i).state ≠ _; rw [hopen]; decide))
    rw [LawfulUncalled, viewOf_setChannel, viewOf_endOffer]
    exact hended
  · exact ht

/-- The cab leaves BIDDING (R51). -/
theorem viewOf_leave (hs : s.dsc.status = .bidding) : viewOf (requestStatus .available [.bidding] s) = (viewOf s).left := by
  have hwork : requestStatus .available [.bidding] s = setStatus .available .change s :=
    if_pos (by rw [hs]; exact List.mem_singleton.mpr rfl)
  rw [hwork, viewOf_setStatus_bidding (.inl ⟨hs, by decide⟩), View.left, show (viewOf s).status = .bidding from hs]
  rfl

/-- The bid of a cab without OPEN offers ends as the call begins (R84). -/
theorem bidWithdrawn_lawful {e : Fin 8} (h : LawfulUncalled early s) (hopen : ∀ i, (viewOf s).states i ≠ .open)
    (hb : biddingEntry s = some e) : LawfulIn early (requestStatus .available [.bidding]
      (setChannel .offerResult (endBid e .withdrawn .emergency (some .emergency) s))) := by
  have hbids : (viewOf s).Bids e := bids_of_biddingEntry hb
  have hstatus : s.dsc.status = .bidding := h.bidding.mp ⟨e, hbids⟩
  have hgone : viewOf (setChannel .offerResult (endBid e .withdrawn .emergency (some .emergency) s)) =
      (viewOf s).entry e .withdrawn := (viewOf_setChannel _).trans (viewOf_endBid_lawful rfl h hbids)
  generalize setChannel .offerResult (endBid e .withdrawn .emergency (some .emergency) s) = gone at hgone
  have hsame : gone.dsc.status = s.dsc.status := congrArg View.status hgone
  have hended := Lawful.bid_ended (x := .withdrawn) h hbids rfl
  rw [LawfulIn, viewOf_leave (hsame.trans hstatus), hgone]
  refine Lawful.of_quiet hended fun i => ?_
  have hentry : ((viewOf s).entry e .withdrawn).left.states i = if i = e then .withdrawn else (viewOf s).states i := rfl
  rw [hentry]
  by_cases hi : i = e
  · rw [if_pos hi]
    decide
  · rw [if_neg hi]
    exact ⟨hopen i, h.others_idle (e := e) hbids hi⟩

/-- The entry into ALERTING makes the laws of the call stand (R84). -/
theorem withdrawForEmergency_lawful (h : LawfulUncalled early s) : LawfulIn early (withdrawForEmergency s) := by
  obtain ⟨hnone, hsome⟩ := withdrawForEmergency_of (s := s)
  have hleft := offersWithdrawn_uncalled h
  have hopen : ∀ e, (viewOf (offersWithdrawn s)).states e ≠ .open := fun e => by
    rw [viewOf_offersWithdrawn]
    show (if (s.oft.entries.get e).state = .open then OfferState.withdrawn else (s.oft.entries.get e).state) ≠ .open
    split_ifs with ho
    · decide
    · exact ho
  generalize offersWithdrawn s = left at *
  cases hb : biddingEntry left with
  | none =>
    rw [hnone hb]
    exact hleft.of_quiet fun e => ⟨hopen e, by simpa [Bids] using idle_of_biddingEntry hb e⟩
  | some e =>
    rw [hsome e hb]
    exact bidWithdrawn_lawful hleft hopen hb

theorem askEmergency_lawful {k : EmergencyKind} (h : LawfulIn early s) : LawfulIn early (askEmergency k s) :=
  h.through (op := askEmergency k) fun hQ hq => askEmergency_view hQ hq

/-- An ask of a call that is only beginning. -/
theorem askEmergency_uncalled {k : EmergencyKind} (h : LawfulUncalled early s) : LawfulUncalled early (askEmergency k s) :=
  askEmergency_view (Q := fun v => Lawful early { v with call := .quiet }) Lawful.lossKeeps_quiet h

theorem raised_lawful (h : LawfulIn early s) :
    LawfulIn early (withdrawForEmergency (askEmergency .alert (setEmergency .alerting s))) := by
  refine withdrawForEmergency_lawful (askEmergency_uncalled ?_)
  rw [LawfulUncalled, viewOf_setEmergency]
  exact h.quiet

theorem pressAlarm_lawful (h : LawfulIn early s) : LawfulIn early (pressAlarm s) := by
  unfold pressAlarm
  split
  · unfold raiseCall
    exact raised_lawful (s := s.modEmc _) h
  · exact LawfulIn.of_view (askEmergency_lawful (s := countPress s) (k := .alert) h) rfl
  · exact LawfulIn.of_view (askEmergency_lawful (s := countPress s) (k := .alert) h) rfl
  · exact raised_lawful (s := countPress s) h

theorem judgeAlarm_lawful (h : LawfulIn early s) : LawfulIn early (judgeAlarm s) := by
  obtain ⟨-, -, hj⟩ | ⟨-, -, hj⟩ | ⟨-, hj⟩ := judgeAlarm_cases s <;> rw [hj]
  · exact pressAlarm_lawful (s := s.modEmc _) h
  · exact h
  · exact h

theorem returnToQuiet_lawful (h : LawfulIn early s) : LawfulIn early (returnToQuiet s) := by
  let silent := (setEmergency .quiet s).modEmc fun e => { e with updateTimer := none, owed := none }
  have hsilent : viewOf silent = { viewOf s with call := .quiet } := viewOf_setEmergency (s := s) .quiet
  have hview : viewOf (returnToQuiet s) = { viewOf s with call := .quiet } :=
    (viewOf_removeWaiting (s := silent) fun f => f.cls == 0).trans hsilent
  rw [LawfulIn, hview]
  exact h.quiet

theorem deliverOutcome_lawful {f : Frame} {o : TxOutcome} (h : LawfulIn early s) : LawfulIn early (deliverOutcome f o s) := by
  have houtcome : LawfulIn early (emergencyOutcome f.kind o s) := by
    unfold emergencyOutcome
    split
    exacts [h, askEmergency_lawful h, returnToQuiet_lawful h, askEmergency_lawful h, h]
  unfold deliverOutcome
  refine iteInduction (motive := LawfulIn early) (fun _ => ?_) fun _ => h.through (op := routeOutcome f o) fun hQ hq => routeOutcome_view hQ hq
  unfold queueOwed
  split
  exacts [askEmergency_lawful (s := State.modEmc _ _) houtcome, houtcome]

theorem failFrames_lawful {g : Frame → Bool} {x : FailReason} (h : LawfulIn early s) : LawfulIn early (failFrames g x s) :=
  foldl_invariant (LawfulIn early) _ (fun _ _ ht => deliverOutcome_lawful ht) _ (modFrames _ s) h

theorem countWrongCode_lawful (h : LawfulIn early s) : LawfulIn early (countWrongCode s) := by
  unfold countWrongCode
  exact iteInduction (motive := LawfulIn early) (fun _ => askEmergency_lawful (s := State.modEmc _ _) h) fun _ => h

/-- The state of a call goes on, with the ask that it makes (R107). -/
theorem setEmergency_lawful {x : EmergencyState} (hc : s.emc.state ≠ .quiet) (h : LawfulIn early s) :
    LawfulIn early (setEmergency x s) := by
  rw [LawfulIn, viewOf_setEmergency]
  exact h.call_goes hc x

theorem cancelCall_lawful (hc : s.emc.state ≠ .quiet) (h : LawfulIn early s) : LawfulIn early (cancelCall s) := by
  unfold cancelCall
  exact askEmergency_lawful (s := stopUpdateTimer _) (setEmergency_lawful hc h)

theorem takeEmergencyAck_lawful {how : Addressing} (h : LawfulIn early s) : LawfulIn early (takeEmergencyAck how s) := by
  unfold takeEmergencyAck
  split_ifs with ha
  · have hacked : LawfulIn early (setEmergency .acked s) := setEmergency_lawful (by rw [ha.2]; decide) h
    exact LawfulIn.of_view (hacked.of_view (viewOf_removeWaiting waitingAlert)) rfl
  · exact h

theorem takeEmergencyClear_lawful {how : Addressing} (h : LawfulIn early s) : LawfulIn early (takeEmergencyClear how s) := by
  unfold takeEmergencyClear
  split_ifs
  exacts [returnToQuiet_lawful h, h]

theorem expireUpdateTimer_lawful (h : LawfulIn early s) : LawfulIn early (expireUpdateTimer s) := by
  unfold expireUpdateTimer
  exact iteInduction (motive := LawfulIn early) (fun _ => h) fun _ =>
    LawfulIn.of_view (askEmergency_lawful (k := .alert) h) rfl

/-! The air link. -/

theorem loseBidToLink_lawful (h : LawfulIn early s) : LawfulIn early (loseBidToLink s) := by
  unfold loseBidToLink
  split
  next e he => exact setChannel_lawful (bidOver_lawful h (bids_of_biddingEntry he) rfl)
  next => exact h

theorem linkChange_lawful {x : LinkState} (h : LawfulIn early s) : LawfulIn early (linkChange x s) := by
  have hchanged : LawfulIn early (setChannel .link (rejudge (s.modAle fun a => { a with link := x }))) :=
    h.of_view (by simp [viewOf])
  unfold linkChange
  split_ifs
  · exact h
  · cases x with
    | up => exact hchanged.through (op := reportUp) fun hQ hq => reportUp_view hQ hq
    | lost => exact failFrames_lawful (loseBidToLink_lawful hchanged)
    | fading | hunt => exact hchanged

theorem failAttempt_lawful {q : Option Nat} (h : LawfulIn early s) : LawfulIn early (failAttempt q s) := by
  unfold failAttempt
  split
  · exact h
  · simp only
    split_ifs
    exacts [h, h, deliverOutcome_lawful (s := modFrames _ s) h, h, h]

theorem takeCycleAcks_lawful {n : Nat} {acks : List Nat} (h : LawfulIn early s) : LawfulIn early (takeCycleAcks n acks s) := by
  have hack : ∀ (t : State) (q : Nat), LawfulIn early t → LawfulIn early (takeAck n q t) := fun t q ht => by
    unfold takeAck
    split
    exacts [deliverOutcome_lawful (s := modFrames _ t) ht, ht]
  have hacks := foldl_invariant (LawfulIn early) (fun t q => takeAck n q t) hack acks s h
  exact foldl_invariant (LawfulIn early) _ (fun t q ht => failAttempt_lawful ht) _ (modFrames _ _) hacks

theorem reportFirstTransmission_lawful {f : Frame} (h : LawfulIn early s) : LawfulIn early (reportFirstTransmission f s) := by
  refine foldl_invariant (LawfulIn early) _ (fun u l hu => ?_) _ _ h
  split
  next e _ _ =>
    split_ifs with hq
    · rw [LawfulIn, viewOf_updateOffer]
      exact hu.bid_sent hq.1
    · exact hu
  all_goals exact hu

theorem offerSlots_lawful {m : SlotMap} (h : LawfulIn early s) : LawfulIn early (offerSlots m s) := by
  have hhanded : ∀ t p k, LawfulIn early t → LawfulIn early (handOver p k m t) := fun t p k ht => by
    unfold handOver
    split
    · exact ht
    · exact iteInduction (motive := LawfulIn early)
        (fun _ => reportFirstTransmission_lawful (s := State.modAle (modFrames _ t) _) ht) fun _ => ht
  have hzero : LawfulIn early (sendClassZero m s).1 := by
    unfold sendClassZero
    split
    · exact h
    · split
      exacts [h, hhanded _ _ _ h]
  have hhead : ∀ t, LawfulIn early t → LawfulIn early (sendHead m t) := fun t ht => by
    unfold sendHead
    split_ifs
    · exact ht
    · split
      · exact ht
      · split
        exacts [ht, hhanded _ _ _ ht]
  unfold offerSlots
  split_ifs
  exacts [hzero, hhead _ hzero]

theorem takeCycle_lawful {c : Cycle} {ready : Bool} (h : LawfulIn early s) : LawfulIn early (takeCycle c ready s) := by
  have hup : LawfulIn early (linkChange .up (startWatch (s.modAle fun a => { a with rng := stepRng a.rng }))) :=
    linkChange_lawful (s := startWatch _) h
  have hacks : ∀ t, LawfulIn early t → ∀ acks, LawfulIn early (if addressGood t then takeCycleAcks c.number acks t else t) :=
    fun t ht acks => iteInduction (motive := LawfulIn early) (fun _ => takeCycleAcks_lawful ht) fun _ => ht
  have hsend : ∀ t, LawfulIn early t → LawfulIn early (if ready then
      if addressGood t then offerSlots (layOutSlots c (cabAddress t)) t else t else recordFault .modemNotReady 0 t) := fun t ht => by
    split_ifs
    exacts [offerSlots_lawful ht, ht, ht.of_view (by simp [viewOf])]
  exact hsend (State.modPins _ _) (hacks (State.modAle _ _) hup _)

theorem loseLink_lawful (h : LawfulIn early s) : LawfulIn early (loseLink s) := by
  unfold loseLink
  exact iteInduction (motive := LawfulIn early) (fun _ => h) fun _ =>
    iteInduction (motive := LawfulIn early) (fun _ => linkChange_lawful (s := s.modAle _) h) fun _ => h

theorem fade_lawful (h : LawfulIn early s) : LawfulIn early (fade s) := by
  unfold fade
  exact iteInduction (motive := LawfulIn early) (fun _ => h) fun _ =>
    iteInduction (motive := LawfulIn early) (fun _ => linkChange_lawful (s := s.modAle _) h) fun _ => h

theorem restartEngine_lawful (h : LawfulIn early s) : LawfulIn early (restartEngine s) := by
  unfold restartEngine
  exact linkChange_lawful (s := State.modAle _ _) h

/-! Messages, the position and the window port. -/

theorem joinQueue_lawful {f : Frame} (h : LawfulIn early s) : LawfulIn early (joinQueue f s) :=
  h.through (op := joinQueue f) fun hQ hq => joinQueue_view hQ hq

theorem askLive_lawful {k : UplinkKind} (h : LawfulIn early s) : LawfulIn early (askLive k s) :=
  h.through (op := askLive k) fun hQ hq => askLive_view hQ hq

theorem viewOf_messagePut (i : Fin 24) (v : Bool) (g a : Nat) (how : Addressing) (f : TextFields) (c : MessageClass) (p : PartCode) :
    viewOf (messagePut i v g a how f c p s) = viewOf s := by
  unfold messagePut
  cases v <;> simp [viewOf, updateInbox]

theorem takeText_lawful {how : Addressing} {f : TextFields} (h : LawfulIn early s) : LawfulIn early (takeText how f s) := by
  have hreceipt : ∀ n c b t, LawfulIn early t → LawfulIn early (receiptStored how n c b t) := fun n c b t ht =>
    iteInduction (motive := LawfulIn early) (fun _ => joinQueue_lawful ht) fun _ => ht
  have hrefused : LawfulIn early (refuseText how f s) :=
    iteInduction (motive := LawfulIn early) (fun _ => joinQueue_lawful (s := s.modMst _) h) fun _ => h
  have hnew : ∀ c p, LawfulIn early (takeNewMessage how f c p s) := fun c p => by
    unfold takeNewMessage
    split
    · exact hrefused
    next i hi =>
      simp only
      split
      · exact hrefused
      next granted hg =>
        have hput := h.of_view (viewOf_messagePut i (emptyInbox s.mst).isNone granted (blocksFor f.text.length) how f c p)
        rw [storeMessage_eq]
        exact iteInduction (motive := LawfulIn early) (fun _ => setChannel_lawful hput) fun _ =>
          hreceipt _ _ _ _ (setChannel_lawful hput)
  have hsecond : ∀ i, LawfulIn early (appendSecond i how f s) := fun i => by
    cases hg : judgeGrant s (s.mst.inbox.get i).cls.grantClass (blocksFor f.text.length) s.mst.freeCount with
    | none => exact appendSecond_none hg ▸ hrefused
    | some granted =>
      rw [appendSecond_some hg]
      exact hreceipt _ _ _ _ (setChannel_lawful (h.of_view (by simp [viewOf, secondPut, updateInbox])))
  unfold takeText
  split
  next c p _ _ =>
    refine iteInduction (motive := LawfulIn early) (fun _ => h) fun _ => ?_
    split
    · exact iteInduction (motive := LawfulIn early) (fun _ => hrefused) fun _ => hnew _ _
    next i hi =>
      exact iteInduction (motive := LawfulIn early)
        (fun _ => iteInduction (motive := LawfulIn early) (fun _ => hsecond i) fun _ => h) fun _ => hreceipt _ _ _ _ h
  next => exact h

theorem zoneChange_lawful {z : Nat} (h : LawfulIn early s) : LawfulIn early (zoneChange z s) := by
  unfold zoneChange askStatusFrame
  exact iteInduction (motive := LawfulIn early) (fun _ => askLive_lawful (s := State.modDsc _ _) h) fun _ => h

theorem writeSlotHand_lawful {b : Byte} (h : LawfulIn early s) : LawfulIn early (writeSlotHand b s) := by
  unfold writeSlotHand takeFix
  refine iteInduction (motive := LawfulIn early) (fun _ => ?_) fun _ => h.of_view (by simp [viewOf, illegalHand])
  exact iteInduction (motive := LawfulIn early)
    (fun _ => iteInduction (motive := LawfulIn early) (fun _ => zoneChange_lawful (s := State.modDsc _ _) h) fun _ => h) fun _ => h

theorem viewOf_readOrigins (links : List OriginLink) : viewOf (links.foldl (fun t l =>
      match l.origin with
      | .inbox i => updateInbox i (fun x => { x with state := .read }) t
      | .record _ | .offer _ _ | .trip _ | .lastShift | .emergency | .dispatch | .receipts | .refusals => t) s) = viewOf s :=
  foldl_invariant (fun t => viewOf t = viewOf s) _ (fun t l ht => by
    rw [← ht]
    cases l.origin <;> simp [viewOf, updateInbox]) _ _ rfl

theorem viewOf_writeAnswer (r : Fin 16) (x : Result) (d : Byte) (w : Nat) : viewOf (writeAnswer r x d w s) = viewOf s := by
  simp [viewOf]

theorem viewOf_cancelArrival (r : Fin 16) : viewOf (cancelArrival r s) = viewOf s := by
  unfold cancelArrival
  split_ifs
  · unfold cancelText
    simp only
    split
    · rfl
    · split_ifs
      · rfl
      · refine (viewOf_writeAnswer _ _ _ _).trans ((viewOf_readOrigins _).trans (viewOf_removeWaiting _))
  · unfold cancelStore
    split_ifs <;> simp [viewOf, removeWrite]
  · rfl

theorem viewOf_writeHand (r : Fin 16) (b : Byte) : viewOf (writeHand r b s) = viewOf s := by
  unfold writeHand
  simp only
  split_ifs
  · simp [viewOf]
  · rw [viewOf_cancelArrival]
    simp [viewOf]
  · simp [viewOf]
  · rfl
  · simp [viewOf, illegalHand]

theorem viewOf_resetPort : viewOf (resetPort s) = viewOf s := by
  have hqueue : ∀ t, viewOf (portResetQueue t) = viewOf t := fun t => by
    unfold portResetQueue
    exact foldl_invariant (fun u => viewOf u = viewOf t) _ (fun u f hu => (viewOf_readOrigins _).trans hu) _ _ rfl
  have hderived : ∀ t, viewOf (deriveAttention t) = viewOf t := fun t => by simp [viewOf]
  unfold resetPort
  exact (hderived _).trans (hqueue _)

theorem hostWrite_lawful {bytes : List (Nat × Byte)} (h : LawfulIn early s) : LawfulIn early (hostWrite bytes s) := by
  have hstored : viewOf (storeBytes bytes (judgeByte s) s) = viewOf s :=
    foldl_invariant (fun t => viewOf t = viewOf s) _ (fun t x ht => by
      split_ifs
      exacts [ht, ht]) _ _ rfl
  have hone : ∀ v o b t, LawfulIn early t → LawfulIn early (byteEffect v o b t) := fun v o b t ht => by
    unfold byteEffect
    split
    · exact ht
    · exact ht
    · unfold dropByte
      exact iteInduction (motive := LawfulIn early) (fun _ => ht) fun _ => ht.of_view (by simp [viewOf])
    · exact ht.of_view (viewOf_writeHand _ _)
    · exact writeSlotHand_lawful ht
    · exact iteInduction (motive := LawfulIn early) (fun _ => ht.of_view viewOf_resetPort) fun _ => ht
    · exact ht.of_view (by simp [viewOf])
  have hjudged : LawfulIn early (if bytes.any fun x => inSettings x.1 then settingsWritten s (storeBytes bytes (judgeByte s) s)
      else storeBytes bytes (judgeByte s) s) :=
    iteInduction (motive := LawfulIn early) (fun _ => (h.of_view hstored).of_view (by simp [viewOf])) fun _ => h.of_view hstored
  unfold hostWrite
  exact iteInduction (motive := LawfulIn early) (fun _ => h) fun _ =>
    foldl_invariant (LawfulIn early) _ (fun t x ht => hone _ _ _ t ht) _ _ hjudged

/-! Requests. -/

theorem answer_lawful {r : Fin 16} {x : Result} {w : Nat} (h : LawfulIn early s) : LawfulIn early (answer r x w s) :=
  h.of_view (by simp [viewOf])

/-- A request's arrival keeps the laws when its owner's work does. -/
theorem takeRequest_lawful {k : RequestKind} {owner : Fin 16 → State → State}
    (howner : ∀ r t, LawfulIn early t → LawfulIn early (owner r t)) (h : LawfulIn early s) : LawfulIn early (takeRequest k owner s) :=
  takeRequest_law h fun _ _ _ _ => serveRequest_law (answer_lawful h) (howner _ _ h)

theorem ownMeterKey_lawful {r : Fin 16} (h : LawfulIn early s) : LawfulIn early (ownMeterKey r s) := by
  unfold ownMeterKey answerKey
  split_ifs
  · split
    exacts [answer_lawful (pressKey_lawful h), answer_lawful h]
  · exact answer_lawful h

theorem ownAddExtra_lawful {r : Fin 16} (h : LawfulIn early s) : LawfulIn early (ownAddExtra r s) := by
  unfold ownAddExtra answerExtra
  split_ifs
  exacts [answer_lawful (pressExtra_lawful h), answer_lawful (pressExtra_lawful h), answer_lawful h, answer_lawful h]

theorem ownSelectTariff_lawful {r : Fin 16} (h : LawfulIn early s) : LawfulIn early (ownSelectTariff r s) := by
  unfold ownSelectTariff
  split_ifs
  all_goals first
    | exact answer_lawful (setOverride_lawful h)
    | exact answer_lawful h

theorem ownShiftOpen_lawful {r : Fin 16} (h : LawfulIn early s) : LawfulIn early (ownShiftOpen r s) := by
  unfold ownShiftOpen
  refine iteInduction (motive := LawfulIn early) (fun _ => answer_lawful h) fun _ => ?_
  refine iteInduction (motive := LawfulIn early) (fun _ => answer_lawful h) fun hoff => ?_
  refine iteInduction (motive := LawfulIn early) (fun _ => answer_lawful h) fun _ => answer_lawful (openShift_lawful ?_ h)
  by_contra hne
  exact hoff (.inl hne)

theorem ownShiftClose_lawful {r : Fin 16} (h : LawfulIn early s) : LawfulIn early (ownShiftClose r s) := by
  unfold ownShiftClose
  exact iteInduction (motive := LawfulIn early) (fun hm => answer_lawful (closeShift_lawful hm h)) fun _ => answer_lawful h

theorem ownReleaseTrip_lawful {r : Fin 16} (h : LawfulIn early s) : LawfulIn early (ownReleaseTrip r s) := by
  unfold ownReleaseTrip
  split_ifs
  exacts [answer_lawful (h.of_view (by simp [viewOf, updateTripRecord])), answer_lawful h, answer_lawful h]

theorem ownSetClock_lawful {r : Fin 16} (h : LawfulIn early s) : LawfulIn early (ownSetClock r s) := by
  unfold ownSetClock
  split_ifs
  exacts [answer_lawful (h.of_view (by simp [viewOf])), answer_lawful h]

/-- SET_BREAK, SET_AVAILABLE and NO_SHOW move the status between what no bid and no open trip stands under (R52, R53). -/
theorem moveStatus_lawful {r : Fin 16} {old new : DispatchStatus} {x : StatusReason}
    (hold : old = .available ∨ old = .onBreak ∨ old = .assigned) (hnew : new = .available ∨ new = .onBreak) (hne : new ≠ old)
    (h : LawfulIn early s) : LawfulIn early (moveStatus r old new x s) := by
  unfold moveStatus
  refine iteInduction (motive := LawfulIn early) (fun hs => answer_lawful ?_) fun _ => answer_lawful h
  have hidle : s.dsc.status ≠ .bidding := by
    rw [hs]
    rcases hold with rfl | rfl | rfl <;> decide
  have hmeter := h.hired
  have hoff := h.off
  rw [show (viewOf s).status = old from hs] at hmeter hoff
  have hclosed : ¬s.mtc.meter.tripOpen = true := fun ht => by
    have hh := hmeter.mpr ht
    rcases hold with rfl | rfl | rfl <;> exact DispatchStatus.noConfusion hh
  have hon : ¬s.mtc.meter = .off := fun ht => by
    have hh := hoff.mpr ht
    rcases hold with rfl | rfl | rfl <;> exact DispatchStatus.noConfusion hh
  have hview := viewOf_setStatus_idle (s := s) (new := new) (x := x) (h.idle hidle) (by rw [hs]; exact hne)
  have hnone : (if s.dsc.status = .assigned then none else s.oft.assignment) = none := by
    by_cases ha : s.dsc.status = .assigned
    · exact if_pos ha
    · rw [if_neg ha, no_assignment h ha]
  rw [LawfulIn, hview, hnone]
  refine h.status_goes hidle ?_ (viewOf s).meter ⟨fun hn => ?_, fun ht => absurd ht hclosed⟩ ⟨fun hn => ?_, fun ht => absurd ht hon⟩
  · rcases hnew with rfl | rfl <;> decide
  · rcases hnew with rfl | rfl <;> exact DispatchStatus.noConfusion hn
  · rcases hnew with rfl | rfl <;> exact DispatchStatus.noConfusion hn

theorem available_of_accepted {e : Fin 8} (h : acceptRefusal e s = none) : s.dsc.status = .available := by
  unfold acceptRefusal at h
  simp only at h
  split_ifs at h with _ _ _ hs
  exact not_not.mp hs

theorem ownAcceptOffer_lawful {r : Fin 16} (h : LawfulIn early s) : LawfulIn early (ownAcceptOffer r s) := by
  unfold ownAcceptOffer
  split_ifs
  · split
    next => exact answer_lawful h
    next hj => exact answer_lawful (startBid_lawful (open_of_accepted hj) (available_of_accepted hj) h)
  · exact answer_lawful h

theorem ownDeclineOffer_lawful {r : Fin 16} (h : LawfulIn early s) : LawfulIn early (ownDeclineOffer r s) := by
  unfold ownDeclineOffer declineEntry
  split_ifs
  · split
    case h_1 ho => exact answer_lawful (endOpen_lawful h ho rfl)
    all_goals exact answer_lawful h
  · exact answer_lawful h

theorem releaseEntry_lawful {e : Fin 8} (hr : releasable e s = true) (h : LawfulIn early s) : LawfulIn early (releaseEntry e s) := by
  have hfreed : viewOf (freeChain (s.oft.entries.get e).firstBlock (s.oft.entries.get e).blockCount s) = viewOf s := by simp [viewOf]
  unfold releaseEntry
  simp only
  rw [LawfulIn, viewOf_updateOffer, hfreed]
  have hstate : (s.oft.entries.get e).state.bidding = false ∧ s.oft.assignment ≠ some e := by
    unfold releasable at hr
    split at hr
    case h_5 ha => exact ⟨by rw [ha]; rfl, by simpa using hr⟩
    case h_6 hs | h_7 hs | h_8 hs | h_9 hs =>
      exact ⟨by rw [hs]; rfl, h.not_assigned (e := e) (by show (s.oft.entries.get e).state ≠ _; rw [hs]; decide)⟩
    all_goals exact absurd hr Bool.false_ne_true
  exact h.entry_settled hstate.1 hstate.2 rfl (.inr rfl)

theorem ownReleaseOffer_lawful {r : Fin 16} (h : LawfulIn early s) : LawfulIn early (ownReleaseOffer r s) := by
  unfold ownReleaseOffer
  split_ifs with _ hr
  exacts [answer_lawful (releaseEntry_lawful hr h), answer_lawful h, answer_lawful h]

theorem ownSendText_lawful {r : Fin 16} (h : LawfulIn early s) : LawfulIn early (ownSendText r s) := by
  unfold ownSendText
  exact iteInduction (motive := LawfulIn early)
    (fun _ => joinQueue_lawful (s := takeIntoWork r s) (h.of_view (by simp [viewOf, takeIntoWork]))) fun _ => answer_lawful h

theorem ownReply_lawful {r : Fin 16} (h : LawfulIn early s) : LawfulIn early (ownReply r s) := by
  unfold ownReply startReply
  split_ifs
  · refine joinQueue_lawful (s := takeIntoWork r _) (h.of_view ?_)
    simp [viewOf, takeIntoWork, updateInbox]
  all_goals exact answer_lawful h

theorem ownMarkRead_lawful {r : Fin 16} (h : LawfulIn early s) : LawfulIn early (ownMarkRead r s) := by
  unfold ownMarkRead
  split_ifs
  exacts [answer_lawful (h.of_view (by simp [viewOf, updateInbox])), answer_lawful h, answer_lawful h]

theorem ownDeleteMsg_lawful {r : Fin 16} (h : LawfulIn early s) : LawfulIn early (ownDeleteMsg r s) := by
  have hdeleted : ∀ i, LawfulIn early (deleteEntry i s) := fun i => h.of_view (by simp [viewOf, deleteEntry, updateInbox])
  unfold ownDeleteMsg
  split_ifs
  · split
    exacts [answer_lawful h, answer_lawful h, answer_lawful (hdeleted _), answer_lawful (hdeleted _), answer_lawful (hdeleted _)]
  · exact answer_lawful h

theorem ownEmergencyCancel_lawful {r : Fin 16} (h : LawfulIn early s) : LawfulIn early (ownEmergencyCancel r s) := by
  unfold ownEmergencyCancel
  split_ifs with hc
  · exact answer_lawful h
  · refine answer_lawful (cancelCall_lawful (fun hq => ?_) h)
    rw [cancellable, hq] at hc
    exact absurd hc (by decide)
  · exact answer_lawful (countWrongCode_lawful h)
  · exact answer_lawful h

theorem ownStoreTariffs_lawful {r : Fin 16} (h : LawfulIn early s) : LawfulIn early (ownStoreTariffs r s) := by
  unfold ownStoreTariffs
  split_ifs
  · exact answer_lawful h
  · exact answer_lawful h
  · exact answer_lawful h
  · split
    exacts [answer_lawful h, h.of_view (by simp [viewOf, takeIntoWork])]

theorem ownStoreSettings_lawful {r : Fin 16} (h : LawfulIn early s) : LawfulIn early (ownStoreSettings r s) := by
  unfold ownStoreSettings
  split_ifs
  exacts [answer_lawful h, h.of_view (by simp [viewOf, takeIntoWork])]

end

end Sys2Proof.Machine
end

section
/-! PROOF. The laws of the dispatch status, the bid, the assignment and the call (O8). -/

namespace Sys2Proof.Machine

open View

section
variable {s t : State} {early : Prop}

/-- The arrival of a frame keeps the laws when its delivery does; before stage 4 none arrives. -/
theorem receiveFrame_lawful {kind : Nat} {f : RxFrame} {deliver : Addressing → State → State}
    (hd : s.ale.receiver = .collecting → ∀ how t, LawfulIn early t → LawfulIn early (deliver how t)) (h : LawfulIn early s) :
    LawfulIn early (receiveFrame kind f deliver s) :=
  receiveFrame_law h (fun _ fate => h.of_view (by cases fate <;> simp [viewOf, dropFrame, countCrcError, countFormatError]))
    fun hr _ _ => hd hr _ _ h

/-- The commands of the stages, and those that end the supply. -/
def actsOnStages : Instr → Bool
  | .powerLoss | .resetNAssert | .startUp | .startupWindow | .startupRecovery | .startupRadio | .startupReady => true
  | _ => false

/-- Every other command keeps the laws, while offers arrive only after the first stages. -/
theorem effect_lawful {c : Instr} (hc : actsOnStages c = false) (hearly : s.ale.receiver = .collecting → ¬early)
    (h : LawfulIn early s) : LawfulIn early (effect c s) := by
  cases c with
  | setClock => exact takeRequest_lawful (fun _ _ => ownSetClock_lawful) h
  | meterKey => exact takeRequest_lawful (fun _ _ => ownMeterKey_lawful) h
  | addExtra => exact takeRequest_lawful (fun _ _ => ownAddExtra_lawful) h
  | selectTariff => exact takeRequest_lawful (fun _ _ => ownSelectTariff_lawful) h
  | shiftOpen => exact takeRequest_lawful (fun _ _ => ownShiftOpen_lawful) h
  | shiftClose => exact takeRequest_lawful (fun _ _ => ownShiftClose_lawful) h
  | releaseTrip => exact takeRequest_lawful (fun _ _ => ownReleaseTrip_lawful) h
  | setBreak => exact takeRequest_lawful (fun _ _ => moveStatus_lawful (by decide) (by decide) (by decide)) h
  | setAvailable => exact takeRequest_lawful (fun _ _ => moveStatus_lawful (by decide) (by decide) (by decide)) h
  | noShow => exact takeRequest_lawful (fun _ _ => moveStatus_lawful (by decide) (by decide) (by decide)) h
  | acceptOffer => exact takeRequest_lawful (fun _ _ => ownAcceptOffer_lawful) h
  | declineOffer => exact takeRequest_lawful (fun _ _ => ownDeclineOffer_lawful) h
  | releaseOffer => exact takeRequest_lawful (fun _ _ => ownReleaseOffer_lawful) h
  | sendText => exact takeRequest_lawful (fun _ _ => ownSendText_lawful) h
  | reply => exact takeRequest_lawful (fun _ _ => ownReply_lawful) h
  | markRead => exact takeRequest_lawful (fun _ _ => ownMarkRead_lawful) h
  | deleteMsg => exact takeRequest_lawful (fun _ _ => ownDeleteMsg_lawful) h
  | emergencyRaise => exact takeRequest_lawful (fun _ _ ht => answer_lawful (pressAlarm_lawful ht)) h
  | emergencyCancel => exact takeRequest_lawful (fun _ _ => ownEmergencyCancel_lawful) h
  | radioRestart =>
    exact takeRequest_lawful (fun _ _ ht => answer_lawful (restartEngine_lawful (failFrames_lawful ht))) h
  | storeTariffs => exact takeRequest_lawful (fun _ _ => ownStoreTariffs_lawful) h
  | storeSettings => exact takeRequest_lawful (fun _ _ => ownStoreSettings_lawful) h
  | time f =>
    refine receiveFrame_lawful (fun _ how t ht => ?_) h
    unfold takeTime
    split_ifs <;> exact ht.of_view (by simp [viewOf, countFormatError])
  | zoneInfo f =>
    refine receiveFrame_lawful (fun _ how t ht => ?_) h
    unfold takeZoneInfo
    split_ifs <;> exact ht.of_view (by simp [viewOf])
  | poll f => exact receiveFrame_lawful (fun _ how t ht => askLive_lawful (s := State.modDsc t _) ht) h
  | offer f => exact receiveFrame_lawful (fun hr _ _ => takeOffer_lawful (hearly hr)) h
  | award f => exact receiveFrame_lawful (fun _ _ _ => takeAward_lawful) h
  | withdraw f => exact receiveFrame_lawful (fun _ _ _ => takeWithdraw_lawful) h
  | text f => exact receiveFrame_lawful (fun _ _ _ => takeText_lawful) h
  | emergencyAck f => exact receiveFrame_lawful (fun _ _ _ => takeEmergencyAck_lawful) h
  | emergencyClear f => exact receiveFrame_lawful (fun _ _ _ => takeEmergencyClear_lawful) h
  | cycleFrame f modemReady => exact receiveFrame_lawful (fun _ _ _ => takeCycle_lawful) h
  | calendarSecondExpiry => exact iteInduction (motive := LawfulIn early) (fun _ => endCalendarSecond_lawful h) fun _ => h
  | keyPress k => exact iteInduction (motive := LawfulIn early) (fun _ => pressKey_lawful h) fun _ => h
  | alarmPress high => exact iteInduction (motive := LawfulIn early) (fun _ => judgeAlarm_lawful (s := s.modPins _) h) fun _ => h
  | positionFixPost => exact iteInduction (motive := LawfulIn early) (fun _ => writeSlotHand_lawful h) fun _ => h
  | requestPost r => exact iteInduction (motive := LawfulIn early) (fun _ => h.of_view (viewOf_writeHand _ _)) fun _ => h
  | requestCancel r => exact iteInduction (motive := LawfulIn early) (fun _ => h.of_view (viewOf_writeHand _ _)) fun _ => h
  | portReset => exact iteInduction (motive := LawfulIn early) (fun _ => h.of_view viewOf_resetPort) fun _ => h
  | storeWriteBegin => exact h.of_view otherWrites_view.2.2.2.2
  | meterCommitComplete => exact finishMeterCommit_lawful h
  | calibrationWriteComplete => exact h.of_view otherWrites_view.1
  | tariffWriteComplete => exact h.of_view otherWrites_view.2.1
  | settingsWriteComplete => exact h.of_view otherWrites_view.2.2.1
  | storeWriteFailed => exact h.of_view otherWrites_view.2.2.2.1
  | offerWindowExpiry e => exact expireOffer_lawful h
  | awardWaitExpiry e => exact expireAwardWait_lawful h
  | updateTimerExpiry => exact expireUpdateTimer_lawful h
  | fadeExpiry => exact fade_lawful h
  | lossExpiry => exact loseLink_lawful h
  | hostWindowWrite => exact hostWrite_lawful h
  | offerRemainingRewrite e => exact stepRemaining_lawful h
  | unknownKind =>
    simp only [effect]
    unfold takeUnknown
    split
    · exact h
    · split_ifs
      exacts [answer_lawful (s := leaveList _ s) h, h]
  | doneWrite data => exact iteInduction (motive := LawfulIn early) (fun _ => h.of_view (by simp [viewOf])) fun _ => h
  | pulseEdge => exact iteInduction (motive := LawfulIn early) (fun _ => h) fun _ => h
  | meterSecondExpiry => exact iteInduction (motive := LawfulIn early) (fun _ => h.of_view (by simp [viewOf])) fun _ => h
  | paymentHoldExpiry => exact iteInduction (motive := LawfulIn early) (fun _ => h) fun _ => h
  | slotStart k ready =>
    refine h.of_view ?_
    simp only [effect, startSlot, beginSlot]
    split
    · rfl
    · split
      · rfl
      · split_ifs
        · simp [viewOf]
        · rfl
        · split <;> rfl
  | transmissionEnd =>
    refine h.of_view ?_
    simp only [effect, finishTransmission]
    split <;> rfl
  | modemReadyFall =>
    exact iteInduction (motive := LawfulIn early) (fun _ => h) fun _ => h.of_view (by simp [viewOf, endTransmission])
  | txcStall => exact iteInduction (motive := LawfulIn early) (fun _ => h) fun _ => h.of_view (by simp [viewOf, endTransmission])
  | rxFrameAbandon => exact iteInduction (motive := LawfulIn early) (fun _ => h) fun _ => h
  | rxLengthFormatError n => exact iteInduction (motive := LawfulIn early) (fun _ => h) fun _ => h
  | rxFrameDropped kind f =>
    refine h.of_view ?_
    simp only [effect, takeDropped]
    split_ifs
    · split
      · rfl
      · simp only [dropFrame]
        split <;> rfl
    · rfl
  | syncFound bits =>
    exact iteInduction (motive := LawfulIn early) (fun _ => iteInduction (motive := LawfulIn early) (fun _ => h) fun _ => h) fun _ => h
  | attendRead =>
    refine h.of_view ?_
    simp only [effect, readAttend]
    split_ifs
    · split <;> rfl
    · rfl
  | calRunStart | calPointerWrite | calDataWrite | calDataRead | calStop | calBusIdleTimeout =>
    exact h.of_view (by simp [viewOf, effect])
  | powerLoss | resetNAssert | startUp | startupWindow | startupRecovery | startupRadio | startupReady =>
    exact Bool.noConfusion hc

end

/-! The stages. -/

/-- No offer stands before stage 3 has ended (R185). -/
abbrev earlyOf (s : State) : Prop := s.phase.stagesEnded < 3

theorem dispatchLaw_iff (s : State) : DispatchLaw s ↔ LawfulIn (earlyOf s) s ∧
    (s.phase.stagesEnded < 4 → s.ale.receiver = .idle) ∧
    (s.phase ≠ .ready → s.wpt.posted = [] ∧ s.ale.transmission = none ∧ s.pins.key = false) := by
  constructor
  · rintro ⟨⟨hhired, hoff⟩, ⟨hone, hbid⟩, ⟨hawarded, hassigned⟩, hcall, hempty, hidle, hready⟩
    exact ⟨⟨hhired, hoff, fun e x => hone e x, hbid, hawarded, hassigned, hcall, hempty⟩, hidle, hready⟩
  · rintro ⟨h, hidle, hready⟩
    exact ⟨⟨h.hired, h.off⟩, ⟨fun e x => h.one e x, h.bidding⟩, ⟨h.awarded, h.assigned⟩, h.call, h.empty, hidle, hready⟩

/-- What stands still before READY: no request is posted, and nothing goes on the air (R171, R185). -/
structure Still (s t : State) : Prop where
  phase : t.phase = s.phase
  posted : t.wpt.posted = s.wpt.posted
  transmission : t.ale.transmission = s.ale.transmission
  key : t.pins.key = s.pins.key
  receiver : t.ale.receiver = s.ale.receiver

section
variable {s t u : State}

theorem Still.refl (s : State) : Still s s := ⟨rfl, rfl, rfl, rfl, rfl⟩

theorem Still.trans (h : Still s t) (h' : Still t u) : Still s u :=
  ⟨h'.phase.trans h.phase, h'.posted.trans h.posted, h'.transmission.trans h.transmission, h'.key.trans h.key,
    h'.receiver.trans h.receiver⟩

theorem Still.foldl {β : Type} {f : State → β → State} (h : ∀ t x, Still t (f t x)) (xs : List β) (s : State) :
    Still s (xs.foldl f s) :=
  foldl_invariant (fun t => Still s t) f (fun t x ht => ht.trans (h t x)) xs s (.refl s)

theorem PressKept.still (h : PressKept s t) : Still s t := ⟨by simp [h], by simp [h], by simp [h], by simp [h], by simp [h]⟩

theorem MeterKept.still (h : MeterKept s t) : Still s t := ⟨by simp [h], by simp [h], by simp [h], by simp [h], by simp [h]⟩

theorem CallKept.still (h : CallKept s t) : Still s t := PressKept.still h.1

theorem FramesKept.still (h : FramesKept s t) : Still s t := PressKept.still h.1.1

theorem StatusKept.still (h : StatusKept s t) : Still s t := PressKept.still h.1

theorem AttentionKept.still (h : AttentionKept s t) : Still s t := ⟨by simp [h], by simp [h], by simp [h], by simp [h], by simp [h]⟩

/-! The air link. -/

theorem reportFirstUp_still (s : State) : Still s (reportFirstUp s) := by
  unfold reportFirstUp
  refine iteInduction (motive := Still s) (fun _ => .refl s) fun _ => ?_
  refine iteInduction (motive := Still s) (fun _ => ⟨rfl, rfl, rfl, rfl, rfl⟩) fun _ => ?_
  refine Still.trans ?_ (FramesKept.still (askLive_kept _ _))
  exact ⟨rfl, rfl, rfl, rfl, rfl⟩

theorem requeueReports_still (s : State) : Still s (requeueReports s) := FramesKept.still (requeueReports_kept _)

theorem reportUp_still (s : State) : Still s (reportUp s) := by
  have hchosen : Still s { s with choices := s.choices + 1 } := ⟨rfl, rfl, rfl, rfl, rfl⟩
  unfold reportUp
  simp only
  split_ifs
  · exact (hchosen.trans (reportFirstUp_still _)).trans (requeueReports_still _)
  · exact (hchosen.trans (requeueReports_still _)).trans (reportFirstUp_still _)
  · exact (requeueReports_still _).trans (reportFirstUp_still _)

theorem linkChange_still (x : LinkState) (s : State) : Still s (linkChange x s) := by
  have hchanged : Still s (setChannel .link (rejudge (s.modAle fun a => { a with link := x }))) :=
    ⟨by simp, by simp, by simp, by simp, by simp⟩
  unfold linkChange
  refine iteInduction (motive := Still s) (fun _ => .refl s) fun _ => hchanged.trans ?_
  cases x with
  | up => exact reportUp_still _
  | lost => exact Still.trans (StatusKept.still (loseBidToLink_kept _)) (CallKept.still (failFrames_kept _ _ _))
  | fading | hunt => exact ⟨rfl, rfl, rfl, rfl, rfl⟩

theorem takeCycleAcks_still (n : Nat) (acks : List Nat) (s : State) : Still s (takeCycleAcks n acks s) := by
  have hack : ∀ (t : State) (q : Nat), Still t (takeAck n q t) := fun t q => by
    unfold takeAck
    split
    · refine Still.trans ?_ (CallKept.still (deliverOutcome_kept _ _ _))
      exact ⟨rfl, rfl, rfl, rfl, rfl⟩
    · exact ⟨rfl, rfl, rfl, rfl, rfl⟩
  have hfail : ∀ (t : State) (q : Option Nat), Still t (failAttempt q t) := fun t q => CallKept.still (failAttempt_kept _ q)
  have hcounted : ∀ t, Still t (modFrames (fun fs => fs.map countBackoff) t) := fun t => ⟨rfl, rfl, rfl, rfl, rfl⟩
  exact ((Still.foldl hack acks s).trans (hcounted _)).trans (Still.foldl hfail _ _)

theorem handOver_still (p : Frame → Bool) (k : Nat) (m : SlotMap) (s : State) : Still s (handOver p k m s) := by
  unfold handOver
  split
  · exact .refl s
  · refine iteInduction (motive := Still s) (fun _ => ?_) fun _ => ⟨rfl, rfl, rfl, rfl, rfl⟩
    refine Still.trans ?_ (FramesKept.still (reportFirstTransmission_kept _ _).1)
    exact ⟨rfl, rfl, rfl, rfl, rfl⟩

theorem offerSlots_still (m : SlotMap) (s : State) : Still s (offerSlots m s) := by
  have hzero : Still s (sendClassZero m s).1 := by
    unfold sendClassZero
    split
    · exact .refl s
    · split
      exacts [.refl s, handOver_still _ _ _ _]
  have hhead : ∀ t, Still t (sendHead m t) := fun t => by
    unfold sendHead
    refine iteInduction (motive := Still t) (fun _ => .refl t) fun _ => ?_
    split
    · exact .refl t
    · split
      exacts [.refl t, handOver_still _ _ _ _]
  unfold offerSlots
  split_ifs
  exacts [hzero, hzero.trans (hhead _)]

theorem takeCycle_still (c : Cycle) (ready : Bool) (s : State) : Still s (takeCycle c ready s) := by
  have hwatch : Still s (startWatch (s.modAle fun a => { a with rng := stepRng a.rng })) := ⟨rfl, rfl, rfl, rfl, rfl⟩
  have hmarked : ∀ t g, (∀ a : Ale, (g a).transmission = a.transmission ∧ (g a).receiver = a.receiver) →
      Still t (t.modAle g) := fun t g hg => ⟨rfl, rfl, (hg _).1, rfl, (hg _).2⟩
  have hacks : ∀ t acks, Still t (if addressGood t then takeCycleAcks c.number acks t else t) := fun t acks =>
    iteInduction (motive := Still t) (fun _ => takeCycleAcks_still _ _ _) fun _ => .refl t
  have hready : ∀ t : State, Still t (t.modPins fun p => { p with modemReady := ready }) := fun t => ⟨rfl, rfl, rfl, rfl, rfl⟩
  have hsend : ∀ t, Still t (if ready then
      if addressGood t then offerSlots (layOutSlots c (cabAddress t)) t else t else recordFault .modemNotReady 0 t) := fun t => by
    split_ifs
    exacts [offerSlots_still _ _, .refl t, ⟨by simp, by simp, by simp, by simp, by simp⟩]
  unfold takeCycle
  refine Still.trans ?_ (hsend _)
  refine Still.trans ?_ (hready _)
  refine Still.trans ?_ (hacks _ _)
  refine Still.trans ?_ (hmarked _ _ fun _ => ⟨rfl, rfl⟩)
  exact hwatch.trans (linkChange_still .up _)

/-! Deliveries. -/

theorem takeTime_still (x : Stamp) (s : State) : Still s (takeTime x s) := by
  unfold takeTime
  refine iteInduction (motive := Still s) (fun _ => ?_) fun _ => ?_
  · refine iteInduction (motive := Still s) (fun _ => ?_) fun _ => ⟨rfl, rfl, rfl, rfl, rfl⟩
    exact Still.trans (MeterKept.still (setClockTo_kept _ x)) (AttentionKept.still (setChannel_kept _ _))
  · exact .refl s

theorem takeOffer_still (how : Addressing) (o : OfferFields) (s : State) : Still s (takeOffer how o s) := by
  have hentry : ∀ t e g, Still t (updateOffer e g t) := fun t e g => FramesKept.still (updateOffer_kept _ e g).1
  have hdetails : ∀ t e d, Still t (storeDetails e d t) := fun t e d => by
    unfold storeDetails
    simp only
    split
    · exact hentry _ _ _
    · exact ⟨by simp, by simp, by simp, by simp, by simp⟩
  unfold takeOffer
  refine iteInduction (motive := Still s) (fun _ => ⟨rfl, rfl, rfl, rfl, rfl⟩) fun _ => ?_
  refine iteInduction (motive := Still s) (fun _ => ?_) fun _ => .refl s
  split
  · exact iteInduction (motive := Still s) (fun _ => hentry _ _ _) fun _ => .refl s
  · split
    · exact (((hentry _ _ _).trans (hdetails _ _ _)).trans (hentry _ _ _)).trans (AttentionKept.still (setChannel_kept _ _))
    · exact ⟨rfl, rfl, rfl, rfl, rfl⟩

theorem endBidByBase_still (e : Fin 8) (x : OfferState) (y : OfferReason) (s : State) : Still s (endBidByBase e x y s) :=
  ((FramesKept.still (endBid_kept _ e x y none)).trans (StatusKept.still (requestStatus_kept _ _ _))).trans
    (AttentionKept.still (setChannel_kept _ _))

theorem endOffer_still (e : Fin 8) (x : OfferState) (y : OfferReason) (s : State) : Still s (endOffer e x y s) :=
  FramesKept.still (endOffer_kept _ e x y).1

theorem setChannel_still (c : Channel) (s : State) : Still s (setChannel c s) := AttentionKept.still (setChannel_kept _ c)

theorem requestStatus_still (x : DispatchStatus) (l : List DispatchStatus) (s : State) : Still s (requestStatus x l s) :=
  StatusKept.still (requestStatus_kept _ x l)

theorem withdrawOthers_still (e : Fin 8) (s : State) : Still s (withdrawOthers e s) := FramesKept.still (withdrawOthers_kept _ e).1

theorem takeOwnAward_still (e : Fin 8) (s : State) : Still s (takeOwnAward e s) := by
  have hassign : ∀ t, Still t (assign e t) := fun t => ⟨rfl, rfl, rfl, rfl, rfl⟩
  have hframe : ∀ t, Still t (endBidFrame e t) := fun t => by
    have hleft : ∀ g, Still t (modFrames g t) := fun g => ⟨rfl, rfl, rfl, rfl, rfl⟩
    unfold endBidFrame
    exact (hleft _).trans (FramesKept.still (updateOffer_kept _ e fun x => { x with bidFrame := .none }).1)
  have hbid : Still s (awardBid e s) := by
    refine Still.trans ?_ (setChannel_still _ _)
    refine Still.trans ?_ (withdrawOthers_still e _)
    refine Still.trans ?_ (requestStatus_still _ _ _)
    refine Still.trans ?_ (hassign _)
    exact (endOffer_still e .awarded .none s).trans (hframe _)
  have hlate : Still s (honourAward e s) := by
    refine Still.trans ?_ (requestStatus_still _ _ _)
    refine Still.trans ?_ (setChannel_still _ _)
    refine Still.trans ?_ (withdrawOthers_still e _)
    exact (endOffer_still e .awarded .none s).trans (hassign _)
  have hrefused : Still s (refuseAward e s) := FramesKept.still (queueRefuse_kept _ _ _)
  unfold takeOwnAward
  split
  case h_1 | h_2 => exact hbid
  case h_3 | h_4 => exact .refl s
  case h_5 | h_6 | h_7 => exact iteInduction (motive := Still s) (fun _ => hlate) fun _ => hrefused
  case h_8 | h_9 => exact hrefused

theorem takeAward_still (n a : Nat) (s : State) : Still s (takeAward n a s) := by
  have hother : ∀ e, Still s (takeOtherAward e s) := fun e => by
    unfold takeOtherAward
    split
    exacts [(endOffer_still _ _ _ _).trans (setChannel_still _ _), endBidByBase_still _ _ _ _, endBidByBase_still _ _ _ _, .refl s,
      .refl s, .refl s, .refl s, .refl s, .refl s]
  unfold takeAward
  split
  · exact iteInduction (motive := Still s) (fun _ => takeOwnAward_still _ _) fun _ => hother _
  · exact iteInduction (motive := Still s) (fun _ => FramesKept.still (queueRefuseUnknown_kept _ _ _)) fun _ => .refl s

theorem takeWithdraw_still (n : Nat) (s : State) : Still s (takeWithdraw n s) := by
  unfold takeWithdraw
  split
  · exact .refl s
  · split
    case h_1 => exact (endOffer_still _ _ _ _).trans (setChannel_still _ _)
    case h_2 | h_3 => exact endBidByBase_still _ _ _ _
    case h_4 =>
      refine Still.trans ?_ (setChannel_still _ _)
      exact iteInduction (motive := Still s) (fun _ => (endOffer_still _ _ _ _).trans (requestStatus_still _ _ _)) fun _ =>
        endOffer_still _ _ _ _
    all_goals exact .refl s

theorem takeText_still (how : Addressing) (f : TextFields) (s : State) : Still s (takeText how f s) := by
  have hreceipt : ∀ n c b t, Still t (receiptStored how n c b t) := fun n c b t => FramesKept.still (receiptStored_kept _ _ _ _ _)
  have hrefused : Still s (refuseText how f s) := by
    unfold refuseText
    refine iteInduction (motive := Still s) (fun _ => ?_) fun _ => ⟨rfl, rfl, rfl, rfl, rfl⟩
    refine Still.trans ?_ (FramesKept.still (queueReceipt_kept _ _ _ _ _))
    exact ⟨rfl, rfl, rfl, rfl, rfl⟩
  have hput : ∀ i v g a c p, Still s (messagePut i v g a how f c p s) := fun i v g a c p => by
    unfold messagePut
    cases v <;> exact ⟨by simp, by simp, by simp, by simp, by simp⟩
  have hnew : ∀ c p, Still s (takeNewMessage how f c p s) := fun c p => by
    unfold takeNewMessage
    split
    · exact hrefused
    · simp only
      split
      · exact hrefused
      · rw [storeMessage_eq]
        exact iteInduction (motive := Still s) (fun _ => (hput _ _ _ _ _ _).trans (setChannel_still _ _)) fun _ =>
          ((hput _ _ _ _ _ _).trans (setChannel_still _ _)).trans (hreceipt _ _ _ _)
  have hsecond : ∀ i, Still s (appendSecond i how f s) := fun i => by
    cases hg : judgeGrant s (s.mst.inbox.get i).cls.grantClass (blocksFor f.text.length) s.mst.freeCount with
    | none => exact appendSecond_none hg ▸ hrefused
    | some granted =>
      rw [appendSecond_some hg]
      have hadded : Still s (secondPut i f granted s) := ⟨by simp [secondPut], by simp [secondPut], by simp [secondPut], by simp [secondPut], by simp [secondPut]⟩
      exact (hadded.trans (setChannel_still _ _)).trans (hreceipt _ _ _ _)
  unfold takeText
  split
  · refine iteInduction (motive := Still s) (fun _ => ⟨rfl, rfl, rfl, rfl, rfl⟩) fun _ => ?_
    split
    · exact iteInduction (motive := Still s) (fun _ => hrefused) fun _ => hnew _ _
    · exact iteInduction (motive := Still s)
        (fun _ => iteInduction (motive := Still s) (fun _ => hsecond _) fun _ => .refl s) fun _ => hreceipt _ _ _ _
  · exact ⟨rfl, rfl, rfl, rfl, rfl⟩

/-! The other commands before READY. -/

/-- What the laws say of the receiver and of a part that is not READY (R125, R171, R185). -/
def RestLaw (s : State) : Prop :=
  (s.phase.stagesEnded < 4 → s.ale.receiver = .idle) ∧
  (s.phase ≠ .ready → s.wpt.posted = [] ∧ s.ale.transmission = none ∧ s.pins.key = false)

theorem RestLaw.of_ready (h : t.phase = .ready) : RestLaw t := by
  refine ⟨fun hs => ?_, fun hr => absurd h hr⟩
  rw [h] at hs
  exact absurd hs (by decide)

/-- A part that stands still keeps them. -/
theorem RestLaw.of_still (h : RestLaw s) (hs : Still s t) : RestLaw t := by
  refine ⟨fun hearly => hs.receiver.trans (h.1 (hs.phase ▸ hearly)), fun hno => ?_⟩
  rw [hs.posted, hs.transmission, hs.key]
  exact h.2 (hs.phase ▸ hno)

/-- The receiver moves once stage 4 has ended alone (R125). -/
theorem RestLaw.receiving (h : RestLaw s) (hr : s.ale.receiver ≠ .idle) {g : Ale → Ale}
    (hg : (g s.ale).transmission = s.ale.transmission) : RestLaw (s.modAle g) := by
  refine ⟨fun hearly => absurd (h.1 hearly) hr, fun hno => ?_⟩
  obtain ⟨hposted, hair, hkey⟩ := h.2 hno
  exact ⟨hposted, hg.trans hair, hkey⟩

/-- A delivery keeps them: the receiver has been COLLECTING. -/
theorem receiveFrame_rest {kind : Nat} {f : RxFrame} {deliver : Addressing → State → State} (hd : ∀ how t, Still t (deliver how t))
    (h : RestLaw s) : RestLaw (receiveFrame kind f deliver s) := by
  have hhunting : s.ale.receiver = .collecting → RestLaw (resumeHunting s) := fun hc =>
    h.receiving (by rw [hc]; decide) (g := fun a => { a with receiver := .hunting, window := none }) rfl
  refine receiveFrame_law h (fun hc fate => ?_) fun hc how _ => (hhunting hc).of_still (hd how _)
  refine (hhunting hc).of_still ?_
  cases fate <;> exact ⟨rfl, rfl, rfl, rfl, rfl⟩

theorem takeRequest_rest {k : RequestKind} {owner : Fin 16 → State → State} (hposted : s.wpt.posted = []) (h : RestLaw s) :
    RestLaw (takeRequest k owner s) := by
  have hsame : takeRequest k owner s = s := by rw [takeRequest, hposted]
  rwa [hsame]

theorem fade_still : Still s (fade s) := by
  have hexpired : Still s (s.modAle fun a => { a with fadeExpiry := none }) := ⟨rfl, rfl, rfl, rfl, rfl⟩
  unfold fade
  exact iteInduction (motive := Still s) (fun _ => .refl s) fun _ =>
    iteInduction (motive := Still s) (fun _ => hexpired.trans (linkChange_still _ _)) fun _ => hexpired

theorem loseLink_still : Still s (loseLink s) := by
  have hexpired : Still s (s.modAle fun a => { a with lossExpiry := none }) := ⟨rfl, rfl, rfl, rfl, rfl⟩
  unfold loseLink
  exact iteInduction (motive := Still s) (fun _ => .refl s) fun _ =>
    iteInduction (motive := Still s) (fun _ => hexpired.trans (linkChange_still _ _)) fun _ => hexpired

/-- The commands of a part that is not READY leave it at rest. -/
theorem effect_rest {c : Instr} (hc : actsOnStages c = false) (hno : s.phase ≠ .ready) (h : RestLaw s) : RestLaw (effect c s) := by
  obtain ⟨hposted, hair, hkey⟩ := h.2 hno
  have hguard : ∀ {u : State}, RestLaw (if s.phase = .ready then u else s) := fun {u} => by rwa [if_neg hno]
  cases c with
  | setClock | meterKey | addExtra | selectTariff | shiftOpen | shiftClose | releaseTrip | setBreak | setAvailable | noShow
  | acceptOffer | declineOffer | releaseOffer | sendText | reply | markRead | deleteMsg | emergencyRaise | emergencyCancel
  | radioRestart | storeTariffs | storeSettings => exact takeRequest_rest hposted h
  | positionFixPost | requestPost | requestCancel | portReset | doneWrite => exact hguard
  | time f => exact receiveFrame_rest (fun _ t => takeTime_still _ t) h
  | zoneInfo f =>
    refine receiveFrame_rest (fun _ t => ?_) h
    unfold takeZoneInfo
    split_ifs <;> exact ⟨by simp, by simp, by simp, by simp, by simp⟩
  | poll f =>
    refine receiveFrame_rest (fun _ t => ?_) h
    refine Still.trans ?_ (FramesKept.still (askLive_kept _ .pollReply))
    exact ⟨rfl, rfl, rfl, rfl, rfl⟩
  | offer f => exact receiveFrame_rest (fun _ t => takeOffer_still _ _ t) h
  | award f => exact receiveFrame_rest (fun _ t => takeAward_still _ _ t) h
  | withdraw f => exact receiveFrame_rest (fun _ t => takeWithdraw_still _ t) h
  | text f => exact receiveFrame_rest (fun _ t => takeText_still _ _ t) h
  | emergencyAck f => exact receiveFrame_rest (fun _ t => CallKept.still (takeEmergencyAck_kept t _)) h
  | emergencyClear f => exact receiveFrame_rest (fun _ t => CallKept.still (takeEmergencyClear_kept t _)) h
  | cycleFrame f modemReady => exact receiveFrame_rest (fun _ t => takeCycle_still _ _ t) h
  | pulseEdge => exact h.of_still (MeterKept.still (countPulse_kept s))
  | meterSecondExpiry =>
    exact iteInduction (motive := RestLaw) (fun _ => h.of_still ⟨by simp, by simp, by simp, by simp, by simp⟩) fun _ => h
  | calendarSecondExpiry =>
    exact iteInduction (motive := RestLaw) (fun _ => h.of_still (MeterKept.still (endCalendarSecond_kept s))) fun _ => h
  | keyPress k => exact iteInduction (motive := RestLaw) (fun _ => h.of_still (MeterKept.still (pressKey_kept s k false))) fun _ => h
  | paymentHoldExpiry => exact h.of_still (MeterKept.still (endHold_kept s))
  | storeWriteBegin => exact h.of_still ⟨by simp [effect], by simp [effect], by simp [effect], by simp [effect], by simp [effect]⟩
  | meterCommitComplete => exact h.of_still ⟨by simp [effect], by simp [effect], by simp [effect], by simp [effect], by simp [effect]⟩
  | calibrationWriteComplete => exact h.of_still ⟨by simp [effect], by simp [effect], by simp [effect], by simp [effect], by simp [effect]⟩
  | tariffWriteComplete => exact h.of_still ⟨by simp [effect], by simp [effect], by simp [effect], by simp [effect], by simp [effect]⟩
  | settingsWriteComplete => exact h.of_still ⟨by simp [effect], by simp [effect], by simp [effect], by simp [effect], by simp [effect]⟩
  | storeWriteFailed => exact h.of_still ⟨by simp [effect], by simp [effect], by simp [effect], by simp [effect], by simp [effect]⟩
  | offerWindowExpiry e =>
    exact iteInduction (motive := RestLaw)
      (fun _ => h.of_still ((endOffer_still e _ _ s).trans (setChannel_still _ _))) fun _ => h
  | awardWaitExpiry e => exact iteInduction (motive := RestLaw) (fun _ => h.of_still (endBidByBase_still e .lost .noAward s)) fun _ => h
  | alarmPress high =>
    refine iteInduction (motive := RestLaw) (fun _ => h.of_still ?_) fun _ => h
    refine Still.trans ?_ (PressKept.still (judgeAlarm_kept _))
    exact ⟨rfl, rfl, rfl, rfl, rfl⟩
  | updateTimerExpiry => exact h.of_still (CallKept.still (expireUpdateTimer_kept s))
  | rxFrameAbandon =>
    refine iteInduction (motive := RestLaw) (fun hr => ?_) fun _ => h
    exact h.receiving (by rw [hr]; decide) (g := fun a => { a with receiver := .hunting, window := none }) rfl
  | syncFound bits =>
    refine iteInduction (motive := RestLaw) (fun hr => ?_) fun _ => h
    have hbusy : s.ale.receiver ≠ .idle := by rw [hr]; decide
    exact iteInduction (motive := RestLaw) (fun _ => h.receiving hbusy (g := fun a => { a with receiver := .collecting, window := none }) rfl)
      fun _ => h.receiving hbusy (g := fun a => { a with window := some bits }) rfl
  | rxLengthFormatError n =>
    refine iteInduction (motive := RestLaw) (fun hr => ?_) fun _ => h
    have hhunting := h.receiving (by rw [hr.1]; decide) (g := fun a => { a with receiver := .hunting, window := none }) rfl
    exact hhunting.of_still ⟨rfl, rfl, rfl, rfl, rfl⟩
  | rxFrameDropped kind f =>
    simp only [effect, takeDropped]
    split_ifs with hr
    · split
      · exact h
      · have hhunting := h.receiving (by rw [hr]; decide) (g := fun a => { a with receiver := .hunting, window := none }) rfl
        refine hhunting.of_still ?_
        simp only [dropFrame]
        split <;> exact ⟨rfl, rfl, rfl, rfl, rfl⟩
    · exact h
  | slotStart k ready =>
    refine h.of_still ?_
    simp only [effect, startSlot, beginSlot]
    split
    · exact .refl s
    · split
      · exact ⟨rfl, rfl, rfl, rfl, rfl⟩
      · split_ifs with _ hsilent
        · exact ⟨by simp, by simp, by simp, by simp, by simp⟩
        · exact ⟨rfl, rfl, rfl, rfl, rfl⟩
        · exact absurd (.inl hno) hsilent
  | transmissionEnd =>
    simp only [effect, finishTransmission]
    rw [hair]
    exact h
  | modemReadyFall =>
    exact iteInduction (motive := RestLaw) (fun _ => h.of_still ⟨rfl, rfl, rfl, rfl, rfl⟩) fun hon => absurd hair hon
  | txcStall =>
    simp only [effect, cutOff]
    rw [if_pos hair]
    exact h
  | fadeExpiry => exact h.of_still fade_still
  | lossExpiry => exact h.of_still loseLink_still
  | hostWindowWrite => exact iteInduction (motive := RestLaw) (fun _ => h) fun hyes => absurd hno hyes
  | unknownKind =>
    simp only [effect, takeUnknown]
    rw [hposted]
    exact h
  | attendRead =>
    simp only [effect, readAttend]
    rw [if_neg hno]
    exact h.of_still ⟨rfl, rfl, rfl, rfl, rfl⟩
  | calRunStart | calPointerWrite | calDataWrite | calDataRead | calStop | calBusIdleTimeout =>
    exact h.of_still ⟨by simp [effect], by simp [effect], by simp [effect], by simp [effect], by simp [effect]⟩
  | offerRemainingRewrite e => exact h.of_still (FramesKept.still (stepRemaining_kept s e).1)
  | powerLoss | resetNAssert | startUp | startupWindow | startupRecovery | startupRadio | startupReady =>
    exact Bool.noConfusion hc

/-- Only the stages and the ends of the supply change the phase (R185). -/
theorem effect_phase {c : Instr} (hc : actsOnStages c = false) (s : State) : (effect c s).phase = s.phase := by
  have hrequest : ∀ k owner, (∀ r t, State.phase (owner r t) = t.phase) → (takeRequest k owner s).phase = s.phase := fun k owner ho =>
    takeRequest_law (P := fun t => t.phase = s.phase) rfl fun r rest _ _ =>
      serveRequest_law (P := fun t => t.phase = s.phase) (by simp) ((ho _ _).trans (by simp))
  cases c with
  | powerLoss | resetNAssert | startUp | startupWindow | startupRecovery | startupRadio | startupReady =>
    exact Bool.noConfusion hc
  | calRunStart | calPointerWrite | calDataWrite | calDataRead | calStop | calBusIdleTimeout =>
    exact (effect_portKept rfl s).1
  | setClock | meterKey | addExtra | selectTariff | shiftOpen | shiftClose | releaseTrip =>
    exact hrequest _ _ fun r t => by simp
  | time f =>
    exact receiveFrame_law (P := fun t => t.phase = s.phase) rfl (fun _ fate => by simp) fun _ _ _ =>
      (takeTime_still _ _).phase
  | pulseEdge => exact (MeterKept.still (countPulse_kept s)).phase
  | meterSecondExpiry => exact iteInduction (motive := fun t : State => t.phase = s.phase) (fun _ => by simp) fun _ => rfl
  | calendarSecondExpiry =>
    exact iteInduction (motive := fun t : State => t.phase = s.phase) (fun _ => (MeterKept.still (endCalendarSecond_kept s)).phase) fun _ => rfl
  | keyPress k =>
    exact iteInduction (motive := fun t : State => t.phase = s.phase) (fun _ => (MeterKept.still (pressKey_kept s k false)).phase) fun _ => rfl
  | paymentHoldExpiry => exact (MeterKept.still (endHold_kept s)).phase
  | storeWriteBegin | meterCommitComplete | calibrationWriteComplete | tariffWriteComplete | settingsWriteComplete
  | storeWriteFailed => simp [effect]
  | _ => exact (effect_blockKept rfl rfl rfl s).1.1

end

/-! The stages. -/

section
variable {s : State}

theorem View.Lawful.mono {early early' : Prop} {v : View} (h : Lawful early v) (he : early' → early) : Lawful early' v :=
  ⟨h.hired, h.off, h.one, h.bidding, h.awarded, h.assigned, h.call, fun hearly => h.empty (he hearly)⟩

/-- Before stage 3 the table is as delivered. -/
theorem viewOf_cold {early : Prop} (h : LawfulIn early s) (he : early) :
    viewOf s = { viewOf s with states := fun _ => .empty, assignment := none } := by
  have hstates : (viewOf s).states = fun _ => .empty := funext fun e => h.empty he e
  have hnone : (viewOf s).assignment = none := by
    cases ha : (viewOf s).assignment with
    | none => rfl
    | some e =>
      have hawarded := h.awarded e ha
      rw [hstates] at hawarded
      exact OfferState.noConfusion hawarded
  rw [← hstates, ← hnone]

theorem reset_hired : (viewOf State.reset).status = .hired ↔ (viewOf State.reset).meter.tripOpen = true := by decide

theorem reset_off : (viewOf State.reset).status = .offDuty ↔ (viewOf State.reset).meter = .off := by decide

theorem reset_assigned : (viewOf State.reset).assignment.isSome = true ↔ (viewOf State.reset).status = .assigned := by decide

theorem volatileCleared_dispatch (p : Phase) (s : State) : DispatchLaw (volatileCleared p s) := by
  have hempty : ∀ e, (viewOf (volatileCleared p s)).states e = .empty := fun e => by
    show (State.reset.oft.entries.get e).state = .empty
    revert e
    decide
  rw [dispatchLaw_iff]
  refine ⟨⟨reset_hired, reset_off, fun e x he => ?_, ⟨fun ⟨e, he⟩ => ?_, fun hs => DispatchStatus.noConfusion hs⟩,
    fun e he => absurd he (Option.some_ne_none e).symm, reset_assigned, fun hc => absurd rfl hc, fun _ => hempty⟩, fun _ => rfl,
    fun _ => ⟨rfl, rfl, rfl⟩⟩
  · rw [Bids, hempty] at he
    exact absurd he (by decide)
  · rw [Bids, hempty] at he
    exact absurd he (by decide)

theorem stage2_dispatch (hs : s.phase = .stage1) (h : DispatchLaw s) : DispatchLaw (stage2 s) := by
  rw [dispatchLaw_iff] at h ⊢
  obtain ⟨hlaw, hidle, hrest⟩ := h
  have hearly : earlyOf s := by
    rw [earlyOf, hs]
    decide
  have hfault : ∀ t, viewOf (recordCalInvalid t) = viewOf t := fun t => by
    unfold recordCalInvalid
    split_ifs <;> simp [viewOf]
  have hstill : ∀ t, Still t (recordCalInvalid t) := fun t => by
    exact iteInduction (motive := Still t) (fun _ => ⟨by simp, by simp, by simp, by simp, by simp⟩) fun _ => .refl t
  obtain ⟨-, hair, hkey⟩ := hrest (by rw [hs]; decide)
  have hreceiver := hidle (by rw [hs]; decide)
  have hview : viewOf (stage2 s) = viewOf s := by
    refine (hfault _).trans ?_
    rw [viewOf_cold hlaw hearly]
    have hempty : (fun e : Fin 8 => (Oft.atReset.entries.get e).state) = fun _ => .empty := funext (by decide)
    simp only [viewOf, ← hempty]
    rfl
  have hmade := hstill (((({ s with
    phase := .stage2, mem := startMemory s.cps.store, oft := Oft.atReset, mst := Mst.atStage2, wpt := Wpt.atReset,
    atc := Atc.atReset } : State).modFrc fun f => { f with clock := Stamp.atStart, clockSet := false, clockTimerRunning := true })).modMtc
    fun m => { m with windowLog := storedLog s.cps.store, windowTotals := storedTotals s.cps.store })
  refine ⟨?_, fun _ => hmade.receiver.trans hreceiver, fun _ => ⟨hmade.posted, hmade.transmission.trans hair, hmade.key.trans hkey⟩⟩
  rw [LawfulIn, hview]
  exact hlaw.mono fun _ => hearly

theorem stage3_dispatch (hs : s.phase = .stage2) (h : DispatchLaw s) : DispatchLaw (stage3 s) := by
  rw [dispatchLaw_iff] at h ⊢
  obtain ⟨hlaw, hidle, hrest⟩ := h
  have hearly : earlyOf s := by
    rw [earlyOf, hs]
    decide
  obtain ⟨hposted, hair, hkey⟩ := hrest (by rw [hs]; decide)
  have hreceiver := hidle (by rw [hs]; decide)
  have hcold := viewOf_cold hlaw hearly
  have hparts : (stage3 s).phase = .stage3 ∧ (stage3 s).oft = s.oft ∧ (stage3 s).ale = s.ale ∧ (stage3 s).wpt.posted = s.wpt.posted ∧
      (stage3 s).pins = s.pins ∧ (stage3 s).dsc.status = derivedStatus (stage3 s).mtc.meter := by
    obtain ⟨⟨hp, -, ho, -, ha, -, hw, hpins, -⟩, -⟩ := stage3_kept (s := s)
    refine ⟨hp, ho, ha, by rw [hw], hpins, ?_⟩
    unfold stage3
    simp only []
    split_ifs <;> simp [startHold]
  obtain ⟨hphase, hoft, hale, hwpt, hpins, hstatus⟩ := hparts
  have hempty : ∀ e, (viewOf (stage3 s)).states e = .empty := fun e => by
    show ((stage3 s).oft.entries.get e).state = .empty
    rw [hoft]
    exact hlaw.empty hearly e
  have hnone : (viewOf (stage3 s)).assignment = none := by
    show (stage3 s).oft.assignment = none
    rw [hoft]
    exact congrArg View.assignment hcold
  refine ⟨⟨?_, ?_, fun e x he => ?_, ⟨fun ⟨e, he⟩ => ?_, fun hb => ?_⟩, fun e he => ?_, ?_, fun _ e => ?_, fun _ => hempty⟩,
    fun _ => by rw [hale]; exact hreceiver, fun _ => by rw [hwpt, hale, hpins]; exact ⟨hposted, hair, hkey⟩⟩
  · show (stage3 s).dsc.status = _ ↔ (stage3 s).mtc.meter.tripOpen = true
    rw [hstatus]
    cases (stage3 s).mtc.meter <;> decide
  · show (stage3 s).dsc.status = _ ↔ (stage3 s).mtc.meter = _
    rw [hstatus]
    cases (stage3 s).mtc.meter <;> decide
  · rw [Bids, hempty] at he
    exact absurd he (by decide)
  · rw [Bids, hempty] at he
    exact absurd he (by decide)
  · rw [show (viewOf (stage3 s)).status = _ from hstatus] at hb
    cases hm : (stage3 s).mtc.meter <;> rw [hm] at hb <;> exact DispatchStatus.noConfusion hb
  · rw [hnone] at he
    exact absurd he (Option.some_ne_none e).symm
  · rw [hnone, show (viewOf (stage3 s)).status = _ from hstatus]
    cases (stage3 s).mtc.meter <;> decide
  · rw [hempty]
    decide

theorem stage4_dispatch (hs : s.phase = .stage3) (h : DispatchLaw s) : DispatchLaw (stage4 s) := by
  rw [dispatchLaw_iff] at h ⊢
  obtain ⟨hlaw, -, hrest⟩ := h
  obtain ⟨hposted, -, hkey⟩ := hrest (by rw [hs]; decide)
  let begun := (s.modTxq fun _ => Txq.atReset).modAle fun _ => { Ale.atReset with receiver := .hunting, rng := radioSeed s }
  have hjudged : viewOf (judgeAddressAtStart begun) = viewOf s ∧ Still begun (judgeAddressAtStart begun) := by
    unfold judgeAddressAtStart
    split_ifs
    · exact ⟨rfl, .refl _⟩
    · exact ⟨by simp [viewOf, begun], ⟨by simp, by simp, by simp, by simp, by simp⟩⟩
  let asked := if s.emc.state = .alerting then askEmergency .alert (judgeAddressAtStart begun) else judgeAddressAtStart begun
  have hasked : LawfulIn (earlyOf s) asked ∧ Still begun asked :=
    iteInduction (motive := fun t => LawfulIn (earlyOf s) t ∧ Still begun t)
      (fun _ => ⟨askEmergency_lawful (hlaw.of_view hjudged.1), hjudged.2.trans (CallKept.still (askEmergency_kept _ _))⟩)
      fun _ => ⟨hlaw.of_view hjudged.1, hjudged.2⟩
  have hdone : stage4 s = { asked with phase := .stage4 } := rfl
  have hnever : ¬(Phase.stage4.stagesEnded < 3) := by decide
  have hnot : ¬Phase.stage4.stagesEnded < 4 := by decide
  rw [hdone]
  refine ⟨hasked.1.mono fun hearly => absurd hearly hnever, fun hearly => absurd hearly hnot, fun _ => ?_⟩
  exact ⟨hasked.2.posted.trans hposted, hasked.2.transmission, hasked.2.key.trans hkey⟩

theorem stage5_dispatch (h : DispatchLaw s) : DispatchLaw (stage5 s) := by
  rw [dispatchLaw_iff] at h ⊢
  obtain ⟨hlaw, -, -⟩ := h
  have hview : viewOf (stage5 s) = viewOf s := by simp [viewOf, stage5]
  have hphase : (stage5 s).phase = .ready := by simp [stage5]
  obtain ⟨hreceiver, hready⟩ := RestLaw.of_ready hphase
  refine ⟨?_, hreceiver, hready⟩
  rw [LawfulIn, hview]
  refine hlaw.mono fun hearly => ?_
  rw [earlyOf, hphase] at hearly
  exact absurd hearly (by decide)

end

/-- Every command keeps the laws. -/
theorem effect_dispatch (c : Instr) {s : State} (h : DispatchLaw s) : DispatchLaw (effect c s) := by
  cases hc : actsOnStages c with
  | false =>
    have hphase := effect_phase hc s
    obtain ⟨hlaw, hrest⟩ := (dispatchLaw_iff s).mp h
    have hreceiver : s.ale.receiver = .collecting → ¬earlyOf s := fun hr hearly => by
      have hi := hrest.1 (hearly.trans (by decide))
      rw [hr] at hi
      exact ReceiverState.noConfusion hi
    rw [dispatchLaw_iff]
    refine ⟨?_, ?_⟩
    · rw [earlyOf, hphase]
      exact effect_lawful hc hreceiver hlaw
    · by_cases hr : s.phase = .ready
      · exact RestLaw.of_ready (hphase.trans hr)
      · exact effect_rest hc hr hrest
  | true =>
    cases c with
    | powerLoss => exact volatileCleared_dispatch _ s
    | resetNAssert => exact iteInduction (motive := DispatchLaw) (fun _ => h) fun _ => volatileCleared_dispatch _ s
    | startUp =>
      refine iteInduction (motive := DispatchLaw) (fun _ => ?_) fun _ => h
      exact volatileCleared_dispatch .stage1 s
    | startupWindow => exact iteInduction (motive := DispatchLaw) (fun hs => stage2_dispatch hs h) fun _ => h
    | startupRecovery => exact iteInduction (motive := DispatchLaw) (fun hs => stage3_dispatch hs h) fun _ => h
    | startupRadio => exact iteInduction (motive := DispatchLaw) (fun hs => stage4_dispatch hs h) fun _ => h
    | startupReady => exact iteInduction (motive := DispatchLaw) (fun _ => stage5_dispatch h) fun _ => h
    | _ => exact Bool.noConfusion hc

/-- Settles O8: every command keeps the laws of the status, the bid, the assignment and the call. -/
theorem dispatchKeepsItsLaws : Obligations.DispatchKeepsItsLaws :=
  law_step (P := DispatchLaw) (fun _ _ h => h) (fun _ h => h) fun c _ => effect_dispatch c

end Sys2Proof.Machine
end

section
/-! SUPPORT. The ranges of the queue's frames, of the next sequence number, of the queue position and of the fault ring, which
the shared operations keep (O12). -/

namespace Sys2Proof.Machine

/-- The frames and the counts of these blocks are in their ranges. -/
structure OpsRange (s : State) : Prop where
  frames : ∀ f ∈ s.txq.frames, f.inRange
  stray : s.txq.stray ≤ 65535
  dsc : s.dsc.inRange
  oft : s.oft.inRange
  mst : s.mst.inRange
  ale : s.ale.inRange
  wpt : s.wpt.inRange
  atc : s.atc.inRange
  cps : s.cps.inRange
  emc : s.emc.inRange

/-- What these ranges read. -/
def opsView (s : State) :=
  ((s.txq.frames, s.txq.stray), (s.dsc.zone, s.dsc.queuePosition, s.dsc.fixRejected), s.oft.missed,
    (s.mst.refused, s.mst.lostUnread),
    (s.ale.crcErrors, s.ale.formatErrors, s.ale.lastCycle, s.ale.rng, s.ale.sequence),
    (s.wpt.droppedWrites, s.wpt.illegalHands), s.atc.ring, s.cps.pointer,
    (s.emc.count, s.emc.presses, s.emc.wrongCodes, s.emc.code, s.emc.updateTimer))

section
variable {s t : State}

theorem OpsRange.congr (ht : opsView t = opsView s) (h : OpsRange s) : OpsRange t := by
  obtain ⟨hframes, hstray, hdsc, hoft, hmst, hale, hwpt, hatc, hcps, hemc⟩ := h
  simp only [opsView, Prod.mk.injEq] at ht
  obtain ⟨⟨efs, est⟩, ⟨ez, ep, er⟩, em, ⟨ef, el⟩, ⟨ec, eo, ey, eg, eq⟩, ⟨ed, ei⟩, ering, epointer, ent, epr, ewr, ecode, etimer⟩ := ht
  simp only [Dsc.inRange, Oft.inRange, Mst.inRange, Ale.inRange, Wpt.inRange, Atc.inRange, Cps.inRange, Emc.inRange, Emc.inRange] at hdsc hoft hmst hale hwpt hatc hcps hemc
  constructor <;>
    simp only [Dsc.inRange, Oft.inRange, Mst.inRange, Ale.inRange, Wpt.inRange, Atc.inRange, Cps.inRange, Emc.inRange, efs, est, ez, ep, er, em, ef, el,
      ec, eo, ey, eg, eq, ed, ei, ering, epointer, ent, epr, ewr, ecode, etimer] <;> assumption

theorem opsRange_iff (ht : opsView t = opsView s) : OpsRange t ↔ OpsRange s := ⟨.congr ht.symm, .congr ht⟩

@[simp] theorem setChannel_ring (c : Channel) (s : State) : (setChannel c s).atc.ring = s.atc.ring := by
  unfold setChannel
  split_ifs <;> simp

@[simp] theorem takeMatches_ring (s : State) : (takeMatches s).atc.ring = s.atc.ring := by simp [takeMatches]

@[simp] theorem rejudge_ring (s : State) : (rejudge s).atc.ring = s.atc.ring := by
  unfold rejudge
  split_ifs <;> simp

/-- A ring entry is written within its ranges (R178). -/
theorem ringSet_inRange {a : Atc} (h : a.inRange) (n : Fin 8) {x : RingEntry} (hx : x.repeats ≤ 255 ∧ x.detail ≤ 65535) :
    ∀ i, ((a.ring.set n.val x n.isLt).get i).repeats ≤ 255 ∧ ((a.ring.set n.val x n.isLt).get i).detail ≤ 65535 := fun i => by
  by_cases hi : i = n
  · subst hi
    simpa [Vector.get_eq_getElem] using hx
  · have hne : (n : Nat) ≠ i := fun he => hi (Fin.ext he.symm)
    simpa [Vector.get_eq_getElem, hne] using h i

theorem ringAfter_inRange {a : Atc} (h : a.inRange) (f : FaultId) (d n : Nat) : (ringAfter a f d n).inRange := by
  unfold ringAfter
  split
  · exact ringSet_inRange h _ ⟨satAdd_le _ _ _, Nat.min_le_left _ _⟩
  · exact ringSet_inRange h _ ⟨(by decide : 1 ≤ 255), Nat.min_le_left _ _⟩

theorem recordFault_opsRange {f : FaultId} {d : Nat} (h : OpsRange s) : OpsRange (recordFault f d s) := by
  have hring : OpsRange (s.modAtc fun a => ringAfter a f d s.frc.clock.seconds) :=
    ⟨h.frames, h.stray, h.dsc, h.oft, h.mst, h.ale, h.wpt, ringAfter_inRange h.atc f d _, h.cps, h.emc⟩
  exact hring.congr (by simp [opsView, recordFault])

theorem freeChain_ring (n m : Nat) (s : State) : (freeChain n m s).atc.ring = s.atc.ring := by
  unfold freeChain
  split_ifs <;> simp

theorem grantBlocks_ring (n : Nat) (s : State) : (grantBlocks n s).atc.ring = s.atc.ring := by
  unfold grantBlocks
  simp only
  split_ifs <;> simp

/-- The operations that leave what the ranges read. -/
@[simp] theorem kept_opsRange (s : State) :
    ((∀ f, (OpsRange (s.modFrc f) ↔ OpsRange s)) ∧ (∀ f, (OpsRange (s.modMtc f) ↔ OpsRange s)) ∧
      (∀ f, (∀ d, Dsc.SameCounts d (f d)) → (OpsRange (s.modDsc f) ↔ OpsRange s)) ∧
      (∀ f, (∀ t, (f t).missed = t.missed) → (OpsRange (s.modOft f) ↔ OpsRange s)) ∧
      (∀ f, (∀ m, Mst.SameCounts m (f m)) → (OpsRange (s.modMst f) ↔ OpsRange s)) ∧
      (∀ f, (∀ e, Emc.SameCounts e (f e)) → (OpsRange (s.modEmc f) ↔ OpsRange s)) ∧
      (∀ f, (∀ a, Ale.SameCounts a (f a)) → (OpsRange (s.modAle f) ↔ OpsRange s)) ∧
      (∀ f, (∀ w, Wpt.SameCounts w (f w)) → (OpsRange (s.modWpt f) ↔ OpsRange s)) ∧
      (∀ f, (∀ a, (f a).ring = a.ring) → (OpsRange (s.modAtc f) ↔ OpsRange s)) ∧
      (∀ f, (∀ c, (f c).pointer = c.pointer) → (OpsRange (s.modCps f) ↔ OpsRange s)) ∧ (∀ f, (OpsRange (s.modPins f) ↔ OpsRange s)) ∧
      (∀ f, (OpsRange (s.modMem f) ↔ OpsRange s)) ∧ (∀ p, OpsRange { s with phase := p } ↔ OpsRange s) ∧
      (∀ l, OpsRange { s with pending := l } ↔ OpsRange s) ∧ (∀ n, OpsRange { s with choices := n } ↔ OpsRange s) ∧
      (∀ g, (OpsRange (modTotals g s) ↔ OpsRange s)) ∧ (∀ g, (OpsRange (modTrip g s) ↔ OpsRange s)) ∧
      (∀ g, (OpsRange (modHire g s) ↔ OpsRange s))) ∧
    ((∀ c, (OpsRange (setChannel c s) ↔ OpsRange s)) ∧ (OpsRange (rejudge s) ↔ OpsRange s) ∧
      (OpsRange (takeMatches s) ↔ OpsRange s) ∧ (∀ k, (OpsRange (requestWrite k s) ↔ OpsRange s)) ∧
      (OpsRange (requestCommit s) ↔ OpsRange s) ∧ (∀ rest, (OpsRange (leaveList rest s) ↔ OpsRange s))) ∧
    ((∀ e f, (OpsRange (updateOffer e f s) ↔ OpsRange s)) ∧ (∀ i f, (OpsRange (updateInbox i f s) ↔ OpsRange s)) ∧
      (∀ e x y, (OpsRange (endOffer e x y s) ↔ OpsRange s)) ∧ (∀ t f, (OpsRange (updateTripRecord t f s) ↔ OpsRange s)) ∧
      (∀ n m, (OpsRange (freeChain n m s) ↔ OpsRange s)) ∧ (∀ n, (OpsRange (grantBlocks n s) ↔ OpsRange s))) ∧
    ((∀ n, (OpsRange (startHire n s) ↔ OpsRange s)) ∧ (OpsRange (openTrip s) ↔ OpsRange s) ∧
      (OpsRange (startHold s) ↔ OpsRange s) ∧ (OpsRange (stopHold s) ↔ OpsRange s) ∧
      (OpsRange (refreshMetres s) ↔ OpsRange s) ∧ (OpsRange (countTrip s) ↔ OpsRange s) ∧
      (∀ t r, (OpsRange (writeTripRecord t r s) ↔ OpsRange s)) ∧ (OpsRange (beginRewrite s) ↔ OpsRange s) ∧
      (OpsRange (endRewrite s) ↔ OpsRange s) ∧ (OpsRange (rewriteFareGroup s) ↔ OpsRange s)) ∧
    ((∀ x, (OpsRange (setEmergency x s) ↔ OpsRange s)) ∧ (∀ b, (OpsRange (endTransmission b s) ↔ OpsRange s))) := by
  refine ⟨⟨?_, ?_, fun f hf => ?_, fun f hf => ?_, fun f hf => ?_, fun f hf => ?_, fun f hf => ?_, fun f hf => ?_, fun f hf => ?_, fun f hf => ?_,
    ?_⟩, ?_, ?_, ?_, ?_⟩
  · exact fun _ => opsRange_iff (by simp [opsView])
  · exact fun _ => opsRange_iff (by simp [opsView])
  · exact opsRange_iff (by simpa [opsView] using hf s.dsc)
  · exact opsRange_iff (by simpa [opsView] using hf s.oft)
  · exact opsRange_iff (by simpa [opsView] using hf s.mst)
  · exact opsRange_iff (by simpa [opsView] using hf s.emc)
  · exact opsRange_iff (by simpa [opsView] using hf s.ale)
  · exact opsRange_iff (by simpa [opsView] using hf s.wpt)
  · exact opsRange_iff (by simpa [opsView] using hf s.atc)
  · exact opsRange_iff (by simpa [opsView] using hf s.cps)
  all_goals
    repeat' apply And.intro
    all_goals
      intros
      exact opsRange_iff (by simp [opsView, leaveList, endOffer, startHire, openTrip, startHold, stopHold, setEmergency,
        endTransmission, updateOffer, updateInbox, updateTripRecord,
        freeChain_ring, grantBlocks_ring, rewriteFareGroup, groupRewrite])

end

end Sys2Proof.Machine
end

section
/-! SUPPORT. The shared operations, and so all commands, keep the ranges of the frames, of the sequence number, of the queue
position and of the fault ring. -/

namespace Sys2Proof.Machine

section
variable {s : State}

/-! Frames. -/

theorem newFrame_inRange (k : UplinkKind) (os : List Origin) (b : FrameBody) : (newFrame k os b).inRange := by
  simp [newFrame, Frame.inRange]

theorem emergencyFrame_inRange (k : EmergencyKind) (s : State) : (emergencyFrame k s).inRange := by
  cases k <;> exact newFrame_inRange _ _ _

theorem insertFrame_inRange {fs : List Frame} {f : Frame} (h : ∀ g ∈ fs, g.inRange) (hf : f.inRange) :
    ∀ g ∈ insertFrame fs f, g.inRange := fun g hg => by
  rcases mem_insertFrame.mp hg with rfl | hg
  exacts [hf, h g hg]

theorem modifyFirst_inRange {fs : List Frame} {p : Frame → Bool} {f : Frame} {g : Frame → Frame} (h : ∀ x ∈ fs, x.inRange)
    (hf : fs.find? p = some f) (hg : (g f).inRange) : ∀ x ∈ modifyFirst p g fs, x.inRange := by
  obtain ⟨a, b, rfl, hmod⟩ := modifyFirst_eq g hf
  intro x hx
  rw [hmod, List.mem_append, List.mem_cons] at hx
  rcases hx with hx | rfl | hx
  exacts [h x (by simp [hx]), hg, h x (by simp [hx])]

/-- A change of the frames within their ranges. -/
theorem modFrames_opsRange {g : List Frame → List Frame} (hg : ∀ f ∈ g s.txq.frames, f.inRange) (h : OpsRange s) :
    OpsRange (modFrames g s) :=
  ⟨hg, h.stray, h.dsc, h.oft, h.mst, h.ale, h.wpt, h.atc, h.cps, h.emc⟩

/-- Frames leave the queue. -/
theorem modFrames_sublist_opsRange {g : List Frame → List Frame} (hg : ∀ fs, (g fs).Sublist fs) (h : OpsRange s) :
    OpsRange (modFrames g s) :=
  modFrames_opsRange (fun f hf => h.frames f ((hg _).subset hf)) h

theorem newestGone_opsRange {p : Frame → Bool} (h : OpsRange s) : OpsRange (modFrames (fun fs => withoutNewest fs p) s) :=
  modFrames_sublist_opsRange (fun fs => withoutNewest_sublist fs p) h

/-- An answer to a request leaves what the ranges read. -/
@[simp] theorem answers_opsRange (s : State) :
    (∀ r v, (OpsRange (setHand r v s) ↔ OpsRange s)) ∧ (∀ r x d w, (OpsRange (writeAnswer r x d w s) ↔ OpsRange s)) ∧
    (∀ r x w, (OpsRange (answer r x w s) ↔ OpsRange s)) ∧ (∀ r x y w, (OpsRange (answerWork r x y w s) ↔ OpsRange s)) := by
  have hhand : ∀ t r v, (OpsRange (setHand r v t) ↔ OpsRange t) := fun t r v => by simp [setHand]
  have hwrite : ∀ r x d w, (OpsRange (writeAnswer r x d w s) ↔ OpsRange s) := fun r x d w => by
    simp [writeAnswer, hhand]
  refine ⟨hhand s, hwrite, fun r x w => hwrite _ _ _ _, fun r x y w => ?_⟩
  unfold answerWork
  split_ifs
  exacts [hwrite _ _ _ _, hwrite _ _ _ _, Iff.rfl]

/-- The outcome of a frame moves entries, answers requests, and may be recorded as a fault. -/
theorem routeOutcome_opsRange {f : Frame} {o : TxOutcome} (h : OpsRange s) : OpsRange (routeOutcome f o s) := by
  refine foldl_invariant OpsRange _ (fun t l ht => ?_) _ _ h
  split_ifs
  · exact ht
  · unfold routeToOrigin
    split
    · cases o <;> simp [routeToRecord, ht]
    · simp [ht]
    · have hleft : ∀ u, OpsRange u → OpsRange (leaveBidding u) := fun u hu => by
        unfold leaveBidding
        split_ifs <;> simp [hu]
      unfold routeToOffer
      simp only
      split_ifs
      · exact ht
      · simp [ht]
      all_goals cases o <;> simp [ht, hleft]
    · simp [ht]
    · simp [ht]
    · exact ht
    all_goals
      split
      exacts [ht, by simp [recordFault_opsRange ht]]

theorem joinQueue_opsRange {f : Frame} (hf : f.inRange) (h : OpsRange s) : OpsRange (joinQueue f s) := by
  unfold joinQueue
  split_ifs
  · exact modFrames_opsRange (insertFrame_inRange h.frames hf) h
  · split
    next v _ =>
      have hleft := routeOutcome_opsRange (f := v) (o := .failed .displaced)
        (newestGone_opsRange (p := displaceable s.txq.frames f.cls) h)
      exact modFrames_opsRange (insertFrame_inRange hleft.frames hf) hleft
    next => exact routeOutcome_opsRange h

theorem askLive_opsRange {k : UplinkKind} (h : OpsRange s) : OpsRange (askLive k s) := by
  unfold askLive
  split_ifs
  exacts [h, joinQueue_opsRange (newFrame_inRange _ _ _) h]

theorem askStatusFrame_opsRange {x} (h : OpsRange s) : OpsRange (askStatusFrame x s) := askLive_opsRange (by simp [h])

theorem askEmergency_opsRange {k : EmergencyKind} (h : OpsRange s) : OpsRange (askEmergency k s) := by
  unfold askEmergency
  split
  · exact joinQueue_opsRange (emergencyFrame_inRange k s) h
  · split_ifs
    · simp [h]
    · exact h
    · exact modFrames_opsRange (insertFrame_inRange (fun f hf => h.frames f (List.eraseP_subset hf)) (emergencyFrame_inRange k s)) h

theorem removeWaiting_opsRange {p : Frame → Bool} (h : OpsRange s) : OpsRange (removeWaiting p s) := by
  unfold removeWaiting
  split_ifs
  exacts [newestGone_opsRange h, h]

theorem detachOrigin_opsRange {o : Origin} (h : OpsRange s) : OpsRange (detachOrigin o s) := by
  refine modFrames_opsRange (fun f hf => ?_) h
  obtain ⟨g, hg, rfl⟩ := List.mem_map.mp (List.mem_of_mem_filter hf)
  exact h.frames g hg

theorem portResetQueue_opsRange (h : OpsRange s) : OpsRange (portResetQueue s) := by
  refine foldl_invariant OpsRange _ (fun t f ht => foldl_invariant OpsRange _ (fun u l hu => ?_) _ _ ht) _ _
    (modFrames_opsRange (fun f hf => ?_) h)
  · split <;> simpa using hu
  · obtain ⟨g, hg, rfl⟩ := List.mem_map.mp hf
    exact h.frames g (List.mem_of_mem_filter hg)

/-- The asks of frames. -/
theorem asks_opsRange (h : OpsRange s) :
    (∀ t, OpsRange (queueTripFrame t s)) ∧ OpsRange (queueShiftFrame s) ∧
    (∀ e x, OpsRange (queueRefuse e x s)) ∧ (∀ n x, OpsRange (queueRefuseUnknown n x s)) ∧
    (∀ n c a b, OpsRange (queueReceipt n c a b s)) := by
  refine ⟨fun t => joinQueue_opsRange (newFrame_inRange _ _ _) h, joinQueue_opsRange (newFrame_inRange _ _ _) (by simp [h]),
    fun e x => ?_, fun n x => joinQueue_opsRange (newFrame_inRange _ _ _) h,
    fun n c a b => joinQueue_opsRange (newFrame_inRange _ _ _) h⟩
  unfold queueRefuse
  simp only
  split_ifs
  exacts [h, joinQueue_opsRange (newFrame_inRange _ _ _) (by simp [h])]

/-! Bids and the status. -/

theorem settleBid_opsRange {e : Fin 8} {c : Option RefuseReason} (h : OpsRange s) : OpsRange (settleBid e c s) := by
  have hremoved : ∀ t : State, OpsRange t → ∀ bf p, OpsRange (if bf = BidFrame.none then t else removeWaiting p t) :=
    fun t ht bf p => by split_ifs; exacts [ht, removeWaiting_opsRange ht]
  have hleft : OpsRange (if (s.oft.entries.get e).bidFrame = BidFrame.none then _ else removeWaiting
      (isBidOf e (s.oft.entries.get e).number) (updateOffer e (fun x => { x with
      awardRemaining := 0,
      bidFrame := bidFrameAfter (s.oft.entries.get e).bidFrame
        (removalOf s.txq.frames (isBidOf e (s.oft.entries.get e).number)) }) s)) := hremoved _ (by simp [h]) _ _
  unfold settleBid
  cases c with
  | none => exact hleft
  | some reason => exact iteInduction (fun _ => (asks_opsRange hleft).2.2.1 e reason) fun _ => hleft

theorem endBid_opsRange {e x y c} (h : OpsRange s) : OpsRange (endBid e x y c s) :=
  settleBid_opsRange (by simp [h])

theorem streetHire_opsRange (h : OpsRange s) : OpsRange (streetHire s) := by
  unfold streetHire
  split
  · simp [endBid_opsRange h]
  · exact h

theorem setStatus_opsRange {x y} (h : OpsRange s) : OpsRange (setStatus x y s) := by
  have hreport : ∀ t : State, OpsRange t → ∀ old new, OpsRange (reportStatus old new t) := fun t ht old new => by
    have hnone : OpsRange (if old = .assigned then t.modOft fun o => { o with assignment := none } else t) := by
      split_ifs <;> simp [ht]
    exact iteInduction (fun _ => streetHire_opsRange hnone) fun _ => hnone
  have hasked : ∀ t : State, OpsRange t → OpsRange (setChannel .status (askStatusFrame y t)) := fun t ht => by
    simp [askStatusFrame_opsRange ht]
  have hmoved : OpsRange (rejudge (s.modDsc fun d =>
      { d with status := x, queuePosition := if s.dsc.status = .available then 0 else d.queuePosition })) := by
    obtain ⟨hzone, hposition, hrejected⟩ := h.dsc
    refine (kept_opsRange _).2.1.2.1.mpr ⟨h.frames, h.stray, ⟨hzone, ?_, hrejected⟩, h.oft, h.mst, h.ale, h.wpt, h.atc, h.cps, h.emc⟩
    show (if s.dsc.status = .available then 0 else s.dsc.queuePosition) ≤ 255
    split_ifs
    exacts [Nat.zero_le _, hposition]
  unfold setStatus
  exact iteInduction (fun _ => h) fun _ => hreport _ (iteInduction (fun _ => hasked _ hmoved) fun _ => hmoved) _ _

theorem requestStatus_opsRange {x l} (h : OpsRange s) : OpsRange (requestStatus x l s) := by
  unfold requestStatus
  split_ifs
  exacts [setStatus_opsRange h, h]

/-! The meter. -/

theorem closePulses_opsRange (h : OpsRange s) : OpsRange (closePulses s) := by
  have hdiscarded : OpsRange (discardExcess s) := by
    unfold discardExcess
    simp only
    split_ifs <;> simp [h, recordFault_opsRange]
  have hassigned : OpsRange (assignPulses (usedPulses s) (discardExcess s)) := by
    unfold assignPulses
    split <;> simp [hdiscarded]
  simp [closePulses, hassigned]

theorem settle_opsRange (h : OpsRange s) : OpsRange (settle s) := by
  unfold settle
  simp only
  split_ifs <;> simp [takeDrops, h]

theorem endMeterSecond_opsRange (h : OpsRange s) : OpsRange (endMeterSecond s) := by
  have hcounted : OpsRange (countSecond (closePulses s)) := by
    unfold countSecond
    split <;> simp [closePulses_opsRange h]
  have hcharged : ∀ n t, OpsRange t → OpsRange (chargeExpiry n t) := fun n t ht => by
    unfold chargeExpiry chargeSecond
    split_ifs
    exacts [ht, settle_opsRange (by simp [ht]), ht]
  unfold endMeterSecond
  simp only
  split_ifs <;> simp [hcharged, hcounted]

theorem evaluateSchedule_opsRange (h : OpsRange s) : OpsRange (evaluateSchedule s) := by
  have hsettled : ∀ t, OpsRange t → OpsRange (settleSwitch t) := fun t ht => by
    unfold settleSwitch
    split_ifs
    exacts [by simp [ht], settle_opsRange ht]
  have hswitched : ∀ n t, OpsRange t → OpsRange (switchTariff n t) := fun n t ht => by
    unfold switchTariff
    split_ifs
    exacts [ht, by simp [hsettled, replaceRates, ht], recordFault_opsRange ht]
  have hchanged : ∀ n, OpsRange (changeSchedule n s) := fun n => by
    unfold changeSchedule
    split <;> (try split_ifs) <;> simp [hswitched, h]
  unfold evaluateSchedule
  split_ifs
  exacts [h, hchanged _]

theorem meterChange_opsRange {x} (h : OpsRange s) : OpsRange (meterChange x s) := by
  have hreport : ∀ t : State, OpsRange t → ∀ old, OpsRange (reportMeter old x t) := fun t ht old => by
    unfold reportMeter
    split
    exacts [setStatus_opsRange ht, setStatus_opsRange ht, setStatus_opsRange ht, setStatus_opsRange ht, ht]
  have hmoved : OpsRange (rewriteFareGroup (rejudge ((closePulses s).modMtc fun m => { m with meter := x }))) := by
    simp [closePulses_opsRange h]
  unfold meterChange
  simp [hreport _ hmoved]

theorem closeTrip_opsRange (h : OpsRange s) : OpsRange (closeTrip s) := by
  have hlost : ∀ t e, OpsRange t → OpsRange (loseTrip e t) := fun t e ht => by
    unfold loseTrip
    simp only
    split_ifs
    exacts [detachOrigin_opsRange (by simp [ht]), by simp [ht]]
  unfold closeTrip
  simp only
  split_ifs <;> simp [hlost, h]

/-! Outcomes with their origins, and the link. -/

/-- A change of the call's counts within their ranges. -/
theorem modEmc_opsRange {g : Emc → Emc} (hg : (g s.emc).inRange) (h : OpsRange s) : OpsRange (s.modEmc g) :=
  ⟨h.frames, h.stray, h.dsc, h.oft, h.mst, h.ale, h.wpt, h.atc, h.cps, hg⟩

theorem startUpdateTimer_opsRange (h : OpsRange s) : OpsRange (startUpdateTimer s) := by
  obtain ⟨hcount, hpresses, hwrong, hcode, -⟩ := h.emc
  exact modEmc_opsRange ⟨hcount, hpresses, hwrong, hcode, fun n hn => by
    obtain rfl := Option.some.inj hn
    exact ⟨le_clamp, clamp_le (by decide)⟩⟩ h

theorem stopUpdateTimer_opsRange (h : OpsRange s) : OpsRange (stopUpdateTimer s) := by
  obtain ⟨hcount, hpresses, hwrong, hcode, -⟩ := h.emc
  exact modEmc_opsRange ⟨hcount, hpresses, hwrong, hcode, fun _ hn => absurd hn.symm (Option.some_ne_none _)⟩ h

theorem countPress_opsRange (h : OpsRange s) : OpsRange (countPress s) := by
  obtain ⟨hcount, -, hwrong, hcode, htimer⟩ := h.emc
  exact modEmc_opsRange ⟨hcount, satAdd_le _ _ _, hwrong, hcode, htimer⟩ h

theorem countWrongCode_opsRange (hfew : s.emc.wrongCodes < 3) (h : OpsRange s) : OpsRange (countWrongCode s) := by
  obtain ⟨hcount, hpresses, -, hcode, htimer⟩ := h.emc
  have hcounted : OpsRange (s.modEmc fun e => { e with wrongCodes := e.wrongCodes + 1 }) :=
    modEmc_opsRange ⟨hcount, hpresses, hfew, hcode, htimer⟩ h
  exact iteInduction (motive := OpsRange) (fun _ => askEmergency_opsRange (by simp [hcounted])) fun _ => hcounted

theorem returnToQuiet_opsRange (h : OpsRange s) : OpsRange (returnToQuiet s) := by
  have hset : OpsRange (setEmergency .quiet s) := by simp [h]
  have hstopped : OpsRange ((setEmergency .quiet s).modEmc fun e => { e with updateTimer := none, owed := none }) := by
    obtain ⟨hcount, hpresses, hwrong, hcode, -⟩ := hset.emc
    exact modEmc_opsRange ⟨hcount, hpresses, hwrong, hcode, fun _ hn => absurd hn.symm (Option.some_ne_none _)⟩ hset
  have hremoved := removeWaiting_opsRange (p := fun f => f.cls == 0) hstopped
  obtain ⟨hcount, hpresses, -, hcode, htimer⟩ := hremoved.emc
  exact modEmc_opsRange (g := fun e => { e with wrongCodes := 0, duress := false })
    ⟨hcount, hpresses, Nat.zero_le _, hcode, htimer⟩ hremoved

theorem deliverOutcome_opsRange {f o} (h : OpsRange s) : OpsRange (deliverOutcome f o s) := by
  have howed : ∀ t : State, OpsRange t → OpsRange (queueOwed t) := fun t ht => by
    unfold queueOwed
    split
    exacts [askEmergency_opsRange (by simp [ht]), ht]
  have houtcome : OpsRange (emergencyOutcome f.kind o s) := by
    unfold emergencyOutcome
    split
    exacts [startUpdateTimer_opsRange h, askEmergency_opsRange h, returnToQuiet_opsRange h, askEmergency_opsRange h, h]
  unfold deliverOutcome
  split_ifs
  exacts [howed _ houtcome, routeOutcome_opsRange h]

theorem failFrames_opsRange {g x} (h : OpsRange s) : OpsRange (failFrames g x s) :=
  foldl_invariant OpsRange _ (fun _ _ ht => deliverOutcome_opsRange ht) _ _
    (modFrames_sublist_opsRange (fun _ => List.filter_sublist) h)

theorem requeueReports_opsRange (h : OpsRange s) : OpsRange (requeueReports s) := by
  have hone : ∀ (t : State) (e : Fin 24), OpsRange t → OpsRange (requeueTrip e t) := fun t e ht => by
    unfold requeueTrip
    split_ifs
    exacts [(asks_opsRange (by simp [ht])).1 _, ht]
  have htrips : OpsRange (if tripReporting s then s.mtc.ageOrder.foldl (fun t e => requeueTrip e t) s else s) :=
    iteInduction (fun _ => foldl_invariant OpsRange _ (fun t e ht => hone t e ht) _ _ h) fun _ => h
  unfold requeueReports
  exact iteInduction (fun _ => (asks_opsRange htrips).2.1) fun _ => htrips

theorem reportUp_opsRange (h : OpsRange s) : OpsRange (reportUp s) := by
  have hfirst : ∀ t : State, OpsRange t → OpsRange (reportFirstUp t) := fun t ht => by
    unfold reportFirstUp
    simp only
    split_ifs
    exacts [ht, by simp [ht], askLive_opsRange (by simp [ht])]
  have hchosen : OpsRange { s with choices := s.choices + 1 } := by simp [h]
  unfold reportUp
  simp only
  split_ifs
  exacts [requeueReports_opsRange (hfirst _ hchosen), hfirst _ (requeueReports_opsRange hchosen),
    hfirst _ (requeueReports_opsRange h)]

theorem linkChange_opsRange {x} (h : OpsRange s) : OpsRange (linkChange x s) := by
  have hlost : ∀ t : State, OpsRange t → OpsRange (loseBidToLink t) := fun t ht => by
    unfold loseBidToLink
    split
    · simp [requestStatus_opsRange (endBid_opsRange ht)]
    · exact ht
  unfold linkChange
  split_ifs
  · exact h
  · cases x with
    | up => exact reportUp_opsRange (by simp [h])
    | lost => exact failFrames_opsRange (hlost _ (by simp [h]))
    | fading | hunt => simp [dropAssignments, h]

/-! A cycle. -/

theorem backoffBound_le (a : Nat) : backoffBound a ≤ 15 := Nat.min_le_right _ _

theorem randomUpTo_le (s : State) (m : Nat) : randomUpTo s m ≤ m := Nat.le_of_lt_succ (Nat.mod_lt _ (Nat.succ_pos m))

theorem failAttempt_opsRange {q} (h : OpsRange s) : OpsRange (failAttempt q s) := by
  unfold failAttempt
  split
  next => exact h
  next f hf =>
    have hgone : OpsRange (modFrames (fun fs => fs.eraseP (inFlightWith q)) s) :=
      modFrames_sublist_opsRange (fun fs => List.eraseP_sublist) h
    have hretry : ∀ b ≤ 15, OpsRange (modFrames (modifyFirst (inFlightWith q) fun g =>
        { g with attempts := satAdd 255 f.attempts 1, backoff := b, inFlight := false }) s) := fun b hb => by
      obtain ⟨-, -, hcycle, hsequence⟩ := h.frames f (List.mem_of_find?_eq_some hf)
      exact modFrames_opsRange (modifyFirst_inRange h.frames hf ⟨Nat.min_le_left _ _, hb, hcycle, hsequence⟩) h
    simp only
    split_ifs
    exacts [hretry _ (Nat.zero_le _), hgone, deliverOutcome_opsRange hgone, hgone,
      hretry _ ((randomUpTo_le s _).trans (backoffBound_le _))]

theorem takeAck_opsRange {n q} (h : OpsRange s) : OpsRange (takeAck n q s) := by
  unfold takeAck
  split
  · exact deliverOutcome_opsRange (modFrames_sublist_opsRange (fun fs => List.eraseP_sublist) h)
  · exact ⟨h.frames, satAdd_le _ _ _, h.dsc, h.oft, h.mst, h.ale, h.wpt, h.atc, h.cps, h.emc⟩

theorem takeCycleAcks_opsRange {n acks} (h : OpsRange s) : OpsRange (takeCycleAcks n acks s) := by
  have hacks := foldl_invariant OpsRange (fun t q => takeAck n q t) (fun t q ht => takeAck_opsRange ht) acks s h
  have hcounted : OpsRange (modFrames (fun fs => fs.map countBackoff) (acks.foldl (fun t q => takeAck n q t) s)) := by
    refine modFrames_opsRange (fun f hf => ?_) hacks
    obtain ⟨g, hg, rfl⟩ := List.mem_map.mp hf
    obtain ⟨hattempts, hbackoff, hcycle, hsequence⟩ := hacks.frames g hg
    unfold countBackoff
    split_ifs
    exacts [⟨hattempts, hbackoff, hcycle, hsequence⟩,
      ⟨hattempts, (Nat.sub_le _ _).trans hbackoff, hcycle, hsequence⟩]
  exact foldl_invariant OpsRange _ (fun t q ht => failAttempt_opsRange ht) _ _ hcounted

/-- The next free sequence number is of four bits (R141). -/
theorem freeSequence_le (h : s.ale.sequence ≤ 15) : freeSequence s ≤ 15 := by
  unfold freeSequence
  cases hf : ((List.range 16).map fun i => (s.ale.sequence + i) % 16).find? fun q =>
      !(s.txq.frames.any fun f => f.sequence == some q) with
  | none => exact h
  | some q =>
    obtain ⟨i, -, rfl⟩ := List.mem_map.mp (List.mem_of_find?_eq_some hf)
    exact Nat.le_of_lt_succ (Nat.mod_lt _ (by decide))

theorem handOver_opsRange {p k} {m : SlotMap} (hm : m.number ≤ 255) (h : OpsRange s) : OpsRange (handOver p k m s) := by
  unfold handOver
  split
  next => exact h
  next f hf =>
    obtain ⟨hattempts, hbackoff, -, hsequence⟩ := h.frames f (List.mem_of_find?_eq_some hf)
    obtain ⟨hcrc, hformat, hcycle, hrng, hfree⟩ := h.ale
    have hq : f.sequence.getD (freeSequence s) ≤ 15 := by
      cases hs : f.sequence with
      | none => exact freeSequence_le hfree
      | some q => exact hsequence q hs
    have hsent : OpsRange (modFrames (modifyFirst p fun g =>
        { g with inFlight := true, sendingCycle := m.number, sequence := some (f.sequence.getD (freeSequence s)) }) s) :=
      modFrames_opsRange (modifyFirst_inRange h.frames hf
        ⟨hattempts, hbackoff, hm, fun q hs => Option.some.inj hs ▸ hq⟩) h
    have hmoved : ∀ l : List Assignment, OpsRange ((modFrames (modifyFirst p fun g =>
        { g with inFlight := true, sendingCycle := m.number, sequence := some (f.sequence.getD (freeSequence s)) }) s).modAle
        fun a => { a with assignments := a.assignments ++ l, sequence := if f.sequence = none then
          (f.sequence.getD (freeSequence s) + 1) % 16 else a.sequence }) := fun l => by
      refine ⟨hsent.frames, h.stray, h.dsc, h.oft, h.mst, ⟨hcrc, hformat, hcycle, hrng, ?_⟩, h.wpt, h.atc, h.cps, h.emc⟩
      show (if f.sequence = none then (f.sequence.getD (freeSequence s) + 1) % 16 else s.ale.sequence) ≤ 15
      split_ifs
      exacts [Nat.le_of_lt_succ (Nat.mod_lt _ (by decide)), hfree]
    have hreported : ∀ t, OpsRange t → OpsRange (reportFirstTransmission f t) := fun t ht =>
      foldl_invariant OpsRange _ (fun u l hu => by split <;> (try split_ifs) <;> simp [hu]) _ _ ht
    exact iteInduction (fun _ => hreported _ (hmoved _)) fun _ => hmoved _

theorem offerSlots_opsRange {m : SlotMap} (hm : m.number ≤ 255) (h : OpsRange s) : OpsRange (offerSlots m s) := by
  have hzero : OpsRange (sendClassZero m s).1 := by
    unfold sendClassZero
    split
    · exact h
    · split
      exacts [h, handOver_opsRange hm h]
  have hhead : ∀ t : State, OpsRange t → OpsRange (sendHead m t) := fun t ht => by
    unfold sendHead
    split_ifs
    · exact ht
    · split
      · exact ht
      · split
        exacts [ht, handOver_opsRange hm ht]
  unfold offerSlots
  split_ifs
  exacts [hzero, hhead _ hzero]

/-! Presses and texts. -/

theorem withdrawForEmergency_opsRange (h : OpsRange s) : OpsRange (withdrawForEmergency s) := by
  have hopen := foldl_invariant OpsRange (fun t e =>
      if (t.oft.entries.get e).state = .open then setChannel .offerResult (endOffer e .withdrawn .emergency t) else t)
    (fun t e ht => by split_ifs <;> simp [ht]) offerIndices s h
  unfold withdrawForEmergency
  simp only
  split
  · exact requestStatus_opsRange (by simp [endBid_opsRange hopen])
  · exact hopen

theorem pressAlarm_opsRange (h : OpsRange s) : OpsRange (pressAlarm s) := by
  have hpressed := countPress_opsRange h
  have hcalled : OpsRange (s.modEmc fun e => { e with count := satAdd u16Max e.count 1, presses := 1, code := cancelCode s }) := by
    obtain ⟨-, -, hwrong, -, htimer⟩ := h.emc
    exact modEmc_opsRange ⟨satAdd_le _ _ _, (by decide : 1 ≤ 255), hwrong, clamp_le (by decide), htimer⟩ h
  unfold pressAlarm raiseCall
  split
  · exact withdrawForEmergency_opsRange (askEmergency_opsRange (by simp [hcalled]))
  · exact stopUpdateTimer_opsRange (askEmergency_opsRange hpressed)
  · exact startUpdateTimer_opsRange (askEmergency_opsRange hpressed)
  · exact withdrawForEmergency_opsRange (askEmergency_opsRange (by simp [hpressed]))

theorem receiptStored_opsRange {how n c a} (h : OpsRange s) : OpsRange (receiptStored how n c a s) := by
  unfold receiptStored
  split_ifs
  exacts [(asks_opsRange h).2.2.2.2 _ _ _ _, h]

theorem takeText_opsRange {how f} (h : OpsRange s) : OpsRange (takeText how f s) := by
  have hrefused : OpsRange (refuseText how f s) := by
    have hcounted : OpsRange (s.modMst fun m => { m with refused := satAdd u16Max m.refused 1 }) :=
      ⟨h.frames, h.stray, h.dsc, h.oft, ⟨satAdd_le _ _ _, h.mst.2⟩, h.ale, h.wpt, h.atc, h.cps, h.emc⟩
    exact iteInduction (motive := OpsRange) (fun _ => (asks_opsRange hcounted).2.2.2.2 _ _ _ _) fun _ => hcounted
  have hput : ∀ i v g n c p, OpsRange (storeMessage i v g n how f c p s) := fun i v g n c p => by
    have hvictim : OpsRange (replaceVictim i s) := by
      have hfreed : OpsRange (freeChain (s.mst.inbox.get i).firstBlock (s.mst.inbox.get i).blockCount s) := by simp [h]
      obtain ⟨hrefusals, hlost⟩ := hfreed.mst
      refine ⟨hfreed.frames, hfreed.stray, hfreed.dsc, hfreed.oft, ⟨hrefusals, ?_⟩, hfreed.ale, hfreed.wpt, hfreed.atc, hfreed.cps, hfreed.emc⟩
      exact iteInduction (motive := fun n => n ≤ 65535) (fun _ => satAdd_le _ _ _) fun _ => hlost
    have hreplaced : OpsRange (if v then replaceVictim i s else s) :=
      iteInduction (motive := OpsRange) (fun _ => hvictim) fun _ => h
    unfold storeMessage
    generalize (if v then replaceVictim i s else s) = u at hreplaced
    have hstored : ∀ x, OpsRange (setChannel c.channel (updateInbox i (fun _ => x) (((grantBlocks g u).modMem
        (fillBlocks (grantedBlocks u g) (f.text.take (30 * g)))).modMst fun m => { m with storeOrder := m.storeOrder ++ [i] }))) :=
      fun x => by simp [hreplaced]
    exact iteInduction (motive := OpsRange) (fun _ => hstored _) fun _ => receiptStored_opsRange (hstored _)
  have hnew : ∀ c p, OpsRange (takeNewMessage how f c p s) := fun c p => by
    unfold takeNewMessage
    split
    · exact hrefused
    · simp only
      split
      exacts [hrefused, hput _ _ _ _ _ _]
  have hsecond : ∀ i, OpsRange (appendSecond i how f s) := fun i => by
    unfold appendSecond
    simp only
    split
    exacts [hrefused, receiptStored_opsRange (by simp [h])]
  have herror : OpsRange (countFormatError s) := by
    obtain ⟨hcrc, -, hcycle, hrng, hsequence⟩ := h.ale
    exact ⟨h.frames, h.stray, h.dsc, h.oft, h.mst, ⟨hcrc, satAdd_le _ _ _, hcycle, hrng, hsequence⟩, h.wpt, h.atc, h.cps, h.emc⟩
  unfold takeText
  split
  · refine iteInduction (fun _ => herror) fun _ => ?_
    split
    · exact iteInduction (fun _ => hrefused) fun _ => hnew _ _
    · exact iteInduction (fun _ => iteInduction (fun _ => hsecond _) fun _ => h) fun _ => receiptStored_opsRange h
  · exact herror

theorem storeDetails_opsRange {e d} (h : OpsRange s) : OpsRange (storeDetails e d s) := by
  unfold storeDetails
  simp only
  split <;> simp [h]

end

/-- The shared operations keep these ranges. -/
theorem opsRange_opsKeep : OpsKeep OpsRange where
  kept s := by
    obtain ⟨⟨-, -, hdsc, hoft, hmst, hemc, hale, hwpt, hatc, hcps, -⟩, -⟩ := kept_opsRange s
    simpa using ⟨hdsc, hoft, hmst, hemc, hale, hwpt, hatc, hcps⟩
  shared s h := by
    exact ⟨⟨by simp [h], by simp [h], by simp [h], by simp [h], by simp [h], fun _ _ => storeDetails_opsRange h,
        fun _ _ => takeText_opsRange h, fun _ _ => recordFault_opsRange h, evaluateSchedule_opsRange h, endMeterSecond_opsRange h⟩,
      ⟨fun f hf => ⟨h.frames, h.stray, hf _ h.dsc, h.oft, h.mst, h.ale, h.wpt, h.atc, h.cps, h.emc⟩,
        fun f hf => ⟨h.frames, h.stray, h.dsc, hf _ h.oft, h.mst, h.ale, h.wpt, h.atc, h.cps, h.emc⟩,
        fun f hf => ⟨h.frames, h.stray, h.dsc, h.oft, hf _ h.mst, h.ale, h.wpt, h.atc, h.cps, h.emc⟩,
        fun f hf => ⟨h.frames, h.stray, h.dsc, h.oft, h.mst, hf _ h.ale, h.wpt, h.atc, h.cps, h.emc⟩,
        fun f hf => ⟨h.frames, h.stray, h.dsc, h.oft, h.mst, h.ale, hf _ h.wpt, h.atc, h.cps, h.emc⟩,
        fun f hf => ⟨h.frames, h.stray, h.dsc, h.oft, h.mst, h.ale, h.wpt, hf _ h.atc, h.cps, h.emc⟩,
        fun f hf => ⟨h.frames, h.stray, h.dsc, h.oft, h.mst, h.ale, h.wpt, h.atc, hf _ h.cps, h.emc⟩,
        fun f hf => modEmc_opsRange (hf _ h.emc) h, fun hfew => countWrongCode_opsRange hfew h⟩,
      ⟨fun _ => joinQueue_opsRange (newFrame_inRange _ _ _) h, fun _ _ _ _ _ => joinQueue_opsRange (newFrame_inRange _ _ _) h,
        askLive_opsRange h, fun _ => askStatusFrame_opsRange h, fun _ => removeWaiting_opsRange h,
        fun _ => newestGone_opsRange h, fun _ => detachOrigin_opsRange h, (asks_opsRange h).2.2.1, (asks_opsRange h).2.2.2.1,
        (asks_opsRange h).1, (asks_opsRange h).2.1, portResetQueue_opsRange h,
        ⟨fun _ hf => absurd hf List.not_mem_nil, Nat.zero_le _, h.dsc, h.oft, h.mst, h.ale, h.wpt, h.atc, h.cps, h.emc⟩⟩,
      ⟨fun _ _ _ _ => endBid_opsRange h, fun _ _ => requestStatus_opsRange h, fun _ _ => setStatus_opsRange h,
        fun _ => meterChange_opsRange h, closeTrip_opsRange h⟩,
      ⟨fun _ => askEmergency_opsRange h, returnToQuiet_opsRange h, pressAlarm_opsRange h, fun _ _ => failFrames_opsRange h,
        fun _ => linkChange_opsRange h, fun _ _ => takeCycleAcks_opsRange h, fun _ hm => offerSlots_opsRange hm h⟩⟩
  memory s g _ h := by simp [h]
  cleared p s := ⟨fun _ hf => absurd hf List.not_mem_nil, Nat.zero_le _, ⟨Nat.zero_le _, Nat.zero_le _, Nat.zero_le _⟩,
    Nat.zero_le _, ⟨Nat.zero_le _, Nat.zero_le _⟩,
    ⟨Nat.zero_le _, Nat.zero_le _, Nat.zero_le _, (by decide : (1#16 : Word16) ≠ 0#16), Nat.zero_le _⟩,
    ⟨Nat.zero_le _, Nat.zero_le _⟩, ring_reset, Nat.zero_le _,
    ⟨Nat.zero_le _, Nat.zero_le _, Nat.zero_le _, Nat.zero_le _, fun _ hn => absurd hn.symm (Option.some_ne_none _)⟩⟩

end Sys2Proof.Machine
end

section
/-! SUPPORT. The ranges of the fare computer's and the meter controller's counters, and the update count (O12). -/

namespace Sys2Proof.Machine

/-! The offer timers. -/

/-- The timers of the offer entries are in their ranges (R61, R67, R75). -/
def TimersOk (s : State) : Prop :=
  ∀ e, (s.oft.entries.get e).windowRemaining ≤ 60 ∧ (s.oft.entries.get e).awardRemaining ≤ 120

theorem TimersOk.of_entries {s t : State} (ht : t.oft.entries = s.oft.entries) (h : TimersOk s) : TimersOk t := by
  simpa [TimersOk, ht] using h

/-- A change of one entry within the ranges. -/
theorem TimersOk.set {s t : State} {e : Fin 8} {y : OfferEntry} (h : TimersOk s)
    (ht : ∀ x, t.oft.entries.get x = if x = e then y else s.oft.entries.get x)
    (hy : y.windowRemaining ≤ 60 ∧ y.awardRemaining ≤ 120) : TimersOk t := fun x => by
  rw [ht]
  split_ifs
  exacts [hy, h x]

/-- A table of EMPTY entries has no timer running. -/
theorem timersOk_empty {s : State} (h : s.oft.entries = Vector.replicate 8 OfferEntry.empty) : TimersOk s := fun e => by
  have hget : s.oft.entries.get e = OfferEntry.empty := by simp [h, Vector.get]
  rw [hget]
  decide

theorem timersOk_entriesLaw : EntriesLaw TimersOk where
  congr h := TimersOk.of_entries (congrArg (·.2.1) h)
  offer s e g _ hg h := h.set (updateOffer_get s e g) ⟨hg.window (h e).1, hg.award (h e).2⟩
  inbox s i g _ _ := TimersOk.of_entries (by simp [updateInbox])
  phase s p _ _ h := h
  cold s p _ := timersOk_empty rfl
  window s := timersOk_empty (by simp [stage2, Oft.atReset])
  store s e how o _ _ _ h := by
    obtain ⟨y, hy, -, -, hwindow, haward⟩ := storeOffer_entry s e how o
    exact h.set hy ⟨hwindow, haward ▸ Nat.zero_le _⟩
  message s i granted asked how f c p _ _ := TimersOk.of_entries (by
    unfold messagePut
    cases (emptyInbox s.mst).isNone <;> simp [updateInbox])
  second s i f granted _ _ := TimersOk.of_entries (by simp [secondPut, updateInbox])
  release s e _ h := by
    have hfreed : TimersOk (freeChain (s.oft.entries.get e).firstBlock (s.oft.entries.get e).blockCount s) :=
      h.of_entries (by simp)
    exact hfreed.set (updateOffer_get _ e fun _ => OfferEntry.empty) (by decide)
  delete s i := TimersOk.of_entries (by simp [deleteEntry, updateInbox])

/-! Ranges of values. -/

theorem Totals.zero_inRange : Totals.zero.inRange := by simp [Totals.inRange, Totals.zero]

theorem Totals.addTrip_inRange {g : Totals} (h : g.inRange) (r : TripRecord) : (g.addTrip r).inRange := by
  obtain ⟨htrips, -, -, htotal, -, -, -, hpower, hover⟩ := h
  exact ⟨htrips, satAdd_le _ _ _, satAdd_le _ _ _, htotal, satAdd_le _ _ _, satAdd_le _ _ _, satAdd_le _ _ _, hpower, hover⟩

theorem Hire.zero_inRange (t : Tariff) : (Hire.zero t).inRange := by
  simp [Hire.zero, Hire.inRange]

theorem Trip.zero_inRange : Trip.zero.inRange := by
  unfold Trip.inRange
  decide

/-- The calendar's next day is a day (R17). -/
theorem monthLength_pos (y : Nat) {m : Nat} (hm : 1 ≤ m ∧ m ≤ 12) : 1 ≤ monthLength y m := by
  obtain ⟨hlow, hhigh⟩ := hm
  unfold monthLength
  interval_cases m <;> simp
  split_ifs <;> decide

theorem nextSecond_valid {t : Stamp} (h : t.valid = true) : t.nextSecond.valid = true := by
  have hfirst := fun y m (hm : 1 ≤ m ∧ m ≤ 12) => monthLength_pos y hm
  simp only [Stamp.valid, Bool.and_eq_true, decide_eq_true_eq, Stamp.nextSecond, Stamp.nextDay] at h ⊢
  split_ifs <;> simp
  · omega
  · omega
  · have := hfirst t.year (t.month + 1) (by omega)
    omega
  · have := hfirst (t.year + 1) 1 (by omega)
    omega
  · exact hfirst 2000 1 (by omega)

/-! The fare computer and the meter controller. -/

/-- What these ranges read. -/
def fareView (s : State) :=
  (s.frc.pulseCounter, s.frc.hire, s.frc.shiftPulses, s.frc.clock, s.mtc.trip,
    (s.mtc.totals.shift, s.mtc.totals.last, s.mtc.totals.lifetime, s.mtc.totals.shifts, s.mtc.totals.metresBase),
    s.mtc.ageOrder, s.mtc.holdTimer, s.wpt.updateCount, s.wpt.rewriting)

/-- The counters are in their ranges within `n` rewrites: the update count is odd exactly while one goes on (R162). -/
structure FareOk (n : Nat) (s : State) : Prop where
  pulses : s.frc.pulseCounter ≤ 65535
  hire : s.frc.hire.inRange
  shiftPulses : s.frc.shiftPulses ≤ 4294967295
  clock : s.frc.clock.valid = true
  trip : s.mtc.trip.inRange
  totals : s.mtc.totals.inRange
  order : s.mtc.ageOrder.Nodup
  hold : ∀ n, s.mtc.holdTimer = some n → 1 ≤ n ∧ n ≤ 30
  count : s.wpt.updateCount ≤ 65535
  parity : s.wpt.updateCount % 2 = if n = 0 then 0 else 1
  rewriting : s.wpt.rewriting = n

section
variable {n : Nat} {s t : State}

theorem FareOk.congr (ht : fareView t = fareView s) (h : FareOk n s) : FareOk n t := by
  simp only [fareView, Prod.mk.injEq] at ht
  obtain ⟨hpulses, hhire, hshift, hclock, htrip, ⟨htshift, htlast, htlife, htshifts, htbase⟩, horder, hhold, hcount, hrewriting⟩ := ht
  obtain ⟨h1, h2, h3, h4, h5, h6, h7, h8, h9, h10, h11⟩ := h
  refine ⟨hpulses ▸ h1, hhire ▸ h2, hshift ▸ h3, hclock ▸ h4, htrip ▸ h5, ?_, horder ▸ h7, hhold ▸ h8, hcount ▸ h9, hcount ▸ h10,
    hrewriting ▸ h11⟩
  unfold TotalsGroup.inRange at h6 ⊢
  rwa [htshift, htlast, htlife, htshifts, htbase]

theorem beginRewrite_fareOk (h : FareOk n s) : FareOk (n + 1) (beginRewrite s) := by
  obtain ⟨hcount, hparity, hrewriting⟩ := And.intro h.count (And.intro h.parity h.rewriting)
  refine ⟨by simpa using h.pulses, by simpa using h.hire, by simpa using h.shiftPulses, by simpa using h.clock,
    by simpa using h.trip, by simpa using h.totals, by simpa using h.order, by simpa using h.hold, ?_, ?_,
    by simp [beginRewrite, hrewriting]⟩
  all_goals
    simp only [beginRewrite, State.modWpt_wpt, hrewriting]
    by_cases hn : n = 0 <;> simp [hn, Wpt.countUpdate, hrewriting] at hparity ⊢ <;> omega

theorem endRewrite_fareOk (h : FareOk (n + 1) s) : FareOk n (endRewrite s) := by
  obtain ⟨hcount, hparity, hrewriting⟩ := And.intro h.count (And.intro h.parity h.rewriting)
  refine ⟨by simpa using h.pulses, by simpa using h.hire, by simpa using h.shiftPulses, by simpa using h.clock,
    by simpa using h.trip, by simpa using h.totals, by simpa using h.order, by simpa using h.hold, ?_, ?_, ?_⟩
  all_goals
    simp only [endRewrite, State.modWpt_wpt, hrewriting]
    by_cases hn : n = 0 <;> simp [hn, Wpt.countUpdate] at hparity ⊢ <;> omega

/-- The operations that leave what these ranges read. -/
@[simp] theorem beside_fareOk (s : State) :
    (∀ c, (FareOk n (setChannel c s) ↔ FareOk n s)) ∧ (FareOk n (requestCommit s) ↔ FareOk n s) ∧
    (∀ f d, (FareOk n (recordFault f d s) ↔ FareOk n s)) ∧ (FareOk n (rejudge s) ↔ FareOk n s) :=
  ⟨fun _ => ⟨.congr (by simp [fareView]), .congr (by simp [fareView])⟩, ⟨.congr (by simp [fareView]), .congr (by simp [fareView])⟩,
    fun _ _ => ⟨.congr (by simp [fareView]), .congr (by simp [fareView])⟩,
    ⟨.congr (by simp [fareView]), .congr (by simp [fareView])⟩⟩

theorem modHire_fareOk {g : Hire → Hire} (hg : (g s.frc.hire).inRange) (h : FareOk n s) : FareOk n (modHire g s) :=
  ⟨h.pulses, hg, h.shiftPulses, h.clock, h.trip, h.totals, h.order, h.hold, h.count, h.parity, h.rewriting⟩

theorem modTrip_fareOk {g : Trip → Trip} (hg : (g s.mtc.trip).inRange) (h : FareOk n s) : FareOk n (modTrip g s) :=
  ⟨h.pulses, h.hire, h.shiftPulses, h.clock, hg, h.totals, h.order, h.hold, h.count, h.parity, h.rewriting⟩

theorem modTotals_fareOk {g : TotalsGroup → TotalsGroup} (hg : (g s.mtc.totals).inRange) (h : FareOk n s) :
    FareOk n (modTotals g s) :=
  ⟨h.pulses, h.hire, h.shiftPulses, h.clock, h.trip, hg, h.order, h.hold, h.count, h.parity, h.rewriting⟩

theorem rewriteFareGroup_fareOk (h : FareOk n s) : FareOk n (rewriteFareGroup s) :=
  endRewrite_fareOk (.congr (s := beginRewrite s) rfl (beginRewrite_fareOk h))

/-! The pulses and the seconds. -/

theorem discardExcess_fareOk (h : FareOk n s) : FareOk n (discardExcess s) := by
  obtain ⟨hhired, hunpaid, -, hseconds, hstopped, hswitches⟩ := h.hire
  have hfault : ∀ d, FareOk n (recordFault .pulsesDiscarded d s) := fun d => by simp [h]
  unfold discardExcess
  simp only
  split_ifs
  exacts [h, modHire_fareOk (by simpa using ⟨hhired, hunpaid, satAdd_le _ _ _, hseconds, hstopped, hswitches⟩) (hfault _), hfault _]

theorem assignPulses_fareOk {k : Nat} (h : FareOk n s) : FareOk n (assignPulses k s) := by
  obtain ⟨hhired, hunpaid, hdiscarded, hseconds, hstopped, hswitches⟩ := h.hire
  have hshift : FareOk n (s.modFrc fun f => { f with shiftPulses := satAdd u32Max f.shiftPulses k }) :=
    ⟨h.pulses, h.hire, satAdd_le _ _ _, h.clock, h.trip, h.totals, h.order, h.hold, h.count, h.parity, h.rewriting⟩
  unfold assignPulses
  split
  exacts [h, hshift, hshift, modHire_fareOk ⟨satAdd_le _ _ _, hunpaid, hdiscarded, hseconds, hstopped, hswitches⟩ hshift,
    modHire_fareOk ⟨hhired, satAdd_le _ _ _, hdiscarded, hseconds, hstopped, hswitches⟩ hshift]

theorem closePulses_fareOk (h : FareOk n s) : FareOk n (closePulses s) := by
  have hassigned : FareOk n (assignPulses (usedPulses s) (discardExcess s)) := assignPulses_fareOk (discardExcess_fareOk h)
  exact ⟨Nat.zero_le _, hassigned.hire, hassigned.shiftPulses, hassigned.clock, hassigned.trip, hassigned.totals, hassigned.order,
    hassigned.hold, hassigned.count, hassigned.parity, hassigned.rewriting⟩

theorem countSecond_fareOk (h : FareOk n s) : FareOk n (countSecond s) := by
  obtain ⟨hhired, hunpaid, hdiscarded, hseconds, hstopped, hswitches⟩ := h.hire
  unfold countSecond
  split
  exacts [modHire_fareOk ⟨hhired, hunpaid, hdiscarded, satAdd_le _ _ _, hstopped, hswitches⟩ h,
    modHire_fareOk ⟨hhired, hunpaid, hdiscarded, hseconds, satAdd_le _ _ _, hswitches⟩ h, h, h, h]

theorem settle_fareOk (h : FareOk n s) : FareOk n (settle s) := by
  have htaken : ∀ k a, FareOk n (takeDrops k a s) := fun k a => modHire_fareOk h.hire h
  have hlimited : ∀ k a, FareOk n (modHire (fun x => { x with fareLimit := true }) (takeDrops k a s)) := fun k a =>
    modHire_fareOk (htaken k a).hire (htaken k a)
  unfold settle
  simp only
  split_ifs
  · exact h
  all_goals exact rewriteFareGroup_fareOk (by simp [htaken, hlimited])

theorem chargeExpiry_fareOk {k : Nat} (h : FareOk n s) : FareOk n (chargeExpiry k s) := by
  unfold chargeExpiry chargeSecond
  split_ifs
  exacts [h, settle_fareOk (modHire_fareOk h.hire h), h]

theorem endMeterSecond_fareOk (h : FareOk n s) : FareOk n (endMeterSecond s) := by
  have hcounted := countSecond_fareOk (closePulses_fareOk h)
  have hasked : FareOk n (if hiredMinute (countSecond (closePulses s)) then requestCommit (countSecond (closePulses s))
      else countSecond (closePulses s)) :=
    iteInduction (motive := FareOk n) (fun _ => by simp [hcounted]) fun _ => hcounted
  have hcharged := chargeExpiry_fareOk (k := usedPulses s) hasked
  unfold endMeterSecond
  exact iteInduction (motive := FareOk n) (fun _ => rewriteFareGroup_fareOk hcharged) fun _ => hcharged

/-! The schedule and the clock. -/

theorem switchTariff_fareOk {k : Nat} (h : FareOk n s) : FareOk n (switchTariff k s) := by
  have hrates : FareOk n (replaceRates (windowTariff s k) s) := modHire_fareOk h.hire h
  have hsettled : FareOk n (settleSwitch (replaceRates (windowTariff s k) s)) := by
    unfold settleSwitch
    split_ifs
    exacts [modHire_fareOk hrates.hire hrates, settle_fareOk hrates]
  obtain ⟨hhired, hunpaid, hdiscarded, hseconds, hstopped, -⟩ := hsettled.hire
  have hcounted : FareOk n (modHire (fun x => { x with switchCount := satAdd 255 x.switchCount 1 })
      (settleSwitch (replaceRates (windowTariff s k) s))) :=
    modHire_fareOk ⟨hhired, hunpaid, hdiscarded, hseconds, hstopped, satAdd_le _ _ _⟩ hsettled
  unfold switchTariff
  refine iteInduction (motive := FareOk n) (fun _ => h) fun _ => iteInduction (motive := FareOk n) (fun _ => ?_) fun _ => ?_
  · simp [rewriteFareGroup_fareOk, hcounted]
  · simp [h]

theorem evaluateSchedule_fareOk (h : FareOk n s) : FareOk n (evaluateSchedule s) := by
  have hchanged : ∀ k, FareOk n (changeSchedule k s) := fun k => by
    have hset : FareOk n (s.modFrc fun f => { f with scheduled := k }) := h.congr (s := s) rfl
    have hswitched : FareOk n (if autoSwitch s then switchTariff k (s.modFrc fun f => { f with scheduled := k })
        else s.modFrc fun f => { f with scheduled := k }) :=
      iteInduction (motive := FareOk n) (fun _ => switchTariff_fareOk hset) fun _ => hset
    have hshown : FareOk n (if s.frc.override = none then rewriteFareGroup (s.modFrc fun f => { f with scheduled := k })
        else s.modFrc fun f => { f with scheduled := k }) :=
      iteInduction (motive := FareOk n) (fun _ => rewriteFareGroup_fareOk hset) fun _ => hset
    unfold changeSchedule
    split
    exacts [hswitched, hswitched, hshown, hshown, hset]
  unfold evaluateSchedule
  split_ifs
  exacts [h, hchanged _]

/-- A change of the clock to a valid one. -/
theorem rewriteClockAndEvaluate_fareOk {g : Frc → Frc}
    (hg : ∀ f, (g f).pulseCounter = f.pulseCounter ∧ (g f).hire = f.hire ∧ (g f).shiftPulses = f.shiftPulses)
    (hclock : (g s.frc).clock.valid = true) (h : FareOk n s) : FareOk n (rewriteClockAndEvaluate g s) := by
  have hbegun : FareOk (n + 1) ((beginRewrite s).modFrc g) := by
    have hb := beginRewrite_fareOk h
    obtain ⟨hpulses, hhire, hshift⟩ := hg (beginRewrite s).frc
    refine ⟨hpulses ▸ hb.pulses, hhire ▸ hb.hire, hshift ▸ hb.shiftPulses, ?_, hb.trip, hb.totals, hb.order, hb.hold, hb.count,
      hb.parity, hb.rewriting⟩
    simpa using hclock
  unfold rewriteClockAndEvaluate
  exact iteInduction (motive := FareOk n) (fun _ => endRewrite_fareOk (evaluateSchedule_fareOk hbegun))
    fun _ => evaluateSchedule_fareOk (endRewrite_fareOk hbegun)

theorem setClockTo_fareOk {x : Stamp} (hx : x.valid = true) (h : FareOk n s) : FareOk n (setClockTo x s) :=
  rewriteClockAndEvaluate_fareOk (fun _ => ⟨rfl, rfl, rfl⟩) hx h

theorem refreshMetres_fareOk (h : FareOk n s) : FareOk n (refreshMetres s) := by
  obtain ⟨⟨h1, h2, h3, -, h5, h6, h7, h8, h9⟩, hlast, ⟨l1, l2, l3, -, l5, l6, l7, l8, l9⟩, hshifts, hbase⟩ := h.totals
  unfold refreshMetres
  exact modTotals_fareOk ⟨⟨h1, h2, h3, Nat.min_le_left _ _, h5, h6, h7, h8, h9⟩, hlast,
    ⟨l1, l2, l3, satAdd_le _ _ _, l5, l6, l7, l8, l9⟩, hshifts, hbase⟩ h

theorem endCalendarSecond_fareOk (h : FareOk n s) : FareOk n (endCalendarSecond s) := by
  have hevaluated : FareOk n (rewriteClockAndEvaluate Frc.tick s) :=
    rewriteClockAndEvaluate_fareOk (fun _ => ⟨rfl, rfl, rfl⟩) (nextSecond_valid h.clock) h
  have hticked : FareOk n (groupRewrite (fun t => t.modFrc Frc.tick) s) := by
    have hb := beginRewrite_fareOk h
    exact endRewrite_fareOk ⟨hb.pulses, hb.hire, hb.shiftPulses, nextSecond_valid hb.clock, hb.trip, hb.totals, hb.order, hb.hold,
      hb.count, hb.parity, hb.rewriting⟩
  have hrefreshed : ∀ t, FareOk n t → FareOk n (requestCommit (refreshMetres t)) := fun t ht => by
    simp [refreshMetres_fareOk ht]
  unfold endCalendarSecond
  refine iteInduction (motive := FareOk n) (fun _ => ?_) fun _ => hticked
  exact iteInduction (motive := FareOk n) (fun _ => hrefreshed _ hevaluated) fun _ => hevaluated

end

end Sys2Proof.Machine
end

section
/-! SUPPORT. The commands of the fare computer and the meter controller keep the ranges of their counters and the directory's
tariff number (O12). -/

namespace Sys2Proof.Machine

section
variable {n : Nat} {s t : State}

/-! Keys and requests. -/

theorem meterChange_fareOk {x : MeterState} (h : FareOk n s) : FareOk n (meterChange x s) := by
  have hmoved : FareOk n (rewriteFareGroup (rejudge ((closePulses s).modMtc fun m => { m with meter := x }))) :=
    rewriteFareGroup_fareOk ((beside_fareOk _).2.2.2.mpr (.congr (s := closePulses s) rfl (closePulses_fareOk h)))
  have hreported : ∀ u, FareOk n u → FareOk n (reportMeter s.mtc.meter x u) := fun u hu => hu.congr (by simp [fareView])
  unfold meterChange
  simp [hreported, hmoved]

/-- A change of the totals of the shift and of the lifetime. -/
theorem TotalsGroup.inRange_of {g : TotalsGroup} (h : g.inRange) {x y : Totals} (hx : x.inRange) (hy : y.inRange) :
    ({ g with shift := x, lifetime := y } : TotalsGroup).inRange := by
  obtain ⟨-, hlast, -, hshifts, hbase⟩ := h
  exact ⟨hx, hlast, hy, hshifts, hbase⟩

theorem closeTrip_fareOk (h : FareOk n s) : FareOk n (closeTrip s) := by
  have hcounted : FareOk n (countTrip s) := by
    obtain ⟨⟨-, hshift⟩, -, ⟨-, hlifetime⟩, -⟩ := h.totals
    exact modTotals_fareOk (TotalsGroup.inRange_of h.totals ⟨satAdd_le _ _ _, hshift⟩ ⟨satAdd_le _ _ _, hlifetime⟩) h
  have hlost : ∀ e u, FareOk n u → FareOk n (loseTrip e u) := fun e u hu => by
    obtain ⟨⟨a1, a2, a3, a4, a5, a6, a7, a8, -⟩, -, ⟨b1, b2, b3, b4, b5, b6, b7, b8, -⟩, -⟩ := hu.totals
    have hraised := modTotals_fareOk (TotalsGroup.inRange_of hu.totals
      (x := { u.mtc.totals.shift with tripOverwrites := satAdd u32Max u.mtc.totals.shift.tripOverwrites 1 })
      (y := { u.mtc.totals.lifetime with tripOverwrites := satAdd u32Max u.mtc.totals.lifetime.tripOverwrites 1 })
      ⟨a1, a2, a3, a4, a5, a6, a7, a8, satAdd_le _ _ _⟩ ⟨b1, b2, b3, b4, b5, b6, b7, b8, satAdd_le _ _ _⟩)
      (g := fun g => { g with
        shift := { g.shift with tripOverwrites := satAdd u32Max g.shift.tripOverwrites 1 },
        lifetime := { g.lifetime with tripOverwrites := satAdd u32Max g.lifetime.tripOverwrites 1 } }) hu
    unfold loseTrip
    simp only
    split_ifs
    exacts [hraised.congr (by simp [fareView]), hraised]
  have hwritten : ∀ e r u, FareOk n u → FareOk n (writeTripRecord e r u) := fun e r u hu =>
    ⟨hu.pulses, hu.hire, hu.shiftPulses, hu.clock, hu.trip, hu.totals,
      (hu.order.filter _).append (List.nodup_singleton _) (by simp [List.Disjoint]), hu.hold, hu.count, hu.parity, hu.rewriting⟩
  have hadded : ∀ r u, FareOk n u → FareOk n (modTotals (fun g =>
      { g with shift := g.shift.addTrip r, lifetime := g.lifetime.addTrip r }) u) := fun r u hu => by
    obtain ⟨hshift, -, hlifetime, -⟩ := hu.totals
    exact modTotals_fareOk (TotalsGroup.inRange_of hu.totals (Totals.addTrip_inRange hshift r) (Totals.addTrip_inRange hlifetime r)) hu
  unfold closeTrip
  refine (beside_fareOk _).2.1.mpr (refreshMetres_fareOk (hadded _ _ (hwritten _ _ _ ?_)))
  exact iteInduction (motive := FareOk n) (fun _ => hlost _ _ hcounted) fun _ => hcounted

theorem startHire_fareOk {k : Nat} (h : FareOk n s) : FareOk n (openTrip (startHire k s)) :=
  ⟨h.pulses, Hire.zero_inRange (windowTariff s k), h.shiftPulses, h.clock, Trip.zero_inRange, h.totals, h.order, h.hold, h.count, h.parity,
    h.rewriting⟩

theorem stopHold_fareOk (h : FareOk n s) : FareOk n (stopHold s) :=
  ⟨h.pulses, h.hire, h.shiftPulses, h.clock, h.trip, h.totals, h.order, fun _ hk => absurd hk.symm (Option.some_ne_none _),
    h.count, h.parity, h.rewriting⟩

theorem paymentHold_le (s : State) : paymentHold s ≤ 30 := clamp_le (by decide)

theorem startHold_fareOk (h : FareOk n s) : FareOk n (startHold s) := by
  refine ⟨h.pulses, h.hire, h.shiftPulses, h.clock, h.trip, h.totals, h.order, fun k hk => ?_, h.count, h.parity, h.rewriting⟩
  simp only [startHold, State.modMtc_mtc] at hk
  split_ifs at hk with hzero
  obtain rfl := Option.some.inj hk
  exact ⟨Nat.pos_of_ne_zero hzero, paymentHold_le s⟩

theorem pressHire_fareOk {request : Bool} (h : FareOk n s) : FareOk n (pressHire request s).2 := by
  have hchosen : FareOk n (chooseTariff s).1 := by
    unfold chooseTariff
    split
    exacts [h, evaluateSchedule_fareOk h]
  unfold pressHire
  generalize chooseTariff s = chosen at hchosen
  have hrefused : FareOk n (if request then chosen.1 else recordFault .tariffInvalid chosen.2 chosen.1) :=
    iteInduction (motive := FareOk n) (fun _ => hchosen) fun _ => by simp [hchosen]
  have hclosed : FareOk n (if s.mtc.meter = .payment then stopHold (closeTrip chosen.1) else chosen.1) :=
    iteInduction (motive := FareOk n) (fun _ => stopHold_fareOk (closeTrip_fareOk hchosen)) fun _ => hchosen
  have hjudged : FareOk n (if (windowTariff chosen.1 chosen.2).valid then
      (Result.done, meterChange .hired (openTrip (startHire chosen.2
        (if s.mtc.meter = .payment then stopHold (closeTrip chosen.1) else chosen.1))))
      else (.refusedRange, if request then chosen.1 else recordFault .tariffInvalid chosen.2 chosen.1)).2 :=
    iteInduction (motive := fun x : Result × State => FareOk n x.2)
      (fun _ => meterChange_fareOk (startHire_fareOk hclosed)) fun _ => hrefused
  split
  exacts [hjudged, hjudged, h, h, h]

theorem pressExtra_fareOk {i : Fin 8} (h : FareOk n s) : FareOk n (pressExtra i s).2 := by
  unfold pressExtra
  split_ifs with hopen hrefused
  · exact h
  · have hlimit : s.mtc.trip.extraCounts.get i < extraLimit s i.val := by
      by_contra hover
      exact hrefused (by simp [extraRefused, Nat.le_of_not_lt hover])
    have hmost : extraLimit s i.val ≤ 15 := clamp_le (by decide)
    have htaken : FareOk n (modTrip (fun t =>
        { t with extraCounts := t.extraCounts.set i.val (t.extraCounts.get i + 1) i.isLt,
                 extrasSum := t.extrasSum + extraValue s i.val }) s) := by
      refine modTrip_fareOk (fun x => ?_) h
      by_cases hx : x = i
      · subst hx
        simp only [Vector.get_eq_getElem, Vector.getElem_set_self]
        rw [Vector.get_eq_getElem] at hlimit
        omega
      · have hne : (i : Nat) ≠ x := fun he => hx (Fin.ext he.symm)
        simpa [Vector.get_eq_getElem, hne] using h.trip x
    simp [takeExtra, rewriteFareGroup_fareOk, htaken]
  · exact h

theorem pressKey_fareOk {k : MeterKey} {request : Bool} (h : FareOk n s) : FareOk n (pressKey k request s).2 := by
  cases k with
  | hire => exact pressHire_fareOk h
  | stop =>
    change FareOk n (pressStop s).2
    unfold pressStop
    split
    exacts [meterChange_fareOk h, meterChange_fareOk h, h, h, h]
  | pay =>
    have hpaid : FareOk n (startHold (meterChange .payment (modTrip (fun t => { t with endTime := s.frc.clock }) s))) :=
      startHold_fareOk (meterChange_fareOk (modTrip_fareOk h.trip h))
    change FareOk n (pressPay s).2
    unfold pressPay
    split
    exacts [hpaid, hpaid, h, h, h]
  | clear =>
    change FareOk n (pressClear s).2
    unfold pressClear
    split
    · exact iteInduction (motive := fun x : Result × State => FareOk n x.2)
        (fun _ => meterChange_fareOk (stopHold_fareOk (closeTrip_fareOk h))) fun _ => h
    all_goals exact h
  | extra => exact pressExtra_fareOk h

/-- An answer to a request leaves what these ranges read. -/
theorem answer_fareOk {r : Fin 16} {x : Result} {w : Nat} (h : FareOk n s) : FareOk n (answer r x w s) :=
  h.congr (by simp [fareView])

theorem ownMeterKey_fareOk {r : Fin 16} (h : FareOk n s) : FareOk n (ownMeterKey r s) := by
  unfold ownMeterKey answerKey
  split_ifs
  · split
    exacts [answer_fareOk (pressKey_fareOk h), answer_fareOk h]
  · exact answer_fareOk h

theorem ownAddExtra_fareOk {r : Fin 16} (h : FareOk n s) : FareOk n (ownAddExtra r s) := by
  have hanswered : ∀ i, FareOk n (answerExtra r i (pressExtra i s)) := fun i => by
    unfold answerExtra
    split_ifs <;> exact answer_fareOk (pressExtra_fareOk h)
  unfold ownAddExtra
  split_ifs
  exacts [hanswered _, answer_fareOk h, answer_fareOk h]

theorem ownSelectTariff_fareOk {r : Fin 16} (h : FareOk n s) : FareOk n (ownSelectTariff r s) := by
  have hset : ∀ k, FareOk n (setOverride k s) := fun k => by
    have hchosen : FareOk n (s.modFrc fun f => { f with override := some k }) := .congr (s := s) rfl h
    exact iteInduction (motive := FareOk n) (fun _ => hchosen) fun _ => rewriteFareGroup_fareOk hchosen
  unfold ownSelectTariff
  split_ifs
  exacts [answer_fareOk h, answer_fareOk (hset _), answer_fareOk h, answer_fareOk h]

theorem ownShiftOpen_fareOk {r : Fin 16} (h : FareOk n s) : FareOk n (ownShiftOpen r s) := by
  have hopened : ∀ d, FareOk n (openShift d s) := fun d => by
    obtain ⟨-, hlast, hlifetime, -, -⟩ := h.totals
    obtain ⟨-, -, -, htotal, -⟩ := hlifetime
    have hbegun : FareOk n (s.modFrc fun f => { f with shiftPulses := 0 }) :=
      ⟨h.pulses, h.hire, Nat.zero_le _, h.clock, h.trip, h.totals, h.order, h.hold, h.count, h.parity, h.rewriting⟩
    exact meterChange_fareOk (modTotals_fareOk ⟨Totals.zero_inRange, hlast, h.totals.2.2.1, satAdd_le _ _ _, htotal⟩ hbegun)
  unfold ownShiftOpen
  split_ifs
  exacts [answer_fareOk h, answer_fareOk h, answer_fareOk h, answer_fareOk (hopened _)]

theorem ownShiftClose_fareOk {r : Fin 16} (h : FareOk n s) : FareOk n (ownShiftClose r s) := by
  have hdetached : FareOk n (detachLastShift (refreshMetres s)) := by
    have hfresh := refreshMetres_fareOk h
    exact iteInduction (motive := FareOk n) (fun _ => hfresh.congr (by simp [fareView])) fun _ => hfresh
  have hclosed : FareOk n (closeShift s) := by
    unfold closeShift
    generalize detachLastShift (refreshMetres s) = u at hdetached
    obtain ⟨hshift, -, hlifetime, hshifts, hbase⟩ := hdetached.totals
    refine meterChange_fareOk (.congr (s := modTotals (fun g => g.closed u.frc.clock) u) rfl ?_)
    exact modTotals_fareOk ⟨hshift, hshift, hlifetime, hshifts, hbase⟩ hdetached
  unfold ownShiftClose
  split_ifs
  exacts [answer_fareOk hclosed, answer_fareOk h]

theorem ownReleaseTrip_fareOk {r : Fin 16} (h : FareOk n s) : FareOk n (ownReleaseTrip r s) := by
  unfold ownReleaseTrip
  split_ifs
  exacts [h.congr (by simp [fareView, updateTripRecord]), answer_fareOk h, answer_fareOk h]

theorem ownSetClock_fareOk {r : Fin 16} (h : FareOk n s) : FareOk n (ownSetClock r s) := by
  unfold ownSetClock
  split_ifs with hvalid
  exacts [answer_fareOk (setClockTo_fareOk hvalid h), answer_fareOk h]

theorem takeTime_fareOk {x : Stamp} (h : FareOk n s) : FareOk n (takeTime x s) := by
  unfold takeTime
  split_ifs with _ hvalid
  exacts [by simp [setClockTo_fareOk hvalid h], .congr (s := s) rfl h, h]

theorem endHold_fareOk (h : FareOk n s) : FareOk n (endHold s) := by
  unfold endHold
  split_ifs
  exacts [h, ⟨h.pulses, h.hire, h.shiftPulses, h.clock, h.trip, h.totals, h.order, fun _ hk => absurd hk.symm (Option.some_ne_none _), h.count,
    h.parity, h.rewriting⟩]

theorem countPulse_fareOk (h : FareOk n s) : FareOk n (countPulse s) := by
  unfold countPulse
  split_ifs
  exacts [⟨satAdd_le _ _ _, h.hire, h.shiftPulses, h.clock, h.trip, h.totals, h.order, h.hold, h.count, h.parity, h.rewriting⟩, h]

end

end Sys2Proof.Machine
end

section
/-! SUPPORT. The directory shows the number of the tariff in force after every command (O12). -/

namespace Sys2Proof.Machine

/-- The directory shows the number of the tariff in force (R8, R34). -/
def Shown (s : State) : Prop := s.frc.fareGroup.number = shownTariff s

/-- What the number depends on. -/
def shownView (s : State) :=
  (s.frc.fareGroup.number, s.mtc.meter, s.frc.hire.tariff.number, s.frc.override, s.frc.scheduled)

section
variable {s t : State}

theorem shownTariff_congr (hmeter : t.mtc.meter = s.mtc.meter) (htariff : t.frc.hire.tariff.number = s.frc.hire.tariff.number)
    (hover : t.frc.override = s.frc.override) (hscheduled : t.frc.scheduled = s.frc.scheduled) :
    shownTariff t = shownTariff s := by
  simp only [shownTariff, hmeter, htariff, hover, hscheduled]

theorem Shown.congr (ht : shownView t = shownView s) (h : Shown s) : Shown t := by
  simp only [shownView, Prod.mk.injEq] at ht
  obtain ⟨hnumber, hmeter, htariff, hover, hscheduled⟩ := ht
  rw [Shown, hnumber, shownTariff_congr hmeter htariff hover hscheduled]
  exact h

/-- After a rewrite of the fare group the number is the one in force. -/
theorem rewriteFareGroup_shown : Shown (rewriteFareGroup s) := by
  have hsame : shownTariff (rewriteFareGroup s) = shownTariff s :=
    shownTariff_congr (by simp) (by simp) (by simp) (by simp)
  rw [Shown, hsame]
  simp [fareGroupNow]

/-- The operations that leave the number and what it depends on. -/
@[simp] theorem beside_shown (s : State) :
    (∀ c, (Shown (setChannel c s) ↔ Shown s)) ∧ (Shown (requestCommit s) ↔ Shown s) ∧
    (∀ f d, (Shown (recordFault f d s) ↔ Shown s)) ∧ (Shown (beginRewrite s) ↔ Shown s) ∧ (Shown (endRewrite s) ↔ Shown s) ∧
    (∀ r x w, (Shown (answer r x w s) ↔ Shown s)) ∧ (∀ f, (Shown (s.modMtc f) ↔ Shown { s with mtc := f s.mtc })) := by
  have hview : ∀ {t}, shownView t = shownView s → (Shown t ↔ Shown s) := fun h => ⟨.congr h.symm, .congr h⟩
  exact ⟨fun _ => hview (by simp [shownView]), hview (by simp [shownView]), fun _ _ => hview (by simp [shownView]),
    hview (by simp [shownView]), hview (by simp [shownView]), fun _ _ _ => hview (by simp [shownView]), fun _ => Iff.rfl⟩

/-! The fare computer. -/

theorem settle_shown (h : Shown s) : Shown (settle s) := by
  unfold settle
  simp only
  split_ifs
  exacts [h, rewriteFareGroup_shown, rewriteFareGroup_shown, rewriteFareGroup_shown]

/-- The pulses and the seconds leave the directory and the schedule. -/
theorem countSecond_closed_shownView : shownView (countSecond (closePulses s)) = shownView s := by
  have hdiscarded : shownView (discardExcess s) = shownView s := by
    unfold discardExcess
    simp only
    split_ifs <;> simp [shownView]
  have hassigned : ∀ k u, shownView (assignPulses k u) = shownView u := fun k u => by
    unfold assignPulses
    split <;> simp [shownView]
  have hcounted : ∀ u, shownView (countSecond u) = shownView u := fun u => by
    unfold countSecond
    split <;> simp [shownView]
  exact (hcounted _).trans ((hassigned (usedPulses s) (discardExcess s)).trans hdiscarded)

theorem endMeterSecond_shown (h : Shown s) : Shown (endMeterSecond s) := by
  have hcounted : Shown (countSecond (closePulses s)) := h.congr countSecond_closed_shownView
  unfold endMeterSecond
  generalize countSecond (closePulses s) = u at hcounted
  have hasked : Shown (if hiredMinute u then requestCommit u else u) :=
    iteInduction (motive := Shown) (fun _ => by simp [hcounted]) fun _ => hcounted
  have hcharged : ∀ v, Shown v → Shown (chargeExpiry (usedPulses s) v) := fun v hv => by
    unfold chargeExpiry chargeSecond
    split_ifs
    exacts [hv, settle_shown (.congr (s := v) rfl hv), hv]
  exact iteInduction (motive := Shown) (fun _ => rewriteFareGroup_shown) fun _ => hcharged _ hasked

/-- Inside a trip the scheduled number is not in force. -/
theorem scheduled_shown {k : Nat} (hout : s.mtc.meter.tripOpen = true ∨ s.frc.override ≠ none) (h : Shown s) :
    Shown (s.modFrc fun f => { f with scheduled := k }) := by
  rw [Shown] at h ⊢
  refine Eq.trans h ?_
  show shownTariff s = if s.mtc.meter.tripOpen then s.frc.hire.tariff.number else s.frc.override.getD k
  rw [shownTariff]
  split_ifs with htrip
  · rfl
  · cases ho : s.frc.override with
    | some n => rfl
    | none => exact absurd ho (hout.resolve_left htrip)

theorem switchTariff_shown {k : Nat} (h : Shown s) : Shown (switchTariff k s) := by
  unfold switchTariff
  refine iteInduction (motive := Shown) (fun _ => h) fun _ => iteInduction (motive := Shown) (fun _ => ?_) fun _ => by simp [h]
  exact (beside_shown _).2.1.mpr rewriteFareGroup_shown

theorem evaluateSchedule_shown (h : Shown s) : Shown (evaluateSchedule s) := by
  have hchanged : ∀ k, Shown (changeSchedule k s) := fun k => by
    have hopen : s.mtc.meter.tripOpen = true → Shown (s.modFrc fun f => { f with scheduled := k }) := fun ho =>
      scheduled_shown (.inl ho) h
    have hswitched : s.mtc.meter.tripOpen = true → Shown (if autoSwitch s then switchTariff k
        (s.modFrc fun f => { f with scheduled := k }) else s.modFrc fun f => { f with scheduled := k }) := fun ho =>
      iteInduction (motive := Shown) (fun _ => switchTariff_shown (hopen ho)) fun _ => hopen ho
    have hshown : Shown (if s.frc.override = none then rewriteFareGroup (s.modFrc fun f => { f with scheduled := k })
        else s.modFrc fun f => { f with scheduled := k }) :=
      iteInduction (motive := Shown) (fun _ => rewriteFareGroup_shown) fun ho => scheduled_shown (.inr ho) h
    unfold changeSchedule
    cases hm : s.mtc.meter with
    | hired | stopped => exact hswitched (by rw [hm]; rfl)
    | off | vacant => exact hshown
    | payment => exact hopen (by rw [hm]; rfl)
  unfold evaluateSchedule
  split_ifs
  exacts [h, hchanged _]

theorem rewriteClockAndEvaluate_shown {g : Frc → Frc} (hg : ∀ f, (g f).fareGroup = f.fareGroup ∧ (g f).hire = f.hire ∧
    (g f).override = f.override ∧ (g f).scheduled = f.scheduled) (h : Shown s) : Shown (rewriteClockAndEvaluate g s) := by
  have hbegun : Shown ((beginRewrite s).modFrc g) := by
    obtain ⟨hgroup, hhire, hover, hscheduled⟩ := hg s.frc
    exact h.congr (by simp [shownView, hgroup, hhire, hover, hscheduled])
  unfold rewriteClockAndEvaluate
  exact iteInduction (motive := Shown) (fun _ => by simp [evaluateSchedule_shown hbegun])
    fun _ => evaluateSchedule_shown (by simp [hbegun])

theorem setClockTo_shown {x : Stamp} (h : Shown s) : Shown (setClockTo x s) :=
  rewriteClockAndEvaluate_shown (fun _ => ⟨rfl, rfl, rfl, rfl⟩) h

theorem endCalendarSecond_shown (h : Shown s) : Shown (endCalendarSecond s) := by
  have hevaluated : Shown (rewriteClockAndEvaluate Frc.tick s) := rewriteClockAndEvaluate_shown (fun _ => ⟨rfl, rfl, rfl, rfl⟩) h
  unfold endCalendarSecond
  refine iteInduction (motive := Shown) (fun _ => ?_) fun _ => h.congr (by simp [shownView, groupRewrite])
  refine iteInduction (motive := Shown) (fun _ => ?_) fun _ => hevaluated
  exact (beside_shown _).2.1.mpr (.congr (s := rewriteClockAndEvaluate Frc.tick s) rfl hevaluated)

/-! The meter. -/

/-- Every change of the meter state rewrites the fare group (R28). -/
theorem meterChange_shown {x : MeterState} : Shown (meterChange x s) := by
  have hreported : ∀ u old, Shown u → Shown (reportMeter old x u) := fun u old hu => hu.congr (by simp [shownView])
  unfold meterChange
  simp [hreported _ _ rewriteFareGroup_shown]

theorem pressHire_shown {request : Bool} (h : Shown s) : Shown (pressHire request s).2 := by
  have hchosen : Shown (chooseTariff s).1 := by
    unfold chooseTariff
    split
    exacts [h, evaluateSchedule_shown h]
  unfold pressHire
  generalize chooseTariff s = chosen at hchosen
  have hrefused : Shown (if request then chosen.1 else recordFault .tariffInvalid chosen.2 chosen.1) :=
    iteInduction (motive := Shown) (fun _ => hchosen) fun _ => by simp [hchosen]
  have hjudged : ∀ u, Shown (if (windowTariff chosen.1 chosen.2).valid then
      (Result.done, meterChange .hired u)
      else (.refusedRange, if request then chosen.1 else recordFault .tariffInvalid chosen.2 chosen.1)).2 := fun u =>
    iteInduction (motive := fun x : Result × State => Shown x.2) (fun _ => meterChange_shown) fun _ => hrefused
  split
  exacts [hjudged _, hjudged _, h, h, h]

theorem pressExtra_shown {i : Fin 8} (h : Shown s) : Shown (pressExtra i s).2 := by
  unfold pressExtra
  split_ifs
  exacts [h, (beside_shown _).2.1.mpr rewriteFareGroup_shown, h]

theorem pressKey_shown {k : MeterKey} {request : Bool} (h : Shown s) : Shown (pressKey k request s).2 := by
  cases k with
  | hire => exact pressHire_shown h
  | stop =>
    change Shown (pressStop s).2
    unfold pressStop
    split
    exacts [meterChange_shown, meterChange_shown, h, h, h]
  | pay =>
    have hpaid : ∀ u, Shown (startHold (meterChange .payment u)) := fun u => .congr (s := meterChange .payment u) rfl meterChange_shown
    change Shown (pressPay s).2
    unfold pressPay
    split
    exacts [hpaid _, hpaid _, h, h, h]
  | clear =>
    change Shown (pressClear s).2
    unfold pressClear
    split
    · exact iteInduction (motive := fun x : Result × State => Shown x.2) (fun _ => meterChange_shown) fun _ => h
    all_goals exact h
  | extra => exact pressExtra_shown h

/-! Requests. -/

theorem ownMeterKey_shown {r : Fin 16} (h : Shown s) : Shown (ownMeterKey r s) := by
  unfold ownMeterKey answerKey
  split_ifs
  · split <;> simp [pressKey_shown, h]
  · simp [h]

theorem ownAddExtra_shown {r : Fin 16} (h : Shown s) : Shown (ownAddExtra r s) := by
  have hanswered : ∀ i, Shown (answerExtra r i (pressExtra i s)) := fun i => by
    unfold answerExtra
    simp [pressExtra_shown h]
  unfold ownAddExtra
  split_ifs <;> simp [hanswered, h]

theorem ownSelectTariff_shown {r : Fin 16} (h : Shown s) : Shown (ownSelectTariff r s) := by
  have hset : ∀ k, Shown (setOverride k s) := fun k => by
    unfold setOverride
    refine iteInduction (motive := Shown) (fun hsame => ?_) fun _ => rewriteFareGroup_shown
    rw [Shown, hsame]
    exact h
  unfold ownSelectTariff
  split_ifs <;> simp [hset, h]

theorem ownShiftOpen_shown {r : Fin 16} (h : Shown s) : Shown (ownShiftOpen r s) := by
  unfold ownShiftOpen openShift
  split_ifs <;> simp [meterChange_shown, h]

theorem ownShiftClose_shown {r : Fin 16} (h : Shown s) : Shown (ownShiftClose r s) := by
  unfold ownShiftClose closeShift
  split_ifs <;> simp [meterChange_shown, h]

theorem ownReleaseTrip_shown {r : Fin 16} (h : Shown s) : Shown (ownReleaseTrip r s) := by
  unfold ownReleaseTrip
  split_ifs
  exacts [h.congr (by simp [shownView, updateTripRecord]), by simp [h], by simp [h]]

theorem ownSetClock_shown {r : Fin 16} (h : Shown s) : Shown (ownSetClock r s) := by
  unfold ownSetClock
  split_ifs <;> simp [setClockTo_shown, h]

theorem takeTime_shown {x : Stamp} (h : Shown s) : Shown (takeTime x s) := by
  unfold takeTime
  split_ifs
  exacts [by simp [setClockTo_shown h], .congr (s := s) rfl h, h]

/-- Stage 3 fills the directory afresh (R186). -/
theorem stage3_shown : Shown (stage3 s) := by
  have hgroup : ∀ u : State, Shown (u.modFrc fun f =>
      { f with fareGroup := fareGroupNow u, pulseCounter := 0, meterTimerRunning := true }) := fun u => rfl
  have hheld : ∀ u, Shown u → Shown (if u.mtc.meter = .payment then startHold u else u) := fun u hu =>
    iteInduction (motive := Shown) (fun _ => .congr (s := u) rfl hu) fun _ => hu
  exact hheld _ (hgroup _)

end

end Sys2Proof.Machine
end

section
/-! PROOF. Every command keeps the registers and counts in their ranges (O12). -/

namespace Sys2Proof.Machine

section
variable {s t : State}

/-! The counters that stage 3 takes back from the store. -/

/-- A log checked at a start-up is that of a commit in its ranges, or it is empty (R46). -/
theorem openTripCheckpoint_inRange (h : CommitsOk MeterCommit.inRange s) {c : Checkpoint} (hc : openTripCheckpoint s = some c) :
    c.hire.inRange ∧ c.trip.inRange := by
  unfold openTripCheckpoint at hc
  split at hc
  next m hm =>
    split_ifs at hc
    obtain rfl := Option.some.inj hc
    obtain ⟨hhire, htrip, -⟩ := h.1 m hm
    exact ⟨hhire, htrip⟩
  next => cases hc

theorem recoveredHire_inRange (h : CommitsOk MeterCommit.inRange s) : (recoveredHire s).inRange := by
  unfold recoveredHire
  split
  next c _ hc => exact (openTripCheckpoint_inRange h hc).1
  next => exact Hire.zero_inRange _

theorem recoveredTrip_inRange (h : CommitsOk MeterCommit.inRange s) : (recoveredTrip s).inRange := by
  unfold recoveredTrip
  split
  next c _ hc => exact (openTripCheckpoint_inRange h hc).2
  next => exact Trip.zero_inRange

/-- A power interruption counts once more (R46). -/
theorem Totals.interrupted_inRange {g : Totals} (h : g.inRange) :
    ({ g with powerInterruptions := satAdd u32Max g.powerInterruptions 1 } : Totals).inRange := by
  obtain ⟨h1, h2, h3, h4, h5, h6, h7, -, h9⟩ := h
  exact ⟨h1, h2, h3, h4, h5, h6, h7, satAdd_le _ _ _, h9⟩

theorem storedTotals_inRange (h : CommitsOk MeterCommit.inRange s) : (storedTotals s.cps.store).inRange := by
  unfold storedTotals
  split
  next c hc =>
    obtain ⟨-, -, -, -, htotals, -⟩ := h.1 c hc
    exact htotals
  next => exact ⟨Totals.zero_inRange, Totals.zero_inRange, Totals.zero_inRange, Nat.zero_le _, Nat.zero_le _⟩

theorem recoveredTotals_inRange (h : CommitsOk MeterCommit.inRange s) : (recoveredTotals s).inRange := by
  obtain ⟨hshift, hlast, hlifetime, hshifts, hbase⟩ := storedTotals_inRange h
  unfold recoveredTotals
  simp only
  split
  exacts [⟨hshift, hlast, hlifetime, hshifts, hbase⟩,
    ⟨Totals.interrupted_inRange hshift, hlast, Totals.interrupted_inRange hlifetime, hshifts, hbase⟩,
    ⟨hshift, hlast, hlifetime, hshifts, hbase⟩, ⟨hshift, hlast, Totals.interrupted_inRange hlifetime, hshifts, hbase⟩]

theorem recoveredShiftPulses_le (h : CommitsOk MeterCommit.inRange s) : recoveredShiftPulses s ≤ 4294967295 := by
  unfold recoveredShiftPulses
  split
  next c hc =>
    obtain ⟨-, -, hpulses, -⟩ := h.1 c hc
    exact hpulses
  next => exact Nat.zero_le _

theorem storedOrder_nodup (h : CommitsOk MeterCommit.inRange s) : (storedOrder s.cps.store).Nodup := by
  unfold storedOrder
  split
  next c hc =>
    obtain ⟨-, -, -, -, -, horder⟩ := h.1 c hc
    exact horder
  next => exact List.nodup_nil

theorem storedEmergency_le (h : CommitsOk MeterCommit.inRange s) : (storedEmergency s.cps.store).2 ≤ 65535 := by
  unfold storedEmergency
  split
  next c hc =>
    obtain ⟨-, -, -, hcount, -⟩ := h.1 c hc
    exact hcount
  next => exact Nat.zero_le _

theorem recoverMeter_fareOk (hcommits : CommitsOk MeterCommit.inRange s) (h : FareOk 0 s) : FareOk 0 (recoverMeter s) := by
  have hreport : ∀ u, FareOk 0 u → FareOk 0 (reportRecovery u) := fun u hu => by
    unfold reportRecovery
    split <;> simp [hu]
  exact hreport _ ⟨h.pulses, recoveredHire_inRange hcommits, recoveredShiftPulses_le hcommits, h.clock,
    recoveredTrip_inRange hcommits, recoveredTotals_inRange hcommits, storedOrder_nodup hcommits,
    fun _ hk => absurd hk.symm (Option.some_ne_none _), h.count, h.parity, h.rewriting⟩

theorem recoverMeter_commitsOk {P : MeterCommit → Prop} (h : CommitsOk P s) : CommitsOk P (recoverMeter s) := by
  unfold recoverMeter reportRecovery
  simp only
  split <;> exact h.of_eq (by simp) (by simp)

theorem recoverEmergency_fareView (s : State) : fareView (recoverEmergency s) = fareView s := by
  unfold recoverEmergency
  simp only
  split_ifs <;> simp [fareView]

theorem stage3_fareOk (hcommits : CommitsOk MeterCommit.inRange s) (h : FareOk 0 s) : FareOk 0 (stage3 s) := by
  have hcalled : FareOk 0 (recoverEmergency (recoverMeter s)) :=
    (recoverMeter_fareOk hcommits h).congr (recoverEmergency_fareView _)
  have hheld : ∀ u : State, FareOk 0 u → FareOk 0 (if u.mtc.meter = .payment then startHold u else u) := fun u hu =>
    iteInduction (motive := FareOk 0) (fun _ => startHold_fareOk hu) fun _ => hu
  have hfilled : ∀ u : State, FareOk 0 u → FareOk 0 (u.modFrc fun f =>
      { f with fareGroup := fareGroupNow u, pulseCounter := 0, meterTimerRunning := true }) := fun u hu =>
    ⟨Nat.zero_le _, hu.hire, hu.shiftPulses, hu.clock, hu.trip, hu.totals, hu.order, hu.hold, hu.count, hu.parity, hu.rewriting⟩
  have hplaced : ∀ d : Dsc, FareOk 0 ((recoverEmergency (recoverMeter s)).modDsc fun _ => d) := fun d =>
    .congr (s := recoverEmergency (recoverMeter s)) rfl hcalled
  have hready := hheld _ (hfilled _ (hplaced
    { Dsc.atReset with status := derivedStatus (recoverEmergency (recoverMeter s)).mtc.meter }))
  have hphase : ∀ u : State, FareOk 0 u → FareOk 0 { u with phase := .stage3 } := fun u hu => .congr (s := u) rfl hu
  exact hphase _ hready

/-- The call that stage 3 takes back has its count from the store and its code from the settings (R123). -/
theorem recoverEmergency_opsRange (hcommits : CommitsOk MeterCommit.inRange s) (h : OpsRange s) : OpsRange (recoverEmergency s) := by
  have hcalled : OpsRange (s.modEmc fun _ =>
      { Emc.atReset with
        state := (storedEmergency s.cps.store).1.resumed, count := (storedEmergency s.cps.store).2, code := cancelCode s }) :=
    modEmc_opsRange ⟨storedEmergency_le hcommits, Nat.zero_le _, Nat.zero_le _, clamp_le (by decide),
      fun _ hn => absurd hn.symm (Option.some_ne_none _)⟩ h
  unfold recoverEmergency
  simp only
  split_ifs <;> simp [hcalled]

/-! The store's writes. -/

theorem FareOk.of_write (h : FareOk 0 s) (hk : WriteKept s t) (hcount : t.wpt.updateCount = s.wpt.updateCount)
    (hrewriting : t.wpt.rewriting = s.wpt.rewriting) : FareOk 0 t :=
  h.congr (by simp [fareView, hk, hcount, hrewriting])

/-- The operations at the end of a write leave the update count. -/
theorem writes_updateCount (s : State) :
    ((beginNextWrite s).wpt.updateCount = s.wpt.updateCount ∧ (beginNextWrite s).wpt.rewriting = s.wpt.rewriting) ∧
    (∀ x, (reportCarriedTrip x s).wpt.updateCount = s.wpt.updateCount ∧
      (reportCarriedTrip x s).wpt.rewriting = s.wpt.rewriting) ∧
    ((finishCalibrationWrite s).wpt.updateCount = s.wpt.updateCount ∧
      (finishCalibrationWrite s).wpt.rewriting = s.wpt.rewriting) ∧
    ((finishTariffWrite s).wpt.updateCount = s.wpt.updateCount ∧ (finishTariffWrite s).wpt.rewriting = s.wpt.rewriting) ∧
    ((finishSettingsWrite s).wpt.updateCount = s.wpt.updateCount ∧
      (finishSettingsWrite s).wpt.rewriting = s.wpt.rewriting) ∧
    ((failCurrentWrite s).wpt.updateCount = s.wpt.updateCount ∧ (failCurrentWrite s).wpt.rewriting = s.wpt.rewriting) := by
  refine ⟨?_, fun x => ?_, ?_, ?_, ?_, ?_⟩
  · unfold beginNextWrite beginWrite removeWrite
    split_ifs
    · split <;> simp
    · simp
  · cases x with
    | none => simp [reportCarriedTrip]
    | some t =>
      unfold reportCarriedTrip sendCarriedTrip
      simp only
      split_ifs <;> simp
  · unfold finishCalibrationWrite
    split <;> simp [endWrite]
  · unfold finishTariffWrite answerTariffs
    split
    · split <;> simp [endWrite]
    · simp
  · unfold finishSettingsWrite answerSettings
    split
    · split <;> simp [endWrite]
    · simp
  · unfold failCurrentWrite failWrite afterFailure answerTariffs answerSettings
    split
    · split
      · simp [endWrite]
      · simp [endWrite]
      · split <;> simp [endWrite]
      · split <;> simp [endWrite]
    · simp

/-- A commit's end rewrites the mirrors once (R45, R162). -/
theorem finishMeterCommit_fareOk (h : FareOk 0 s) : FareOk 0 (finishMeterCommit s) := by
  have hmirrors : ∀ c u, FareOk 0 u → FareOk 0 (rewriteMirrors c u) := fun c u hu => by
    have hb := beginRewrite_fareOk hu
    exact endRewrite_fareOk ⟨hb.pulses, hb.hire, hb.shiftPulses, hb.clock, hb.trip, hb.totals, hb.order, hb.hold, hb.count,
      hb.parity, hb.rewriting⟩
  have hcarried : ∀ u x, FareOk 0 u → FareOk 0 (reportCarriedTrip x u) := fun u x hu => by
    obtain ⟨-, hreport, -⟩ := writes_updateCount u
    exact hu.of_write (reportCarriedTrip_write u x) (hreport x).1 (hreport x).2
  have hshift : ∀ u, FareOk 0 u → FareOk 0 (reportCarriedShift u) := fun u hu => hu.congr (by simp [fareView, reportCarriedShift])
  have hcompleted : ∀ c first due, FareOk 0 (completeMeterCommit c first due s) := fun c first due => by
    have htrips := foldl_invariant (FareOk 0) (fun u e => reportCarriedTrip e u) (fun u e hu => hcarried u e hu) first _
      (hmirrors c (endWrite .meter (fun st => { st with meter := some c }) s) (.congr (s := s) rfl h))
    exact iteInduction (motive := FareOk 0) (fun _ => hshift _ htrips) fun _ => htrips
  unfold finishMeterCommit
  split
  exacts [hcompleted _ _ _, h]

/-! Every command. -/

theorem FareOk.of_block (h : FareOk 0 s) (hk : BlockKept s t) : FareOk 0 t := h.congr (by simp [fareView, hk])

theorem FareOk.of_port (h : FareOk 0 s) (hk : PortKept s t) : FareOk 0 t := h.congr (by simp [fareView, hk])

theorem volatileCleared_fareOk (p : Phase) (s : State) : FareOk 0 (volatileCleared p s) :=
  ⟨Nat.zero_le _, Hire.zero_inRange _, Nat.zero_le _, (by decide : Stamp.atStart.valid = true), Trip.zero_inRange,
    ⟨Totals.zero_inRange, Totals.zero_inRange, Totals.zero_inRange, Nat.zero_le _, Nat.zero_le _⟩, List.nodup_nil,
    fun _ hk => absurd hk.symm (Option.some_ne_none _), Nat.zero_le _, rfl, rfl⟩

theorem stage2_fareOk (h : FareOk 0 s) : FareOk 0 (stage2 s) := by
  have hfault : ∀ u, FareOk 0 u → FareOk 0 (recordCalInvalid u) := fun u hu => by
    unfold recordCalInvalid
    split_ifs <;> simp [hu]
  exact hfault _ ⟨h.pulses, h.hire, h.shiftPulses, (by decide : Stamp.atStart.valid = true), h.trip, h.totals, h.order, h.hold,
    Nat.zero_le _, rfl, rfl⟩

theorem stage4_fareView (s : State) : fareView (stage4 s) = fareView s := by
  unfold stage4
  simp only
  split_ifs <;> simp [fareView]

theorem stage5_fareOk (h : FareOk 0 s) : FareOk 0 (stage5 s) :=
  ⟨by simpa using h.pulses, by simpa using h.hire, by simpa using h.shiftPulses, by simpa using h.clock, by simpa using h.trip,
    by simpa using h.totals, by simpa using h.order, by simpa using h.hold, Nat.zero_le _, rfl, by simpa using h.rewriting⟩

theorem effect_fareOk (c : Instr) (hcommits : CommitsOk MeterCommit.inRange s) (h : FareOk 0 s) : FareOk 0 (effect c s) := by
  have hrequest : ∀ k owner, (∀ r t, FareOk 0 t → FareOk 0 (owner r t)) → FareOk 0 (takeRequest k owner s) := fun k owner ho =>
    takeRequest_law h fun r rest _ _ => serveRequest_law (h.congr (by simp [fareView])) (ho _ _ (h.congr (by simp [fareView])))
  obtain ⟨hbegin, -, hcalibration, htariff, hsettings, hfailed⟩ := writes_updateCount s
  cases c with
  | setClock => exact hrequest _ _ fun _ _ => ownSetClock_fareOk
  | meterKey => exact hrequest _ _ fun _ _ => ownMeterKey_fareOk
  | addExtra => exact hrequest _ _ fun _ _ => ownAddExtra_fareOk
  | selectTariff => exact hrequest _ _ fun _ _ => ownSelectTariff_fareOk
  | shiftOpen => exact hrequest _ _ fun _ _ => ownShiftOpen_fareOk
  | shiftClose => exact hrequest _ _ fun _ _ => ownShiftClose_fareOk
  | releaseTrip => exact hrequest _ _ fun _ _ => ownReleaseTrip_fareOk
  | time f =>
    exact receiveFrame_law h (fun _ fate => h.congr (by simp [fareView])) fun _ how _ =>
      takeTime_fareOk (h.congr (by simp [fareView]))
  | pulseEdge => exact countPulse_fareOk h
  | meterSecondExpiry => exact iteInduction (fun _ => endMeterSecond_fareOk h) fun _ => h
  | calendarSecondExpiry => exact iteInduction (fun _ => endCalendarSecond_fareOk h) fun _ => h
  | keyPress k => exact iteInduction (fun _ => pressKey_fareOk h) fun _ => h
  | paymentHoldExpiry => exact endHold_fareOk h
  | storeWriteBegin => exact h.of_write (beginNextWrite_write s) hbegin.1 hbegin.2
  | meterCommitComplete => exact finishMeterCommit_fareOk h
  | calibrationWriteComplete => exact h.of_write (finishCalibrationWrite_write s) hcalibration.1 hcalibration.2
  | tariffWriteComplete => exact h.of_write (finishTariffWrite_write s) htariff.1 htariff.2
  | settingsWriteComplete => exact h.of_write (finishSettingsWrite_write s) hsettings.1 hsettings.2
  | storeWriteFailed => exact h.of_write (failCurrentWrite_write s) hfailed.1 hfailed.2
  | powerLoss => exact volatileCleared_fareOk .off s
  | resetNAssert => exact iteInduction (fun _ => h) fun _ => volatileCleared_fareOk .held s
  | startUp => exact iteInduction (fun _ => .congr (s := volatileCleared .stage1 s) rfl (volatileCleared_fareOk .stage1 s)) fun _ => h
  | startupWindow => exact iteInduction (fun _ => stage2_fareOk h) fun _ => h
  | startupRecovery => exact iteInduction (fun _ => stage3_fareOk hcommits h) fun _ => h
  | startupRadio => exact iteInduction (fun _ => h.congr (stage4_fareView s)) fun _ => h
  | startupReady => exact iteInduction (fun _ => stage5_fareOk h) fun _ => h
  | calRunStart | calPointerWrite | calDataWrite | calDataRead | calStop | calBusIdleTimeout =>
    exact h.of_port (effect_portKept rfl s)
  | _ => exact h.of_block (effect_blockKept rfl rfl rfl s)

theorem Shown.of_write (h : Shown s) (hk : WriteKept s t) : Shown t := h.congr (by simp [shownView, hk])

theorem Shown.of_block (h : Shown s) (hk : BlockKept s t) : Shown t := h.congr (by simp [shownView, hk])

theorem Shown.of_port (h : Shown s) (hk : PortKept s t) : Shown t := h.congr (by simp [shownView, hk])

theorem stage4_shownView (s : State) : shownView (stage4 s) = shownView s := by
  unfold stage4
  simp only
  split_ifs <;> simp [shownView]

theorem effect_shown (c : Instr) (h : Shown s) : Shown (effect c s) := by
  have hrequest : ∀ k owner, (∀ r t, Shown t → Shown (owner r t)) → Shown (takeRequest k owner s) := fun k owner ho =>
    takeRequest_law h fun r rest _ _ => serveRequest_law (h.congr (by simp [shownView])) (ho _ _ (h.congr (by simp [shownView])))
  have hcleared : ∀ p, Shown (volatileCleared p s) := fun _ => rfl
  cases c with
  | setClock => exact hrequest _ _ fun _ _ => ownSetClock_shown
  | meterKey => exact hrequest _ _ fun _ _ => ownMeterKey_shown
  | addExtra => exact hrequest _ _ fun _ _ => ownAddExtra_shown
  | selectTariff => exact hrequest _ _ fun _ _ => ownSelectTariff_shown
  | shiftOpen => exact hrequest _ _ fun _ _ => ownShiftOpen_shown
  | shiftClose => exact hrequest _ _ fun _ _ => ownShiftClose_shown
  | releaseTrip => exact hrequest _ _ fun _ _ => ownReleaseTrip_shown
  | time f =>
    exact receiveFrame_law h (fun _ fate => h.congr (by simp [shownView])) fun _ how _ =>
      takeTime_shown (h.congr (by simp [shownView]))
  | pulseEdge => exact iteInduction (fun _ => h) fun _ => h
  | meterSecondExpiry => exact iteInduction (fun _ => endMeterSecond_shown h) fun _ => h
  | calendarSecondExpiry => exact iteInduction (fun _ => endCalendarSecond_shown h) fun _ => h
  | keyPress k => exact iteInduction (fun _ => pressKey_shown h) fun _ => h
  | paymentHoldExpiry => exact iteInduction (fun _ => h) fun _ => h
  | storeWriteBegin => exact h.of_write (beginNextWrite_write s)
  | meterCommitComplete => exact h.of_write (finishMeterCommit_write s)
  | calibrationWriteComplete => exact h.of_write (finishCalibrationWrite_write s)
  | tariffWriteComplete => exact h.of_write (finishTariffWrite_write s)
  | settingsWriteComplete => exact h.of_write (finishSettingsWrite_write s)
  | storeWriteFailed => exact h.of_write (failCurrentWrite_write s)
  | powerLoss => exact hcleared .off
  | resetNAssert => exact iteInduction (fun _ => h) fun _ => hcleared .held
  | startUp => exact iteInduction (fun _ => hcleared .stage1) fun _ => h
  | startupWindow => exact iteInduction (fun _ => h.congr (by simp [shownView, stage2])) fun _ => h
  | startupRecovery => exact iteInduction (fun _ => stage3_shown) fun _ => h
  | startupRadio => exact iteInduction (fun _ => h.congr (stage4_shownView s)) fun _ => h
  | startupReady => exact iteInduction (fun _ => h.congr (by simp [shownView])) fun _ => h
  | calRunStart | calPointerWrite | calDataWrite | calDataRead | calStop | calBusIdleTimeout =>
    exact h.of_port (effect_portKept rfl s)
  | _ => exact h.of_block (effect_blockKept rfl rfl rfl s)

end

/-- The law of the ranges is that of the counters, of the tariff shown, of the commits held, of the blocks beside and of the
offer timers. -/
theorem rangeLaw_iff (s : State) :
    RangeLaw s ↔ FareOk 0 s ∧ Shown s ∧ CommitsOk MeterCommit.inRange s ∧ OpsRange s ∧ TimersOk s := by
  rw [commitsOk_iff]
  constructor
  · rintro ⟨hpulses, hhire, hshift, hclock, hshown, htrip, htotals, horder, hstore, hwriting, hhold, hfix, hqueue, hzone, htimers,
      hmissed, hrefused, hlost, hcount, hpresses, hwrong, hcode, hupdate, hcrc, hformat, hcycle, hrng, hsequence, hframes, hstray,
      hupdates, hparity, hrewriting, hdropped, hillegal, hring, hpointer⟩
    exact ⟨⟨hpulses, hhire, hshift, hclock, htrip, htotals, horder, hhold, hupdates, hparity, hrewriting⟩, hshown,
      ⟨hstore, hwriting⟩, ⟨hframes, hstray, ⟨hzone, hqueue, hfix⟩, hmissed, ⟨hrefused, hlost⟩,
        ⟨hcrc, hformat, hcycle, hrng, hsequence⟩, ⟨hdropped, hillegal⟩, hring, hpointer,
        ⟨hcount, hpresses, hwrong, hcode, hupdate⟩⟩, htimers⟩
  · rintro ⟨⟨hpulses, hhire, hshift, hclock, htrip, htotals, horder, hhold, hupdates, hparity, hrewriting⟩, hshown,
      ⟨hstore, hwriting⟩, ⟨hframes, hstray, ⟨hzone, hqueue, hfix⟩, hmissed, ⟨hrefused, hlost⟩,
        ⟨hcrc, hformat, hcycle, hrng, hsequence⟩, ⟨hdropped, hillegal⟩, hring, hpointer,
        ⟨hcount, hpresses, hwrong, hcode, hupdate⟩⟩, htimers⟩
    exact ⟨hpulses, hhire, hshift, hclock, hshown, htrip, htotals, horder, hstore, hwriting, hhold, hfix, hqueue, hzone, htimers,
      hmissed, hrefused, hlost, hcount, hpresses, hwrong, hcode, hupdate, hcrc, hformat, hcycle, hrng, hsequence, hframes, hstray,
      hupdates, hparity, hrewriting, hdropped, hillegal, hring, hpointer⟩

/-- What a meter commit carries of a state in its ranges is in its ranges (R45). -/
theorem meterCommitNow_inRange {s : State} (h : FareOk 0 s) (hops : OpsRange s) : (meterCommitNow s).inRange :=
  ⟨h.hire, h.trip, h.shiftPulses, hops.emc.1, h.totals, h.order⟩

theorem effect_rangeLaw (c : Instr) {s : State} (h : RangeLaw s) : RangeLaw (effect c s) := by
  rw [rangeLaw_iff] at h ⊢
  obtain ⟨hfare, hshown, hcommits, hops, htimers⟩ := h
  have hrecovered : CommitsOk MeterCommit.inRange (recoverMeter s) := recoverMeter_commitsOk hcommits
  exact ⟨effect_fareOk c hcommits hfare, effect_shown c hshown,
    effect_commitsOk c (meterCommitNow_inRange hfare hops) hcommits,
    effect_closed opsRange_opsKeep c (recoverEmergency_opsRange hrecovered) hops,
    effect_tables timersOk_entriesLaw.tablesLaw c htimers⟩

/-- The notification lines are outside the ranges. -/
theorem driveLines_rangeLaw {s : State} (h : RangeLaw s) : RangeLaw (driveLines s) := by
  rw [rangeLaw_iff] at h ⊢
  obtain ⟨hfare, hshown, hcommits, hops, htimers⟩ := h
  exact ⟨hfare.congr (by simp [fareView]), hshown.congr (by simp [shownView]), hcommits.of_eq (by simp) (by simp),
    hops.congr (by simp [opsView]), htimers.of_entries (by simp)⟩

/-- Settles O12: every command keeps the ranges of each block's counts. -/
theorem registersStayInRange : Obligations.RegistersStayInRange :=
  law_step (P := RangeLaw) (fun _ _ h => h) (fun _ => driveLines_rangeLaw) fun c _ => effect_rangeLaw c

end Sys2Proof.Machine
end

section
/-! SUPPORT. Blocks of the text pool that are granted and filled (R87 to R90), for an offer's details and for a text. -/

namespace Sys2Proof.Machine

section
variable {s : State}

/-! What a filled chain holds. -/

/-- The byte at `a` that filling block `b` with `part` writes: the used count and the text, not the link. -/
def partByte (b : Nat) (part : List Byte) (a : Nat) : Option Byte :=
  if a = blockBase b + 1 then some (byteOf part.length)
  else if blockBase b + 2 ≤ a ∧ a < blockBase b + 2 + part.length then part[a - (blockBase b + 2)]?
  else none

/-- A part of a text lies within its block. -/
theorem partByte_range {b a : Nat} {part : List Byte} (hlen : part.length ≤ 30) (h : (partByte b part a).isSome) :
    blockBase b + 1 ≤ a ∧ a < blockBase b + 32 := by
  unfold partByte at h
  split_ifs at h with hcount htext
  · omega
  · omega
  · cases h

theorem partByte_other {b c a : Nat} {part other : List Byte} (hlen : part.length ≤ 30) (hother : other.length ≤ 30) (hne : c ≠ b)
    (h : (partByte b part a).isSome) : partByte c other a = none := by
  refine Option.not_isSome_iff_eq_none.mp fun hc => hne ?_
  have hb := partByte_range hlen h
  have hc := partByte_range hother hc
  simp only [blockBase] at hb hc
  omega

/-- A block is filled with its part. -/
theorem fillBlock_read {m : Memory} (h : m.Wf) (b : Nat) (part : List Byte) (a : Nat) :
    ((m.write (blockBase b + 1) (byteOf part.length)).writeBytes (blockBase b + 2) part).read a =
      (partByte b part a).getD (m.read a) := by
  have hcount := Memory.wf_write h (blockBase b + 1) (byteOf part.length)
  unfold partByte
  split_ifs with hused htext
  · rw [Memory.read_writeBytes_other hcount _ (.inl (by omega)), hused, Memory.read_write_same h]
    rfl
  · obtain ⟨i, rfl⟩ : ∃ i, a = blockBase b + 2 + i := ⟨a - (blockBase b + 2), by omega⟩
    have hi : i < part.length := by omega
    rw [Memory.read_writeBytes hcount _ _ i hi, Nat.add_sub_cancel_left, List.getElem?_eq_getElem hi]
    rfl
  · rw [Memory.read_writeBytes_other hcount _ (by omega), Memory.read_write_other h _ hused]
    rfl

/-- The part of a text that goes into its block of index `i`. -/
def textPart (text : List Byte) (i : Nat) : List Byte := (text.drop (30 * i)).take 30

theorem textPart_length (text : List Byte) (i : Nat) : (textPart text i).length ≤ 30 := by simp [textPart]

/-- What filling the blocks writes at `a`. -/
def filledByte (blocks : List Nat) (k : Nat) (text : List Byte) (a : Nat) : Option Byte :=
  (blocks.zipIdx k).findSome? fun x => partByte x.1 (textPart text x.2) a

theorem filledByte_cons (b : Nat) (bs : List Nat) (k : Nat) (text : List Byte) (a : Nat) :
    filledByte (b :: bs) k text a = (partByte b (textPart text k) a).or (filledByte bs (k + 1) text a) := by
  unfold filledByte
  rw [List.zipIdx_cons, List.findSome?_cons]
  cases partByte b (textPart text k) a <;> rfl

/-- A byte that no block's part holds. -/
theorem filledByte_none {blocks : List Nat} {k : Nat} {text : List Byte} {a : Nat}
    (h : ∀ b ∈ blocks, a < blockBase b + 1 ∨ blockBase b + 32 ≤ a) : filledByte blocks k text a = none := by
  refine List.findSome?_eq_none_iff.mpr fun x hx => Option.not_isSome_iff_eq_none.mp fun hsome => ?_
  have hmem : x.1 ∈ blocks := List.fst_mem_of_mem_zipIdx hx
  have := partByte_range (textPart_length text x.2) hsome
  have := h x.1 hmem
  omega

theorem fillBlocks_read {m : Memory} (h : m.Wf) {blocks : List Nat} (hdistinct : blocks.Nodup) (k : Nat) (text : List Byte) (a : Nat) :
    (fillBlocks blocks (text.drop (30 * k)) m).read a = (filledByte blocks k text a).getD (m.read a) := by
  induction blocks generalizing m k with
  | nil => rfl
  | cons b bs ih =>
    obtain ⟨hfresh, hrest⟩ := List.nodup_cons.mp hdistinct
    have hone := fillBlock_read h b (textPart text k) a
    have hfilled := Memory.wf_writeBytes (Memory.wf_write h (blockBase b + 1) (byteOf (textPart text k).length)) (blockBase b + 2)
      (textPart text k)
    have hnext := ih hfilled hrest (k + 1)
    rw [show 30 * (k + 1) = 30 * k + 30 by omega, ← List.drop_drop, hone] at hnext
    rw [filledByte_cons]
    refine hnext.trans ?_
    cases hpart : partByte b (textPart text k) a with
    | none => rfl
    | some v =>
      have hothers : filledByte bs (k + 1) text a = none := by
        refine List.findSome?_eq_none_iff.mpr fun x hx => ?_
        have hmem : x.1 ∈ bs := List.fst_mem_of_mem_zipIdx hx
        exact partByte_other (textPart_length text k) (textPart_length text x.2) (fun he : x.1 = b => hfresh (he ▸ hmem))
          (by rw [hpart]; rfl)
      rw [hothers]
      rfl

/-- The last block of a chain of different blocks is the one at the last place. -/
theorem last_of_index {blocks : List Nat} (hdistinct : blocks.Nodup) {x : Nat × Nat} (hx : x ∈ blocks.zipIdx) :
    x.2 + 1 = blocks.length ↔ x.1 = blocks.getLastD 0 := by
  obtain ⟨hlt, hget⟩ := List.mem_zipIdx' hx
  have hne : blocks ≠ [] := List.ne_nil_of_length_pos (by omega)
  rw [List.getLastD_eq_getLast?, List.getLast?_eq_getLast_of_ne_nil hne, Option.getD_some, List.getLast_eq_getElem, hget]
  rw [hdistinct.getElem_inj_iff]
  omega

/-- A chain that ends at its last block and is filled holds the text, the used counts and the end mark (R87, R88). -/
theorem chainFilled_read {m : Memory} (h : m.Wf) {blocks : List Nat} (hdistinct : blocks.Nodup) (hne : blocks ≠ []) (text : List Byte)
    (a : Nat) : (fillBlocks blocks text (linkBlock (blocks.getLastD 0) 255 m)).read a =
      ((blocks.zipIdx.findSome? fun x => textByte x.1 (x.2 + 1 == blocks.length) (textPart text x.2) a).getD (m.read a)) := by
  have hfill := fillBlocks_read (m := linkBlock (blocks.getLastD 0) 255 m) (Memory.wf_write h _ _) hdistinct 0 text a
  rw [Nat.mul_zero, List.drop_zero] at hfill
  rw [hfill, linkBlock]
  have hlast : blocks.getLastD 0 ∈ blocks := by
    rw [List.getLastD_eq_getLast?, List.getLast?_eq_getLast_of_ne_nil hne]
    exact List.getLast_mem hne
  by_cases ha : a = blockBase (blocks.getLastD 0)
  · have hnone : filledByte blocks 0 text a = none := filledByte_none fun b _ => by
      simp only [blockBase] at ha ⊢
      omega
    have hend : (blocks.zipIdx.findSome? fun x => textByte x.1 (x.2 + 1 == blocks.length) (textPart text x.2) a) = some 255#8 := by
      cases hfind : blocks.zipIdx.findSome? fun x => textByte x.1 (x.2 + 1 == blocks.length) (textPart text x.2) a with
      | none =>
        rw [List.findSome?_eq_none_iff] at hfind
        obtain ⟨i, hi, hget⟩ := List.mem_iff_getElem.mp hlast
        have hmem : (blocks.getLastD 0, i) ∈ blocks.zipIdx := List.mem_zipIdx_iff_getElem?.mpr (by
          rw [List.getElem?_eq_getElem hi, hget])
        have := hfind _ hmem
        simp [textByte, ha, (last_of_index hdistinct hmem).mpr rfl] at this
      | some v =>
        obtain ⟨x, hx, hv⟩ := List.exists_of_findSome?_eq_some hfind
        by_cases hxl : x.1 = blocks.getLastD 0
        · simpa [textByte, ha, hxl, (last_of_index hdistinct hx).mpr hxl] using hv.symm
        · have hnone := Option.not_isSome_iff_eq_none.mp fun hsome =>
            (by
              have := partByte_range (textPart_length text x.2) hsome
              simp only [blockBase] at ha this
              omega : ¬(partByte x.1 (textPart text x.2) a).isSome) hsome
          have hbase : a ≠ blockBase x.1 := fun he => hxl (by
            simp only [blockBase] at ha he
            omega)
          rw [textByte, if_neg hbase] at hv
          exact absurd (hnone.symm.trans hv) (by simp)
    rw [hnone, hend, ha, Memory.read_write_same h]
    rfl
  · rw [Memory.read_write_other h _ ha]
    congr 1
    have hcongr : ∀ l : List (Nat × Nat), (∀ x ∈ l, x ∈ blocks.zipIdx) →
        (l.findSome? fun x => partByte x.1 (textPart text x.2) a) =
          l.findSome? fun x => textByte x.1 (x.2 + 1 == blocks.length) (textPart text x.2) a := fun l hl => by
      induction l with
      | nil => rfl
      | cons x l ih =>
        have hone : partByte x.1 (textPart text x.2) a = textByte x.1 (x.2 + 1 == blocks.length) (textPart text x.2) a := by
          have hx := hl x (List.mem_cons_self)
          unfold textByte
          split_ifs with hbase hend
          · exact absurd (((last_of_index hdistinct hx).mp (by simpa using hend)) ▸ hbase) ha
          · exact Option.not_isSome_iff_eq_none.mp fun hsome => by
              have := partByte_range (textPart_length text x.2) hsome
              omega
          all_goals simp [partByte, *]
        rw [List.findSome?_cons, List.findSome?_cons, hone, ih fun y hy => hl y (List.mem_cons_of_mem x hy)]
    exact hcongr _ fun _ hx => hx

/-! Blocks granted. -/

theorem chainFrom_eq (m : Memory) (first n : Nat) : chainFrom m.read first n = chainBlocks m first n := by
  induction n generalizing first with
  | zero => rfl
  | succ n ih => exact congrArg (first :: ·) (ih _)

theorem chainBlocks_ne_nil {m : Memory} {first n : Nat} (hn : n ≠ 0) : chainBlocks m first n ≠ [] := by
  cases n with
  | zero => exact absurd rfl hn
  | succ n => exact List.cons_ne_nil _ _

theorem grantBlocks_mem {n : Nat} (hn : n ≠ 0) (s : State) :
    (grantBlocks n s).mem = linkBlock ((grantedBlocks s n).getLastD 0) 255 s.mem := by
  unfold grantBlocks
  simp only [hn, if_false]
  split_ifs <;> simp

/-- The granted blocks leave the free chain (R88). -/
theorem grantBlocks_mst (n : Nat) (s : State) : (grantBlocks n s).mst =
    { s.mst with freeHead := headAfter (grantedBlocks s n) s.mem.read s.mst.freeHead, freeCount := s.mst.freeCount - n } := by
  unfold grantBlocks
  by_cases hn : n = 0
  · subst hn
    rfl
  · have hlast : headAfter (grantedBlocks s n) s.mem.read s.mst.freeHead =
        (s.mem.read (blockBase ((grantedBlocks s n).getLastD 0))).toNat := by
      have hne : grantedBlocks s n ≠ [] := chainBlocks_ne_nil hn
      unfold headAfter
      rw [List.getLastD_eq_getLast?, List.getLast?_eq_getLast_of_ne_nil hne]
      rfl
    simp only [hn, if_false, hlast]
    split_ifs <;> simp

theorem grantBlocks_keeps (n : Nat) (s : State) : Keeps [.mem, .mst, .atc] s (grantBlocks n s) := by
  unfold grantBlocks
  simp only
  split_ifs
  · exact (Keeps.refl [] s).mono (by decide)
  · exact ((((modMst_keeps _ s).trans (modMem_keeps _ _)).trans (rejudge_keeps _)).trans (setChannel_keeps .pool _)).mono (by decide)
  · exact (((modMst_keeps _ s).trans (modMem_keeps _ _)).trans (rejudge_keeps _)).mono (by decide)

/-- The granted blocks filled with a text. -/
def filled (n : Nat) (text : List Byte) (s : State) : State :=
  (grantBlocks n s).modMem (fillBlocks (grantedBlocks s n) text)

theorem filled_keeps (n : Nat) (text : List Byte) (s : State) : Keeps [.mem, .mst, .atc] s (filled n text s) :=
  ((grantBlocks_keeps n s).trans (modMem_keeps _ _)).mono (by decide)

theorem filled_mst (n : Nat) (text : List Byte) (s : State) : (filled n text s).mst =
    { s.mst with freeHead := headAfter (grantedBlocks s n) s.mem.read s.mst.freeHead, freeCount := s.mst.freeCount - n } :=
  grantBlocks_mst n s

theorem filled_chain (hwf : s.mem.Wf) {n : Nat} (hdistinct : (grantedBlocks s n).Nodup) (text : List Byte) :
    ChainFilled (grantedBlocks s n) text s.mem.read (filled n text s) := fun a => by
  by_cases hn : n = 0
  · subst hn
    rfl
  · show (fillBlocks (grantedBlocks s n) text (grantBlocks n s).mem).read a = _
    rw [grantBlocks_mem hn]
    exact chainFilled_read hwf hdistinct (chainBlocks_ne_nil hn) text a

/-- A chain of the pool is filled within the pool. -/
theorem ChainFilled.settings {blocks : List Nat} {text : List Byte} {before : Nat → Byte} {t : State}
    (h : ChainFilled blocks text before t) (hpool : ∀ b ∈ blocks, b < 256) {a : Nat} (ha : 0x2E00 ≤ a) :
    t.mem.read a = before a := by
  rw [h a, List.findSome?_eq_none_iff.mpr]
  · rfl
  · intro x hx
    have hlt := hpool x.1 (List.fst_mem_of_mem_zipIdx hx)
    have hlen : ((text.drop (30 * x.2)).take 30).length ≤ 30 := by simp
    have hbase : blockBase x.1 + 32 ≤ a := by
      simp only [blockBase]
      omega
    rw [textByte, if_neg (by omega), if_neg (by omega), if_neg (by omega)]

theorem grantedBlocks_lt {n : Nat} (hhead : 1 ≤ n → s.mst.freeHead < 224) : ∀ b ∈ grantedBlocks s n, b < 256 := fun b hb => by
  cases n with
  | zero => exact absurd hb List.not_mem_nil
  | succ n => exact chainBlocks_lt (Nat.lt_of_lt_of_le (hhead (Nat.succ_le_succ (Nat.zero_le n))) (by decide)) hb

theorem filled_sameSettings (hwf : s.mem.Wf) {n : Nat} (hdistinct : (grantedBlocks s n).Nodup)
    (hhead : 1 ≤ n → s.mst.freeHead < 224) (text : List Byte) : SameSettings s (filled n text s) := fun o =>
  (filled_chain hwf hdistinct text).settings (grantedBlocks_lt hhead) (by omega)

/-- The granted blocks have left the free chain, and their chain ends (R88). -/
def blocksTaken (n : Nat) (s : State) : State :=
  (s.modMst fun m => { m with
    freeHead := (s.mem.read (blockBase ((grantedBlocks s n).getLastD 0))).toNat, freeCount := m.freeCount - n }).modMem
    (linkBlock ((grantedBlocks s n).getLastD 0) 255)

theorem grantBlocks_eq {n : Nat} (hn : n ≠ 0) (s : State) : grantBlocks n s =
    if routineMark s ≤ s.mst.freeCount ∧ s.mst.freeCount - n < routineMark s then setChannel .pool (rejudge (blocksTaken n s))
    else rejudge (blocksTaken n s) := if_neg hn

theorem blocksTaken_sameSettings (hwf : s.mem.Wf) {n : Nat} (hn : n ≠ 0) (hhead : 1 ≤ n → s.mst.freeHead < 224) :
    SameSettings s (blocksTaken n s) := fun o => by
  have hlast : (grantedBlocks s n).getLastD 0 < 256 := by
    have hne : grantedBlocks s n ≠ [] := chainBlocks_ne_nil hn
    rw [List.getLastD_eq_getLast?, List.getLast?_eq_getLast_of_ne_nil hne]
    exact grantedBlocks_lt hhead _ (List.getLast_mem hne)
  refine Memory.read_write_other hwf _ ?_
  simp only [blockBase]
  omega

/-- A grant sets channel POOL where it takes the free count under the routine mark (R89, R90). -/
theorem grantBlocks_attends (hwf : s.mem.Wf) {n : Nat} (hhead : 1 ≤ n → s.mst.freeHead < 224) :
    Attends s.atc (grantChannels s s.mst.freeCount n) s (grantBlocks n s) := by
  by_cases hn : n = 0
  · have hnone : grantChannels s s.mst.freeCount n = [] := if_neg fun ⟨hmark, hless⟩ => absurd hmark (by omega)
    rw [hnone, grantBlocks, if_pos hn]
    exact .of_atc rfl rfl (.refl s)
  · have hjudged : Attends s.atc [] s (rejudge (blocksTaken n s)) :=
      rejudge_attends_after rfl rfl (blocksTaken_sameSettings hwf hn hhead)
    rw [grantBlocks_eq hn, grantChannels]
    split_ifs
    exacts [hjudged.then_sets (setChannel_sets .pool _) (by decide) (by simp) (.of_mem (by simp)), hjudged]

theorem filled_attends (hwf : s.mem.Wf) {n : Nat} (hdistinct : (grantedBlocks s n).Nodup)
    (hhead : 1 ≤ n → s.mst.freeHead < 224) (text : List Byte) :
    Attends s.atc (grantChannels s s.mst.freeCount n) s (filled n text s) :=
  (grantBlocks_attends hwf hhead).then_atc rfl rfl fun o =>
    (filled_sameSettings hwf hdistinct hhead text o).trans ((grantBlocks_attends hwf hhead).settings o).symm

end

end Sys2Proof.Machine
end

section
/-! PROOF. An OFFER is judged and stored (O32). -/

namespace Sys2Proof.Machine

section
variable {s t u v : State} {e : Fin 8}

theorem OnlyOffer.refl (s : State) : OnlyOffer e s s := ⟨rfl, fun _ _ => rfl⟩

theorem OnlyOffer.trans (h : OnlyOffer e s t) (h' : OnlyOffer e t u) : OnlyOffer e s u := by
  obtain ⟨hoft, hothers⟩ := h
  obtain ⟨hoft', hothers'⟩ := h'
  exact ⟨by rw [hoft', hoft], fun x hx => (hothers' x hx).trans (hothers x hx)⟩

theorem offerIndices_eq : offerIndices = List.finRange 8 := by decide

/-- The lowest-numbered EMPTY entry is the one found (R67). -/
theorem emptyOffer_eq (he : (s.oft.entries.get e).state = .empty) (hbelow : ∀ x, x < e → (s.oft.entries.get x).state ≠ .empty) :
    emptyOffer s = some e := by
  rw [emptyOffer, offerIndices_eq]
  exact find_finRange (by simp [he]) fun x hx => by simpa using hbelow x hx

theorem emptyOffer_none (h : ∀ x, (s.oft.entries.get x).state ≠ .empty) : emptyOffer s = none :=
  List.find?_eq_none.mpr fun x _ => by simpa using h x

theorem offerWithNumber_unheld {n : Nat} (h : ∀ x, (s.oft.entries.get x).state ≠ .empty → (s.oft.entries.get x).number ≠ n) :
    offerWithNumber s n = none :=
  List.find?_eq_none.mpr fun x _ => by simpa using h x

/-- An offer's entry, made and filled, opens and is announced (R67). -/
theorem offerOpens {y : OfferEntry} {cs : List Channel} (honly : OnlyOffer e s v) (hy : v.oft.entries.get e = y)
    (hattends : Attends s.atc cs s v) (hkeeps : Keeps [.mem, .oft, .mst, .ale, .atc] s v) (hhunting : OnlyHunting s v) (w : Nat) :
    let t := driveLines (setChannel .offerNew (updateOffer e (fun x => { x with state := .open, windowRemaining := w }) v))
    t.oft.entries.get e = { y with state := .open, windowRemaining := w } ∧ t.mem = v.mem ∧ t.mst = v.mst ∧
      RaisesJudged (.offerNew :: cs) s t ∧ OnlyOffer e s t ∧ OnlyHunting s t ∧
      Keeps [.mem, .oft, .mst, .ale, .atc, .pins] s t ∧ OnlyLines s t := by
  intro t
  have hupdate := updateOffer_keeps e (fun x => { x with state := .open, windowRemaining := w }) v
  have hset := setChannel_keeps .offerNew (updateOffer e (fun x => { x with state := .open, windowRemaining := w }) v)
  have hlast : Keeps [.oft, .atc, .pins] v t := ((hupdate.trans hset).trans (driveLines_keeps _)).mono (by decide)
  have hoft : t.oft = (updateOffer e (fun x => { x with state := .open, windowRemaining := w }) v).oft := hset .oft (by decide)
  have hraises : RaisesJudged (.offerNew :: cs) s t := by
    have hopened := hattends.trans (updateOffer_attends v e fun x => { x with state := .open, windowRemaining := w })
    have hnew := setChannel_sets .offerNew (updateOffer e (fun x => { x with state := .open, windowRemaining := w }) v)
    refine ((hopened.then_sets hnew (by decide) (hset .phase (by decide)) (.of_mem (hset .mem (by decide)))).congr (by simp [or_comm])).beside
      ((updateOffer_matchesNow v e _).then_sets hnew (hset.mono (by decide)) (.of_mem (hset .mem (by decide))))
  refine ⟨?_, hlast .mem (by decide), hlast .mst (by decide), hraises,
    (honly.trans (updateOffer_onlyOffer e _ v)).of_oft hoft, ?_, (hkeeps.trans hlast).mono (by decide), ?_⟩
  · rw [hoft]
    exact (updateOffer_entry e _ v).trans (by rw [hy])
  · rw [OnlyHunting, hlast .ale (by decide)]
    exact hhunting
  · exact driveLines_onlyLines (((hupdate.trans hset) .pins (by decide)).trans (hkeeps .pins (by decide)))

/-! What is taken into consideration, and which entry it meets (R65 to R67). -/

section
variable {how : Addressing} {o : OfferFields}

theorem offerConsidered_iff : offerConsidered s how o.zone = true ↔
    s.emc.state = .quiet ∧ (s.dsc.status = .available ∨ s.dsc.status = .bidding) ∧ (how = .individual ∨ inReach s o.zone = true) := by
  simp [offerConsidered, and_assoc]

theorem takeOffer_dropped (hn : o.number ≠ 0) (hc : ¬offerConsidered s how o.zone = true) : takeOffer how o s = s :=
  (if_neg hn).trans (if_neg hc)

theorem takeOffer_repeated (hn : o.number ≠ 0) (hc : offerConsidered s how o.zone = true) (he : offerWithNumber s o.number = some e) :
    takeOffer how o s = repeatOffer e o.window s := by
  rw [takeOffer, if_neg hn, if_pos hc]
  simp only [he]

theorem takeOffer_stored (hn : o.number ≠ 0) (hc : offerConsidered s how o.zone = true) (hnew : offerWithNumber s o.number = none)
    (he : emptyOffer s = some e) : takeOffer how o s = storeOffer e how o s := by
  rw [takeOffer, if_neg hn, if_pos hc]
  simp only [hnew, he]

theorem takeOffer_missed (hn : o.number ≠ 0) (hc : offerConsidered s how o.zone = true) (hnew : offerWithNumber s o.number = none)
    (he : emptyOffer s = none) : takeOffer how o s = s.modOft fun t => { t with missed := satAdd u16Max t.missed 1 } := by
  rw [takeOffer, if_neg hn, if_pos hc]
  simp only [hnew, he]

/-- Details that R89 grants no blocks are dropped (R68). -/
theorem storeDetails_dropped {d : List Byte} (hd : d ≠ []) (hfree : s.mst.freeCount < (d.length + 29) / 30 + offerMark s) :
    storeDetails e d s = updateOffer e (fun x => { x with detailsDropped := true }) s := by
  have hlen := List.length_pos_iff.mpr hd
  have hjudge : judgeGrant s .offer (blocksFor d.length) s.mst.freeCount = none := by
    rw [judgeGrant, if_neg (by unfold blocksFor; omega)]
    exact if_neg (by unfold blocksFor; omega)
  rw [storeDetails]
  simp only [hjudge]

/-- Details go into the first free blocks (R68, R88). -/
theorem storeDetails_filled {d : List Byte} (hfree : d ≠ [] → (d.length + 29) / 30 + offerMark s ≤ s.mst.freeCount) :
    storeDetails e d s = updateOffer e (fun x => { x with
      detailsLength := d.length, firstBlock := firstBlockOf (grantedBlocks s ((d.length + 29) / 30)),
      blockCount := (d.length + 29) / 30 }) (filled ((d.length + 29) / 30) d s) := by
  have hjudge : ∃ g, judgeGrant s .offer (blocksFor d.length) s.mst.freeCount = some g := by
    by_cases hn : blocksFor d.length = 0
    · exact ⟨0, if_pos hn⟩
    · exact ⟨blocksFor d.length, (if_neg hn).trans (if_pos (hfree fun hnil => hn (by subst hnil; rfl)))⟩
  obtain ⟨g, hg⟩ := hjudge
  rw [storeDetails]
  simp only [hg]
  rfl

end

end

/-- An OFFER that is accepted and does no more than `ignored` allows. -/
theorem offerAlone {s : State} {f : RxFrame} {how : Addressing} (h : Accepted 0x10 f how s)
    (hwork : takeOffer how (parseOffer f.body) (resumeHunting s) = resumeHunting s) : Completes (.offer f) s fun t =>
      OnlyHunting s t ∧ Keeps [.ale, .pins] s t ∧ OnlyLines s t :=
  completes_frame rfl h hwork (resumeHunting_alone s)

/-- Settles O32: an OFFER that is considered meets the entry of its number, the lowest EMPTY one, or none. -/
theorem offerIsStored : Obligations.OfferIsStored := by
  intro s f how hwf h o considered ignored
  let hunted := resumeHunting s
  have hconsidered : considered → offerConsidered hunted how o.zone = true := offerConsidered_iff.mpr
  refine ⟨fun hzero => completes_frame rfl h (if_pos hzero) ?_,
    fun hn hc => offerAlone h (takeOffer_dropped hn fun hyes => hc (offerConsidered_iff.mp hyes)),
    fun hn hc e he => ⟨fun hopen => ?_, fun hopen => ?_⟩, fun hn hc hnew => ⟨fun hfull => ?_, fun e he hbelow => ?_⟩⟩
  · exact ⟨rfl, (((resumeHunting_keeps s).trans (modAle_keeps _ _)).trans (driveLines_keeps _)).mono (by decide),
      driveLines_onlyLines rfl⟩
  · have hwork := (takeOffer_repeated (s := hunted) hn (hconsidered hc) he).trans (if_pos hopen)
    refine completes_frame rfl h hwork ?_
    have hstep := updateOffer_keeps e (fun x => { x with windowRemaining := offerWindow o.window }) hunted
    have hjudged : RaisesJudged [] hunted (updateOffer e (fun x => { x with windowRemaining := offerWindow o.window }) hunted) :=
      updateOffer_raisesJudged e _ hunted
    exact ⟨updateOffer_entry e _ hunted, updateOffer_onlyOffer e _ hunted,
      ((updateOffer_attends hunted e _).rebase rfl rfl (.refl s)).beside (updateOffer_matchesNow hunted e _), hstep .ale (by decide),
      (((resumeHunting_keeps s).trans hstep).trans (driveLines_keeps _)).mono (by decide),
      driveLines_onlyLines (hstep .pins (by decide))⟩
  · exact offerAlone h ((takeOffer_repeated (s := hunted) hn (hconsidered hc) he).trans (if_neg hopen))
  · have hwork := takeOffer_missed (s := hunted) hn (hconsidered hc) (offerWithNumber_unheld hnew) (emptyOffer_none hfull)
    refine completes_frame rfl h hwork ?_
    exact ⟨rfl, rfl, (((resumeHunting_keeps s).trans (modOft_keeps _ hunted)).trans (driveLines_keeps _)).mono (by decide),
      driveLines_onlyLines rfl⟩
  · intro entry n blocks taken
    have hwork := takeOffer_stored (s := hunted) hn (hconsidered hc) (offerWithNumber_unheld hnew) (emptyOffer_eq he hbelow)
    let made := updateOffer e (fun _ => newOfferEntry hunted how o) hunted
    have hmade : Keeps [.oft, .ale, .atc] s made := ((resumeHunting_keeps s).trans (updateOffer_keeps e _ hunted)).mono (by decide)
    have hmem : made.mem = s.mem := hmade .mem (by decide)
    have hmst : made.mst = s.mst := hmade .mst (by decide)
    have honly : OnlyOffer e s made := updateOffer_onlyOffer e _ hunted
    have hentry : made.oft.entries.get e = newOfferEntry hunted how o := updateOffer_entry e _ hunted
    have hattends : Attends s.atc [] s made := (updateOffer_attends hunted e _).rebase rfl rfl (.refl s)
    have hhunting : OnlyHunting s made := updateOffer_keeps e _ hunted .ale (by decide)
    have hroutine : routineMark made = routineMark s := by simp only [routineMark, setting, hmem]
    have hmark : offerMark made = offerMark s := by simp only [offerMark, hroutine, setting, hmem]
    have hblocks : ∀ m, grantedBlocks made m = chainFrom s.mem.read s.mst.freeHead m := fun m => by
      rw [grantedBlocks, hmem, hmst, chainFrom_eq]
    have hchannels : grantChannels made made.mst.freeCount n = grantChannels s s.mst.freeCount n := by
      rw [grantChannels, grantChannels, hroutine, hmst]
    have hput : (o.details ≠ [] → n + offerMark s ≤ s.mst.freeCount) → blocks.Nodup → (1 ≤ n → s.mst.freeHead < 224) →
        Completes (.offer f) s fun t =>
          t.oft.entries.get e =
            { entry with detailsLength := o.details.length, firstBlock := firstBlockOf blocks, blockCount := n } ∧
          t.mem = (filled n o.details made).mem ∧ t.mst = (filled n o.details made).mst ∧
          RaisesJudged (.offerNew :: grantChannels s s.mst.freeCount n) s t ∧ taken t := fun hfree hdistinct hhead => by
      have hput := storeDetails_filled (s := made) (e := e) (d := o.details) fun hd => by
        rw [hmark, hmst]
        exact hfree hd
      have hfilled := filled_keeps n o.details made
      have hfilledOnly : OnlyOffer e s (filled n o.details made) := honly.of_oft (hfilled .oft (by decide))
      have hfilledEntry : (filled n o.details made).oft.entries.get e = newOfferEntry hunted how o := by
        rw [hfilled .oft (by decide)]
        exact hentry
      have hfilledAttends : Attends s.atc (grantChannels s s.mst.freeCount n) s (filled n o.details made) := by
        have := hattends.trans (filled_attends (s := made) (hmem ▸ hwf) (n := n) (by rw [hblocks]; exact hdistinct)
          (by rw [hmst]; exact hhead) o.details)
        rwa [List.nil_append, hchannels] at this
      let given : OfferEntry → OfferEntry := fun x => { x with
        detailsLength := o.details.length, firstBlock := firstBlockOf (grantedBlocks made n), blockCount := n }
      have hupdate := updateOffer_keeps e given (filled n o.details made)
      have hstored := hwork.trans (congrArg (fun u => setChannel .offerNew (updateOffer e
        (fun x => { x with state := .open, windowRemaining := offerWindow o.window }) u)) hput)
      have hgiven : (updateOffer e given (filled n o.details made)).oft.entries.get e = given (newOfferEntry hunted how o) :=
        (updateOffer_entry e given _).trans (congrArg given hfilledEntry)
      obtain ⟨hentry', hmem', hmst', hraises, honly', hhunting', hkeeps, hlines⟩ :=
        offerOpens (hfilledOnly.trans (updateOffer_onlyOffer e given _)) hgiven
          ((hfilledAttends.trans (updateOffer_attends _ e given)).congr (ds := grantChannels s s.mst.freeCount n) (by simp))
          (((hmade.trans hfilled).trans hupdate).mono (by decide))
          (((hupdate .ale (by decide)).trans (hfilled .ale (by decide))).trans hhunting) (offerWindow o.window)
      refine completes_frame rfl h hstored ⟨hentry'.trans ?_, hmem'.trans (hupdate .mem (by decide)),
        hmst'.trans (hupdate .mst (by decide)), hraises, honly', hhunting', hkeeps, hlines⟩
      simp only [given, hblocks]
      rfl
    refine ⟨fun hnil => ?_, fun hd hfree hhead hdistinct => ?_, fun hd hfree => ?_⟩
    · have hnone : n = 0 := by simp [n, hnil]
      have hempty : blocks = [] := by simp [blocks, hnone, chainFrom]
      refine (hput (fun hd => absurd hnil hd) (by simp [hempty]) (by omega)).imp ?_
      rintro t ⟨hentry', hmem', hmst', hraises, htaken⟩
      have hsame : filled n o.details made = made := by
        rw [hnone, hnil]
        rfl
      have hquiet : grantChannels s s.mst.freeCount n = [] := by
        rw [hnone]
        exact if_neg fun ⟨hover, hunder⟩ => absurd hover (by omega)
      rw [hquiet] at hraises
      refine ⟨hentry'.trans ?_, hmem'.trans (by rw [hsame, hmem]), hmst'.trans (by rw [hsame, hmst]), hraises, htaken⟩
      rw [hnil, hempty, hnone]
      rfl
    · refine (hput (fun _ => hfree) hdistinct (fun _ => hhead)).imp ?_
      rintro t ⟨hentry', hmem', hmst', hraises, htaken⟩
      have hpos : n ≠ 0 := by
        have := List.length_pos_iff.mpr hd
        show (o.details.length + 29) / 30 ≠ 0
        omega
      have hfirst : firstBlockOf blocks = s.mst.freeHead := by
        obtain ⟨m, hm⟩ := Nat.exists_eq_succ_of_ne_zero hpos
        simp only [blocks, hm]
        rfl
      have hchain := filled_chain (s := made) (hmem ▸ hwf) (n := n) (by rw [hblocks]; exact hdistinct) o.details
      rw [hblocks, hmem] at hchain
      refine ⟨hentry'.trans (by rw [hfirst]), fun a => ?_, hmst'.trans ?_, hraises, htaken⟩
      · rw [hmem']
        exact hchain a
      · rw [filled_mst, hblocks, hmem, hmst]
    · have hdropped := storeDetails_dropped (s := made) (e := e) hd (by rwa [hmark, hmst])
      have hupdate := updateOffer_keeps e (fun x => { x with detailsDropped := true }) made
      have hstored := hwork.trans (congrArg (fun u => setChannel .offerNew (updateOffer e
        (fun x => { x with state := .open, windowRemaining := offerWindow o.window }) u)) hdropped)
      have hoft : (updateOffer e (fun x => { x with detailsDropped := true }) made).oft.entries.get e =
          { newOfferEntry hunted how o with detailsDropped := true } := (updateOffer_entry e _ made).trans (congrArg
            (fun x : OfferEntry => { x with detailsDropped := true }) hentry)
      obtain ⟨hentry', hmem', hmst', hraises, honly', hhunting', hkeeps, hlines⟩ :=
        offerOpens (honly.trans (updateOffer_onlyOffer e _ made)) hoft
          ((hattends.trans (updateOffer_attends made e _)).congr (ds := []) (by simp)) ((hmade.trans hupdate).mono (by decide))
          ((hupdate .ale (by decide)).trans hhunting) (offerWindow o.window)
      exact completes_frame rfl h hstored ⟨hentry', hmem'.trans ((hupdate .mem (by decide)).trans hmem),
        hmst'.trans ((hupdate .mst (by decide)).trans hmst), hraises, honly', hhunting', hkeeps, hlines⟩

end Sys2Proof.Machine
end

section
/-! PROOF. A TEXT is judged and stored (O39). -/

namespace Sys2Proof.Machine

section
variable {s t u v : State} {how : Addressing} {f : TextFields} {c : MessageClass} {p : PartCode} {i : Fin 24}

/-! Which entry and how many blocks a text gets (R89, R95). -/

theorem inboxIndices_eq : inboxIndices = List.finRange 24 := by decide

theorem emptyInbox_eq (h : IsLowestEmpty i s) : emptyInbox s.mst = some i := by
  obtain ⟨he, hbelow⟩ := h
  rw [emptyInbox, inboxIndices_eq]
  exact find_finRange (by simp [he]) fun x hx => by simpa using hbelow x hx

theorem emptyInbox_none (h : ∀ x, (s.mst.inbox.get x).state ≠ .empty) : emptyInbox s.mst = none :=
  List.find?_eq_none.mpr fun x _ => by simpa using h x

/-- The victim of a text that is not ROUTINE: the oldest that has been answered, or the oldest NEW ROUTINE one (R95). -/
theorem victimFor_urgent (hc : c ≠ .routine) : victimFor s.mst c =
    (s.mst.storeOrder.find? fun x => (s.mst.inbox.get x).answered).or
      (s.mst.storeOrder.find? fun x => (s.mst.inbox.get x).state == .new && (s.mst.inbox.get x).cls == .routine) := by
  cases c with
  | routine => exact absurd rfl hc
  | priority | emergency => rfl

theorem victimFor_eq (h : IsVictim c i s) : victimFor s.mst c = some i := by
  have hdone : c ≠ .routine → (fun x : Fin 24 =>
      ((s.mst.inbox.get x).state == .read || (s.mst.inbox.get x).state == .replied) &&
        (c != .routine || (s.mst.inbox.get x).cls == .routine)) = fun x => (s.mst.inbox.get x).answered := fun hc =>
    funext fun x => by simp [InboxEntry.answered, hc]
  obtain ⟨-, hfound⟩ := h
  by_cases hc : c = .routine
  · subst hc
    obtain hfound | ⟨hne, -⟩ := hfound
    · exact hfound
    · exact absurd rfl hne
  · rw [hdone hc] at hfound
    rw [victimFor_urgent hc]
    obtain hfound | ⟨-, hnone, hfresh⟩ := hfound
    · rw [hfound]
      rfl
    · rw [hnone, hfresh]
      rfl

theorem victimFor_none (h : NoEntryFor c s) : victimFor s.mst c = none := by
  obtain ⟨-, hno⟩ := h
  have hanswered : ∀ x ∈ s.mst.storeOrder, (s.mst.inbox.get x).answered = true → c = .routine ∧ (s.mst.inbox.get x).cls ≠ .routine :=
    fun x hx ha => (hno x hx).1 (by simpa [InboxEntry.answered] using ha)
  cases c with
  | routine => exact List.find?_eq_none.mpr fun x hx => by simpa using fun ha => (hanswered x hx ha).2
  | priority | emergency =>
    refine Option.or_eq_none_iff.mpr ⟨List.find?_eq_none.mpr fun x hx ha => ?_, List.find?_eq_none.mpr fun x hx hn => ?_⟩
    · exact absurd (hanswered x hx ha).1 (by decide)
    · simp only [Bool.and_eq_true, beq_iff_eq] at hn
      exact absurd ((hno x hx).2 hn.1 hn.2) (by decide)

/-- The entry a new text goes into. -/
theorem entry_eq {victim : Bool} (h : if victim = true then IsVictim c i s else IsLowestEmpty i s) :
    (emptyInbox s.mst).or (victimFor s.mst c) = some i ∧ (emptyInbox s.mst).isNone = victim := by
  cases victim with
  | false => simp [emptyInbox_eq h]
  | true => simp [emptyInbox_none h.1, victimFor_eq h]

theorem judgeGrant_refused {n free : Nat} (h : GrantRefused c n free s) : judgeGrant s c.grantClass n free = none := by
  obtain ⟨hn, ⟨rfl, hfree⟩ | ⟨hc, hfree⟩⟩ := h
  · exact (if_neg (by omega)).trans (if_neg (by omega))
  · have hclass : c.grantClass = .urgent := by cases c <;> simp_all [MessageClass.grantClass]
    rw [hclass]
    exact (if_neg (by omega)).trans ((if_neg (by omega)).trans (if_pos hfree))

theorem judgeGrant_granted {n free granted : Nat} (h : GrantIs c n free granted s) :
    judgeGrant s c.grantClass n free = some granted := by
  obtain ⟨hn, rfl⟩ | ⟨hn, rfl, hfree, rfl⟩ | ⟨hn, hc, hfree, rfl⟩ := h
  · exact if_pos hn
  · exact (if_neg (by omega)).trans (if_pos hfree)
  · have hclass : c.grantClass = .urgent := by cases c <;> simp_all [MessageClass.grantClass]
    rw [hclass]
    refine (if_neg (by omega)).trans ?_
    show (if n ≤ free then some n else if free = 0 then none else some free) = _
    split_ifs
    · rw [Nat.min_eq_left (by assumption)]
    · omega
    · rw [Nat.min_eq_right (by omega)]

/-- The blocks granted are no more than asked for. -/
theorem GrantIs.le {n free granted : Nat} (h : GrantIs c n free granted s) : granted ≤ n := by
  obtain ⟨-, rfl⟩ | ⟨-, -, -, rfl⟩ | ⟨-, -, -, rfl⟩ := h
  exacts [Nat.zero_le _, le_rfl, Nat.min_le_left _ _]

theorem channel_eq (c : MessageClass) : c.channel = if c = .routine then Channel.message else .messagePriority := by
  cases c <;> rfl

/-! Receipts and refusals (R98, R99). -/

theorem receiptStored_effect (hroom : HasRoom u) (n x : Nat) (tr : Bool) :
    Keeps [.txq] u (receiptStored how n x tr u) ∧ ReceiptSent how n x true tr u (receiptStored how n x tr u) := by
  unfold receiptStored ReceiptSent
  split_ifs
  · exact ⟨joinQueue_keeps hroom _, joinQueue_joined hroom _⟩
  · exact ⟨(Keeps.refl [] u).mono (by decide), rfl⟩

theorem refuseText_effect (hroom : HasRoom u) :
    Keeps [.mst, .txq] u (refuseText how f u) ∧
      (refuseText how f u).mst = { u.mst with refused := min 65535 (u.mst.refused + 1) } ∧
      ReceiptSent how f.number f.sender false false u (refuseText how f u) := by
  let counted := u.modMst fun m => { m with refused := satAdd u16Max m.refused 1 }
  have hcounted : Keeps [.mst] u counted := modMst_keeps _ u
  have hroom' : HasRoom counted := hroom
  unfold refuseText ReceiptSent
  simp only
  split_ifs
  · have hjoin := joinQueue_keeps hroom' (newFrame .receipt [.receipts] (.fixed (.receipt f.number f.sender false false)))
    exact ⟨(hcounted.trans hjoin).mono (by decide), hjoin .mst (by decide), joinQueue_joined hroom' _⟩
  · exact ⟨hcounted.mono (by decide), rfl, rfl⟩

end

/-- A TEXT that is accepted and refused (R98). -/
theorem textRefused {s : State} {f : RxFrame} {how : Addressing} (h : Accepted 0x20 f how s) (hroom : HasRoom s)
    (hwork : takeText how (parseText f.body) (resumeHunting s) = refuseText how (parseText f.body) (resumeHunting s)) :
    Completes (.text f) s fun t =>
      t.mst = { s.mst with refused := min 65535 (s.mst.refused + 1) } ∧
      ReceiptSent how (parseText f.body).number (parseText f.body).sender false false s t ∧ OnlyHunting s t ∧
      Keeps [.mst, .ale, .txq, .pins] s t ∧ OnlyLines s t := by
  obtain ⟨hkeeps, hmst, hreceipt⟩ := refuseText_effect (u := resumeHunting s) (how := how) (f := parseText f.body) hroom
  exact completes_frame rfl h hwork ⟨hmst, hreceipt, hkeeps .ale (by decide),
    (((resumeHunting_keeps s).trans hkeeps).trans (driveLines_keeps _)).mono (by decide),
    driveLines_onlyLines (hkeeps .pins (by decide))⟩

/-! A text put into its entry, announced and receipted (R96, R97, R99). -/

section
variable {s v put : State} {how : Addressing} {f : TextFields} {c : MessageClass} {p : PartCode} {i : Fin 24}

/-- The entry is free for a new text, its victim's blocks given back (R95). -/
def roomFor (victim : Bool) (i : Fin 24) (s : State) : State := if victim then replaceVictim i s else s

theorem roomFor_effect (hwf : s.mem.Wf) (victim : Bool) (i : Fin 24)
    (hfirst : 1 ≤ (if victim = true then (s.mst.inbox.get i).blockCount else 0) → (s.mst.inbox.get i).firstBlock < 224) :
    let old := s.mst.inbox.get i
    let freed := if victim = true then old.blockCount else 0
    let v := roomFor victim i s
    Keeps [.mem, .mst, .atc] s v ∧ v.mem.Wf ∧ v.mem.read = freedByte s old.firstBlock freed ∧ Attends s.atc [] s v ∧
      v.mst = { s.mst with
        storeOrder := if victim = true then s.mst.storeOrder.filter fun y => y != i else s.mst.storeOrder,
        freeHead := freedHead s old.firstBlock freed, freeCount := s.mst.freeCount + freed,
        lostUnread := if victim = true ∧ old.state = .new then min 65535 (s.mst.lostUnread + 1) else s.mst.lostUnread } := by
  intro old freed v
  cases victim with
  | false =>
    refine ⟨(Keeps.refl [] s).mono (by decide), hwf, ?_, .of_atc rfl rfl (.refl s), rfl⟩
    funext a
    rfl
  | true =>
    have hchain := freeChain_keeps old.firstBlock old.blockCount s
    have hmst := freeChain_mst old.firstBlock old.blockCount s
    have hread : v.mem.read = freedByte s old.firstBlock old.blockCount := funext fun a => freeChain_read hwf _ _ a
    have hlast : Keeps [.mst] (freeChain old.firstBlock old.blockCount s) v := modMst_keeps _ _
    refine ⟨(hchain.trans hlast).mono (by decide), ?_, hread, ?_, ?_⟩
    · exact (freeChain_keepsBelowPool hwf _ _).1
    · exact (freeChain_attends hwf hfirst).then_atc rfl rfl (.refl _)
    · show ({ (freeChain old.firstBlock old.blockCount s).mst with storeOrder := _, lostUnread := _ } : Mst) = _
      rw [hmst]
      simp only [if_true, true_and]
      rfl

/-- A text's entry once it has been put (R96). -/
theorem messagePut_effect (hwf : v.mem.Wf) (entry : InboxEntry) {granted : Nat} (hdistinct : (grantedBlocks v granted).Nodup)
    (hhead : 1 ≤ granted → v.mst.freeHead < 224) (text : List Byte) :
    let put := updateInbox i (fun _ => entry) ((filled granted text v).modMst fun m => { m with storeOrder := m.storeOrder ++ [i] })
    Keeps [.mem, .mst, .atc] v put ∧ ChainFilled (grantedBlocks v granted) text v.mem.read put ∧
      put.mst = { v.mst with
        inbox := v.mst.inbox.set i.val entry i.isLt, storeOrder := v.mst.storeOrder ++ [i],
        freeHead := headAfter (grantedBlocks v granted) v.mem.read v.mst.freeHead, freeCount := v.mst.freeCount - granted } ∧
      Attends v.atc (grantChannels v v.mst.freeCount granted) v put ∧ MatchesNow put := by
  intro put
  let listed := (filled granted text v).modMst fun m => { m with storeOrder := m.storeOrder ++ [i] }
  have hfilled := filled_keeps granted text v
  have hlisted : Keeps [.mst] (filled granted text v) listed := modMst_keeps _ _
  have hupdate := updateInbox_keeps listed i fun _ => entry
  have hmst := updateInbox_mst listed i fun _ => entry
  have hattends := ((filled_attends hwf hdistinct hhead text).then_atc (u := listed) rfl rfl (.refl _)).trans
    (updateInbox_attends listed i fun _ => entry)
  refine ⟨((hfilled.trans hlisted).trans hupdate).mono (by decide), fun a => ?_, ?_, hattends.congr (by simp),
    updateInbox_matchesNow listed i _⟩
  · rw [hupdate .mem (by decide)]
    exact filled_chain hwf hdistinct text a
  · have hgranted := filled_mst granted text v
    rw [hmst]
    simp only [listed, State.modMst_mst, hgranted]

/-- The channel of a text that has been put, and its receipt where `tell` says so (R96, R99). -/
theorem textAnnounced {cs : List Channel} (tell : Prop) [Decidable tell] (hroom : HasRoom s) (hattends : Attends s.atc cs s put)
    (hnow : MatchesNow put) (hkeeps : Keeps [.mem, .mst, .ale, .atc] s put) (hhunting : OnlyHunting s put) (c : MessageClass)
    (n x : Nat) (tr : Bool) :
    let t := driveLines (if tell then receiptStored how n x tr (setChannel c.channel put) else setChannel c.channel put)
    t.mem = put.mem ∧ t.mst = put.mst ∧ (tell → ReceiptSent how n x true tr s t) ∧ (¬tell → t.txq = s.txq) ∧
      RaisesJudged ((if c = .routine then Channel.message else .messagePriority) :: cs) s t ∧ OnlyHunting s t ∧
      Keeps [.mem, .mst, .ale, .txq, .atc, .pins] s t ∧ OnlyLines s t := by
  intro t
  let told := setChannel c.channel put
  have hset : Keeps [.atc] put told := setChannel_keeps c.channel put
  have hsets : Sets put.atc [c.channel] put told := setChannel_sets c.channel put
  have hpattern : Channel.pattern ∉ [c.channel] := by cases c <;> decide
  have htold : Attends s.atc (c.channel :: cs) s told :=
    (hattends.then_sets hsets hpattern (hset .phase (by decide)) (.of_mem (hset .mem (by decide)))).congr (by simp [or_comm])
  have htoldNow : MatchesNow told := hnow.then_sets hsets (hset.mono (by decide)) (.of_mem (hset .mem (by decide)))
  have hqueue : told.txq = s.txq := (hset .txq (by decide)).trans (hkeeps .txq (by decide))
  have hroom' : HasRoom told := by
    rw [HasRoom, hqueue]
    exact hroom
  obtain ⟨hreceipt, hsent⟩ := receiptStored_effect (how := how) hroom' n x tr
  have hend : Keeps [.txq] told (if tell then receiptStored how n x tr told else told) :=
    iteInduction (motive := Keeps [.txq] told) (fun _ => hreceipt) fun _ => (Keeps.refl [] told).mono (by decide)
  have hlast : Keeps [.txq, .atc, .pins] put t := ((hset.trans hend).trans (driveLines_keeps _)).mono (by decide)
  refine ⟨hlast .mem (by decide), hlast .mst (by decide), fun htell => ?_, fun htell => ?_, ?_, ?_, (hkeeps.trans hlast).mono (by decide),
    driveLines_onlyLines ((hset.trans hend .pins (by decide)).trans (hkeeps .pins (by decide)))⟩
  · have ht : t.txq = (receiptStored how n x tr told).txq := by
      simp only [t, if_pos htell]
      rfl
    simp only [ReceiptSent, Joined, ht, ← hqueue]
    exact hsent
  · have ht : t.txq = told.txq := by
      simp only [t, if_neg htell]
      rfl
    rw [ht, hqueue]
  · rw [← channel_eq]
    exact (htold.then_atc (hend .atc (by decide)) (hend .phase (by decide)) (.of_mem (hend .mem (by decide)))).beside
      (htoldNow.of_same (hend.mono (by decide)) (.of_mem (hend .mem (by decide))) (by rw [hend .atc (by decide)])
        (by rw [hend .atc (by decide)]))
  · rw [OnlyHunting, hlast .ale (by decide)]
    exact hhunting

end

/-! A second part appended (R97). -/

section
variable {s : State} {i : Fin 24}

/-- A chain is the same where its blocks' links are. -/
theorem chainBlocks_congr {m m' : Memory} {first n : Nat}
    (h : ∀ b ∈ chainBlocks m first n, m'.read (blockBase b) = m.read (blockBase b)) :
    chainBlocks m' first n = chainBlocks m first n := by
  induction n generalizing first with
  | zero => rfl
  | succ n ih =>
    have hfirst := h first List.mem_cons_self
    have hrest := ih fun b hb => h b (List.mem_cons_of_mem first hb)
    simp only [chainBlocks, hfirst, hrest]

/-- The link of a block that is not of the chain is not filled. -/
theorem textByte_link {b x : Nat} {last : Bool} {part : List Byte} (hne : x ≠ b) (hlen : part.length ≤ 30) :
    textByte b last part (blockBase x) = none := by
  have hbase : blockBase x ≠ blockBase b ∧ blockBase x ≠ blockBase b + 1 ∧
      ¬(blockBase b + 2 ≤ blockBase x ∧ blockBase x < blockBase b + 2 + part.length) := by
    simp only [blockBase]
    omega
  rw [textByte, if_neg hbase.1, if_neg hbase.2.1, if_neg hbase.2.2]

theorem textBytes_link {blocks : List Nat} {text : List Byte} {x : Nat} (hx : x ∉ blocks) :
    (blocks.zipIdx.findSome? fun y =>
      textByte y.1 (y.2 + 1 == blocks.length) ((text.drop (30 * y.2)).take 30) (blockBase x)) = none := by
  refine List.findSome?_eq_none_iff.mpr fun y hy => textByte_link (fun he => hx ?_) (textPart_length text y.2)
  rw [he]
  exact List.fst_mem_of_mem_zipIdx hy

theorem ChainFilled.link {blocks : List Nat} {text : List Byte} {before : Nat → Byte} {t : State}
    (h : ChainFilled blocks text before t) {x : Nat} (hx : x ∉ blocks) : t.mem.read (blockBase x) = before (blockBase x) := by
  rw [h, textBytes_link hx]
  rfl

/-- The second part's blocks hang on the last block of the entry's own chain (R88, R97). -/
theorem linkAfter_effect (hwf : s.mem.Wf) {granted : Nat} (text : List Byte) (e : InboxEntry)
    (hdistinct : (chainBlocks s.mem e.firstBlock e.blockCount ++ grantedBlocks s granted).Nodup)
    (hhead : 1 ≤ granted → s.mst.freeHead < 224) (hfirst : 1 ≤ e.blockCount → e.firstBlock < 224) :
    let own := chainBlocks s.mem e.firstBlock e.blockCount
    let blocks := grantedBlocks s granted
    let linked := (filled granted text s).modMem (linkAfter e blocks)
    ChainFilled blocks text (fun a => if 1 ≤ e.blockCount ∧ 1 ≤ granted ∧ a = blockBase (own.getLastD 0)
      then byteOf (blocks.headD 0) else s.mem.read a) linked ∧ SameSettings s linked := by
  intro own blocks linked
  obtain ⟨-, hnodup, hdisjoint⟩ := List.nodup_append.mp hdistinct
  have hchain := filled_chain hwf hnodup text
  have hsettings := filled_sameSettings hwf hnodup hhead text
  have hfilledWf : (filled granted text s).mem.Wf :=
    (fillBlocks_keepsBelowPool (grantBlocks_keepsBelowPool hwf granted).1 _ _).1
  have hempty : blocks = [] ↔ granted = 0 := by
    refine ⟨fun h => by_contra fun hne => chainBlocks_ne_nil hne h, fun h => ?_⟩
    subst h
    rfl
  by_cases hlink : e.blockCount = 0 ∨ blocks = []
  · have hsame : linked = filled granted text s := by
      show (filled granted text s).modMem (linkAfter e blocks) = filled granted text s
      have hid : linkAfter e blocks (filled granted text s).mem = (filled granted text s).mem := if_pos hlink
      simp only [State.modMem, hid]
    rw [hsame]
    refine ⟨fun a => ?_, hsettings⟩
    have hno : ¬(1 ≤ e.blockCount ∧ 1 ≤ granted ∧ a = blockBase (own.getLastD 0)) := fun ⟨hcount, hgranted, _⟩ => by
      obtain h | h := hlink
      · omega
      · have := hempty.mp h
        omega
    exact (hchain a).trans (congrArg (Option.getD _) (if_neg hno).symm)
  · obtain ⟨hcount, hne⟩ := not_or.mp hlink
    have hgranted : granted ≠ 0 := fun h => hne (hempty.mpr h)
    have hown : chainBlocks (filled granted text s).mem e.firstBlock e.blockCount = own :=
      chainBlocks_congr fun b hb => hchain.link fun hb' => hdisjoint b hb b hb' rfl
    have hmem : linked.mem = (filled granted text s).mem.write (blockBase (own.getLastD 0)) (byteOf (blocks.headD 0)) := by
      refine (if_neg hlink).trans ?_
      rw [hown]
      rfl
    have hlastMem : own.getLastD 0 ∈ own := by
      have hownNe : own ≠ [] := chainBlocks_ne_nil hcount
      rw [List.getLastD_eq_getLast?, List.getLast?_eq_getLast_of_ne_nil hownNe]
      exact List.getLast_mem hownNe
    have hlastLt : own.getLastD 0 < 256 :=
      chainBlocks_lt (Nat.lt_of_lt_of_le (hfirst (Nat.pos_of_ne_zero hcount)) (by decide)) hlastMem
    have hfresh : own.getLastD 0 ∉ blocks := fun hb => hdisjoint _ hlastMem _ hb rfl
    refine ⟨fun a => ?_, fun o => ?_⟩
    · by_cases ha : a = blockBase (own.getLastD 0)
      · rw [hmem, ha, Memory.read_write_same hfilledWf, textBytes_link hfresh]
        exact (if_pos ⟨Nat.pos_of_ne_zero hcount, Nat.pos_of_ne_zero hgranted, rfl⟩).symm
      · rw [hmem, Memory.read_write_other hfilledWf _ ha]
        exact (hchain a).trans (congrArg (Option.getD _) (if_neg fun ⟨_, _, h⟩ => ha h).symm)
    · rw [hmem, Memory.read_write_other hfilledWf]
      · exact hsettings o
      · simp only [blockBase]
        omega

/-- A second part's entry once it has been put. -/
theorem secondPut_effect (hwf : s.mem.Wf) {f : TextFields} {granted : Nat}
    (hdistinct : (chainBlocks s.mem (s.mst.inbox.get i).firstBlock (s.mst.inbox.get i).blockCount ++ grantedBlocks s granted).Nodup)
    (hhead : 1 ≤ granted → s.mst.freeHead < 224)
    (hfirst : 1 ≤ (s.mst.inbox.get i).blockCount → (s.mst.inbox.get i).firstBlock < 224) :
    let e := s.mst.inbox.get i
    let blocks := grantedBlocks s granted
    let text := f.text.take (30 * granted)
    let put := secondPut i f granted s
    Keeps [.mem, .mst, .atc] s put ∧
      ChainFilled blocks text (fun a => if 1 ≤ e.blockCount ∧ 1 ≤ granted ∧
        a = blockBase ((chainBlocks s.mem e.firstBlock e.blockCount).getLastD 0) then byteOf (blocks.headD 0) else s.mem.read a) put ∧
      put.mst = { s.mst with
        inbox := s.mst.inbox.set i.val (e.appended blocks text.length granted (blocksFor f.text.length)) i.isLt,
        freeHead := headAfter blocks s.mem.read s.mst.freeHead, freeCount := s.mst.freeCount - granted } ∧
      Attends s.atc (grantChannels s s.mst.freeCount granted) s put ∧ MatchesNow put := by
  intro e blocks text put
  let linked := (filled granted text s).modMem (linkAfter e blocks)
  let after := e.appended blocks text.length granted (blocksFor f.text.length)
  have hput : put = updateInbox i (fun _ => after) linked := rfl
  obtain ⟨hchain, hsettings⟩ := linkAfter_effect hwf text e hdistinct hhead hfirst
  have hnodup : blocks.Nodup := (List.nodup_append.mp hdistinct).2.1
  have hlinked : Keeps [.mem, .mst, .atc] s linked :=
    ((filled_keeps granted text s).trans (modMem_keeps _ _)).mono (by decide)
  have hupdate := updateInbox_keeps linked i fun _ => after
  have hattends : Attends s.atc (grantChannels s s.mst.freeCount granted) s linked :=
    (filled_attends hwf hnodup hhead text).then_atc rfl rfl fun o =>
      (hsettings o).trans (filled_sameSettings hwf hnodup hhead text o).symm
  rw [hput]
  refine ⟨(hlinked.trans hupdate).mono (by decide), fun a => ?_, ?_,
    (hattends.trans (updateInbox_attends linked i _)).congr (by simp), updateInbox_matchesNow linked i _⟩
  · rw [hupdate .mem (by decide)]
    exact hchain a
  · have hgranted := filled_mst granted text s
    rw [updateInbox_mst]
    simp only [linked, State.modMem_mst, hgranted]
    rfl

end

end Sys2Proof.Machine
end

section
/-! PROOF. A TEXT is judged and stored (O39). -/

namespace Sys2Proof.Machine

section
variable {s : State} {how : Addressing} {f : TextFields} {c : MessageClass} {p : PartCode} {i : Fin 24}

/-! How a TEXT is judged (R93, R94, R97, R98). -/

theorem takeText_new (hc : f.cls = some c) (hp : f.part = some p) (hn : f.number ≠ 0)
    (hm : matchingMessage s f.number f.sender = none) (hsecond : p ≠ .second) : takeText how f s = takeNewMessage how f c p s := by
  unfold takeText
  simp only [hc, hp, hn, hm, if_false, if_neg hsecond]

theorem takeText_orphan (hc : f.cls = some c) (hp : f.part = some .second) (hn : f.number ≠ 0)
    (hm : matchingMessage s f.number f.sender = none) : takeText how f s = refuseText how f s := by
  unfold takeText
  simp only [hc, hp, hn, hm, if_false, if_true]

theorem takeText_held (hc : f.cls = some c) (hp : f.part = some p) (hn : f.number ≠ 0)
    (hm : matchingMessage s f.number f.sender = some i) : takeText how f s =
      if (s.mst.inbox.get i).awaiting then if p = .second then appendSecond i how f s else s
      else receiptStored how f.number f.sender (s.mst.inbox.get i).truncated s := by
  unfold takeText
  simp only [hc, hp, hn, hm, if_false]

theorem takeText_error (h : f.number = 0 ∨ f.cls = none ∨ f.part = none) : takeText how f s = countFormatError s := by
  unfold takeText
  obtain h | h | h := h
  · split
    exacts [if_pos h, rfl]
  · simp [h]
  · simp [h]

theorem takeNewMessage_full (h : NoEntryFor c s) : takeNewMessage how f c p s = refuseText how f s := by
  have hnone : (emptyInbox s.mst).or (victimFor s.mst c) = none := by rw [emptyInbox_none h.1, victimFor_none h]; rfl
  unfold takeNewMessage
  simp only [hnone]

variable {victim : Bool} (he : if victim = true then IsVictim c i s else IsLowestEmpty i s)
include he

theorem takeNewMessage_refused
    (hg : GrantRefused c (blocksFor f.text.length) (s.mst.freeCount + if victim then (s.mst.inbox.get i).blockCount else 0) s) :
    takeNewMessage how f c p s = refuseText how f s := by
  obtain ⟨hfound, hvictim⟩ := entry_eq he
  have hjudge := judgeGrant_refused hg
  unfold takeNewMessage
  simp only [hfound, hvictim, hjudge]

theorem takeNewMessage_stored {granted : Nat}
    (hg : GrantIs c (blocksFor f.text.length) (s.mst.freeCount + if victim then (s.mst.inbox.get i).blockCount else 0) granted s) :
    takeNewMessage how f c p s = storeMessage i victim granted (blocksFor f.text.length) how f c p s := by
  obtain ⟨hfound, hvictim⟩ := entry_eq he
  have hjudge := judgeGrant_granted hg
  unfold takeNewMessage
  simp only [hfound, hvictim, hjudge]

end

/-- A new text is stored: its entry is put, its channel set, and its receipt sent once it is whole (R96, R99). -/
theorem storeMessage_eq_put (i : Fin 24) (victim : Bool) (granted asked : Nat) (how : Addressing) (f : TextFields)
    (c : MessageClass) (p : PartCode) (s : State) :
    let v := roomFor victim i s
    let entry := newMessageEntry v how f c p granted asked
    let put := updateInbox i (fun _ => entry)
      ((filled granted (f.text.take (30 * granted)) v).modMst fun m => { m with storeOrder := m.storeOrder ++ [i] })
    storeMessage i victim granted asked how f c p s = if entry.awaiting = false then
      receiptStored how f.number f.sender entry.truncated (setChannel c.channel put) else setChannel c.channel put := by
  intro v entry put
  have heq : storeMessage i victim granted asked how f c p s = if entry.awaiting then setChannel c.channel put
      else receiptStored how f.number f.sender entry.truncated (setChannel c.channel put) := rfl
  rw [heq]
  cases entry.awaiting <;> rfl

/-- Settles O39: a TEXT without a fault in its fields meets an entry of its number and sender, or none. -/
theorem textIsStored : Obligations.TextIsStored := by
  refine ⟨?_, ?_⟩
  · intro s f how h x herror
    exact completes_frame rfl h (takeText_error herror)
      ⟨rfl, (((resumeHunting_keeps s).trans (modAle_keeps _ _)).trans (driveLines_keeps _)).mono (by decide),
        driveLines_onlyLines rfl⟩
  · intro s f how c p hwf h x hc hp hn hroom n refused stored
    let hunted := resumeHunting s
    have hheld : ∀ i, matchingMessage s x.number x.sender = some i → takeText how x hunted =
        if (s.mst.inbox.get i).awaiting then if p = .second then appendSecond i how x hunted else hunted
        else receiptStored how x.number x.sender (s.mst.inbox.get i).truncated hunted := fun i hm =>
      takeText_held (s := hunted) hc hp hn hm
    refine ⟨fun hsecond hm => ⟨fun hfull => ?_, ?_⟩, fun hsecond hm => ?_, ?_⟩
    · exact textRefused h hroom ((takeText_new (s := hunted) hc hp hn hm hsecond).trans (takeNewMessage_full (s := hunted) hfull))
    · intro i victim he old freed free byte head
      have hnew := takeText_new (s := hunted) (how := how) hc hp hn hm hsecond
      refine ⟨fun hg => ?_, ?_⟩
      · exact textRefused h hroom (hnew.trans (takeNewMessage_refused (s := hunted) he hg))
      intro granted hg blocks cut text whole hdistinct hhead hfirst
      have hwork := (hnew.trans (takeNewMessage_stored (s := hunted) he hg)).trans
        (storeMessage_eq_put i victim granted n how x c p hunted)
      obtain ⟨hkeeps, hvwf, hread, hattends, hmst⟩ := roomFor_effect (s := hunted) hwf victim i hfirst
      generalize hv : roomFor victim i hunted = v at hwork hkeeps hvwf hread hattends hmst
      have hhead' : v.mst.freeHead = head := congrArg Mst.freeHead hmst
      have hfree : v.mst.freeCount = free := congrArg Mst.freeCount hmst
      have hblocks : grantedBlocks v granted = blocks := by
        rw [grantedBlocks, ← chainFrom_eq, hread, hhead']
        rfl
      let entry := newMessageEntry v how x c p granted n
      obtain ⟨hputKeeps, hchain, hputMst, hputAttends, hputNow⟩ := messagePut_effect (v := v) (i := i) hvwf entry
        (granted := granted) (by rwa [hblocks]) (by rwa [hhead']) text
      have hchannels : grantChannels v v.mst.freeCount granted = grantChannels s free granted := by
        have hroutine : routineMark v = routineMark s := congrArg (clamp 0 224) (hattends.settings.setting_eq 6)
        rw [grantChannels, grantChannels, hroutine, hfree]
      have hputAll := (hattends.trans hputAttends).rebase (s' := s) rfl rfl (.refl s)
      rw [List.nil_append, hchannels] at hputAll
      obtain ⟨hmem, hlastMst, hsent, hsilent, hraises, hhunting, hlastKeeps, hlines⟩ := textAnnounced (how := how)
        (entry.awaiting = false) hroom hputAll hputNow
        (((resumeHunting_keeps s).trans (hkeeps.trans hputKeeps)).mono (by decide))
        ((hkeeps.trans hputKeeps) .ale (by decide)) c x.number x.sender entry.truncated
      have hcut : decide (n ≤ granted) = !cut := by
        show decide (n ≤ granted) = !decide (granted < n)
        rw [← decide_not]
        exact decide_eq_decide.mpr Nat.not_lt.symm
      have hwhole : whole ↔ entry.awaiting = false := by
        have hawaiting : entry.awaiting = (p == .first && !cut) := by
          rw [← hcut]
          rfl
        rw [hawaiting]
        cases p with
        | only => simp [whole]
        | first => simp [whole]
        | second => exact absurd rfl hsecond
      have hentry : entry =
          { state := .new, cls := c, broadcast := how != .individual, truncated := cut,
            awaiting := p == .first && !cut, number := x.number, sender := x.sender, timeStored := s.frc.clock,
            length := text.length, firstBlock := blocks.headD 255, blockCount := granted } := by
        have hclock : v.frc = s.frc := hkeeps .frc (by decide)
        rw [← hblocks, ← hcut, ← hclock]
        rfl
      refine completes_frame rfl h hwork ⟨?_, fun a => ?_, fun hw => hsent (hwhole.mp hw), fun hw => hsilent fun ha => hw (hwhole.mpr ha),
        hraises, hhunting, hlastKeeps, hlines⟩
      · rw [hlastMst, hputMst, hblocks, hread, hhead', hfree, hmst, hentry]
        rfl
      · rw [hmem, hchain a, hblocks, hread]
        rfl
    · subst hsecond
      exact textRefused h hroom (takeText_orphan (s := hunted) hc hp hn hm)
    · intro i hm e own
      refine ⟨fun ha => ?_, fun ha hsecond => ?_, fun ha hsecond hg => ?_, ?_⟩
      · have hwork := (hheld i hm).trans (if_neg (by simpa using ha))
        obtain ⟨hreceipt, hsent⟩ := receiptStored_effect (u := hunted) (how := how) hroom x.number x.sender e.truncated
        exact completes_frame rfl h hwork ⟨hsent, hreceipt .ale (by decide),
          (((resumeHunting_keeps s).trans hreceipt).trans (driveLines_keeps _)).mono (by decide),
          driveLines_onlyLines (hreceipt .pins (by decide))⟩
      · exact completes_frame (work := hunted) rfl h (((hheld i hm).trans (if_pos ha)).trans (if_neg hsecond)) (resumeHunting_alone s)
      · have hwork := ((hheld i hm).trans (if_pos ha)).trans (if_pos hsecond)
        exact textRefused h hroom (hwork.trans (appendSecond_none (s := hunted) (judgeGrant_refused (s := hunted) hg)))
      · intro granted ha hsecond hg blocks cut text hdistinct hhead hfirst
        have hwork := (((hheld i hm).trans (if_pos ha)).trans (if_pos hsecond)).trans
          (appendSecond_some (s := hunted) (judgeGrant_granted (s := hunted) hg))
        have hblocks : grantedBlocks hunted granted = blocks := (chainFrom_eq s.mem s.mst.freeHead granted).symm
        obtain ⟨hputKeeps, hchain, hputMst, hputAttends, hputNow⟩ := secondPut_effect (s := hunted) (i := i) (f := x) hwf
          (by rw [hblocks]; exact hdistinct) hhead hfirst
        obtain ⟨hmem, hlastMst, hsent, -, hraises, hhunting, hlastKeeps, hlines⟩ := textAnnounced (how := how) True hroom
          (hputAttends.rebase (s' := s) rfl rfl (.refl s)) hputNow (((resumeHunting_keeps s).trans hputKeeps).mono (by decide))
          (hputKeeps .ale (by decide)) e.cls x.number x.sender cut
        refine completes_frame rfl h (hwork.trans (if_pos trivial).symm) ⟨?_, fun a => ?_, hsent trivial, hraises, hhunting, hlastKeeps, hlines⟩
        · rw [hlastMst, hputMst, hblocks]
          rfl
        · rw [hmem, hchain a, hblocks]
          rfl

end Sys2Proof.Machine
end

section
/-! PROOF. Power loss, RESET_N and the start-up stages (O59). -/

namespace Sys2Proof.Machine

section
variable {s : State}

/-! The window memory of stage 2 (R87, R185). -/

/-- Cells at the first bytes of blocks in ascending order. -/
theorem read_blocks (v : Nat → Byte) {l : List Nat} (hl : l.Pairwise (· < ·)) (a : Nat) :
    Memory.read (l.map fun b => (blockBase b, v b)) a =
      if 0x900 ≤ a ∧ a % 32 = 0 ∧ (a - 0x900) / 32 ∈ l then v ((a - 0x900) / 32) else 0#8 := by
  induction l with
  | nil => simp [Memory.read, Memory.unlisted]
  | cons b l ih =>
    obtain ⟨hb, hrest⟩ := List.pairwise_cons.mp hl
    have hbase : blockBase b = 0x900 + 32 * b := rfl
    rw [List.map_cons, Memory.read, ih hrest]
    rcases Nat.lt_trichotomy a (blockBase b) with hlt | heq | hgt
    · have hno : ¬(0x900 ≤ a ∧ a % 32 = 0 ∧ (a - 0x900) / 32 ∈ b :: l) := by
        rintro ⟨hlow, -, hmem⟩
        rcases List.mem_cons.mp hmem with he | hmem
        · omega
        · have := hb _ hmem
          omega
      rw [if_pos hlt, if_neg hno]
      rfl
    · have hindex : (a - 0x900) / 32 = b := by omega
      rw [if_neg (by omega), if_pos heq, hindex, if_pos ⟨by omega, by omega, List.mem_cons_self⟩]
    · have hindex : (a - 0x900) / 32 = b → a % 32 ≠ 0 := by omega
      rw [if_neg (by omega), if_neg (by omega)]
      refine if_congr ⟨fun ⟨hlow, hmod, hmem⟩ => ⟨hlow, hmod, List.mem_cons_of_mem _ hmem⟩, fun ⟨hlow, hmod, hmem⟩ => ⟨hlow, hmod, ?_⟩⟩ rfl rfl
      exact (List.mem_cons.mp hmem).resolve_left fun he => hindex he hmod

theorem freedPool_read (a : Nat) : Memory.read freedPool a =
    if 0x900 ≤ a ∧ a < 0x2500 ∧ a % 32 = 0 then byteOf (if (a - 0x900) / 32 = 223 then 255 else (a - 0x900) / 32 + 1) else 0#8 := by
  refine (read_blocks (fun b => byteOf (if b = 223 then 255 else b + 1)) List.pairwise_lt_range a).trans ?_
  refine if_congr ?_ rfl rfl
  rw [List.mem_range]
  omega

/-- Bytes written in a row read as they were written, and 0 beyond a shorter list. -/
theorem read_written {m : Memory} (h : m.Wf) {a n i : Nat} {bs : List Byte} (hlen : bs.length ≤ n) (hi : i < n)
    (hbefore : bs.length ≤ i → m.read (a + i) = 0#8) : (m.writeBytes a bs).read (a + i) = bs.getD i 0#8 := by
  by_cases hin : i < bs.length
  · rw [Memory.read_writeBytes h a bs i hin, List.getD_eq_getElem?_getD, List.getElem?_eq_getElem hin]
    rfl
  · rw [Memory.read_writeBytes_other h bs (.inr (by omega)), hbefore (by omega), List.getD_eq_getElem?_getD,
      List.getElem?_eq_none (by omega)]
    rfl

theorem defaultSettings_length : defaultSettings.length = 256 := by
  unfold defaultSettings
  rw [List.length_append, List.length_append, List.length_append, List.length_append, List.length_replicate]
  rfl

/-- The window memory that stage 2 makes of the store. -/
theorem startMemory_bytes {st : Store} (htariffs : ∀ b, st.tariffs = some b → b.length = 512)
    (hsettings : ∀ b, st.settings = some b → b.length = 256) :
    (∀ i, i < 512 → (startMemory st).read (0x2B00 + i) = (st.tariffs.getD []).getD i 0#8) ∧
    (∀ i, i < 256 → (startMemory st).read (0x2E00 + i) = (st.settings.getD defaultSettings).getD i 0#8) ∧
    ∀ a, ¬(0x2B00 ≤ a ∧ a < 0x2D00) → ¬(0x2E00 ≤ a ∧ a < 0x2F00) → (startMemory st).read a = Memory.read freedPool a := by
  have ht : (st.tariffs.getD []).length ≤ 512 := by
    cases hst : st.tariffs with
    | none => exact Nat.zero_le _
    | some b => exact (htariffs b hst).le
  have hs : (st.settings.getD defaultSettings).length ≤ 256 := by
    cases hst : st.settings with
    | none => exact (defaultSettings_length).le
    | some b => exact (hsettings b hst).le
  have hbank := Memory.wf_writeBytes freedPool_wf 0x2B00 (st.tariffs.getD [])
  refine ⟨fun i hi => ?_, fun i hi => ?_, fun a ha ha' => ?_⟩
  · rw [startMemory, Memory.read_writeBytes_other hbank _ (.inl (by omega))]
    refine read_written freedPool_wf ht hi fun _ => ?_
    rw [freedPool_read, if_neg (by omega)]
  · rw [startMemory]
    refine read_written hbank hs hi fun _ => ?_
    rw [Memory.read_writeBytes_other freedPool_wf _ (.inr (by omega)), freedPool_read, if_neg (by omega)]
  · rw [startMemory, Memory.read_writeBytes_other hbank _ (by omega), Memory.read_writeBytes_other freedPool_wf _ (by omega)]

/-! What stage 3 takes back (R15, R46, R47, R123). -/

/-- The meter controller and the fare computer as stage 3 takes them back, before the report. -/
def meterTaken (s : State) : State :=
  (s.modMtc fun m =>
    { m with
      meter := recoveredMeter s, trip := recoveredTrip s, totals := recoveredTotals s,
      tripLog := (storedLog s.cps.store).map TripRecord.recovered, ageOrder := storedOrder s.cps.store,
      uncommitted := [], shiftFrameDue := false, holdTimer := none, holdEnded := false }).modFrc fun f =>
    { f with hire := recoveredHire s, shiftPulses := recoveredShiftPulses s, scheduled := 0, override := none }

theorem recoverMeter_eq (s : State) : recoverMeter s = reportRecovery (meterTaken s) := rfl

theorem meterTaken_keeps (s : State) : Keeps [.mtc, .frc] s (meterTaken s) := (modMtc_keeps _ s).trans (modFrc_keeps _ _)

theorem reportRecovery_none (h : openTripCheckpoint s = none) : reportRecovery s = s := by
  unfold reportRecovery
  rw [h]
  cases s.cps.failed <;> rfl

theorem reportRecovery_failed {c : Checkpoint} (h : openTripCheckpoint s = some c) (hf : s.cps.failed = true) :
    reportRecovery s = requestCommit s := by
  unfold reportRecovery
  rw [h, hf]

theorem reportRecovery_open {c : Checkpoint} (h : openTripCheckpoint s = some c) (hf : s.cps.failed = false) :
    reportRecovery s =
      requestCommit (setChannel .meter (recordFault .powerInterrupted Config.powerInterruptedDetail s)) := by
  unfold reportRecovery
  rw [h, hf]

theorem reportRecovery_keeps (s : State) : Keeps [.atc, .cps] s (reportRecovery s) := by
  simp [keeps_iff]

/-- The call as stage 3 takes it back (R123). -/
theorem recoverEmergency_effect {x : EmergencyState} {n : Nat} (h : storedEmergency s.cps.store = (x, n)) :
    let t := recoverEmergency s
    t.emc = { Emc.atReset with
      state := if x = .quiet then .quiet else .alerting, count := n, code := min (setting16 s 4) 9999 } ∧
      Sets s.atc (if x = .quiet then [] else [.emergency]) s t ∧
      t.cps = (if x = .acked ∨ x = .cancelling then (requestCommit s).cps else s.cps) ∧
      (x = .quiet → t.atc = s.atc) ∧ Keeps [.emc, .atc, .cps] s t := by
  intro t
  let called := s.modEmc fun _ => { Emc.atReset with state := x.resumed, count := n, code := cancelCode s }
  let told := setChannel .emergency called
  have hcode : cancelCode s = min (setting16 s 4) 9999 := by
    unfold cancelCode clamp
    omega
  have ht : t = if x.resumed = x then (if x.resumed = .quiet then called else told)
      else requestCommit (if x.resumed = .quiet then called else told) := by
    simp only [t, recoverEmergency, h]
    rfl
  have hset : Sets s.atc [.emergency] s told := (setChannel_sets .emergency called).rebase rfl rfl (.refl s)
  have htold : Keeps [.emc, .atc] s told := (modEmc_keeps _ s).trans (setChannel_keeps .emergency called)
  have htoldEmc : told.emc = called.emc := setChannel_keeps .emergency called .emc (by decide)
  have hresumed : x ≠ .quiet → x.resumed = .alerting := by cases x <;> simp [EmergencyState.resumed]
  by_cases hx : x = .quiet
  · subst hx
    have ht' : t = called := ht
    rw [ht']
    exact ⟨by rw [← hcode]; rfl, .of_atc rfl, rfl, fun _ => rfl, (modEmc_keeps _ s).mono (by decide)⟩
  · have hring : (if x.resumed = .quiet then called else told) = told := if_neg (by rw [hresumed hx]; decide)
    rw [hring, hresumed hx] at ht
    have hstate : told.emc = { Emc.atReset with
        state := if x = .quiet then .quiet else .alerting, count := n, code := min (setting16 s 4) 9999 } := by
      rw [htoldEmc, ← hcode, if_neg hx, ← hresumed hx]
      rfl
    have hchannels : (if x = .quiet then [] else [Channel.emergency]) = [.emergency] := if_neg hx
    rw [hchannels]
    by_cases ha : x = .alerting
    · rw [if_pos ha.symm] at ht
      have hcommit : ¬(x = .acked ∨ x = .cancelling) := by
        rw [ha]
        decide
      rw [ht, if_neg hcommit]
      exact ⟨hstate, hset, htold .cps (by decide), fun hq => absurd hq hx, htold.mono (by decide)⟩
    · rw [if_neg fun he => ha he.symm] at ht
      have hcommit : x = .acked ∨ x = .cancelling := by cases x <;> simp_all
      rw [ht, if_pos hcommit]
      refine ⟨hstate, hset.rebase rfl rfl (.refl s), ?_, fun hq => absurd hq hx,
        (htold.trans (requestCommit_keeps told)).mono (by decide)⟩
      have hcps : told.cps = s.cps := htold .cps (by decide)
      rw [requestCommit_asks told, hcps]
      rfl

/-- What stage 3 adds to what has been taken back. -/
theorem stage3_effect (s : State) :
    let u := recoverEmergency (recoverMeter s)
    let t := stage3 s
    t.phase = .stage3 ∧ t.dsc = { Dsc.atReset with status := derivedStatus u.mtc.meter } ∧
      t.frc = { u.frc with fareGroup := fareGroupNow t, pulseCounter := 0, meterTimerRunning := true } ∧
      t.mtc = (if u.mtc.meter = .payment then (startHold u).mtc else u.mtc) ∧ Keeps [.phase, .dsc, .frc, .mtc] u t := by
  intro u t
  let placed := u.modDsc fun _ => { Dsc.atReset with status := derivedStatus u.mtc.meter }
  let shown := placed.modFrc fun f => { f with fareGroup := fareGroupNow placed, pulseCounter := 0, meterTimerRunning := true }
  have hgroup : ∀ v : State, v.frc = shown.frc → v.mtc.meter = u.mtc.meter → v.mtc.trip = u.mtc.trip → v.cps.bank = u.cps.bank →
      v.frc = { u.frc with fareGroup := fareGroupNow v, pulseCounter := 0, meterTimerRunning := true } := fun v hfrc hmeter htrip hbank => by
    have hsame : fareGroupNow v = fareGroupNow placed := by
      simp only [fareGroupNow, shownTariff, extrasSum, metres, pulsesPerKm, bank16, hfrc, hmeter, htrip, hbank]
      rfl
    rw [hsame, hfrc]
    rfl
  by_cases hp : u.mtc.meter = .payment
  · have ht : t = { startHold shown with phase := .stage3 } := congrArg (fun v : State => { v with phase := .stage3 }) (if_pos hp)
    rw [ht, if_pos hp]
    exact ⟨rfl, rfl, hgroup _ rfl rfl rfl rfl, rfl, by simp [keeps_iff]; trivial⟩
  · have ht : t = { shown with phase := .stage3 } := congrArg (fun v : State => { v with phase := .stage3 }) (if_neg hp)
    rw [ht, if_neg hp]
    exact ⟨rfl, rfl, hgroup _ rfl rfl rfl rfl, rfl, by simp [keeps_iff]; trivial⟩

end

end Sys2Proof.Machine
end

section
/-! PROOF. Power loss, RESET_N and the start-up stages (O59). -/

namespace Sys2Proof.Machine

section
variable {s : State}

/-! Stages 1 and 2. -/

theorem bankChecks_eq (bank : List Byte) : (!bankChecks bank) = decide (bank.drop 62 ≠
    [(crc16 (bank.take 62) >>> 8).setWidth 8, (crc16 (bank.take 62)).setWidth 8]) := by
  rw [bankChecks, bigEndian16_toNat, decide_not, beq_eq_decide]

theorem stage1_cps (s : State) : (stage1 s).cps = { Cps.atReset s.cps.store with
    bank := storedBank s.cps.store, failed := stage1Fails s.cps.store } := rfl

/-- The state of stage 2 before it records a bank that failed its check. -/
def windowMade (s : State) : State :=
  { s with
    phase := .stage2, mem := startMemory s.cps.store, oft := Oft.atReset, mst := Mst.atStage2, wpt := Wpt.atReset,
    atc := Atc.atReset, frc := { s.frc with clock := Stamp.atStart, clockSet := false, clockTimerRunning := true },
    mtc := { s.mtc with windowLog := storedLog s.cps.store, windowTotals := storedTotals s.cps.store } }

theorem stage2_eq (s : State) : stage2 s = recordCalInvalid (windowMade s) := rfl

theorem recordCalInvalid_keeps (s : State) : Keeps [.atc] s (recordCalInvalid s) := by simp [keeps_iff]

/-- The parts of the state of stage 2 beside window memory and the faults. -/
theorem stage2_parts (s : State) :
    (stage2 s).phase = .stage2 ∧ (stage2 s).mem = startMemory s.cps.store ∧ (stage2 s).oft = Oft.atReset ∧
      (stage2 s).mst = Mst.atStage2 ∧ (stage2 s).wpt = Wpt.atReset ∧
      (stage2 s).frc = { s.frc with clock := Stamp.atStart, clockSet := false, clockTimerRunning := true } ∧
      (stage2 s).mtc = { s.mtc with windowLog := storedLog s.cps.store, windowTotals := storedTotals s.cps.store } ∧
      Keeps [.phase, .mem, .frc, .mtc, .oft, .mst, .wpt, .atc] s (stage2 s) := by
  have hlast := recordCalInvalid_keeps (windowMade s)
  have hmade : Keeps [.phase, .mem, .frc, .mtc, .oft, .mst, .wpt, .atc] s (windowMade s) := by
    simp [keeps_iff]
    trivial
  rw [stage2_eq]
  exact ⟨hlast .phase (by decide), hlast .mem (by decide), hlast .oft (by decide), hlast .mst (by decide), hlast .wpt (by decide),
    hlast .frc (by decide), hlast .mtc (by decide), (hmade.trans hlast).mono (by decide)⟩

/-- A bank that failed its check is the first fault of the ring (R185). -/
theorem stage2_faults (hf : s.cps.failed = true) :
    (stage2 s).atc = { Atc.atReset with
      pending := (stage2 s).atc.pending, newest := some 0,
      ring := Atc.atReset.ring.set 0 ⟨some .calInvalid, 1, if s.cps.store.calibration = none then 0 else 1, 0⟩ } ∧
      ∀ c, IsPending (stage2 s) c ↔ c = .fault ∧ IsEnabled (stage2 s) c := by
  have hwork : stage2 s = recordFault .calInvalid (if s.cps.store.calibration = none then 0 else 1) (windowMade s) := if_pos hf
  obtain ⟨hatc, hset⟩ := recordFault_records .calInvalid (if s.cps.store.calibration = none then 0 else 1) (windowMade s)
  have hsame : SameSettings (windowMade s) (stage2 s) := .of_mem (recordCalInvalid_keeps _ .mem (by decide))
  rw [← hwork] at hatc hset
  refine ⟨hatc.trans ?_, fun c => ?_⟩
  · have hstart : (windowMade s).frc.clock.seconds = 0 := (by decide : Stamp.atStart.seconds = 0)
    rw [hstart]
    by_cases hnone : s.cps.store.calibration = none
    · simp only [if_pos hnone]
      rfl
    · simp only [if_neg hnone]
      rfl
  · rw [hset, hsame.isEnabled]
    have hnone : ¬IsPending (windowMade s) c := by
      show ¬(0#16).getLsbD c.number = true
      simp
    simp [hnone]

/-! Stage 3. -/

/-- The state of stage 3 by the parts of the store. -/
theorem stage3_recovered (s : State) {x : EmergencyState} {n : Nat} (h : storedEmergency s.cps.store = (x, n)) :
    let u := reportRecovery (meterTaken s)
    let t := stage3 s
    (t.phase = .stage3 ∧ t.dsc = { Dsc.atReset with status := derivedStatus (recoveredMeter s) } ∧
      t.frc = { s.frc with
        hire := recoveredHire s, shiftPulses := recoveredShiftPulses s, scheduled := 0, override := none,
        fareGroup := fareGroupNow t, pulseCounter := 0, meterTimerRunning := true }) ∧
    (t.mtc.meter = recoveredMeter s ∧ t.mtc.trip = recoveredTrip s ∧ t.mtc.totals = recoveredTotals s ∧
      t.mtc.tripLog = (storedLog s.cps.store).map TripRecord.recovered ∧ t.mtc.ageOrder = storedOrder s.cps.store ∧
      t.mtc.shiftFrameDue = false ∧ (recoveredMeter s = .payment → 1 ≤ paymentHold s →
        t.mtc.holdTimer = some (paymentHold s) ∧ t.mtc.holdEnded = false)) ∧
    (t.emc = { Emc.atReset with
        state := if x = .quiet then .quiet else .alerting, count := n, code := min (setting16 s 4) 9999 } ∧
      Sets u.atc (if x = .quiet then [] else [.emergency]) u t ∧
      t.cps = (if x = .acked ∨ x = .cancelling then (requestCommit u).cps else u.cps) ∧
      (x = .quiet → t.atc = u.atc)) ∧
    Keeps [.phase, .frc, .mtc, .dsc, .emc, .atc, .cps] s t := by
  intro u t
  have htaken := meterTaken_keeps s
  have hreport := reportRecovery_keeps (meterTaken s)
  have hu : Keeps [.mtc, .frc, .atc, .cps] s u := (htaken.trans hreport).mono (by decide)
  have hstore : storedEmergency u.cps.store = (x, n) := by
    have hsame : u.cps.store = s.cps.store := by simp [u, meterTaken]
    rw [hsame, h]
  obtain ⟨hemc, hset, hcps, hquiet, hcall⟩ := recoverEmergency_effect hstore
  obtain ⟨hphase, hdsc, hfrc, hmtc, hlast⟩ := stage3_effect s
  generalize hv : recoverEmergency u = v at hemc hset hcps hquiet hcall
  rw [show recoverEmergency (recoverMeter s) = v from hv] at hdsc hfrc hmtc hlast
  have hmtcTaken : v.mtc = (meterTaken s).mtc := (hcall .mtc (by decide)).trans (hreport .mtc (by decide))
  have hfrcTaken : v.frc = (meterTaken s).frc := (hcall .frc (by decide)).trans (hreport .frc (by decide))
  have hhold : paymentHold v = paymentHold s := by
    have hbank : v.cps.bank = s.cps.bank := by
      rw [← hv]
      simp [u, meterTaken]
    simp only [paymentHold, bank8, hbank]
  have hmeter : v.mtc.meter = recoveredMeter s := congrArg Mtc.meter hmtcTaken
  refine ⟨⟨hphase, by rw [hdsc, hmeter], by rw [hfrc, hfrcTaken]; rfl⟩, ?_, ⟨?_, ?_, ?_, fun hq => (hlast .atc (by decide)).trans (hquiet hq)⟩, ?_⟩
  · by_cases hp : recoveredMeter s = .payment
    · rw [hmeter, if_pos hp] at hmtc
      have hheld : t.mtc = { (meterTaken s).mtc with
          holdEnded := paymentHold s == 0, holdTimer := if paymentHold s = 0 then none else some (paymentHold s) } := by
        rw [hmtc, startHold, State.modMtc_mtc, hmtcTaken, hhold]
      rw [hheld]
      exact ⟨rfl, rfl, rfl, rfl, rfl, rfl, fun _ hpos => ⟨if_neg (by omega), by simp; omega⟩⟩
    · rw [hmeter, if_neg hp, hmtcTaken] at hmtc
      rw [hmtc]
      exact ⟨rfl, rfl, rfl, rfl, rfl, rfl, fun h => absurd h hp⟩
  · have hmem : u.mem = s.mem := hu .mem (by decide)
    have hcode : setting16 u 4 = setting16 s 4 := by simp only [setting16, hmem]
    rw [hlast .emc (by decide), hemc, hcode]
  · exact hset.rebase rfl (hlast .atc (by decide)) (.refl u)
  · rw [hlast .cps (by decide), hcps]
  · exact ((hu.trans hcall).trans hlast).mono (by decide)

/-- A report QUEUED at the loss of power is UNSENT again (R42). -/
theorem SendState.recovered_eq (x : SendState) : x.recovered = if x = .queued then .unsent else x := by cases x <;> rfl

theorem MeterState.resumed_eq (x : MeterState) : x.resumed = if x = .hired then .stopped else x := by cases x <;> rfl

theorem derivedStatus_resumed (x : MeterState) :
    derivedStatus x.resumed = if x = .off then .offDuty else if x = .vacant then .available else .hired := by cases x <;> rfl

theorem tripOpen_iff (x : MeterState) : x.tripOpen = true ↔ x = .hired ∨ x = .stopped ∨ x = .payment := by
  cases x <;> simp [MeterState.tripOpen]

theorem tripLog_recovered (v : Vector TripRecord 24) : v.map TripRecord.recovered =
    v.map fun x => { x with sendState := if x.sendState = .queued then .unsent else x.sendState } := by
  refine congrArg (v.map ·) (funext fun x => ?_)
  rw [TripRecord.recovered, SendState.recovered_eq]

/-- What the store's commit gives stage 3 to take back. -/
theorem stored_some {m : MeterCommit} (hm : s.cps.store.meter = some m) :
    storedEmergency s.cps.store = (m.checkpoint.emergency, m.checkpoint.emergencyCount) ∧ storedLog s.cps.store = m.tripLog ∧
      storedTotals s.cps.store = m.totals ∧ storedOrder s.cps.store = m.ageOrder ∧
      recoveredShiftPulses s = m.checkpoint.shiftPulses ∧
      openTripCheckpoint s = (if m.checkpoint.meter.tripOpen then some m.checkpoint else none) ∧
      recoveredMeter s = (if s.cps.failed then .off else m.checkpoint.meter.resumed) := by
  simp [storedEmergency, storedLog, storedTotals, storedOrder, recoveredShiftPulses, openTripCheckpoint, recoveredMeter, hm]

/-- A report of a recovery asks one commit, with the one of the call (R46, R123). -/
theorem asksCommit_of {u t : State} {p : Prop} [Decidable p] (hu : AsksCommit s u) (ht : t.cps = if p then (requestCommit u).cps else u.cps) :
    AsksCommit s t := by
  have hcps : u.cps = (requestCommit s).cps := hu
  show t.cps = (requestCommit s).cps
  by_cases hp : p
  · rw [ht, if_pos hp, requestCommit_again hcps]
  · rw [ht, if_neg hp, hcps]

/-- A part that is as it was need not be named among the changed ones. -/
theorem Keeps.drop {l k : List Part} {t : State} (h : Keeps l s t) (hk : ∀ p ∈ l, p ∈ k ∨ p.Same s t) : Keeps k s t := fun p hp => by
  by_cases hl : p ∈ l
  · exact (hk p hl).resolve_left hp
  · exact h p hl

/-- Without a trip open at the loss of power, or under a bank that failed, no hire is taken back (R46, R47). -/
theorem recovered_closed (h : s.cps.failed = true ∨ openTripCheckpoint s = none) :
    recoveredHire s = Hire.zero (windowTariff s 0) ∧ recoveredTrip s = Trip.zero := by
  unfold recoveredHire recoveredTrip
  obtain h | h := h
  · rw [h]
    exact ⟨rfl, rfl⟩
  · rw [h]
    cases s.cps.failed <;> exact ⟨rfl, rfl⟩

/-- A trip that was open is reported: the fault, channel METER, and a commit (R46). -/
theorem reportRecovery_effect {c : Checkpoint} (h : openTripCheckpoint s = some c) (hf : s.cps.failed = false) :
    Sets (ringAfter s.atc .powerInterrupted Config.powerInterruptedDetail s.frc.clock.seconds) [.fault, .meter] s (reportRecovery s) ∧
      AsksCommit s (reportRecovery s) ∧ SameSettings s (reportRecovery s) := by
  let told := setChannel .meter (recordFault .powerInterrupted Config.powerInterruptedDetail s)
  have hfault := recordFault_records .powerInterrupted Config.powerInterruptedDetail s
  have hmem : (recordFault .powerInterrupted Config.powerInterruptedDetail s).mem = s.mem := by simp
  have hcps : told.cps = s.cps := by simp [told]
  rw [reportRecovery_open h hf]
  refine ⟨(Sets.trans hfault (setChannel_sets .meter _) (.of_mem hmem)).rebase rfl rfl (.refl s), ?_, .of_mem (by simp)⟩
  rw [AsksCommit, requestCommit_asks told, hcps]

/-! Stage 4. -/

/-- The queue and the receiver as stage 4 makes them, before the address is judged. -/
def radioMade (s : State) : State :=
  (s.modTxq fun _ => Txq.atReset).modAle fun _ => { Ale.atReset with receiver := .hunting, rng := radioSeed s }

theorem stage4_quiet (h : s.emc.state ≠ .alerting) : stage4 s = { judgeAddressAtStart (radioMade s) with phase := .stage4 } :=
  congrArg (fun u : State => { u with phase := .stage4 }) (if_neg h)

theorem stage4_alerting (h : s.emc.state = .alerting) :
    stage4 s = { joinQueue (newFrame .emergency [.emergency] .live) (judgeAddressAtStart (radioMade s)) with phase := .stage4 } := by
  have hempty : (judgeAddressAtStart (radioMade s)).txq.frames = [] := by simp [radioMade, Txq.atReset]
  have hask : askEmergency .alert (judgeAddressAtStart (radioMade s)) =
      joinQueue (newFrame .emergency [.emergency] .live) (judgeAddressAtStart (radioMade s)) := by
    unfold askEmergency
    rw [hempty]
    rfl
  rw [← hask]
  exact congrArg (fun u : State => { u with phase := .stage4 }) (if_pos h)

/-- Stage 4 leaves all but the link and the queue, and judges the cab address (R131, R186). -/
theorem stage4_effect (s : State) :
    (stage4 s).ale = { Ale.atReset with receiver := .hunting, rng := radioSeed s } ∧
      (s.emc.state ≠ .alerting → (stage4 s).txq = Txq.atReset) ∧
      (s.emc.state = .alerting →
        (stage4 s).txq = { Txq.atReset with frames := [newFrame .emergency [.emergency] .live] }) ∧
      (stage4 s).atc = (judgeAddressAtStart (radioMade s)).atc ∧ Keeps [.phase, .ale, .txq, .atc] s (stage4 s) := by
  have hmade : Keeps [.txq, .ale] s (radioMade s) := (modTxq_keeps _ s).trans (modAle_keeps _ _)
  have hjudged : Keeps [.atc] (radioMade s) (judgeAddressAtStart (radioMade s)) := by simp [keeps_iff]
  have hphase : ∀ u : State, Keeps [.phase] u { u with phase := .stage4 } := fun u => by simp [keeps_iff]
  have hqueue : (judgeAddressAtStart (radioMade s)).txq = Txq.atReset := hjudged .txq (by decide)
  by_cases h : s.emc.state = .alerting
  · have hroom : HasRoom (judgeAddressAtStart (radioMade s)) := by
      rw [HasRoom, hqueue]
      decide
    have hjoin := joinQueue_keeps hroom (newFrame .emergency [.emergency] .live)
    have hjoined := joinQueue_joined hroom (newFrame .emergency [.emergency] .live)
    rw [stage4_alerting h]
    refine ⟨(hjoin .ale (by decide)).trans (hjudged .ale (by decide)), fun hne => absurd h hne, fun _ => hjoined.trans ?_,
      hjoin .atc (by decide), (((hmade.trans hjudged).trans hjoin).trans (hphase _)).mono (by decide)⟩
    rw [hqueue]
    rfl
  · rw [stage4_quiet h]
    exact ⟨hjudged .ale (by decide), fun _ => hqueue, fun ha => absurd ha h, rfl,
      ((hmade.trans hjudged).trans (hphase _)).mono (by decide)⟩

/-- Settles O59: each stage is one work on the state that the stage before it left. -/
theorem startUpRunsItsStages : Obligations.StartUpRunsItsStages := by
  refine ⟨fun s => completes_of_effect rfl ?_, fun s hs => completes_of_effect (if_neg hs) ?_,
    fun s hs => completes_of_effect (if_pos hs) ⟨?_, fun hnone => ?_, fun bank hbank => ?_⟩,
    fun s hs ht hset => completes_of_effect (if_pos hs) ?_, fun s hs hm => completes_of_effect (if_pos hs) ?_, ?_, ?_,
    fun s hs => completes_of_effect (if_pos hs) ?_, fun s hs => completes_of_effect (if_pos hs) ?_⟩
  · rfl
  · rfl
  · rfl
  · show (stage1 s).cps = _
    rw [stage1_cps, storedBank, stage1Fails, hnone]
    rfl
  · show (stage1 s).cps = _
    rw [stage1_cps, storedBank, stage1Fails, storedBank, hbank, ← bankChecks_eq]
    rfl
  · obtain ⟨hphase, hmem, hoft, hmst, hwpt, hfrc, hmtc, hkeeps⟩ := stage2_parts s
    obtain ⟨htariffs, hsettings, hrest⟩ := startMemory_bytes ht hset
    have hpool : ∀ a, 0x900 ≤ a → a < 0x2500 → (stage2 s).mem.read a = Memory.read freedPool a := fun a hlow hhigh => by
      rw [hmem]
      exact hrest a (by omega) (by omega)
    refine ⟨hphase, ?_, fun n hn => ?_, ?_, fun i hi => ?_, fun i hi => ?_, fun a hbank hset hblock => ?_, hoft, hmst, hwpt, hfrc, ?_, ?_, ?_, ?_,
      (hkeeps.trans (driveLines_keeps _)).mono (by decide), driveLines_onlyLines (hkeeps .pins (by decide))⟩
    · show (stage2 s).mem.Wf
      rw [hmem]
      exact startMemory_wf _
    · refine (hpool _ (by omega) (by omega)).trans ?_
      rw [freedPool_read, if_pos ⟨by omega, by omega, by omega⟩, if_neg (by omega), show (0x900 + 32 * n - 0x900) / 32 = n by omega]
      rfl
    · exact (hpool _ (by omega) (by omega)).trans (by rw [freedPool_read]; rfl)
    · show (stage2 s).mem.read _ = _
      rw [hmem, htariffs i hi]
    · show (stage2 s).mem.read _ = _
      rw [hmem, hsettings i hi]
    · show (stage2 s).mem.read _ = _
      rw [hmem, hrest a hbank hset, freedPool_read, if_neg hblock]
    · exact fun hf => congrArg State.atc (if_neg (Bool.eq_false_iff.mp hf) : recordCalInvalid (windowMade s) = windowMade s)
    · exact fun hf => stage2_faults hf
    · intro hm
      show (stage2 s).mtc = _
      rw [hmtc, storedLog, storedTotals, hm]
    · intro m hm
      show (stage2 s).mtc = _
      rw [hmtc, storedLog, storedTotals, hm]
  · have hopen : openTripCheckpoint (meterTaken s) = none := by simp [openTripCheckpoint, meterTaken, hm]
    have hempty : storedEmergency s.cps.store = (.quiet, 0) := by simp [storedEmergency, hm]
    obtain ⟨⟨hphase, hdsc, hfrc⟩, ⟨hmeter, -, htotals, hlog, -⟩, ⟨hemc, -, hcps, hquiet⟩, hkeeps⟩ := stage3_recovered s hempty
    rw [reportRecovery_none hopen] at hcps hquiet
    have hoff : recoveredMeter s = .off := by simp [recoveredMeter, hm]
    have hopen' : openTripCheckpoint s = none := hopen
    have hlast : Keeps [.phase, .frc, .mtc, .dsc, .emc, .pins] s (driveLines (stage3 s)) := by
      refine ((hkeeps.trans (driveLines_keeps _)).drop fun p hp => ?_)
      cases p with
      | atc => exact .inr (hquiet rfl)
      | cps => exact .inr hcps
      | _ => exact .inl (by revert hp; decide)
    refine ⟨hphase, hmeter.trans hoff, htotals.trans ?_, hlog.trans ?_, ?_, hemc, ?_, ?_, ?_, hcps, hquiet rfl, hlast,
      driveLines_onlyLines (hkeeps .pins (by decide))⟩
    · simp only [recoveredTotals, hopen', storedTotals, hm]
      cases s.cps.failed <;> rfl
    · simp only [storedLog, hm]
      exact Vector.map_replicate
    · exact (congrArg Dsc.status hdsc).trans (by rw [hoff]; rfl)
    · exact (congrArg Frc.hire hfrc).trans (recovered_closed (.inr hopen')).1
    · refine (congrArg Frc.shiftPulses hfrc).trans ?_
      simp only [recoveredShiftPulses, hm]
    · exact congrArg Frc.meterTimerRunning hfrc
  · intro s m hs hf hm c kept send raised totals call
    refine completes_of_effect (if_pos hs) ?_
    obtain ⟨hemergency, hlog, htot, horder, hpulses, hopen, hmeter⟩ := stored_some hm
    obtain ⟨⟨hphase, hdsc, hfrc⟩, ⟨hmeter', htrip, htotals, hlog', -, -, hhold⟩, ⟨hemc, hset, hcps, -⟩, hkeeps⟩ :=
      stage3_recovered s hemergency
    rw [hf, if_neg Bool.false_ne_true] at hmeter
    have hkept : kept ↔ c.meter.tripOpen = true := (tripOpen_iff c.meter).symm
    refine ⟨hphase, hmeter'.trans (hmeter.trans (MeterState.resumed_eq _)), hlog'.trans (by rw [hlog, tripLog_recovered]),
      (congrArg Frc.shiftPulses hfrc).trans hpulses, congrArg Frc.pulseCounter hfrc, congrArg Frc.meterTimerRunning hfrc,
      congrArg Frc.fareGroup hfrc, hdsc.trans (by rw [hmeter, derivedStatus_resumed]), hemc, fun hk => ?_, fun hk => ?_,
      fun hpay hpos => ?_, (hkeeps.trans (driveLines_keeps _)).mono (by decide), driveLines_onlyLines (hkeeps .pins (by decide))⟩
    · have hchecked : openTripCheckpoint s = some c := hopen.trans (if_pos (hkept.mp hk))
      obtain ⟨hfault, hasks, hsame⟩ := reportRecovery_effect (s := meterTaken s) hchecked hf
      have hhire : recoveredHire s = c.hire ∧ recoveredTrip s = { c.trip with powerInterrupted := true } := by
        unfold recoveredHire recoveredTrip
        rw [hf, hchecked]
        exact ⟨rfl, rfl⟩
      refine ⟨(congrArg Frc.hire hfrc).trans hhire.1, htrip.trans hhire.2, htotals.trans ?_, ?_, Config.powerInterruptedDetail, ?_⟩
      · unfold recoveredTotals
        rw [hf, hchecked, htot]
        simp only [TotalsGroup.recovered, SendState.recovered_eq]
        rfl
      · exact asksCommit_of hasks hcps
      · exact (Sets.trans hfault hset hsame).rebase rfl rfl (.refl s)
    · have hnone : openTripCheckpoint s = none := hopen.trans (if_neg fun ho => hk (hkept.mpr ho))
      rw [reportRecovery_none (s := meterTaken s) hnone] at hset hcps
      obtain ⟨hhire, htrip'⟩ := recovered_closed (s := s) (.inr hnone)
      refine ⟨(congrArg Frc.hire hfrc).trans hhire, htrip.trans htrip', htotals.trans ?_, hset.rebase rfl rfl (.refl s), ?_⟩
      · unfold recoveredTotals
        rw [hf, hnone, htot]
        simp only [TotalsGroup.recovered, SendState.recovered_eq]
        rfl
      · show if c.emergency = .acked ∨ c.emergency = .cancelling then (stage3 s).cps = (requestCommit s).cps else (stage3 s).cps = s.cps
        split_ifs with hcall
        · exact hcps.trans (if_pos hcall)
        · exact hcps.trans (if_neg hcall)
    · refine hhold ?_ hpos
      rw [hmeter, MeterState.resumed_eq, hpay]
      rfl
  · intro s m hs hf hm c dropped send l raised
    refine completes_of_effect (if_pos hs) ?_
    obtain ⟨hemergency, hlog, htot, horder, hpulses, hopen, hmeter⟩ := stored_some hm
    obtain ⟨⟨hphase, hdsc, hfrc⟩, ⟨hmeter', htrip, htotals, hlog', horder', hdue, hhold⟩, ⟨hemc, hset, hcps, -⟩, hkeeps⟩ :=
      stage3_recovered s hemergency
    rw [hf, if_pos rfl] at hmeter
    have hdropped : dropped ↔ c.meter.tripOpen = true := (tripOpen_iff c.meter).symm
    obtain ⟨hhire, htrip'⟩ := recovered_closed (s := s) (.inl hf)
    have hreport : (reportRecovery (meterTaken s)).atc = s.atc ∧ (reportRecovery (meterTaken s)).mem = s.mem ∧
        (reportRecovery (meterTaken s)).cps = if dropped then (requestCommit s).cps else s.cps := by
      by_cases ho : c.meter.tripOpen = true
      · have hchecked : openTripCheckpoint (meterTaken s) = some c := hopen.trans (if_pos ho)
        rw [reportRecovery_failed hchecked hf, if_pos (hdropped.mpr ho)]
        exact ⟨rfl, rfl, rfl⟩
      · have hnone : openTripCheckpoint (meterTaken s) = none := hopen.trans (if_neg ho)
        rw [reportRecovery_none hnone, if_neg fun hd => ho (hdropped.mp hd)]
        exact ⟨rfl, rfl, rfl⟩
    obtain ⟨hatc, hmem, hreportCps⟩ := hreport
    refine ⟨hphase, hmeter'.trans hmeter, hdue, htotals.trans ?_, hlog'.trans (by rw [hlog, tripLog_recovered]), horder'.trans horder,
      (congrArg Frc.hire hfrc).trans hhire, (congrArg Frc.shiftPulses hfrc).trans hpulses, congrArg Frc.pulseCounter hfrc,
      congrArg Frc.meterTimerRunning hfrc, congrArg Frc.fareGroup hfrc, hdsc.trans (by rw [hmeter]; rfl), hemc, ?_, ?_,
      (hkeeps.trans (driveLines_keeps _)).mono (by decide), driveLines_onlyLines (hkeeps .pins (by decide))⟩
    · unfold recoveredTotals
      rw [hf, hopen, htot]
      by_cases ho : c.meter.tripOpen = true
      · rw [if_pos ho, if_pos (hdropped.mpr ho)]
        simp only [TotalsGroup.recovered, SendState.recovered_eq]
        rfl
      · rw [if_neg ho, if_neg fun hd => ho (hdropped.mp hd)]
        simp only [TotalsGroup.recovered, SendState.recovered_eq]
        rfl
    · rw [hatc] at hset
      exact hset.rebase hatc.symm rfl (.of_mem hmem.symm)
    · show if dropped ∨ c.emergency = .acked ∨ c.emergency = .cancelling then (stage3 s).cps = (requestCommit s).cps
        else (stage3 s).cps = s.cps
      by_cases hd : dropped
      · rw [if_pos (.inl hd)]
        exact asksCommit_of (hreportCps.trans (if_pos hd)) hcps
      · have hsame : (reportRecovery (meterTaken s)).cps = s.cps := hreportCps.trans (if_neg hd)
        by_cases hcall : c.emergency = .acked ∨ c.emergency = .cancelling
        · rw [if_pos (.inr hcall), hcps.trans (if_pos hcall), requestCommit_asks, requestCommit_asks, hsame]
        · rw [if_neg (not_or.mpr ⟨hd, hcall⟩), hcps.trans (if_neg hcall), hsame]
  · obtain ⟨hale, hquiet, halert, hatc, hkeeps⟩ := stage4_effect s
    refine ⟨rfl, hale, hquiet, halert, fun hgood => ?_, fun hbad => ?_, (hkeeps.trans (driveLines_keeps _)).mono (by decide),
      driveLines_onlyLines (hkeeps .pins (by decide))⟩
    · have hwork : judgeAddressAtStart (radioMade s) = radioMade s := if_pos hgood
      rw [hwork] at hatc
      exact hatc
    · have hwork : judgeAddressAtStart (radioMade s) = recordFault .badAddress (cabAddress s) (radioMade s) :=
        if_neg (Bool.eq_false_iff.mp hbad)
      rw [hwork] at hatc
      exact Sets.rebase (recordFault_records .badAddress (cabAddress s) (radioMade s)) rfl hatc (.refl s)
  · have hkeeps : Keeps [.phase, .wpt, .atc] s (stage5 s) := by
      simp [keeps_iff]
    exact ⟨rfl, rfl, rfl, (hkeeps.trans (driveLines_keeps _)).mono (by decide), driveLines_onlyLines (hkeeps .pins (by decide))⟩

end

end Sys2Proof.Machine
end

section
/-! SUPPORT. The outcome of a frame on its way to the frame's origins (R156): what it sets at the attention controller, which
parts it leaves, and what each origin hears. -/

namespace Sys2Proof.Machine

/-! Bytes above those written, in any memory. -/

theorem Memory.read_write_above (m : Memory) {a b : Nat} (v : Byte) (h : a < b) : (m.write a v).read b = m.read b := by
  induction m with
  | nil =>
    unfold Memory.write
    split_ifs
    · rfl
    · simp only [Memory.read, if_neg (Nat.not_lt.mpr h.le), if_neg h.ne']
  | cons c m ih =>
    obtain ⟨k, x⟩ := c
    have hb : ¬b < a := Nat.not_lt.mpr h.le
    have hne : b ≠ a := h.ne'
    rcases Nat.lt_trichotomy a k with hlt | rfl | hgt
    · simp only [Memory.write, if_pos hlt]
      split_ifs
      · rfl
      · simp only [Memory.read, if_neg hb, if_neg hne]
    · simp only [Memory.write, if_neg (Nat.lt_irrefl a), if_true]
      split_ifs <;> simp only [Memory.read, if_neg hb, if_neg hne]
    · simp only [Memory.write, if_neg (Nat.lt_asymm hgt), if_neg hgt.ne', Memory.read, ih]

theorem Memory.read_writeBytes_above (m : Memory) {a b : Nat} (bs : List Byte) (h : a + bs.length ≤ b) :
    (m.writeBytes a bs).read b = m.read b := by
  induction bs generalizing m a with
  | nil => rfl
  | cons v bs ih =>
    rw [List.length_cons] at h
    exact (ih (m.write a v) (by omega)).trans (m.read_write_above v (by omega))

/-- An answer leaves the fleet settings, whatever form window memory has. -/
theorem writeAnswer_settings (r : Fin 16) (x : Result) (d : Byte) (w : Nat) (s : State) :
    SameSettings s (writeAnswer r x d w s) := fun o => by
  have hr := r.isLt
  rw [writeAnswer_mem, Memory.read_write_above _ _ (by simp only [recordBase]; omega)]
  refine Memory.read_writeBytes_above _ _ ?_
  simp only [answerBytes, List.length_append, length_littleEndian, List.length_cons, List.length_nil, recordBase]
  omega

theorem writeAnswer_requests (r : Fin 16) (x : Result) (d : Byte) (w : Nat) (s : State) :
    Sets s.atc [.request] s (writeAnswer r x d w s) := by
  let written := setHand r 4#8 (s.modMem fun m => m.writeBytes (recordBase r + 4) (answerBytes x d w))
  have hs : SameSettings s written := fun o => by
    rw [← writeAnswer_settings r x d w s o, writeAnswer_mem]
    rfl
  exact (setChannel_sets .request written).rebase rfl rfl fun o => (hs o).symm

/-! What an outcome sets. -/

/-- An outcome has set these channels, with these failures recorded in the fault ring; where it has judged the matches, or
found them as the state gives them, so they stand (R156, R176, R178). -/
structure Hears (judged : Bool) (details : List Nat) (cs : List Channel) (s t : State) : Prop where
  attends : Attends (ringAfterFailures s details) cs s t
  clock : t.frc.clock = s.frc.clock
  now : judged = true ∨ MatchesNow s → MatchesNow t
  sets : judged = false → Sets (ringAfterFailures s details) cs s t

theorem ringAfterFailures_eq (s : State) (details : List Nat) :
    ringAfterFailures s details = failuresRecorded s.frc.clock.seconds details s.atc := rfl

theorem ringAfterFailures_matches (s : State) (details : List Nat) :
    (ringAfterFailures s details).matchA = s.atc.matchA ∧ (ringAfterFailures s details).matchB = s.atc.matchB :=
  failuresRecorded_matches ..

theorem failuresRecorded_append (n : Nat) (ds es : List Nat) (a : Atc) :
    failuresRecorded n (ds ++ es) a = failuresRecorded n es (failuresRecorded n ds a) := List.foldl_append

namespace Hears

variable {s t u : State} {j k : Bool} {ds es : List Nat} {cs cs' : List Channel}

/-- Work that the attention controller does not see. -/
theorem of_atc (hatc : t.atc = s.atc) (hphase : t.phase = s.phase) (hclock : t.frc.clock = s.frc.clock)
    (hsettings : SameSettings s t) (hflags : FlagsSame s t) : Hears false [] [] s t where
  attends := .of_atc hatc hphase hsettings
  clock := hclock
  now h := (h.resolve_left Bool.false_ne_true).of_flags hphase hflags hsettings (by rw [hatc]) (by rw [hatc])
  sets _ := .of_atc hatc

theorem refl (s : State) : Hears false [] [] s s := .of_atc rfl rfl rfl (.refl s) ⟨rfl, rfl, rfl, rfl, rfl, rfl, rfl⟩

theorem of_judged (h : Attends s.atc cs s t) (hclock : t.frc.clock = s.frc.clock) (hnow : MatchesNow t) : Hears true [] cs s t where
  attends := h
  clock := hclock
  now _ := hnow
  sets h := Bool.noConfusion h

theorem of_sets (h : Sets (ringAfterFailures s ds) cs s t) (hpattern : Channel.pattern ∉ cs) (hphase : t.phase = s.phase)
    (hclock : t.frc.clock = s.frc.clock) (hsettings : SameSettings s t) (hflags : FlagsSame s t) : Hears false ds cs s t := by
  have hring := failuresRecorded_matches s.frc.clock.seconds ds s.atc
  have hatc := h.1
  refine ⟨.of_sets h hpattern hphase hsettings hring, hclock, fun hn => ?_, fun _ => h⟩
  exact (hn.resolve_left Bool.false_ne_true).of_flags hphase hflags hsettings (by rw [hatc]; exact hring.1) (by rw [hatc]; exact hring.2)

/-- One outcome after another. -/
theorem trans (h : Hears j ds cs s t) (h' : Hears k es cs' t u) : Hears (j || k) (ds ++ es) (cs ++ cs') s u := by
  have hring : ∀ p mA mB, ({ ringAfterFailures t es with pending := p, matchA := mA, matchB := mB } : Atc) =
      { ringAfterFailures s (ds ++ es) with pending := p, matchA := mA, matchB := mB } := fun p mA mB => by
    rw [ringAfterFailures_eq, ringAfterFailures_eq, failuresRecorded_append, h.clock, h.attends.atc, failuresRecorded_beside]
    rfl
  refine ⟨h.attends.step h'.attends (hring _ _ _), h'.clock.trans h.clock, fun hn => h'.now ?_, fun hj => ?_⟩
  · cases k with
    | true => exact .inl rfl
    | false => exact .inr (h.now (by simpa using hn))
  · obtain ⟨hj, hk⟩ := Bool.or_eq_false_iff.mp hj
    obtain ⟨hatc, hset⟩ := h.sets hj
    obtain ⟨hatc', hset'⟩ := h'.sets hk
    obtain ⟨hA, hB⟩ := ringAfterFailures_matches t es
    obtain ⟨hA', hB'⟩ := ringAfterFailures_matches s ds
    obtain ⟨hA₂, hB₂⟩ := ringAfterFailures_matches s (ds ++ es)
    refine ⟨?_, fun c => ?_⟩
    · rw [hatc']
      refine (hring u.atc.pending _ _).trans ?_
      rw [hA, hB, hatc]
      show ({ ringAfterFailures s (ds ++ es) with
        pending := u.atc.pending, matchA := (ringAfterFailures s ds).matchA, matchB := (ringAfterFailures s ds).matchB } : Atc) = _
      rw [hA', hB', ← hA₂, ← hB₂]
    · rw [hset', hset, h.attends.settings.isEnabled, List.mem_append, or_and_right, or_assoc]

theorem congr (h : Hears j ds cs s t) (hcs : ∀ c, c ∈ cs ↔ c ∈ cs') : Hears j ds cs' s t :=
  ⟨h.attends.congr hcs, h.clock, h.now, fun hj => (h.sets hj).congr hcs⟩

end Hears

/-! What each origin does with an outcome. -/

section
variable {s : State} {x : Frame} {o : TxOutcome}

/-- The parts of the state in which an origin hears an outcome (R156). -/
def Origin.heardIn : Origin → List Part
  | .record _ => [.mem, .atc]
  | .inbox _ => [.mst, .atc]
  | .offer _ _ => [.oft, .dsc, .atc]
  | .trip _ => [.mtc, .cps]
  | .lastShift => [.mtc]
  | .emergency => []
  | .dispatch | .receipts | .refusals => [.atc]

/-- The entry of a bid that its frame's failure has ended (R76). -/
def bidFailed (e : Fin 8) (reason : FailReason) (s : State) : State :=
  updateOffer e (fun x => { x with bidFrame := .none, state := .lost, reason := reason.bidLoss, awardRemaining := 0 }) s

/-- The failure of the frame of a bid (R76). -/
def bidLost (e : Fin 8) (reason : FailReason) (s : State) : State :=
  setChannel .offerResult (leaveBidding (bidFailed e reason s))

theorem leaveBidding_keeps (s : State) : Keeps [.dsc, .atc] s (leaveBidding s) := by
  unfold leaveBidding
  split_ifs
  · exact (modDsc_keeps _ s).trans (rejudge_keeps _)
  · exact (Keeps.refl [] s).mono (by decide)

theorem leaveBidding_dsc (s : State) :
    (leaveBidding s).dsc = { s.dsc with status := if s.dsc.status = .bidding then .available else s.dsc.status } := by
  unfold leaveBidding
  split_ifs
  · exact rejudge_keeps _ .dsc (by decide)
  · rfl

theorem leaveBidding_attends (s : State) : Attends s.atc [] s (leaveBidding s) := by
  unfold leaveBidding
  split_ifs
  · exact rejudge_attends_after (t := s.modDsc _) rfl rfl (.refl s)
  · exact .of_atc rfl rfl (.refl s)

theorem leaveBidding_now (h : MatchesNow s) : MatchesNow (leaveBidding s) := by
  unfold leaveBidding
  split_ifs
  · exact rejudge_matchesNow _
  · exact h

theorem bidLost_keeps (e : Fin 8) (reason : FailReason) (s : State) : Keeps [.oft, .dsc, .atc] s (bidLost e reason s) :=
  (((updateOffer_keeps e _ s).trans (leaveBidding_keeps _)).trans (setChannel_keeps _ _)).mono (by decide)

theorem bidLost_hears (e : Fin 8) (reason : FailReason) (s : State) : Hears true [] [.offerResult] s (bidLost e reason s) := by
  have hatt := ((updateOffer_attends s e _).trans (leaveBidding_attends (bidFailed e reason s))).trans
    (setChannel_attends (c := .offerResult) (by decide) _)
  refine .of_judged (hatt.congr (by simp)) ?_ ((leaveBidding_now (updateOffer_matchesNow s e _)).setChannel _)
  rw [bidLost_keeps e reason s .frc (by decide)]

theorem routeToOffer_gone {kind : UplinkKind} {e : Fin 8} {number : Nat}
    (h : (s.oft.entries.get e).state = .empty ∨ (s.oft.entries.get e).number ≠ number) : routeToOffer kind o e number s = s := if_pos h

theorem routeToOffer_refuse {e : Fin 8} {number : Nat}
    (h : ¬((s.oft.entries.get e).state = .empty ∨ (s.oft.entries.get e).number ≠ number)) :
    routeToOffer .refuse o e number s = updateOffer e (fun x => { x with refusePending := false }) s :=
  (if_neg h).trans (if_pos rfl)

theorem routeToOffer_over {kind : UplinkKind} {e : Fin 8} {number : Nat}
    (h : ¬((s.oft.entries.get e).state = .empty ∨ (s.oft.entries.get e).number ≠ number)) (hkind : kind ≠ .refuse)
    (hover : o = .delivered ∨ (s.oft.entries.get e).state.bidding = false) :
    routeToOffer kind o e number s = updateOffer e (fun x => { x with bidFrame := .none }) s := by
  refine (if_neg h).trans ((if_neg hkind).trans ?_)
  cases o with
  | delivered => rfl
  | failed reason =>
    have hidle := hover.resolve_left (by simp)
    exact if_neg (by rw [hidle]; decide)

theorem routeToOffer_lost {kind : UplinkKind} {e : Fin 8} {number : Nat} {reason : FailReason}
    (h : ¬((s.oft.entries.get e).state = .empty ∨ (s.oft.entries.get e).number ≠ number)) (hkind : kind ≠ .refuse)
    (hbids : (s.oft.entries.get e).state.bidding = true) : routeToOffer kind (.failed reason) e number s = bidLost e reason s :=
  (if_neg h).trans ((if_neg hkind).trans (if_pos hbids))

theorem updateOffer_hears (e : Fin 8) (f : OfferEntry → OfferEntry) (s : State) : Hears true [] [] s (updateOffer e f s) :=
  .of_judged (updateOffer_attends s e f) (by rw [updateOffer_keeps e f s .frc (by decide)]) (updateOffer_matchesNow s e f)

theorem updateInbox_hears (i : Fin 24) (f : InboxEntry → InboxEntry) (s : State) : Hears true [] [] s (updateInbox i f s) :=
  .of_judged (updateInbox_attends s i f) (by rw [updateInbox_keeps s i f .frc (by decide)]) (updateInbox_matchesNow s i f)

/-- The four ways in which an offer entry hears an outcome (R76). -/
inductive OfferHears (kind : UplinkKind) (o : TxOutcome) (e : Fin 8) (number : Nat) (s : State) : State → Prop
  | gone (h : (s.oft.entries.get e).state = .empty ∨ (s.oft.entries.get e).number ≠ number) : OfferHears kind o e number s s
  | refuse (h : ¬((s.oft.entries.get e).state = .empty ∨ (s.oft.entries.get e).number ≠ number)) (hkind : kind = .refuse) :
    OfferHears kind o e number s (updateOffer e (fun x => { x with refusePending := false }) s)
  | forgets (h : ¬((s.oft.entries.get e).state = .empty ∨ (s.oft.entries.get e).number ≠ number)) (hkind : kind ≠ .refuse)
    (hover : o = .delivered ∨ (s.oft.entries.get e).state.bidding = false) :
    OfferHears kind o e number s (updateOffer e (fun x => { x with bidFrame := .none }) s)
  | lost (h : ¬((s.oft.entries.get e).state = .empty ∨ (s.oft.entries.get e).number ≠ number)) (hkind : kind ≠ .refuse)
    (hbids : (s.oft.entries.get e).state.bidding = true) (reason : FailReason) (ho : o = .failed reason) :
    OfferHears kind o e number s (bidLost e reason s)

theorem routeToOffer_hears (kind : UplinkKind) (o : TxOutcome) (e : Fin 8) (number : Nat) (s : State) :
    OfferHears kind o e number s (routeToOffer kind o e number s) := by
  by_cases h : (s.oft.entries.get e).state = .empty ∨ (s.oft.entries.get e).number ≠ number
  · rw [routeToOffer_gone h]
    exact .gone h
  by_cases hkind : kind = .refuse
  · subst hkind
    rw [routeToOffer_refuse h]
    exact .refuse h rfl
  by_cases hover : o = .delivered ∨ (s.oft.entries.get e).state.bidding = false
  · rw [routeToOffer_over h hkind hover]
    exact .forgets h hkind hover
  · obtain ⟨hfailed, hbids⟩ := not_or.mp hover
    cases o with
    | delivered => exact absurd rfl hfailed
    | failed reason =>
      have hbids' := Bool.of_not_eq_false hbids
      rw [routeToOffer_lost h hkind hbids']
      exact .lost h hkind hbids' reason rfl

theorem routeToOffer_keeps (kind : UplinkKind) (o : TxOutcome) (e : Fin 8) (number : Nat) (s : State) :
    Keeps [.oft, .dsc, .atc] s (routeToOffer kind o e number s) := by
  have h := routeToOffer_hears kind o e number s
  generalize routeToOffer kind o e number s = t at h
  cases h with
  | gone => exact (Keeps.refl [] s).mono (by decide)
  | refuse => exact (updateOffer_keeps e _ s).mono (by decide)
  | forgets => exact (updateOffer_keeps e _ s).mono (by decide)
  | lost h hkind hbids reason => exact bidLost_keeps e reason s

/-- A text request in work hears its outcome, whatever form window memory has (R101). -/
theorem answerWork_hears (r : Fin 16) (x : Result) (reason w : Nat) (s : State) :
    Hears false [] (if handField s r = 2#8 ∨ handField s r = 3#8 then [.request] else []) s (answerWork r x reason w s) := by
  by_cases h : handField s r = 2#8 ∨ handField s r = 3#8
  · rw [if_pos h, answerWork_inWork h]
    have hk := writeAnswer_keeps r x (workDetail reason r s) w s
    exact .of_sets (writeAnswer_requests ..) (by decide) (hk .phase (by decide)) (by rw [hk .frc (by decide)])
      (writeAnswer_settings _ _ _ _ s) (.of_keeps hk (by decide) (by decide) (by decide) (by decide) (by decide) (by rw [hk .emc (by decide)]))
  · obtain ⟨h2, h3⟩ := not_or.mp h
    rw [if_neg h, answerWork_idle h2 h3]
    exact .refl s

theorem answerWork_keeps (r : Fin 16) (x : Result) (reason w : Nat) (s : State) :
    Keeps [.mem, .atc] s (answerWork r x reason w s) := by
  unfold answerWork
  split_ifs
  · exact writeAnswer_keeps r x _ w s
  · exact writeAnswer_keeps r x _ w s
  · exact (Keeps.refl [] s).mono (by decide)

/-- The result of a text request, and the reason that its detail gives (R101, R170). -/
def TxOutcome.result : TxOutcome → Result × Nat
  | .delivered => (.delivered, 0)
  | .failed reason => (.failed, reason.code)

theorem routeToRecord_eq (o : TxOutcome) (r : Fin 16) (s : State) :
    routeToRecord o r s = answerWork r o.result.1 o.result.2 (textAnswerWord s r) s := by cases o <;> rfl

theorem internalFailed_hears (code : Nat) (s : State) : Hears false [code] [.fault, .queue] s (internalFailed code s) := by
  have hk := internalFailed_keeps code s
  exact .of_sets (internalFailed_sets code s) (by decide) (hk .phase (by decide)) (by rw [hk .frc (by decide)])
    (.of_mem (hk .mem (by decide))) (.of_keeps hk (by decide) (by decide) (by decide) (by decide) (by decide) (by rw [hk .emc (by decide)]))

/-- A trip record's report has its outcome (R41). -/
def tripSettled (e : Fin 24) (o : TxOutcome) (s : State) : State :=
  requestCommit (updateTripRecord e (fun x => { x with sendState := o.sendState }) s)

theorem tripSettled_keeps (e : Fin 24) (o : TxOutcome) (s : State) : Keeps [.mtc, .cps] s (tripSettled e o s) :=
  (modMtc_keeps _ s).trans (requestCommit_keeps _)

theorem routeToOrigin_keeps (o : TxOutcome) (g : Origin) (s : State) : Keeps g.heardIn s (routeToOrigin x o g s) := by
  cases g with
  | record r =>
    rw [show routeToOrigin x o (.record r) s = routeToRecord o r s from rfl, routeToRecord_eq]
    exact answerWork_keeps r _ _ _ s
  | inbox i =>
    show Keeps _ s (updateInbox i (fun x => { x with state := o.inboxState }) s)
    exact updateInbox_keeps s i _
  | offer e number =>
    exact routeToOffer_keeps x.kind o e number s
  | trip e => exact tripSettled_keeps e o s
  | lastShift => exact modMtc_keeps _ s
  | emergency => exact Keeps.refl [] s
  | dispatch => cases o with
    | delivered => exact (Keeps.refl [] s).mono (by decide)
    | failed reason => exact internalFailed_keeps _ s
  | receipts => cases o with
    | delivered => exact (Keeps.refl [] s).mono (by decide)
    | failed reason => exact internalFailed_keeps _ s
  | refusals => cases o with
    | delivered => exact (Keeps.refl [] s).mono (by decide)
    | failed reason => exact internalFailed_keeps _ s

end

end Sys2Proof.Machine
end

section
/-! SUPPORT. What the origins of a frame have heard once its outcome has been routed (R156). -/

namespace Sys2Proof.Machine

section
variable {s t u : State} {x : Frame} {o : TxOutcome}

/-- What `OutcomeHeard` says of the frame's origins, with `att` for what it says of the attention controller: whether the matches
have been judged, which failures are in the fault ring, and which channels have been set. -/
def HeardWith (att : Bool → List Nat → List Channel → Prop) (x : Frame) (outcome : TxOutcome) (s t : State) : Prop :=
  let settled := if outcome = .delivered then SendState.sent else .unsent
  match x.origins with
  | [⟨.record r, false⟩] => TextInWork r 0x30#8 s → TextAnswered r outcome 0 s t ∧ att false [] [.request]
  | [⟨.inbox i, false⟩, ⟨.record r, freed⟩] =>
    let after := if outcome = .delivered then InboxState.replied else .read
    t.mst.inbox.get i = { s.mst.inbox.get i with state := after } ∧ OnlyInbox i s t ∧
    (freed = true → att true [] []) ∧
    (freed = false → TextInWork r 0x31#8 s → param8 s r 8 = i.val →
      TextAnswered r outcome after.code s t ∧ att true [] [.request])
  | [⟨.offer e n, false⟩] =>
    let entry := s.oft.entries.get e
    if entry.state = .empty ∨ entry.number ≠ n then t.oft = s.oft ∧ t.dsc = s.dsc ∧ att false [] []
    else
      OnlyOffer e s t ∧
      if x.kind = .refuse then
        t.oft.entries.get e = { entry with refusePending := false } ∧ t.dsc = s.dsc ∧ att true [] []
      else if outcome = .delivered ∨ entry.state.bidding = false then
        t.oft.entries.get e = { entry with bidFrame := .none } ∧ t.dsc = s.dsc ∧ att true [] []
      else
        t.oft.entries.get e = { entry with
          bidFrame := .none, state := .lost, awardRemaining := 0,
          reason := if outcome = .failed .link ∨ outcome = .failed .reset then .link else .noAck } ∧
        t.dsc = { s.dsc with status := if s.dsc.status = .bidding then .available else s.dsc.status } ∧
        att true [] [.offerResult]
  | [⟨.trip e, false⟩] =>
    t.mtc = { s.mtc with
      tripLog := s.mtc.tripLog.set e.val { s.mtc.tripLog.get e with sendState := settled } e.isLt } ∧ AsksCommit s t ∧
      att false [] []
  | [⟨.lastShift, false⟩] =>
    t.mtc = { s.mtc with totals := { s.mtc.totals with reportState := settled } } ∧ att false [] []
  | [⟨.dispatch, false⟩] | [⟨.receipts, false⟩] | [⟨.refusals, false⟩] =>
    if outcome = .delivered then att false [] [] else att false [x.kind.code] [.fault, .queue]
  | _ => att false [] []

theorem outcomeHeard_iff {beside : Option (List Channel)} : OutcomeHeard beside x o s t ↔
    HeardWith (fun judged details cs => HeardAs beside judged (ringAfterFailures s details) cs s t) x o s t := Iff.rfl

/-- What a frame of its kind's origins names: one origin, or a reply's inbox entry and its record. -/
theorem Frame.HasItsOrigins.shape (h : x.HasItsOrigins) :
    (∃ g gone, x.origins = [⟨g, gone⟩] ∧ g ≠ .emergency ∧ ∀ i, g ≠ .inbox i) ∨
      ∃ i r gone, x.origins = [⟨.inbox i, false⟩, ⟨.record r, gone⟩] := by
  unfold Frame.HasItsOrigins at h
  split at h <;> first | exact h.elim | (next hx => exact .inl ⟨_, _, hx, by simp, by simp⟩) | (next hx => exact .inr ⟨_, _, _, hx⟩)

/-! A text request (R101, R103). -/

theorem TextInWork.of_mem {r : Fin 16} {k : Byte} (h : TextInWork r k s) (hmem : t.mem = s.mem) : TextInWork r k t := by
  rwa [TextInWork, kindByte, handField, hmem]

theorem Answered.of_mem {r : Fin 16} {y : Result} {d : Byte} {w : Nat} (h : Answered r y d w s) (hmem : t.mem = s.mem) :
    Answered r y d w t := by
  rwa [Answered, handField, hmem]

theorem TextAnswered.of_mem {r : Fin 16} {w : Nat} (h : TextAnswered r o w s t) {s' t' : State} (hs : s'.mem = s.mem)
    (ht : t'.mem = t.mem) : TextAnswered r o w s' t' := by
  have hhand : handField s' r = handField s r := by rw [handField, hs, handField]
  obtain ⟨hbytes, hanswered⟩ := h
  refine ⟨fun a ha => by rw [ht, hs, hbytes a ha], ?_⟩
  cases o with
  | delivered => exact hhand ▸ Answered.of_mem hanswered ht
  | failed reason => exact hhand ▸ Answered.of_mem hanswered ht

/-- The answer word of a REPLY is the state code of its inbox entry (R103; log entry 25). -/
theorem textAnswerWord_reply {r : Fin 16} {i : Fin 24} (hkind : kindByte s r = 0x31#8) (hi : param8 s r 8 = i.val) :
    textAnswerWord s r = (s.mst.inbox.get i).state.code := by
  have hbyte : (s.mem.read (recordBase r + 8)).toNat = i.val := hi
  have hentry : s.mst.inbox.get ⟨(s.mem.read (recordBase r + 8)).toNat, hbyte ▸ i.isLt⟩ = s.mst.inbox.get i :=
    congrArg s.mst.inbox.get (Fin.ext hbyte)
  rw [textAnswerWord, if_pos hkind, dif_pos (hbyte ▸ i.isLt), hentry]

theorem textAnswerWord_sent {r : Fin 16} (hkind : kindByte s r = 0x30#8) : textAnswerWord s r = 0 :=
  if_neg (by rw [hkind]; decide)

theorem routeToRecord_answered {r : Fin 16} {k : Byte} (h : TextInWork r k s) :
    TextAnswered r o (textAnswerWord s r) s (routeToRecord o r s) := by
  obtain ⟨hwf, -, hhand⟩ := h
  have hlate : ∀ x reason w, LateAnswer r x (workDetail reason r s) w s (answerWork r x reason w s) :=
    fun x reason w => answerWork_late hwf hhand
  cases o with
  | delivered =>
    have hl := hlate .delivered 0 (textAnswerWord s r)
    refine ⟨hl.bytes, ?_⟩
    have hdetail : workDetail 0 r s = if handField s r = 3#8 then 0x80#8 else 0#8 := rfl
    have hanswered := hl.answered
    rw [hdetail] at hanswered
    exact hanswered
  | failed reason =>
    have hl := hlate .failed reason.code (textAnswerWord s r)
    refine ⟨hl.bytes, ?_⟩
    have hdetail : workDetail reason.code r s = BitVec.ofNat 8 reason.code ||| (if handField s r = 3#8 then 0x80#8 else 0#8) := by
      unfold workDetail byteOf
      split_ifs
      · rfl
      · exact (BitVec.or_zero).symm
    have hanswered := hl.answered
    rw [hdetail] at hanswered
    exact hanswered

theorem routeToRecord_hears {r : Fin 16} {k : Byte} (h : TextInWork r k s) : Hears false [] [.request] s (routeToRecord o r s) := by
  have hh := answerWork_hears r o.result.1 o.result.2 (textAnswerWord s r) s
  rwa [if_pos h.2.2, ← routeToRecord_eq] at hh

/-! The routes. -/

theorem routeOutcome_gone {g : Origin} (h : x.origins = [⟨g, true⟩]) : routeOutcome x o s = s := by
  rw [routeOutcome, h]
  rfl

theorem routeOutcome_one {g : Origin} (h : x.origins = [⟨g, false⟩]) : routeOutcome x o s = routeToOrigin x o g s := by
  rw [routeOutcome, h]
  rfl

theorem routeOutcome_reply {i : Fin 24} {r : Fin 16} {gone : Bool} (h : x.origins = [⟨.inbox i, false⟩, ⟨.record r, gone⟩]) :
    routeOutcome x o s = if gone = true then updateInbox i (fun y => { y with state := o.inboxState }) s
      else routeToRecord o r (updateInbox i (fun y => { y with state := o.inboxState }) s) := by
  rw [routeOutcome, h]
  rfl

theorem TxOutcome.inboxState_eq (o : TxOutcome) : o.inboxState = if o = .delivered then InboxState.replied else .read := by
  cases o <;> rfl

theorem TxOutcome.sendState_eq (o : TxOutcome) : o.sendState = if o = .delivered then SendState.sent else .unsent := by
  cases o <;> rfl

theorem bidLost_entry (e : Fin 8) (reason : FailReason) (s : State) : (bidLost e reason s).oft = (bidFailed e reason s).oft :=
  (setChannel_keeps _ _ .oft (by decide)).trans (leaveBidding_keeps _ .oft (by decide))

theorem bidLost_dsc (e : Fin 8) (reason : FailReason) (s : State) :
    (bidLost e reason s).dsc = { s.dsc with status := if s.dsc.status = .bidding then .available else s.dsc.status } := by
  have hdsc : (bidFailed e reason s).dsc = s.dsc := updateOffer_keeps e _ s .dsc (by decide)
  rw [bidLost, setChannel_keeps _ _ .dsc (by decide), leaveBidding_dsc, hdsc]

theorem FailReason.bidLoss_eq (reason : FailReason) :
    reason.bidLoss = if TxOutcome.failed reason = .failed .link ∨ TxOutcome.failed reason = .failed .reset then .link else .noAck := by
  cases reason <;> rfl

/-- An offer entry has heard the outcome of its frame (R76). -/
theorem offer_heard {e : Fin 8} {n : Nat} (h : x.origins = [⟨.offer e n, false⟩]) :
    HeardWith (fun j ds cs => Hears j ds cs s (routeOutcome x o s)) x o s (routeOutcome x o s) := by
  rw [routeOutcome_one h, show routeToOrigin x o (.offer e n) s = routeToOffer x.kind o e n s from rfl]
  have hroute := routeToOffer_hears x.kind o e n s
  generalize routeToOffer x.kind o e n s = t at hroute
  simp only [HeardWith, h]
  cases hroute with
  | gone hgone =>
    rw [if_pos hgone]
    exact ⟨rfl, rfl, .refl s⟩
  | refuse hheld hkind =>
    rw [if_neg hheld, if_pos hkind]
    exact ⟨updateOffer_onlyOffer e _ s, updateOffer_entry .., updateOffer_keeps e _ s .dsc (by decide), updateOffer_hears e _ s⟩
  | forgets hheld hkind hover =>
    rw [if_neg hheld, if_neg hkind, if_pos hover]
    exact ⟨updateOffer_onlyOffer e _ s, updateOffer_entry .., updateOffer_keeps e _ s .dsc (by decide), updateOffer_hears e _ s⟩
  | lost hheld hkind hbids reason ho =>
    subst ho
    rw [if_neg hheld, if_neg hkind, if_neg (by simp [hbids])]
    refine ⟨(updateOffer_onlyOffer e _ s).of_oft (bidLost_entry e reason s), ?_, bidLost_dsc e reason s, bidLost_hears e reason s⟩
    rw [bidLost_entry, bidFailed, updateOffer_entry, FailReason.bidLoss_eq]

/-- A reply's inbox entry and its record have heard the outcome (R103). -/
theorem reply_heard {i : Fin 24} {r : Fin 16} {gone : Bool} (h : x.origins = [⟨.inbox i, false⟩, ⟨.record r, gone⟩]) :
    HeardWith (fun j ds cs => Hears j ds cs s (routeOutcome x o s)) x o s (routeOutcome x o s) := by
  rw [routeOutcome_reply h]
  let moved := updateInbox i (fun y => { y with state := o.inboxState }) s
  have hk : Keeps [.mst, .atc] s moved := updateInbox_keeps s i _
  have honly : OnlyInbox i s moved := updateInbox_onlyInbox s i _
  have hentry : moved.mst.inbox.get i = { s.mst.inbox.get i with state := if o = .delivered then .replied else .read } := by
    rw [← TxOutcome.inboxState_eq]
    exact updateInbox_entry s i _
  have hheard : Hears true [] [] s moved := updateInbox_hears i _ s
  simp only [HeardWith, h]
  cases gone with
  | true => exact ⟨hentry, honly, fun _ => hheard, fun h => Bool.noConfusion h⟩
  | false =>
    have hlast : Keeps [.mem, .atc] moved (routeToRecord o r moved) := by
      rw [routeToRecord_eq]
      exact answerWork_keeps r _ _ _ moved
    have hmst : (routeToRecord o r moved).mst = moved.mst := hlast .mst (by decide)
    refine ⟨(congrArg (fun m : Mst => m.inbox.get i) hmst).trans hentry, honly.of_mst hmst, fun h => Bool.noConfusion h,
      fun _ hwork hi => ⟨?_, ?_⟩⟩
    · have hmem : moved.mem = s.mem := hk .mem (by decide)
      have hmoved := hwork.of_mem hmem
      have hword := textAnswerWord_reply (s := moved) hmoved.2.1 (by rw [param8, hmem]; exact hi)
      have hanswered := routeToRecord_answered (o := o) hmoved
      rw [hword, hentry] at hanswered
      exact hanswered.of_mem hmem.symm rfl
    · exact hheard.trans (routeToRecord_hears (o := o) (hwork.of_mem (hk .mem (by decide))))

/-- An internal origin has heard the outcome of a frame (R156). -/
theorem internal_heard {g : Origin} (h : g = .dispatch ∨ g = .receipts ∨ g = .refusals) :
    if o = .delivered then Hears false [] [] s (routeToOrigin x o g s)
    else Hears false [x.kind.code] [.fault, .queue] s (routeToOrigin x o g s) := by
  cases o with
  | delivered =>
    have hsame : routeToOrigin x .delivered g s = s := by rcases h with rfl | rfl | rfl <;> rfl
    rw [if_pos rfl, hsame]
    exact .refl s
  | failed reason =>
    have hfailed : routeToOrigin x (.failed reason) g s = internalFailed x.kind.code s := by rcases h with rfl | rfl | rfl <;> rfl
    rw [if_neg (by simp), hfailed]
    exact internalFailed_hears _ s

/-- The origins of a frame have heard the outcome that was routed to them. -/
theorem routeOutcome_heard (h : x.HasItsOrigins) :
    HeardWith (fun j ds cs => Hears j ds cs s (routeOutcome x o s)) x o s (routeOutcome x o s) := by
  obtain ⟨g, gone, hx, hcall, hinbox⟩ | ⟨i, r, gone, hx⟩ := h.shape
  · cases gone with
    | true =>
      rw [routeOutcome_gone hx]
      cases g <;> simp only [HeardWith, hx] <;> exact .refl s
    | false =>
      cases g with
      | emergency => exact absurd rfl hcall
      | inbox i => exact absurd rfl (hinbox i)
      | offer e n => exact offer_heard hx
      | record r =>
        rw [routeOutcome_one hx]
        simp only [HeardWith, hx]
        exact fun hwork => ⟨textAnswerWord_sent hwork.2.1 ▸ routeToRecord_answered hwork, routeToRecord_hears hwork⟩
      | trip e =>
        have hk := tripSettled_keeps e o s
        rw [routeOutcome_one hx]
        simp only [HeardWith, hx, ← TxOutcome.sendState_eq]
        exact ⟨rfl, rfl, .of_atc rfl rfl rfl (.refl s) ⟨rfl, rfl, rfl, rfl, rfl, rfl, rfl⟩⟩
      | lastShift =>
        rw [routeOutcome_one hx]
        simp only [HeardWith, hx, ← TxOutcome.sendState_eq]
        exact ⟨rfl, .of_atc rfl rfl rfl (.refl s) ⟨rfl, rfl, rfl, rfl, rfl, rfl, rfl⟩⟩
      | dispatch =>
        rw [routeOutcome_one hx]
        simp only [HeardWith, hx]
        exact internal_heard (.inl rfl)
      | receipts =>
        rw [routeOutcome_one hx]
        simp only [HeardWith, hx]
        exact internal_heard (.inr (.inl rfl))
      | refusals =>
        rw [routeOutcome_one hx]
        simp only [HeardWith, hx]
        exact internal_heard (.inr (.inr rfl))
  · exact reply_heard hx

end

end Sys2Proof.Machine
end

section
/-! SUPPORT. What origins hear within a command that does more, and a full queue that displaces a frame or fails one (R146). -/

namespace Sys2Proof.Machine

theorem ite_of_ite {c : Prop} [Decidable c] {p q p' q' : Prop} (h : if c then p else q) (hp : p → p') (hq : q → q') :
    if c then p' else q' := by
  split_ifs at h ⊢
  exacts [hp h, hq h]

section
variable {s t u v : State} {x : Frame} {o : TxOutcome}

/-! The parts in which a frame's origins hear. -/

/-- The parts in which any origin hears an outcome. -/
abbrev heardParts : List Part := [.mem, .mst, .oft, .dsc, .mtc, .cps, .atc]

theorem Frame.heardIn_eq (x : Frame) : x.heardIn = x.origins.flatMap fun l => if l.detached = true then [] else l.origin.heardIn := rfl

theorem Frame.heardIn_subset (x : Frame) : x.heardIn ⊆ heardParts := by
  intro p hp
  rw [x.heardIn_eq, List.mem_flatMap] at hp
  obtain ⟨l, -, hp⟩ := hp
  split_ifs at hp
  · cases hp
  · have hall : ∀ g : Origin, p ∈ g.heardIn → p ∈ heardParts := fun g hg => by
      cases g <;> simp only [Origin.heardIn, List.mem_cons, List.not_mem_nil, or_false] at hg ⊢ <;> tauto
    exact hall _ hp

theorem routeOutcome_keeps (x : Frame) (o : TxOutcome) (s : State) : Keeps x.heardIn s (routeOutcome x o s) := by
  rw [x.heardIn_eq, routeOutcome]
  generalize x.origins = ls
  induction ls generalizing s with
  | nil => exact .refl [] s
  | cons l ls ih =>
    rw [List.foldl_cons, List.flatMap_cons]
    refine Keeps.trans ?_ (ih _)
    split_ifs
    · exact .refl [] s
    · exact routeToOrigin_keeps o l.origin s

theorem routeOutcome_leaves (x : Frame) (o : TxOutcome) (s : State) : Keeps heardParts s (routeOutcome x o s) :=
  (routeOutcome_keeps x o s).mono x.heardIn_subset

/-! What an outcome sets, whatever the origins are. -/

/-- The failure that an origin reports (R156). -/
def originDetails (x : Frame) (o : TxOutcome) (g : Origin) : List Nat :=
  match g with
  | .dispatch | .receipts | .refusals => if o = .delivered then [] else [x.kind.code]
  | .record _ | .inbox _ | .offer _ _ | .trip _ | .lastShift | .emergency => []

/-- The bid of an offer entry is lost by the failure of its frame (R76). -/
def LosesBid (x : Frame) (o : TxOutcome) (e : Fin 8) (n : Nat) (s : State) : Prop :=
  ((s.oft.entries.get e).state ≠ .empty ∧ (s.oft.entries.get e).number = n) ∧ x.kind ≠ .refuse ∧ o ≠ .delivered ∧
    (s.oft.entries.get e).state.bidding = true

/-- The channels that an origin's hearing of an outcome sets. -/
def OriginTells (x : Frame) (o : TxOutcome) (g : Origin) (s : State) (c : Channel) : Prop :=
  match g with
  | .record r => c = .request ∧ (handField s r = 2#8 ∨ handField s r = 3#8)
  | .offer e n => c = .offerResult ∧ LosesBid x o e n s
  | .dispatch | .receipts | .refusals => (c = .fault ∨ c = .queue) ∧ o ≠ .delivered
  | .inbox _ | .trip _ | .lastShift | .emergency => False

theorem routeToOffer_tells (e : Fin 8) (n : Nat) (s : State) : ∃ j cs, Hears j [] cs s (routeToOffer x.kind o e n s) ∧
    ∀ c, c ∈ cs ↔ c = .offerResult ∧ LosesBid x o e n s := by
  have h := routeToOffer_hears x.kind o e n s
  generalize routeToOffer x.kind o e n s = t at h
  cases h with
  | gone hgone => exact ⟨false, [], .refl s, fun c => by simp only [LosesBid]; tauto⟩
  | refuse hheld hkind => exact ⟨true, [], updateOffer_hears e _ s, fun c => by simp [LosesBid, hkind]⟩
  | forgets hheld hkind hover =>
    refine ⟨true, [], updateOffer_hears e _ s, fun c => ?_⟩
    rcases hover with ho | hidle
    · simp [LosesBid, ho]
    · simp [LosesBid, hidle]
  | lost hheld hkind hbids reason ho =>
    refine ⟨true, [.offerResult], bidLost_hears e reason s, fun c => ?_⟩
    obtain ⟨hne, hnumber⟩ := not_or.mp hheld
    simp [LosesBid, hne, not_not.mp hnumber, hkind, ho, hbids]

theorem internal_hears {g : Origin} (h : g = .dispatch ∨ g = .receipts ∨ g = .refusals) :
    ∃ cs, Hears false (originDetails x o g) cs s (routeToOrigin x o g s) ∧ ∀ c, c ∈ cs ↔ (c = .fault ∨ c = .queue) ∧ o ≠ .delivered := by
  have hdetails : originDetails x o g = if o = .delivered then [] else [x.kind.code] := by rcases h with rfl | rfl | rfl <;> rfl
  have hheard := internal_heard (s := s) (x := x) (o := o) h
  by_cases ho : o = .delivered
  · rw [if_pos ho] at hheard
    exact ⟨[], by rw [hdetails, if_pos ho]; exact hheard, by simp [ho]⟩
  · rw [if_neg ho] at hheard
    exact ⟨_, by rw [hdetails, if_neg ho]; exact hheard, by simp [ho]⟩

/-- What one origin's hearing of an outcome sets (R156). -/
theorem routeToOrigin_hears (x : Frame) (o : TxOutcome) (g : Origin) (s : State) :
    ∃ j cs, Hears j (originDetails x o g) cs s (routeToOrigin x o g s) ∧ ∀ c, c ∈ cs ↔ OriginTells x o g s c := by
  cases g with
  | record r =>
    have h := answerWork_hears r o.result.1 o.result.2 (textAnswerWord s r) s
    rw [← routeToRecord_eq] at h
    refine ⟨false, _, h, fun c => ?_⟩
    · simp only [OriginTells]
      split_ifs with hwork <;> simp [hwork]
  | inbox i =>
    have h : Hears true [] [] s (updateInbox i (fun x => { x with state := o.inboxState }) s) := updateInbox_hears i _ s
    exact ⟨true, [], h, fun c => by simp [OriginTells]⟩
  | offer e n =>
    obtain ⟨j, cs, h, hcs⟩ := routeToOffer_tells (x := x) (o := o) e n s
    exact ⟨j, cs, h, hcs⟩
  | trip e =>
    have h : Hears false [] [] s (routeToOrigin x o (.trip e) s) := .of_atc rfl rfl rfl (.refl s) ⟨rfl, rfl, rfl, rfl, rfl, rfl, rfl⟩
    exact ⟨false, [], h, fun c => by simp [OriginTells]⟩
  | lastShift =>
    have h : Hears false [] [] s (routeToOrigin x o .lastShift s) := .of_atc rfl rfl rfl (.refl s) ⟨rfl, rfl, rfl, rfl, rfl, rfl, rfl⟩
    exact ⟨false, [], h, fun c => by simp [OriginTells]⟩
  | emergency => exact ⟨false, [], .refl s, fun c => by simp [OriginTells]⟩
  | dispatch =>
    obtain ⟨cs, h, hcs⟩ := internal_hears (s := s) (x := x) (o := o) (g := .dispatch) (.inl rfl)
    exact ⟨false, cs, h, hcs⟩
  | receipts =>
    obtain ⟨cs, h, hcs⟩ := internal_hears (s := s) (x := x) (o := o) (g := .receipts) (.inr (.inl rfl))
    exact ⟨false, cs, h, hcs⟩
  | refusals =>
    obtain ⟨cs, h, hcs⟩ := internal_hears (s := s) (x := x) (o := o) (g := .refusals) (.inr (.inr rfl))
    exact ⟨false, cs, h, hcs⟩

/-- The fleet settings stand whatever the origins hear. -/
theorem routeOutcome_settings (x : Frame) (o : TxOutcome) (s : State) : SameSettings s (routeOutcome x o s) := by
  rw [routeOutcome]
  generalize x.origins = ls
  induction ls generalizing s with
  | nil => exact .refl s
  | cons l ls ih =>
    rw [List.foldl_cons]
    refine SameSettings.trans ?_ (ih _)
    split_ifs
    · exact .refl s
    · obtain ⟨j, cs, h, -⟩ := routeToOrigin_hears x o l.origin s
      exact h.attends.settings

/-! Hearing within a command. -/

theorem Hears.alone {j : Bool} {ds : List Nat} {cs : List Channel} (h : Hears j ds cs s t) :
    HeardAs none j (ringAfterFailures s ds) cs s t := by
  cases j with
  | false => exact h.sets rfl
  | true => exact (h.attends.congr fun c => by simp).beside (h.now (.inl rfl))

theorem Hears.besides {j : Bool} {ds : List Nat} {cs l : List Channel} (h : Hears true ds (cs ++ l) s t) :
    HeardAs (some l) j (ringAfterFailures s ds) cs s t := by
  cases j <;> exact h.attends.beside (h.now (.inl rfl))

/-- What is heard within a command of which the attention controller sees nothing else. -/
theorem Hears.within {w : State} {j : Bool} {ds : List Nat} {cs : List Channel} (h : Hears j ds cs u w) (hsu : Hears false [] [] s u)
    (hwt : Hears false [] [] w t) : Hears j ds cs s t := by
  simpa using (hsu.trans h).trans hwt

/-- What has been heard does not depend on the parts that no origin of the frame hears in. -/
theorem HeardWith.imp {att att' : Bool → List Nat → List Channel → Prop} (h : HeardWith att x o u v) (hits : x.HasItsOrigins)
    (hatt : ∀ j ds cs, att j ds cs → att' j ds cs) (hmem : s.mem = u.mem ∧ t.mem = v.mem) (hmst : s.mst = u.mst ∧ t.mst = v.mst)
    (hmtc : s.mtc = u.mtc ∧ t.mtc = v.mtc) (hasks : AsksCommit u v → AsksCommit s t)
    (hoffer : ∀ e n, x.origins = [⟨.offer e n, false⟩] → (s.oft = u.oft ∧ t.oft = v.oft) ∧ s.dsc = u.dsc ∧ t.dsc = v.dsc) :
    HeardWith att' x o s t := by
  obtain ⟨hsmem, htmem⟩ := hmem
  obtain ⟨hsmst, htmst⟩ := hmst
  obtain ⟨hsmtc, htmtc⟩ := hmtc
  obtain ⟨g, gone, hx, hcall, hinbox⟩ | ⟨i, r, gone, hx⟩ := hits.shape
  · cases gone with
    | true =>
      simp only [HeardWith, hx] at h ⊢
      exact hatt _ _ _ h
    | false =>
      cases g with
      | emergency => exact absurd rfl hcall
      | inbox i => exact absurd rfl (hinbox i)
      | record r =>
        simp only [HeardWith, hx] at h ⊢
        exact fun hwork => (h (hwork.of_mem hsmem.symm)).imp (fun h => h.of_mem hsmem htmem) (hatt _ _ _)
      | offer e n =>
        obtain ⟨⟨hsoft, htoft⟩, hsdsc, htdsc⟩ := hoffer e n hx
        simp only [HeardWith, hx, OnlyOffer, hsoft, htoft, hsdsc, htdsc] at h ⊢
        refine ite_of_ite h (fun ⟨hsame, hquiet, hlast⟩ => ⟨hsame, hquiet, hatt _ _ _ hlast⟩) fun ⟨honly, h⟩ => ⟨honly, ?_⟩
        refine ite_of_ite h (fun ⟨hentry, hstatus, hlast⟩ => ⟨hentry, hstatus, hatt _ _ _ hlast⟩) fun h => ?_
        exact ite_of_ite h (fun ⟨hentry, hstatus, hlast⟩ => ⟨hentry, hstatus, hatt _ _ _ hlast⟩)
          fun ⟨hentry, hstatus, hlast⟩ => ⟨hentry, hstatus, hatt _ _ _ hlast⟩
      | trip e =>
        simp only [HeardWith, hx, hsmtc, htmtc] at h ⊢
        exact ⟨h.1, hasks h.2.1, hatt _ _ _ h.2.2⟩
      | lastShift =>
        simp only [HeardWith, hx, hsmtc, htmtc] at h ⊢
        exact ⟨h.1, hatt _ _ _ h.2⟩
      | dispatch =>
        simp only [HeardWith, hx] at h ⊢
        exact ite_of_ite h (hatt _ _ _) (hatt _ _ _)
      | receipts =>
        simp only [HeardWith, hx] at h ⊢
        exact ite_of_ite h (hatt _ _ _) (hatt _ _ _)
      | refusals =>
        simp only [HeardWith, hx] at h ⊢
        exact ite_of_ite h (hatt _ _ _) (hatt _ _ _)
  · simp only [HeardWith, hx] at h ⊢
    obtain ⟨hentry, honly, hgone, hword⟩ := h
    refine ⟨by rw [htmst, hsmst]; exact hentry, by rw [OnlyInbox, htmst, hsmst]; exact honly, fun hg => hatt _ _ _ (hgone hg),
      fun hg hwork hi => ?_⟩
    exact (hword hg (hwork.of_mem hsmem.symm) (by rw [param8, ← hsmem]; exact hi)).imp (fun h => h.of_mem hsmem htmem) (hatt _ _ _)

end

/-! A full queue (R146). -/

section
variable {s : State} {f v : Frame} {before after : List Frame}

theorem le_foldl_max (fs : List Frame) (n : Nat) : n ≤ fs.foldl (fun c g => max c g.cls) n ∧
    ∀ g ∈ fs, g.cls ≤ fs.foldl (fun c g => max c g.cls) n := by
  induction fs generalizing n with
  | nil => exact ⟨le_rfl, fun g hg => absurd hg List.not_mem_nil⟩
  | cons f fs ih =>
    obtain ⟨hn, hall⟩ := ih (max n f.cls)
    refine ⟨(le_max_left n f.cls).trans hn, fun g hg => ?_⟩
    rcases List.mem_cons.mp hg with rfl | hg
    · exact (le_max_right n g.cls).trans hn
    · exact hall g hg

theorem foldl_max_le {fs : List Frame} {n m : Nat} (hn : n ≤ m) (h : ∀ g ∈ fs, g.cls ≤ m) :
    fs.foldl (fun c g => max c g.cls) n ≤ m := by
  induction fs generalizing n with
  | nil => exact hn
  | cons f fs ih => exact ih (max_le hn (h f List.mem_cons_self)) fun g hg => h g (List.mem_cons_of_mem f hg)

/-- The least urgent class is that of a WAITING frame over which no WAITING frame stands (R146). -/
theorem leastUrgentWaiting_eq {fs : List Frame} (hv : v ∈ fs) (hwaits : v.inFlight = false)
    (h : ∀ g ∈ fs, g.inFlight = false → g.cls ≤ v.cls) : leastUrgentWaiting fs = v.cls := by
  refine le_antisymm (foldl_max_le (Nat.zero_le _) fun g hg => ?_) ((le_foldl_max _ 0).2 v ?_)
  · obtain ⟨hg, hgw⟩ := List.mem_filter.mp hg
    exact h g hg (by simpa using hgw)
  · exact List.mem_filter.mpr ⟨hv, by simp [hwaits]⟩

/-- The queue once frame `v` has made place for frame `f` (R146). -/
def displaced (f v : Frame) (left : List Frame) (s : State) : State :=
  modFrames (fun fs => insertFrame fs f) (routeOutcome v (.failed .displaced) (modFrames (fun _ => left) s))

/-- A frame displaces the newest WAITING frame of the least urgent class, when that is less urgent than its own (R146). -/
theorem joinQueue_displaces (hlen : s.txq.frames.length = 16) (hframes : s.txq.frames = before ++ v :: after)
    (hwaits : v.inFlight = false) (hleast : ∀ g ∈ s.txq.frames, g.inFlight = false → g.cls ≤ v.cls)
    (hafter : ∀ g ∈ after, g.inFlight = true ∨ g.cls < v.cls) (hcls : f.cls < v.cls) :
    joinQueue f s = displaced f v (before ++ after) s := by
  have hv : v ∈ s.txq.frames := by simp [hframes]
  have hurgent := leastUrgentWaiting_eq hv hwaits hleast
  have hmine : displaceable s.txq.frames f.cls v = true := by simp [displaceable, hwaits, hurgent, hcls]
  have hnot : ∀ g ∈ after, displaceable s.txq.frames f.cls g = false := fun g hg => by
    rcases hafter g hg with hg | hg
    · simp [displaceable, hg]
    · simp [displaceable, hurgent, hg.ne]
  have hnewest : newestFrame s.txq.frames (displaceable s.txq.frames f.cls) = some v := by
    conv_lhs => arg 1; rw [hframes]
    exact newestFrame_split hmine hnot
  have hwithout : withoutNewest s.txq.frames (displaceable s.txq.frames f.cls) = before ++ after := by
    conv_lhs => arg 1; rw [hframes]
    exact withoutNewest_split hmine hnot
  have hleft : modFrames (fun fs => withoutNewest fs (displaceable fs f.cls)) s = modFrames (fun _ => before ++ after) s := by
    rw [modFrames, modFrames, State.modTxq, State.modTxq, hwithout]
  rw [joinQueue, if_neg (by omega), hnewest]
  exact congrArg (fun u => modFrames _ (routeOutcome v _ u)) hleft

/-- A frame that can displace none fails (R146). -/
theorem joinQueue_fails (hlen : s.txq.frames.length = 16) (h : ∀ g ∈ s.txq.frames, g.inFlight = true ∨ g.cls ≤ f.cls) :
    joinQueue f s = routeOutcome f (.failed .queueFull) s := by
  have hnone : newestFrame s.txq.frames (displaceable s.txq.frames f.cls) = none :=
    List.find?_eq_none.mpr fun g hg => by
      rcases h g (List.mem_reverse.mp hg) with hg | hg
      · simp [displaceable, hg]
      · simp [displaceable, Nat.not_lt.mpr hg]
  rw [joinQueue, if_neg (by omega), hnone]

/-- What stands once a frame has made place for another. -/
structure Displaced (f v : Frame) (left : List Frame) (s t : State) : Prop where
  txq : t.txq = { s.txq with frames := insertFrame left f }
  keeps : Keeps (.txq :: v.heardIn) s t
  settings : SameSettings s t
  heard : HeardWith (fun j ds cs => Hears j ds cs s t) v (.failed .displaced) s t

/-- A change of the queue alone is not heard. -/
theorem modFrames_hears (g : List Frame → List Frame) (s : State) : Hears false [] [] s (modFrames g s) :=
  .of_atc rfl rfl rfl (.refl s) ⟨rfl, rfl, rfl, rfl, rfl, rfl, rfl⟩

theorem displaced_displaced (f : Frame) {v : Frame} (left : List Frame) (s : State) (h : v.HasItsOrigins) :
    Displaced f v left s (displaced f v left s) := by
  let u := modFrames (fun _ => left) s
  let w := routeOutcome v (.failed .displaced) u
  have hk : Keeps heardParts u w := routeOutcome_leaves v _ u
  have hkeeps : Keeps v.heardIn u w := routeOutcome_keeps v _ u
  have htxq : w.txq = { s.txq with frames := left } := hk .txq (by decide)
  refine ⟨?_, ?_, routeOutcome_settings v _ u, ?_⟩
  · show ({ w.txq with frames := insertFrame w.txq.frames f } : Txq) = _
    rw [htxq]
  · refine (((modTxq_keeps _ s).trans hkeeps).trans (modTxq_keeps _ w)).mono fun p hp => ?_
    simp only [List.mem_append, List.mem_cons, List.not_mem_nil, or_false] at hp ⊢
    tauto
  · refine (routeOutcome_heard (s := u) h).imp h (fun j ds cs hj => ?_) ⟨rfl, rfl⟩ ⟨rfl, rfl⟩ ⟨rfl, rfl⟩ id
      fun _ _ _ => ⟨⟨rfl, rfl⟩, rfl, rfl⟩
    have hall := ((modFrames_hears (fun _ => left) s).trans hj).trans (modFrames_hears (fun fs => insertFrame fs f) w)
    exact (by simpa using hall : Hears j ds cs s (modFrames (fun fs => insertFrame fs f) w))

end

end Sys2Proof.Machine
end

section
/-! PROOF. A full queue fails a TEXT or a BID, and a POLL_REPLY or an EMERGENCY frame displaces (O41). -/

namespace Sys2Proof.Machine

section
variable {s t u : State}

theorem SameSettings.setting16_eq (h : SameSettings s t) (o : Nat) : setting16 t o = setting16 s o := by
  simp only [setting16, Memory.readNat, Memory.readBytes, h o, Nat.add_assoc, h (o + 1)]

theorem driveLines_hears (s : State) : Hears false [] [] s (driveLines s) :=
  .of_atc rfl rfl rfl (.refl s) ⟨rfl, rfl, rfl, rfl, rfl, rfl, rfl⟩

/-- A request that its owner has answered in work, once the lines are driven (R101, R164). -/
theorem textFailed_shows {r : Fin 16} {rest : List (Fin 16)} {reason : FailReason} {w : Nat} {k : Byte} {work : State} {l : List Part}
    (hk : Keeps l (leaveList rest s) work) (hwpt : .wpt ∉ l) (hpins : .pins ∉ l)
    (hbytes : ∀ a, a ≠ recordBase r → work.mem.read a = s.mem.read a) (hwork : TextInWork r k work) (hhand : handField work r = 2#8)
    (hword : textAnswerWord work r = w) :
    let t := driveLines (routeToRecord (.failed reason) r work)
    Answered r .failed (BitVec.ofNat 8 reason.code) w t ∧ OnlyAnswerBytes r s t ∧ t.wpt.posted = rest ∧ OnlyList s t ∧ OnlyLines s t ∧
      Keeps ([.wpt] ++ l ++ [.mem, .atc, .pins]) s t ∧ Keeps [.mem, .atc, .pins] work t := by
  intro t
  have hlast : Keeps [.mem, .atc, .pins] work t := by
    refine Keeps.trans (l := [.mem, .atc]) ?_ (driveLines_keeps _)
    rw [routeToRecord_eq]
    exact answerWork_keeps r _ _ _ work
  obtain ⟨honly, hanswered⟩ := routeToRecord_answered (o := .failed reason) hwork
  have hport : t.wpt = (leaveList rest s).wpt := (hlast .wpt (by decide)).trans (hk .wpt hwpt)
  refine ⟨?_, fun a ha => (honly a ha).trans (hbytes a fun he => ha (.inl he)), by rw [hport]; rfl, onlyList_of_port hport,
    driveLines_onlyLines ?_, ((leaveList_keeps rest s).trans hk).trans hlast, hlast⟩
  · have h : Answered r .failed (BitVec.ofNat 8 reason.code ||| if handField work r = 3#8 then 0x80#8 else 0#8)
        (textAnswerWord work r) (routeToRecord (.failed reason) r work) := hanswered
    rw [hword, hhand, if_neg (by decide), BitVec.or_zero] at h
    exact h
  · have hroute : (routeToRecord (.failed reason) r work).pins = work.pins := by
      rw [routeToRecord_eq]
      exact answerWork_keeps r _ _ _ work .pins (by decide)
    exact hroute.trans (hk .pins hpins)

/-- What a record taken into work shows (R163). -/
theorem takeIntoWork_inWork {r : Fin 16} {k : Byte} (hwf : s.mem.Wf) (hkind : kindByte s r = k) :
    TextInWork r k (takeIntoWork r s) ∧ handField (takeIntoWork r s) r = 2#8 := by
  obtain ⟨hhand, hrest⟩ := takeIntoWork_hand hwf r
  exact ⟨⟨Memory.wf_write hwf _ _, (hrest _ (by simp [recordBase])).trans hkind, .inl hhand⟩, hhand⟩

theorem takeIntoWork_keeps (r : Fin 16) (s : State) : Keeps [.mem] s (takeIntoWork r s) := modMem_keeps _ s

theorem takeIntoWork_settings {r : Fin 16} (hwf : s.mem.Wf) : SameSettings s (takeIntoWork r s) := fun o =>
  (takeIntoWork_hand hwf r).2 _ (by have := r.isLt; simp only [recordBase]; omega)

theorem takeIntoWork_hears {r : Fin 16} (hwf : s.mem.Wf) : Hears false [] [] s (takeIntoWork r s) :=
  .of_atc rfl rfl rfl (takeIntoWork_settings hwf) ⟨rfl, rfl, rfl, rfl, rfl, rfl, rfl⟩

theorem kindByte_of_sendText {r : Fin 16} {rest : List (Fin 16)} (h : HeadIs .sendText r rest s) : kindByte s r = 0x30#8 := by
  have hkind := h.2
  unfold requestKindOf at hkind
  split at hkind <;> simp_all [← BitVec.toNat_inj]

theorem kindByte_of_reply {r : Fin 16} {rest : List (Fin 16)} (h : HeadIs .reply r rest s) : kindByte s r = 0x31#8 := by
  have hkind := h.2
  unfold requestKindOf at hkind
  split at hkind <;> simp_all [← BitVec.toNat_inj]

end

/-- A TEXT frame that finds 16 frames fails, and a SEND_TEXT with it (R101, R146). -/
theorem sendText_full {s : State} {r : Fin 16} {rest : List (Fin 16)} (hwf : s.mem.Wf) (hlen : s.txq.frames.length = 16)
    (h : HeadIs .sendText r rest s) (hd : paramN s r 8 2 ≠ 0) (hc : param8 s r 10 ≤ 63) (hl : param8 s r 11 ≤ 48) :
    Completes .sendText s fun t =>
      (Answered r .failed 4#8 0 t ∧ OnlyAnswerBytes r s t ∧ t.wpt.posted = rest ∧ OnlyList s t ∧ OnlyLines s t) ∧
      Raises [.request] s t ∧ Keeps [.mem, .wpt, .atc, .pins] s t := by
  let taken := takeIntoWork r (leaveList rest s)
  have hkind : kindByte s r = 0x30#8 := kindByte_of_sendText h
  obtain ⟨hwork, hhand⟩ := takeIntoWork_inWork (s := leaveList rest s) (r := r) hwf hkind
  let frame := textFrame [.record r] (paramN (leaveList rest s) r 8 2) 0 r (leaveList rest s)
  have hcls : ∀ g : Frame, g.cls ≤ frame.cls := fun g => by
    show g.kind.cls ≤ 3
    cases g.kind <;> decide
  have hroute : joinQueue frame taken = routeToRecord (.failed .queueFull) r taken :=
    (joinQueue_fails (s := taken) hlen fun g _ => .inr (hcls g)).trans (routeOutcome_one (x := frame) (g := .record r) rfl)
  have htaken : Keeps [.mem] (leaveList rest s) taken := takeIntoWork_keeps r _
  obtain ⟨hanswered, honly, hposted, hlist, hlines, hkeeps, -⟩ := textFailed_shows (reason := .queueFull) htaken (by decide) (by decide)
    (takeIntoWork_hand (s := leaveList rest s) hwf r).2 hwork hhand (textAnswerWord_sent hwork.2.1)
  have hhears := ((takeIntoWork_hears (s := leaveList rest s) (r := r) hwf).trans
    (routeToRecord_hears (o := .failed .queueFull) hwork)).trans (driveLines_hears _)
  refine completes_request rfl h nofun ((ownSendText_sends (s := leaveList rest s) hd hc hl).trans hroute)
    ⟨⟨hanswered, honly, hposted, hlist, hlines⟩, ?_, hkeeps.mono (by decide)⟩
  exact ((hhears.sets rfl).congr fun c => by simp).rebase (s' := s) rfl rfl (.refl _)

/-- So does a REPLY, and its inbox entry becomes READ (R102, R103, R146). -/
theorem reply_full {s : State} {r : Fin 16} {rest : List (Fin 16)} {i : Fin 24} (hwf : s.mem.Wf) (hlen : s.txq.frames.length = 16)
    (h : HeadIs .reply r rest s) (hi : param8 s r 8 = i.val) (hc : param8 s r 10 ≤ 63) (hl : param8 s r 11 ≤ 48)
    (hs : (s.mst.inbox.get i).state = .new ∨ (s.mst.inbox.get i).state = .read) :
    Completes .reply s fun t =>
      t.mst.inbox.get i = { s.mst.inbox.get i with state := .read } ∧ OnlyInbox i s t ∧
      (Answered r .failed 4#8 2 t ∧ OnlyAnswerBytes r s t ∧ t.wpt.posted = rest ∧ OnlyList s t ∧ OnlyLines s t) ∧
      RaisesJudged [.request] s t ∧ Keeps [.mem, .mst, .wpt, .atc, .pins] s t := by
  let e := s.mst.inbox.get i
  let replying := updateInbox i (fun x => { x with state := .replying }) (leaveList rest s)
  let taken := takeIntoWork r replying
  let read := updateInbox i (fun x => { x with state := .read }) taken
  have hreplying : Keeps [.mst, .atc] (leaveList rest s) replying := updateInbox_keeps _ i _
  have htaken : Keeps [.mem] replying taken := takeIntoWork_keeps r _
  have hread : Keeps [.mst, .atc] taken read := updateInbox_keeps _ i _
  have hmem : replying.mem = s.mem := hreplying .mem (by decide)
  have hkind : kindByte s r = 0x31#8 := kindByte_of_reply h
  have hwf' : replying.mem.Wf := hmem ▸ hwf
  obtain ⟨hwork, hhand⟩ := takeIntoWork_inWork (s := replying) (r := r) (k := 0x31#8) hwf' (by rw [kindByte, hmem]; exact hkind)
  have hbytes : ∀ a, a ≠ recordBase r → taken.mem.read a = s.mem.read a := fun a ha =>
    ((takeIntoWork_hand hwf' r).2 a ha).trans (by rw [hmem])
  have hreadMem : read.mem = taken.mem := hread .mem (by decide)
  have hparam : param8 read r 8 = i.val := by
    rw [param8, hreadMem, hbytes _ (by simp only [recordBase]; omega)]
    exact hi
  have hentry : read.mst.inbox.get i = { e with state := .read } := by
    have h1 : read.mst.inbox.get i = { taken.mst.inbox.get i with state := .read } := updateInbox_entry taken i _
    have h2 : taken.mst.inbox.get i = { e with state := .replying } :=
      (congrArg (fun m : Mst => m.inbox.get i) (htaken .mst (by decide))).trans (updateInbox_entry (leaveList rest s) i _)
    rw [h1, h2]
  have hword : textAnswerWord read r = 2 := by
    rw [textAnswerWord_reply (hwork.of_mem hreadMem).2.1 hparam, hentry]
    rfl
  let frame := textFrame [.inbox i, .record r] e.sender e.number r (leaveList rest s)
  have hcls : ∀ g : Frame, g.cls ≤ frame.cls := fun g => by
    show g.kind.cls ≤ 3
    cases g.kind <;> decide
  have htxq : taken.txq = s.txq := hreplying .txq (by decide)
  have hroute : startReply r i (leaveList rest s) = routeToRecord (.failed .queueFull) r read := by
    have hjoin : startReply r i (leaveList rest s) = joinQueue frame taken := rfl
    rw [hjoin, joinQueue_fails (by rw [htxq]; exact hlen) fun g _ => .inr (hcls g), routeOutcome_reply rfl]
    exact if_neg (by decide)
  have hkeeps : Keeps [.mst, .atc, .mem] (leaveList rest s) read := ((hreplying.trans htaken).trans hread).mono (by decide)
  obtain ⟨hanswered, honly, hposted, hlist, hlines, hall, hlast⟩ := textFailed_shows (reason := .queueFull) hkeeps (by decide) (by decide)
    (fun a ha => by rw [hreadMem]; exact hbytes a ha) (hwork.of_mem hreadMem) (by rw [handField, hreadMem]; exact hhand) hword
  have hmst : (driveLines (routeToRecord (.failed .queueFull) r read)).mst = read.mst := hlast .mst (by decide)
  have hhears := ((((updateInbox_hears i _ (leaveList rest s)).trans (takeIntoWork_hears (s := replying) (r := r) hwf')).trans
    (updateInbox_hears i _ taken)).trans (routeToRecord_hears (o := .failed .queueFull) (hwork.of_mem hreadMem))).trans (driveLines_hears _)
  refine completes_request rfl h nofun ((ownReply_entry (s := leaveList rest s) hi hc hl).trans ((if_pos ?_).trans hroute))
    ⟨(congrArg (fun m : Mst => m.inbox.get i) hmst).trans hentry, ⟨?_, fun x hx => ?_⟩,
      ⟨hanswered, honly, hposted, hlist, hlines⟩, ?_, hall.mono (by decide)⟩
  · simpa [InboxEntry.unanswered] using hs
  · have h1 : read.mst = { taken.mst with inbox := read.mst.inbox } := (updateInbox_onlyInbox taken i _).1
    have h2 : taken.mst = { s.mst with inbox := taken.mst.inbox } :=
      (htaken .mst (by decide)).trans ((updateInbox_onlyInbox (leaveList rest s) i _).1.trans (by rw [htaken .mst (by decide)]; rfl))
    rw [hmst, h1, h2]
  · rw [hmst, (updateInbox_onlyInbox taken i _).2 x hx, show taken.mst = replying.mst from htaken .mst (by decide)]
    exact (updateInbox_onlyInbox (leaveList rest s) i _).2 x hx
  · have hatt := hhears.attends.rebase (s' := s) rfl rfl (.refl _)
    exact (hatt.congr fun c => by simp).beside (hhears.now (.inl rfl))

/-! ACCEPT_OFFER. -/

section
variable {s : State} {e : Fin 8}

/-- The bid has begun, and its frame has not been asked for (R70). -/
def bidBegun (e : Fin 8) (s : State) : State :=
  rejudge ((updateOffer e (fun x => { x with state := .bidQueued, bidFrame := .queued, windowRemaining := 0 }) s).modDsc
    fun d => { d with status := .bidding, queuePosition := 0 })

theorem bidBegun_keeps (e : Fin 8) (s : State) : Keeps [.dsc, .oft, .atc] s (bidBegun e s) :=
  (((updateOffer_keeps e _ s).trans (modDsc_keeps _ _)).trans (rejudge_keeps _)).mono (by decide)

theorem bidBegun_oft (e : Fin 8) (s : State) : (bidBegun e s).oft =
    (updateOffer e (fun x => { x with state := .bidQueued, bidFrame := .queued, windowRemaining := 0 }) s).oft :=
  rejudge_keeps _ .oft (by decide)

theorem bidBegun_entry (e : Fin 8) (s : State) : (bidBegun e s).oft.entries.get e =
    { s.oft.entries.get e with state := .bidQueued, bidFrame := .queued, windowRemaining := 0 } := by
  rw [bidBegun_oft]
  exact updateOffer_entry ..

theorem bidBegun_dsc (e : Fin 8) (s : State) : (bidBegun e s).dsc = { s.dsc with status := .bidding, queuePosition := 0 } := by
  rw [bidBegun, rejudge_keeps _ .dsc (by decide), State.modDsc_dsc, updateOffer_keeps e _ s .dsc (by decide)]

theorem bidBegun_attends (e : Fin 8) (s : State) : Attends s.atc [] s (bidBegun e s) :=
  ((updateOffer_attends s e _).trans (rejudge_attends_after (s := updateOffer e _ s) (t := State.modDsc _ _) rfl rfl (.refl _))).congr
    (by simp)

theorem startBid_asks (hs : s.dsc.status = .available) : startBid e s = joinQueue (bidFrame e (bidBegun e s)) (bidBegun e s) := by
  let queued := updateOffer e (fun x => { x with state := .bidQueued, bidFrame := .queued, windowRemaining := 0 }) s
  have hstatus : queued.dsc.status = .available := by rw [show queued.dsc = s.dsc from updateOffer_keeps e _ s .dsc (by decide), hs]
  have hbid : requestStatus .bidding [.available] queued = bidBegun e s := by
    rw [requestStatus, if_pos (by simp [hstatus]), setStatus_bidding hstatus]
    rfl
  show joinQueue (bidFrame e (requestStatus .bidding [.available] queued)) _ = _
  rw [hbid]

/-- A bid whose frame finds 16 frames, none of which it can displace, fails at once (R71, R76, R146). -/
theorem startBid_full (hs : s.dsc.status = .available) (hlen : s.txq.frames.length = 16)
    (hclass : ∀ g ∈ s.txq.frames, g.inFlight = true ∨ g.kind.cls ≤ 1) :
    startBid e s = bidLost e .queueFull (bidBegun e s) := by
  let begun := bidBegun e s
  have hentry := bidBegun_entry e s
  have htxq : begun.txq = s.txq := bidBegun_keeps e s .txq (by decide)
  rw [startBid_asks hs, joinQueue_fails (by rw [show (bidBegun e s).txq = _ from htxq]; exact hlen)
    (by rw [show (bidBegun e s).txq = _ from htxq]; exact hclass)]
  refine (routeOutcome_one (x := bidFrame e begun) (g := .offer e (begun.oft.entries.get e).number) rfl).trans ?_
  refine routeToOffer_lost (kind := .bid) ?_ (by decide) ?_
  · rw [not_or, not_not]
    exact ⟨by rw [hentry]; simp, rfl⟩
  · rw [hentry]
    rfl

/-- What a bid that fails at once leaves. -/
theorem bidLost_begun (hs : s.dsc.status = .available) :
    let t := bidLost e .queueFull (bidBegun e s)
    t.oft.entries.get e = { s.oft.entries.get e with
      state := .lost, reason := .noAck, windowRemaining := 0, awardRemaining := 0, bidFrame := .none } ∧
    OnlyOffer e s t ∧ t.dsc = { s.dsc with queuePosition := 0 } ∧ Keeps [.dsc, .oft, .atc] s t ∧
    Attends s.atc [.offerResult] s t ∧ MatchesNow t := by
  intro t
  have hlost := bidLost_hears e .queueFull (bidBegun e s)
  have hfailed : OnlyOffer e (bidBegun e s) t := (updateOffer_onlyOffer e _ _).of_oft (bidLost_entry e _ _)
  obtain ⟨hrest, hothers⟩ := hfailed
  obtain ⟨hrest', hothers'⟩ := updateOffer_onlyOffer e (fun x => { x with state := .bidQueued, bidFrame := .queued, windowRemaining := 0 }) s
  refine ⟨?_, ⟨?_, fun x hx => ?_⟩, ?_, ((bidBegun_keeps e s).trans (bidLost_keeps e _ _)).mono (by decide), ?_, hlost.now (.inl rfl)⟩
  · rw [bidLost_entry, bidFailed, updateOffer_entry, bidBegun_entry]
    rfl
  · rw [hrest, bidBegun_oft, hrest']
  · rw [hothers x hx, bidBegun_oft, hothers' x hx]
  · rw [bidLost_dsc, bidBegun_dsc, if_pos rfl, ← hs]
  · exact ((bidBegun_attends e s).trans hlost.attends).congr (by simp)

end

/-- An ACCEPT_OFFER whose frame the full queue fails (R71, R76, R146). -/
theorem acceptOffer_full {s : State} {r : Fin 16} {rest : List (Fin 16)} {e : Fin 8} (hwf : s.mem.Wf)
    (hlen : s.txq.frames.length = 16) (h : HeadIs .acceptOffer r rest s) (hq : s.emc.state = .quiet) (he : param8 s r 8 = e.val)
    (ho : (s.oft.entries.get e).state = .open) (hbids : ∀ x, (s.oft.entries.get x).state.bidding = false)
    (hs : s.dsc.status = .available) (hlink : s.ale.link ≠ .lost) (hclass : ∀ g ∈ s.txq.frames, g.inFlight = true ∨ g.kind.cls ≤ 1) :
    Completes .acceptOffer s fun t =>
      t.oft.entries.get e = { s.oft.entries.get e with
        state := .lost, reason := .noAck, windowRemaining := 0, awardRemaining := 0, bidFrame := .none } ∧
      OnlyOffer e s t ∧ t.dsc = { s.dsc with queuePosition := 0 } ∧
      (Answered r .done 0#8 5 t ∧ OnlyAnswerBytes r s t ∧ t.wpt.posted = rest ∧ OnlyList s t ∧ OnlyLines s t) ∧
      RaisesJudged [.offerResult, .request] s t ∧ Keeps [.mem, .dsc, .oft, .wpt, .atc, .pins] s t := by
  have hnone : acceptRefusal e (leaveList rest s) = none := by
    simp [acceptRefusal, ho, biddingEntry_none (s := leaveList rest s) hbids, hs, hlink]
  have hfull : startBid e (leaveList rest s) = bidLost e .queueFull (bidBegun e (leaveList rest s)) :=
    startBid_full (s := leaveList rest s) hs hlen hclass
  obtain ⟨hentry, honly, hdsc, hkeeps, hattends, hnow⟩ := bidLost_begun (s := leaveList rest s) (e := e) hs
  have hown := ownAcceptOffer_bids (s := leaveList rest s) he hnone
  rw [hfull] at hown
  generalize bidLost e .queueFull (bidBegun e (leaveList rest s)) = work at *
  have hword : (work.oft.entries.get e).state.code = 5 := by
    rw [hentry]
    rfl
  obtain ⟨⟨hanswered, hbytes, hposted⟩, hlist, hraises, hkeepsAll, hlines, hlast⟩ :=
    answered_work hwf hkeeps (by decide) (by decide) (by decide) hattends hnow r .done 5
  rw [hword] at hown
  refine completes_request rfl h (fun _ => hq) hown ⟨?_, honly.of_oft (hlast .oft (by decide)), ?_,
    ⟨hanswered, hbytes, hposted, hlist, hlines⟩, hraises, hkeepsAll.mono (by decide)⟩
  · rw [hlast .oft (by decide)]
    exact hentry
  · rw [hlast .dsc (by decide)]
    exact hdsc

/-! A frame that displaces another. -/

section
variable {f v : Frame} {left : List Frame} {s t : State}

theorem Displaced.same (h : Displaced f v left s t) {p : Part} (hp : p ∉ Part.txq :: heardParts) : p.Same s t :=
  h.keeps p fun hmem => hp ((List.mem_cons.mp hmem).elim (fun h => h ▸ List.mem_cons_self)
    fun h => List.mem_cons_of_mem _ (v.heardIn_subset h))

/-- A frame of an offer is of class 1 (R143). -/
theorem Frame.HasItsOrigins.cls_of_offer (h : v.HasItsOrigins) {e : Fin 8} {n : Nat} (hx : v.origins = [⟨.offer e n, false⟩]) :
    v.kind.cls = 1 := by
  unfold Frame.HasItsOrigins at h
  split at h <;> simp_all [UplinkKind.cls]

/-- The status hears of no frame of another class. -/
theorem Frame.HasItsOrigins.dsc_unheard (h : v.HasItsOrigins) (hcls : v.kind.cls ≠ 1) : Part.dsc ∉ v.heardIn := by
  intro hmem
  obtain ⟨g, gone, hx, -, -⟩ | ⟨i, r, gone, hx⟩ := h.shape
  · cases gone with
    | true => simp [v.heardIn_eq, hx] at hmem
    | false =>
      have hoffer : ∀ e n, g ≠ .offer e n := fun e n hg => hcls (h.cls_of_offer (by rw [hx, hg]))
      cases g <;> simp_all [v.heardIn_eq, Origin.heardIn]
  · cases gone <;> simp [v.heardIn_eq, hx, Origin.heardIn] at hmem

end

section
variable {s : State} {v : Frame} {before after : List Frame} (hlen : s.txq.frames.length = 16)
  (hframes : s.txq.frames = before ++ v :: after) (hwaits : v.inFlight = false)
  (hleast : ∀ g ∈ s.txq.frames, g.inFlight = false → g.kind.cls ≤ v.kind.cls)
  (hafter : ∀ g ∈ after, g.inFlight = true ∨ g.kind.cls < v.kind.cls) (hits : v.HasItsOrigins)
include hlen hframes hwaits hleast hafter

include hits in
/-- A POLL whose reply displaces a frame (R60, R146). -/
theorem poll_displaces {f : RxFrame} {how : Addressing} (hf : Accepted 0x30 f how s)
    (hkind : kindWaiting s .pollReply = false) (hcls : 2 ≤ v.kind.cls) :
    Completes (.poll f) s fun t =>
      t.txq = { s.txq with frames := insertFrame (before ++ after) (newFrame .pollReply [.dispatch] .live) } ∧
      OutcomeHeard none v (.failed .displaced) s t ∧ t.dsc = { s.dsc with pollReference := f.body.getD 0 0#8 } ∧
      OnlyHunting s t ∧ Keeps ([.dsc, .txq, .ale, .pins] ++ v.heardIn) s t ∧ OnlyLines s t := by
  let polled := (resumeHunting s).modDsc fun d => { d with pollReference := bodyByte f.body 0 }
  let reply := newFrame .pollReply [.dispatch] .live
  have hpolled : Keeps [.ale, .dsc] s polled := (resumeHunting_keeps s).trans (modDsc_keeps _ _)
  have hw : takePoll (bodyByte f.body 0) (resumeHunting s) = displaced reply v (before ++ after) polled :=
    (if_neg (Bool.not_eq_true _ ▸ hkind)).trans
      (joinQueue_displaces (s := polled) hlen hframes hwaits hleast hafter (Nat.lt_of_lt_of_le (by decide) hcls))
  have hd := displaced_displaced reply (before ++ after) polled hits
  generalize displaced reply v (before ++ after) polled = w at *
  have hne : v.kind.cls ≠ 1 := by omega
  have hdsc : w.dsc = polled.dsc := hd.keeps .dsc fun h => hits.dsc_unheard hne ((List.mem_cons.mp h).resolve_left (by decide))
  refine completes_frame rfl hf hw ⟨hd.txq, outcomeHeard_iff.mpr ?_, hdsc, onlyHunting_of_ale (hd.same (p := .ale) (by decide)), ?_,
    driveLines_onlyLines (hd.same (p := .pins) (by decide))⟩
  · refine hd.heard.imp hits (fun j ds cs hj => (hj.within ?_ (driveLines_hears w)).alone) ⟨rfl, rfl⟩ ⟨rfl, rfl⟩ ⟨rfl, rfl⟩ id
      fun e n hx => absurd (hits.cls_of_offer hx) hne
    exact .of_atc rfl rfl rfl (.refl s) ⟨rfl, rfl, rfl, rfl, rfl, rfl, rfl⟩
  · refine ((hpolled.trans hd.keeps).trans (driveLines_keeps w)).mono fun p hp => ?_
    simp only [List.mem_append, List.mem_cons, List.not_mem_nil, or_false] at hp ⊢
    tauto

/-- An alert that displaces a frame stands at the head of the queue (R144, R146). -/
theorem askAlert_displaces (hnone : NoEmergencyFrame s) :
    askEmergency .alert s = displaced (newFrame .emergency [.emergency] .live) v (before ++ after) s ∧
      insertFrame (before ++ after) (newFrame .emergency [.emergency] .live) =
        newFrame .emergency [.emergency] .live :: (before ++ after) := by
  have hv : v ∈ s.txq.frames := by simp [hframes]
  have hfind := noEmergencyFrame_iff.mp hnone
  refine ⟨?_, ?_⟩
  · have hask : askEmergency .alert s = joinQueue (newFrame .emergency [.emergency] .live) s := by
      rw [askEmergency, hfind]
      rfl
    rw [hask]
    exact joinQueue_displaces hlen hframes hwaits hleast hafter (Nat.pos_of_ne_zero (hnone v hv))
  · have hcls : ∀ g ∈ before ++ after, ¬decide (g.cls ≤ 0) = true := fun g hg => by
      have hg' : g ∈ s.txq.frames := by
        rw [hframes]
        rcases List.mem_append.mp hg with hg | hg
        · exact List.mem_append_left _ hg
        · exact List.mem_append_right _ (List.mem_cons_of_mem _ hg)
      simpa using hnone g hg'
    have hzero : (newFrame .emergency [.emergency] .live).cls = 0 := rfl
    rw [insertFrame, hzero]
    cases hl : before ++ after with
    | nil => rfl
    | cons g gs =>
      have hg := hcls g (by rw [hl]; exact List.mem_cons_self)
      simp only [List.takeWhile_cons, List.dropWhile_cons, if_neg hg, List.nil_append]

include hits in
/-- An expiry of the update timer whose alert displaces a frame (R117, R146). -/
theorem updateTimer_displaces (hnone : NoEmergencyFrame s) {n : Nat} (hn : s.emc.updateTimer = some n) :
    Completes .updateTimerExpiry s fun t =>
      t.txq = { s.txq with frames := newFrame .emergency [.emergency] .live :: (before ++ after) } ∧
      t.emc = { s.emc with updateTimer := some (clamp 10 300 (setting16 s 0x0C)) } ∧
      OutcomeHeard none v (.failed .displaced) s t ∧ Keeps ([.emc, .txq, .pins] ++ v.heardIn) s t ∧ OnlyLines s t := by
  let alert := newFrame .emergency [.emergency] .live
  obtain ⟨hask, hinsert⟩ := askAlert_displaces hlen hframes hwaits hleast hafter hnone
  have hd := displaced_displaced alert (before ++ after) s hits
  have hw : expireUpdateTimer s = startUpdateTimer (displaced alert v (before ++ after) s) := by
    rw [← hask]
    exact if_neg (by rw [hn]; exact Option.some_ne_none n)
  generalize displaced alert v (before ++ after) s = w at *
  have hinterval : updateInterval w = clamp 10 300 (setting16 s 0x0C) := by
    rw [updateInterval, hd.settings.setting16_eq]
  refine completes_of_effect hw ⟨?_, ?_, outcomeHeard_iff.mpr ?_, ?_, driveLines_onlyLines (hd.same (p := .pins) (by decide))⟩
  · exact hd.txq.trans (by rw [hinsert])
  · show ({ w.emc with updateTimer := some (updateInterval w) } : Emc) = _
    rw [hinterval, show w.emc = s.emc from hd.same (p := .emc) (by decide)]
  · refine hd.heard.imp hits (fun j ds cs hj => (hj.within (.refl s) ?_).alone) ⟨rfl, rfl⟩ ⟨rfl, rfl⟩ ⟨rfl, rfl⟩ id
      fun _ _ _ => ⟨⟨rfl, rfl⟩, rfl, rfl⟩
    exact .of_atc rfl rfl rfl (.refl w) ⟨rfl, rfl, rfl, rfl, rfl, rfl, rfl⟩
  · refine ((hd.keeps.trans (modEmc_keeps _ w)).trans (driveLines_keeps _)).mono fun p hp => ?_
    simp only [List.mem_append, List.mem_cons, List.not_mem_nil, or_false] at hp ⊢
    tauto

omit hlen hframes hwaits hleast hafter in
/-- With no entry OPEN or bidding, a call withdraws none (R84). -/
theorem withdrawForEmergency_none {u : State}
    (h : ∀ x, (u.oft.entries.get x).state ≠ .open ∧ (u.oft.entries.get x).state.bidding = false) : withdrawForEmergency u = u := by
  have hfold : ∀ es : List (Fin 8), es.foldl (fun t e =>
      if (t.oft.entries.get e).state = .open then setChannel .offerResult (endOffer e .withdrawn .emergency t) else t) u = u := fun es => by
    induction es with
    | nil => rfl
    | cons e es ih => rw [List.foldl_cons, if_neg (h e).1, ih]
  unfold withdrawForEmergency
  dsimp only
  rw [hfold, biddingEntry_none fun x => (h x).2]

/-- A press that raises a call, whose alert displaces the TEXT frame of a request in work (R110, R146). -/
theorem alarm_displaces {r : Fin 16} (hnone : NoEmergencyFrame s) (hx : v.origins = [{ origin := .record r, detached := false }])
    (hits : v.HasItsOrigins) (hwork : TextInWork r 0x30#8 s) (hstage : 3 ≤ s.phase.stagesEnded) (hq : s.emc.state = .quiet)
    (hreleased : s.emc.alarmReleased = true)
    (hidle : ∀ x, (s.oft.entries.get x).state ≠ .open ∧ (s.oft.entries.get x).state.bidding = false) :
    Completes (.alarmPress (settingFlag s 0x12)) s fun t =>
      t.txq = { s.txq with frames := newFrame .emergency [.emergency] .live :: (before ++ after) } ∧
      t.emc = { s.emc with
        state := .alerting, count := min 65535 (s.emc.count + 1), presses := 1,
        code := min (setting16 s 4) 9999, alarmReleased := false } ∧
      TextAnswered r (.failed .displaced) 0 s t ∧ AsksCommit s t ∧ RaisesJudged [.emergency, .request] s t ∧
      Keeps [.mem, .emc, .txq, .atc, .cps, .pins] s t ∧ SamplesAlarm (settingFlag s 0x12) s t := by
  let high := settingFlag s 0x12
  let alert := newFrame .emergency [.emergency] .live
  let taken := (s.modPins fun p => { p with alarm := high }).modEmc fun e => { e with alarmReleased := false }
  let counted := taken.modEmc fun e => { e with count := satAdd u16Max e.count 1, presses := 1, code := cancelCode taken }
  have moved := setEmergency_moved .alerting counted
  let called := setEmergency .alerting counted
  have hcounted : Keeps [.pins, .emc] s counted :=
    (((modPins_keeps _ s).trans (modEmc_keeps _ _)).trans (modEmc_keeps _ _)).mono (by decide)
  have hcalled : Keeps [.pins, .emc, .atc, .cps] s called := (hcounted.trans moved.keeps).mono (by decide)
  have htxq : called.txq = s.txq := hcalled .txq (by decide)
  obtain ⟨hask, hinsert⟩ := askAlert_displaces (s := called) (v := v) (before := before) (after := after)
    (by rw [htxq]; exact hlen) (by rw [htxq]; exact hframes) hwaits (by rw [htxq]; exact hleast) hafter
    (by rw [NoEmergencyFrame, htxq]; exact hnone)
  have hd := displaced_displaced alert (before ++ after) called hits
  have hw : effect (.alarmPress high) s = displaced alert v (before ++ after) called := by
    have hpress : effect (.alarmPress high) s = pressAlarm taken := by
      rw [alarmPress_effect high hstage]
      exact (if_pos rfl).trans (if_pos hreleased)
    have hraise : pressAlarm taken = withdrawForEmergency (askEmergency .alert called) := by
      rw [pressAlarm, show taken.emc.state = .quiet from hq]
      rfl
    have hoft : (displaced alert v (before ++ after) called).oft = s.oft :=
      (hd.keeps .oft (by simp [v.heardIn_eq, hx, Origin.heardIn])).trans (hcalled .oft (by decide))
    have hidle' : ∀ x, ((askEmergency .alert called).oft.entries.get x).state ≠ .open ∧
        ((askEmergency .alert called).oft.entries.get x).state.bidding = false := by
      rw [hask, hoft]
      exact hidle
    rw [hpress, hraise, withdrawForEmergency_none hidle', hask]
  generalize displaced alert v (before ++ after) called = w at *
  have hheard := hd.heard
  simp only [HeardWith, hx] at hheard
  have hmem : called.mem = s.mem := hcalled .mem (by decide)
  obtain ⟨hanswered, hrequests⟩ := hheard (hwork.of_mem hmem)
  have hjudged : Hears true [] [.emergency] s called :=
    .of_judged (moved.attends.rebase (s' := s) rfl rfl (.refl _)) (by rw [hcalled .frc (by decide)]) moved.now
  have hall := (hjudged.trans hrequests).trans (driveLines_hears w)
  have hkeeps : Keeps [.txq, .mem, .atc] called w := hd.keeps.mono (by simp [v.heardIn_eq, hx, Origin.heardIn])
  refine completes_of_effect hw ⟨?_, ?_, hanswered.of_mem hmem.symm rfl, ?_, ?_,
    ((hcalled.trans hkeeps).trans (driveLines_keeps _)).mono (by decide), ?_⟩
  · exact hd.txq.trans (by rw [hinsert, htxq])
  · have hcode : cancelCode taken = min (setting16 s 4) 9999 := by
      simp only [cancelCode, clamp]
      exact Nat.zero_max _
    have hemc : w.emc = called.emc := hkeeps .emc (by decide)
    show w.emc = _
    rw [hemc, moved.emc]
    show ({ counted.emc with state := .alerting } : Emc) = _
    rw [← hcode]
    rfl
  · have hcps : w.cps = called.cps := hkeeps .cps (by decide)
    show w.cps = _
    rw [hcps]
    exact moved.asks
  · exact (hall.attends.congr fun c => by simp).beside (hall.now (.inl rfl))
  · have hpins : w.pins = counted.pins := (hkeeps .pins (by decide)).trans (moved.keeps .pins (by decide))
    rw [SamplesAlarm, driveLines_onlyLines (s := counted) hpins]
    rfl

end

/-- Settles O41: with 16 frames an ask of a class that displaces none is failed at once, and any other makes place by the failure
of the newest frame of the least urgent class. -/
theorem fullQueueIsJudged : Obligations.FullQueueIsJudged := by
  refine ⟨?_, ?_⟩
  · intro s r rest hwf hlen textGood answered
    refine ⟨fun h hd ⟨hc, hl⟩ => sendText_full hwf hlen h hd hc hl, fun i h hi ⟨hc, hl⟩ => ?_,
      fun e h hq he ho hbids hs hlink hclass => acceptOffer_full hwf hlen h hq he ho hbids hs hlink hclass⟩
    intro e hs
    exact reply_full hwf hlen h hi hc hl hs
  · intro s v before after hlen hframes hwaits hits hleast hafter
    refine ⟨fun f how hf hkind hcls => poll_displaces hlen hframes hwaits hleast hafter hits hf hkind hcls, fun hnone => ?_⟩
    intro displaced
    refine ⟨fun n hn => updateTimer_displaces hlen hframes hwaits hleast hafter hits hnone hn,
      fun r hx hwork hstage hq hreleased hidle => ?_⟩
    intro high
    exact alarm_displaces hlen hframes hwaits hleast hafter hnone hx hits hwork hstage hq hreleased hidle

end Sys2Proof.Machine
end

section
/-! SUPPORT. The emergency controller's frame once its last one has left the queue without success (R112, R115). -/

namespace Sys2Proof.Machine

section
variable {s t : State} {rest : List Frame}

/-- What a frame of the emergency controller is made of. -/
theorem askedFrame_congr (k : EmergencyKind) (hcount : t.emc.count = s.emc.count) (hcodes : t.emc.wrongCodes = s.emc.wrongCodes)
    (hclock : t.frc.clock = s.frc.clock) : askedFrame k t = askedFrame k s := by
  cases k
  · rfl
  · simp only [askedFrame, hcount, hcodes, hclock]

theorem askedFrame_kind (k : EmergencyKind) (s : State) : (askedFrame k s).kind = k.uplink ∧ (askedFrame k s).inFlight = false := by
  cases k <;> exact ⟨rfl, rfl⟩

theorem askedFrame_cls (k : EmergencyKind) (s : State) : (askedFrame k s).cls = 0 := by cases k <;> rfl

theorem EmergencyKind.uplink_inj {k k' : EmergencyKind} (h : k.uplink = k'.uplink) : k = k' := by
  cases k <;> cases k' <;> first | rfl | exact absurd h (by decide)

/-- A class 0 frame joins in front of frames of other classes (R144). -/
theorem insertFrame_first {f : Frame} (hf : f.cls = 0) (h : ∀ g ∈ rest, g.cls ≠ 0) : insertFrame rest f = f :: rest := by
  rw [insertFrame, hf]
  cases rest with
  | nil => rfl
  | cons g gs =>
    have hg : ¬decide (g.cls ≤ 0) = true := by simpa using h g List.mem_cons_self
    simp only [List.takeWhile_cons, List.dropWhile_cons, if_neg hg, List.nil_append]

/-- An ask over a queue with at most one WAITING frame of the emergency controller, which the controller of now would make
(R112). -/
theorem askEmergency_over (k : EmergencyKind) (k₀ : Option EmergencyKind) (hrest : ∀ g ∈ rest, g.cls ≠ 0) (hlen : rest.length < 16)
    (hframes : s.txq.frames = askedFrames s k₀ ++ rest) :
    let t := askEmergency k s
    t.emc = s.emc ∧ t.txq = { s.txq with frames := askedFrame k s :: rest } ∧ Keeps [.emc, .txq] s t := by
  have hnone : rest.find? (fun f => f.cls == 0) = none := List.find?_eq_none.mpr fun g hg => by simpa using hrest g hg
  have hjoin := insertFrame_first (askedFrame_cls k s) hrest
  cases k₀ with
  | none =>
    have hframes' : s.txq.frames = rest := hframes
    obtain ⟨hemc, htxq, hk⟩ := askEmergency_effect k (s := s) fun _ => by rwa [HasRoom, hframes']
    have hfind : s.txq.frames.find? (fun f => f.cls == 0) = none := by rw [hframes', hnone]
    refine ⟨hemc.trans (by simp only [owedAfterAsk, hfind]), htxq.trans ?_, hk⟩
    simp only [framesAfterAsk, hfind]
    rw [hframes', hjoin]
  | some k' =>
    have hframes' : s.txq.frames = askedFrame k' s :: rest := hframes
    obtain ⟨hkind, hwaits⟩ := askedFrame_kind k' s
    have hfind : s.txq.frames.find? (fun f => f.cls == 0) = some (askedFrame k' s) := by
      rw [hframes', List.find?_cons_of_pos (by simp [askedFrame_cls])]
    obtain ⟨hemc, htxq, hk⟩ := askEmergency_effect k (s := s) fun hno => by
      rw [noEmergencyFrame_iff.mp hno] at hfind
      cases hfind
    refine ⟨hemc.trans (by simp [owedAfterAsk, hfind, hwaits]), htxq.trans ?_, hk⟩
    simp only [framesAfterAsk, hfind, hwaits, hkind, Bool.false_eq_true, false_or]
    by_cases heq : k'.uplink = k.uplink
    · rw [if_pos heq, hframes', EmergencyKind.uplink_inj heq]
    · rw [if_neg heq, hframes', List.eraseP_cons_of_pos (by simp [askedFrame_cls]), hjoin]

/-- What the emergency controller asks for afresh (R115). -/
def askedAfresh (s : State) (kind : UplinkKind) : Option EmergencyKind :=
  if kind = .emergency ∧ s.emc.state = .alerting then some .alert
  else if kind = .emergencyCancel ∧ s.emc.state = .cancelling then some .cancel else none

theorem emergencyOutcome_failed (kind : UplinkKind) (reason : FailReason) (s : State) :
    emergencyOutcome kind (.failed reason) s =
      match askedAfresh s kind with
      | some k => askEmergency k s
      | none => s := by
  cases kind <;> cases hs : s.emc.state <;> simp [emergencyOutcome, askedAfresh, hs]

/-- What was owed is queued (R112). -/
theorem queueOwed_over (k₀ : Option EmergencyKind) (hrest : ∀ g ∈ rest, g.cls ≠ 0) (hlen : rest.length < 16)
    (hframes : s.txq.frames = askedFrames s k₀ ++ rest) :
    let t := queueOwed s
    t.emc = { s.emc with owed := none } ∧ t.txq = { s.txq with frames := askedFrames s (s.emc.owed.or k₀) ++ rest } ∧
      Keeps [.emc, .txq] s t := by
  intro t
  cases howed : s.emc.owed with
  | none =>
    have ht : t = s := by
      show queueOwed s = s
      rw [queueOwed, howed]
    rw [ht]
    refine ⟨by rw [← howed], ?_, (Keeps.refl [] s).mono (by decide)⟩
    rw [Option.none_or, ← hframes]
  | some k =>
    let u := s.modEmc fun e => { e with owed := none }
    have ht : t = askEmergency k u := by
      show queueOwed s = _
      rw [queueOwed, howed]
    have hsame : askedFrames u k₀ = askedFrames s k₀ := by
      cases k₀
      · rfl
      · exact congrArg (fun f => [f]) (askedFrame_congr (s := s) (t := u) _ rfl rfl rfl)
    obtain ⟨hemc, htxq, hk⟩ := askEmergency_over (s := u) k k₀ hrest hlen (by rw [hsame]; exact hframes)
    rw [ht]
    refine ⟨hemc, htxq.trans ?_, ((modEmc_keeps _ s).trans hk).mono (by decide)⟩
    rw [askedFrame_congr (s := s) (t := u) k rfl rfl rfl]
    rfl

/-- The failure of a frame of the emergency controller's that has left the queue (R112, R115). -/
theorem callFailed_over (kind : UplinkKind) (reason : FailReason) (k₀ : Option EmergencyKind) (hrest : ∀ g ∈ rest, g.cls ≠ 0)
    (hlen : rest.length < 16) (hframes : s.txq.frames = askedFrames s k₀ ++ rest) :
    let t := queueOwed (emergencyOutcome kind (.failed reason) s)
    t.emc = { s.emc with owed := none } ∧
      t.txq = { s.txq with frames := askedFrames s (s.emc.owed.or ((askedAfresh s kind).or k₀)) ++ rest } ∧ Keeps [.emc, .txq] s t := by
  intro t
  have ht : t = queueOwed (emergencyOutcome kind (.failed reason) s) := rfl
  rw [emergencyOutcome_failed] at ht
  cases hfresh : askedAfresh s kind with
  | none =>
    simp only [hfresh] at ht
    rw [ht]
    exact queueOwed_over k₀ hrest hlen hframes
  | some k =>
    simp only [hfresh] at ht
    obtain ⟨hemc, htxq, hk⟩ := askEmergency_over k k₀ hrest hlen hframes
    have hsame : ∀ k', askedFrames (askEmergency k s) k' = askedFrames s k' := fun k' => by
      cases k'
      · rfl
      · exact congrArg (fun f => [f]) (askedFrame_congr _ (by rw [hemc]) (by rw [hemc]) (by rw [hk .frc (by decide)]))
    obtain ⟨hemc', htxq', hk'⟩ := queueOwed_over (s := askEmergency k s) (some k) hrest hlen (by rw [htxq, hsame]; rfl)
    rw [ht]
    refine ⟨by rw [hemc', hemc], ?_, (hk.trans hk').mono (by decide)⟩
    rw [htxq', htxq, hsame, hemc]
    rfl

end

end Sys2Proof.Machine
end

section
/-! SUPPORT. The frames that leave together, as a sequence of steps: an origin hears the failure of its frame, or the emergency
controller does (R154, R156). -/

namespace Sys2Proof.Machine

/-- One step of the failure of a run of frames with reason RESET. -/
inductive FailStep where
  /-- An origin hears of its frame. -/
  | hears (x : Frame) (g : Origin)
  /-- The emergency controller hears of its own. -/
  | call (x : Frame)

/-- What a step does. -/
def FailStep.run (e : FailStep) (s : State) : State :=
  match e with
  | .hears x g => routeToOrigin x (.failed .reset) g s
  | .call x => queueOwed (emergencyOutcome x.kind (.failed .reset) s)

/-- The steps of a frame. -/
def failSteps (x : Frame) : List FailStep :=
  if x.hasOrigin .emergency = true then [.call x] else (x.origins.filter fun l => !l.detached).map fun l => .hears x l.origin

/-- An origin is named in a run of steps. -/
def Names (es : List FailStep) (g : Origin) : Prop := ∃ x, .hears x g ∈ es

section
variable {s t u : State} {es es' : List FailStep} {x : Frame}

theorem deliverOutcome_steps (x : Frame) (s : State) :
    deliverOutcome x (.failed .reset) s = (failSteps x).foldl (fun t e => e.run t) s := by
  unfold deliverOutcome failSteps
  split_ifs
  · rfl
  · rw [List.foldl_map, List.foldl_filter, routeOutcome]
    refine congrArg (fun g => x.origins.foldl g s) (funext fun t => funext fun l => ?_)
    cases l.detached <;> rfl

theorem failFrames_steps (s : State) : failFrames (fun _ => true) .reset s =
    (s.txq.frames.flatMap failSteps).foldl (fun t e => e.run t) (modFrames (fun _ => []) s) := by
  have hgone : s.txq.frames.filter (fun f => !(fun _ : Frame => true) f) = [] := by simp
  have hall : s.txq.frames.filter (fun _ => true) = s.txq.frames := List.filter_true _
  rw [failFrames, hall, List.foldl_flatMap]
  simp only [deliverOutcome_steps, modFrames, State.modTxq, hgone]

theorem mem_failSteps {g : Origin} {y : Frame} : .hears y g ∈ failSteps x ↔
    y = x ∧ x.hasOrigin .emergency = false ∧ x.hasOrigin g = true := by
  unfold failSteps
  split_ifs with h
  · simp [h]
  · simp only [List.mem_map, List.mem_filter, FailStep.hears.injEq, Frame.hasOrigin, List.any_eq_true] at h ⊢
    constructor
    · rintro ⟨l, ⟨hl, hfree⟩, rfl, rfl⟩
      exact ⟨rfl, by simpa using h, l, hl, by simpa using hfree⟩
    · rintro ⟨rfl, -, l, hl, hg⟩
      simp only [Bool.and_eq_true, beq_iff_eq] at hg
      exact ⟨l, ⟨hl, hg.2⟩, rfl, hg.1⟩

/-- The frames that name an origin. -/
theorem names_steps {fs : List Frame} {g : Origin} {y : Frame} : .hears y g ∈ fs.flatMap failSteps ↔
    y ∈ fs ∧ y.hasOrigin .emergency = false ∧ y.hasOrigin g = true := by
  simp only [List.mem_flatMap, mem_failSteps]
  constructor
  · rintro ⟨x, hx, rfl, h⟩
    exact ⟨hx, h⟩
  · rintro ⟨hy, h⟩
    exact ⟨y, hy, rfl, h⟩

theorem names_append {g : Origin} : Names (es ++ es') g ↔ Names es g ∨ Names es' g := by
  simp only [Names, List.mem_append, exists_or]

theorem names_nil {g : Origin} : ¬Names [] g := fun ⟨_, h⟩ => absurd h List.not_mem_nil

/-! The queue between the steps. -/

/-- At most one frame stands, and it is what the emergency controller asks for now. -/
def CallAlone (s : State) : Prop := ∃ k, s.txq.frames = askedFrames s k

theorem run_call {x : Frame} (h : CallAlone s) : ((FailStep.call x).run s).emc = { s.emc with owed := none } ∧
    ((FailStep.call x).run s).txq.stray = s.txq.stray ∧ CallAlone ((FailStep.call x).run s) ∧
    Keeps [.emc, .txq] s ((FailStep.call x).run s) := by
  obtain ⟨k, hframes⟩ := h
  obtain ⟨hemc, htxq, hk⟩ := callFailed_over (rest := []) x.kind .reset k (by simp) (by simp) (by simpa using hframes)
  rw [show (FailStep.call x).run s = queueOwed (emergencyOutcome x.kind (.failed .reset) s) from rfl]
  refine ⟨hemc, by rw [htxq], ⟨s.emc.owed.or ((askedAfresh s x.kind).or k), ?_⟩, hk⟩
  refine (congrArg Txq.frames htxq).trans ((List.append_nil _).trans ?_)
  cases s.emc.owed.or ((askedAfresh s x.kind).or k) with
  | none => rfl
  | some k' => exact congrArg (fun f => [f]) (askedFrame_congr k' (by rw [hemc]) (by rw [hemc]) (by rw [hk .frc (by decide)])).symm

theorem run_hears_keeps (x : Frame) (g : Origin) (s : State) : Keeps g.heardIn s ((FailStep.hears x g).run s) :=
  routeToOrigin_keeps (.failed .reset) g s

theorem Origin.heardIn_subset (g : Origin) : g.heardIn ⊆ heardParts := by
  intro p hp
  cases g <;> simp only [Origin.heardIn, List.mem_cons, List.not_mem_nil, or_false] at hp ⊢ <;> tauto

theorem run_hears_leaves (x : Frame) (g : Origin) (s : State) : Keeps heardParts s ((FailStep.hears x g).run s) :=
  (run_hears_keeps x g s).mono g.heardIn_subset

theorem CallAlone.congr (h : CallAlone s) (htxq : t.txq = s.txq) (hemc : t.emc = s.emc) (hfrc : t.frc = s.frc) : CallAlone t := by
  obtain ⟨k, hframes⟩ := h
  rw [CallAlone, htxq, hframes]
  exact ⟨k, List.map_congr_left fun k' _ => (askedFrame_congr k' (by rw [hemc]) (by rw [hemc]) (by rw [hfrc])).symm⟩

theorem run_callAlone (e : FailStep) (h : CallAlone s) : CallAlone (e.run s) := by
  cases e with
  | call x => exact (run_call h).2.2.1
  | hears x g =>
    have hk := run_hears_leaves x g s
    exact h.congr (hk .txq (by decide)) (hk .emc (by decide)) (hk .frc (by decide))

/-- A relation that the steps keep one by one holds of the run. -/
theorem run_induct {R : List FailStep → State → State → Prop} (hnil : ∀ s, R [] s s)
    (hstep : ∀ e s, CallAlone s → R [e] s (e.run s))
    (htrans : ∀ {es es' s t u}, R es s t → R es' t u → R (es ++ es') s u) (es : List FailStep) (h : CallAlone s) :
    R es s (es.foldl (fun t e => e.run t) s) := by
  induction es generalizing s with
  | nil => exact hnil s
  | cons e es ih => exact htrans (hstep e s h) (ih (run_callAlone e h))

/-- What the steps leave of the rest of the part. -/
structure StepsLeave (es : List FailStep) (s t : State) : Prop where
  keeps : Keeps (.emc :: .txq :: heardParts) s t
  stray : t.txq.stray = s.txq.stray
  emc : t.emc = s.emc ∨ t.emc = { s.emc with owed := none }
  quiet : (∀ x, .call x ∉ es) → t.emc = s.emc ∧ t.txq = s.txq

theorem steps_leave (es : List FailStep) (h : CallAlone s) : StepsLeave es s (es.foldl (fun t e => e.run t) s) := by
  refine run_induct (R := StepsLeave) (fun s => ⟨(Keeps.refl [] s).mono (by decide), rfl, .inl rfl, fun _ => ⟨rfl, rfl⟩⟩) ?_ ?_ es h
  · intro e s h
    cases e with
    | call x =>
      obtain ⟨hemc, hstray, -, hk⟩ := run_call (x := x) h
      exact ⟨hk.mono (by decide), hstray, .inr hemc, fun hno => absurd List.mem_cons_self (hno x)⟩
    | hears x g =>
      have hk := run_hears_leaves x g s
      exact ⟨hk.mono (by decide), congrArg Txq.stray (hk .txq (by decide)), .inl (hk .emc (by decide)),
        fun _ => ⟨hk .emc (by decide), hk .txq (by decide)⟩⟩
  · intro es es' s t u h h'
    refine ⟨(h.keeps.trans h'.keeps).mono (by decide), h'.stray.trans h.stray, ?_, fun hno => ?_⟩
    · rcases h.emc with he | he <;> rcases h'.emc with he' | he' <;> rw [he', he] <;> first | exact .inl rfl | exact .inr rfl
    · obtain ⟨he, hq⟩ := h.quiet fun x hx => hno x (List.mem_append_left _ hx)
      obtain ⟨he', hq'⟩ := h'.quiet fun x hx => hno x (List.mem_append_right _ hx)
      exact ⟨he'.trans he, hq'.trans hq⟩

end

/-! The trips, the last shift and the inbox. -/

/-- The trips and the last shift that a run of steps names are UNSENT again (R41, R42). -/
structure TripsUnsent (es : List FailStep) (s t : State) : Prop where
  mtc : t.mtc = { s.mtc with
    tripLog := t.mtc.tripLog, totals := { s.mtc.totals with reportState := t.mtc.totals.reportState } }
  entry : ∀ e, (Names es (.trip e) → t.mtc.tripLog.get e = { s.mtc.tripLog.get e with sendState := .unsent }) ∧
    (¬Names es (.trip e) → t.mtc.tripLog.get e = s.mtc.tripLog.get e)
  shift : (Names es .lastShift → t.mtc.totals.reportState = .unsent) ∧ (¬Names es .lastShift → t.mtc.totals = s.mtc.totals)
  asks : (∃ e, Names es (.trip e)) → AsksCommit s t
  quiet : (∀ e, ¬Names es (.trip e)) → t.cps = s.cps

/-- The inbox entries that a run of steps names are READ (R103). -/
structure InboxRead (es : List FailStep) (s t : State) : Prop where
  mst : t.mst = { s.mst with inbox := t.mst.inbox }
  entry : ∀ i, (Names es (.inbox i) → t.mst.inbox.get i = { s.mst.inbox.get i with state := .read }) ∧
    (¬Names es (.inbox i) → t.mst.inbox.get i = s.mst.inbox.get i)

section
variable {s t u : State} {es es' : List FailStep}

theorem TripsUnsent.of_same (hmtc : t.mtc = s.mtc) (hcps : t.cps = s.cps) (htrip : ∀ e, ¬Names es (.trip e))
    (hshift : ¬Names es .lastShift) : TripsUnsent es s t :=
  ⟨by rw [hmtc], fun e => ⟨fun h => absurd h (htrip e), fun _ => by rw [hmtc]⟩, ⟨fun h => absurd h hshift, fun _ => by rw [hmtc]⟩,
    fun ⟨e, h⟩ => absurd h (htrip e), fun _ => hcps⟩

theorem names_hears {x : Frame} {g g' : Origin} : Names [.hears x g] g' ↔ g' = g := by
  simp [Names]

theorem names_call {x : Frame} {g : Origin} : ¬Names [.call x] g := by
  simp [Names]

theorem run_trip (x : Frame) (e : Fin 24) (s : State) : TripsUnsent [.hears x (.trip e)] s ((FailStep.hears x (.trip e)).run s) := by
  refine ⟨rfl, fun y => ?_, ⟨fun h => absurd (names_hears.mp h) (by simp), fun _ => rfl⟩, fun _ => rfl,
    fun hno => absurd (names_hears.mpr rfl) (hno e)⟩
  rw [names_hears, Origin.trip.injEq]
  refine ⟨fun h => ?_, fun h => ?_⟩
  · subst h
    show (s.mtc.tripLog.set y.val _ y.isLt).get y = _
    simp [Vector.get_eq_getElem]
    rfl
  · have hne : e.val ≠ y.val := fun he => h (Fin.ext he.symm)
    show (s.mtc.tripLog.set e.val _ e.isLt).get y = _
    simp [Vector.get_eq_getElem, Vector.getElem_set_ne, hne]

theorem run_lastShift (x : Frame) (s : State) : TripsUnsent [.hears x .lastShift] s ((FailStep.hears x .lastShift).run s) := by
  have hno : ∀ e, ¬Names [.hears x .lastShift] (.trip e) := fun e h => absurd (names_hears.mp h) (by simp)
  exact ⟨rfl, fun e => ⟨fun h => absurd h (hno e), fun _ => rfl⟩, ⟨fun _ => rfl, fun h => absurd (names_hears.mpr rfl) h⟩,
    fun ⟨e, h⟩ => absurd h (hno e), fun _ => rfl⟩

theorem TripsUnsent.trans (h : TripsUnsent es s t) (h' : TripsUnsent es' t u) : TripsUnsent (es ++ es') s u := by
  refine ⟨by rw [h'.mtc, h.mtc], fun e => ?_, ?_, fun hany => ?_, fun hno => ?_⟩
  · obtain ⟨hin, hout⟩ := h.entry e
    obtain ⟨hin', hout'⟩ := h'.entry e
    rw [names_append]
    by_cases hx : Names es (.trip e) <;> by_cases hy : Names es' (.trip e) <;>
      simp only [hx, hy, or_self, or_true, true_or, not_true_eq_false, not_false_eq_true, false_implies, true_implies, and_true, true_and]
    · rw [hin' hy, hin hx]
    · rw [hout' hy, hin hx]
    · rw [hin' hy, hout hx]
    · rw [hout' hy, hout hx]
  · rw [names_append]
    refine ⟨fun hany => ?_, fun hno => ?_⟩
    · by_cases hy : Names es' .lastShift
      · exact h'.shift.1 hy
      · rw [h'.shift.2 hy]
        exact h.shift.1 (hany.resolve_right hy)
    · obtain ⟨hx, hy⟩ := not_or.mp hno
      rw [h'.shift.2 hy, h.shift.2 hx]
  · by_cases hy : ∃ e, Names es' (.trip e)
    · by_cases hx : ∃ e, Names es (.trip e)
      · have hasks := h'.asks hy
        have hfirst := h.asks hx
        rw [AsksCommit, hasks, hfirst]
        simp only [commit_idem]
      · have hasks := h'.asks hy
        rwa [AsksCommit, h.quiet (not_exists.mp hx)] at hasks
    · rw [AsksCommit, h'.quiet (not_exists.mp hy)]
      obtain ⟨e, he⟩ := hany
      exact h.asks ⟨e, (names_append.mp he).resolve_right (not_exists.mp hy e)⟩
  · rw [h'.quiet fun e he => hno e (names_append.mpr (.inr he)), h.quiet fun e he => hno e (names_append.mpr (.inl he))]

theorem steps_tripsUnsent (es : List FailStep) (h : CallAlone s) : TripsUnsent es s (es.foldl (fun t e => e.run t) s) := by
  refine run_induct (R := TripsUnsent) (fun s => .of_same rfl rfl (fun _ => names_nil) names_nil) ?_ TripsUnsent.trans es h
  intro e s h
  cases e with
  | call x =>
    obtain ⟨-, -, -, hk⟩ := run_call (x := x) h
    exact .of_same (hk .mtc (by decide)) (hk .cps (by decide)) (fun _ => names_call) names_call
  | hears x g =>
    have hk := run_hears_keeps x g s
    by_cases htrip : ∃ e, g = .trip e
    · obtain ⟨e, rfl⟩ := htrip
      exact run_trip x e s
    by_cases hshift : g = .lastShift
    · subst hshift
      exact run_lastShift x s
    have hmine : Part.mtc ∉ g.heardIn ∧ Part.cps ∉ g.heardIn := by
      cases g <;> simp_all [Origin.heardIn]
    exact .of_same (hk .mtc hmine.1) (hk .cps hmine.2) (fun e he => htrip ⟨e, (names_hears.mp he).symm⟩)
      fun he => hshift (names_hears.mp he).symm

theorem InboxRead.of_same (hmst : t.mst = s.mst) (hno : ∀ i, ¬Names es (.inbox i)) : InboxRead es s t :=
  ⟨by rw [hmst], fun i => ⟨fun h => absurd h (hno i), fun _ => by rw [hmst]⟩⟩

theorem run_inbox (x : Frame) (i : Fin 24) (s : State) : InboxRead [.hears x (.inbox i)] s ((FailStep.hears x (.inbox i)).run s) := by
  have hrun : (FailStep.hears x (.inbox i)).run s = updateInbox i (fun y => { y with state := .read }) s := rfl
  rw [hrun]
  obtain ⟨hmst, hothers⟩ := updateInbox_onlyInbox s i fun y => { y with state := .read }
  have hentry := updateInbox_entry s i fun y => { y with state := .read }
  generalize updateInbox i (fun y => { y with state := .read }) s = t at *
  refine ⟨hmst, fun y => ?_⟩
  rw [names_hears, Origin.inbox.injEq]
  exact ⟨fun hy => hy ▸ hentry, fun hy => hothers y hy⟩

theorem InboxRead.trans (h : InboxRead es s t) (h' : InboxRead es' t u) : InboxRead (es ++ es') s u := by
  refine ⟨by rw [h'.mst, h.mst], fun i => ?_⟩
  obtain ⟨hin, hout⟩ := h.entry i
  obtain ⟨hin', hout'⟩ := h'.entry i
  rw [names_append]
  by_cases hx : Names es (.inbox i) <;> by_cases hy : Names es' (.inbox i) <;>
    simp only [hx, hy, or_self, or_true, true_or, not_true_eq_false, not_false_eq_true, false_implies, true_implies, and_true, true_and]
  · rw [hin' hy, hin hx]
  · rw [hout' hy, hin hx]
  · rw [hin' hy, hout hx]
  · rw [hout' hy, hout hx]

theorem steps_inboxRead (es : List FailStep) (h : CallAlone s) : InboxRead es s (es.foldl (fun t e => e.run t) s) := by
  refine run_induct (R := InboxRead) (fun s => .of_same rfl fun _ => names_nil) ?_ InboxRead.trans es h
  intro e s h
  cases e with
  | call x =>
    obtain ⟨-, -, -, hk⟩ := run_call (x := x) h
    exact .of_same (hk .mst (by decide)) fun _ => names_call
  | hears x g =>
    by_cases hinbox : ∃ i, g = .inbox i
    · obtain ⟨i, rfl⟩ := hinbox
      exact run_inbox x i s
    · have hmine : Part.mst ∉ g.heardIn := by
        cases g <;> simp_all [Origin.heardIn]
      exact .of_same (run_hears_keeps x g s .mst hmine) fun i hi => hinbox ⟨i, (names_hears.mp hi).symm⟩

end

end Sys2Proof.Machine
end

section
/-! SUPPORT. The offer entries, the status and the attention controller over a run of failures (R76, R156). -/

namespace Sys2Proof.Machine

/-- A run of steps names the entry `e` with the number that it holds, by a REFUSE frame or by another (R76). -/
def NamesEntry (es : List FailStep) (e : Fin 8) (refuse : Bool) (x : OfferEntry) : Prop :=
  x.state ≠ .empty ∧ ∃ f : Frame, .hears f (.offer e x.number) ∈ es ∧ (f.kind == .refuse) = refuse

/-- What a run of failures leaves of an offer entry (R76). -/
structure EntryFailed (e : Fin 8) (es : List FailStep) (x y : OfferEntry) : Prop where
  frame : y = { x with
    state := y.state, reason := y.reason, awardRemaining := y.awardRemaining, bidFrame := y.bidFrame,
    refusePending := y.refusePending }
  empty : y.state = .empty ↔ x.state = .empty
  refuse : (NamesEntry es e true x → y.refusePending = false) ∧ (¬NamesEntry es e true x → y.refusePending = x.refusePending)
  bid : (NamesEntry es e false x → y.bidFrame = .none) ∧ (¬NamesEntry es e false x → y.bidFrame = x.bidFrame)
  lost : NamesEntry es e false x ∧ x.state.bidding = true → y.state = .lost ∧ y.reason = .link ∧ y.awardRemaining = 0
  kept : ¬(NamesEntry es e false x ∧ x.state.bidding = true) →
    y.state = x.state ∧ y.reason = x.reason ∧ y.awardRemaining = x.awardRemaining

section
variable {e : Fin 8} {es es' : List FailStep} {x y z : OfferEntry}

theorem namesEntry_append {b : Bool} : NamesEntry (es ++ es') e b x ↔ NamesEntry es e b x ∨ NamesEntry es' e b x := by
  simp only [NamesEntry, List.mem_append, or_and_right, exists_or, and_or_left]

theorem EntryFailed.number (h : EntryFailed e es x y) : y.number = x.number := by
  rw [h.frame]

theorem EntryFailed.names {b : Bool} (h : EntryFailed e es x y) : NamesEntry es' e b y ↔ NamesEntry es' e b x := by
  simp only [NamesEntry, h.number, ne_eq, h.empty]

theorem EntryFailed.of_unnamed (h : ∀ b, ¬NamesEntry es e b x) : EntryFailed e es x x :=
  ⟨rfl, Iff.rfl, ⟨fun hn => absurd hn (h true), fun _ => rfl⟩, ⟨fun hn => absurd hn (h false), fun _ => rfl⟩,
    fun hn => absurd hn.1 (h false), fun _ => ⟨rfl, rfl, rfl⟩⟩

/-- A bid ends by the failure of its frame alone. -/
theorem EntryFailed.ended_iff (h : EntryFailed e es x y) : (x.state.bidding = true ∧ y.state.bidding = false) ↔
    NamesEntry es e false x ∧ x.state.bidding = true := by
  constructor
  · rintro ⟨hx, hy⟩
    by_contra hno
    rw [(h.kept hno).1, hx] at hy
    exact absurd hy (by decide)
  · rintro hlost
    exact ⟨hlost.2, by rw [(h.lost hlost).1]; rfl⟩

theorem EntryFailed.settled (h : EntryFailed e es x y) (hx : x.state.bidding = false) : y.state.bidding = false := by
  rw [(h.kept fun hlost => by rw [hx] at hlost; exact absurd hlost.2 (by decide)).1, hx]

theorem EntryFailed.trans (h : EntryFailed e es x y) (h' : EntryFailed e es' y z) : EntryFailed e (es ++ es') x z := by
  refine ⟨by rw [h'.frame, h.frame], h'.empty.trans h.empty, ⟨fun hn => ?_, fun hn => ?_⟩, ⟨fun hn => ?_, fun hn => ?_⟩,
    fun ⟨hn, hbids⟩ => ?_, fun hn => ?_⟩
  · by_cases hy : NamesEntry es' e true x
    · exact h'.refuse.1 (h.names.mpr hy)
    · rw [h'.refuse.2 (h.names.not.mpr hy)]
      exact h.refuse.1 ((namesEntry_append.mp hn).resolve_right hy)
  · rw [namesEntry_append, not_or] at hn
    rw [h'.refuse.2 (h.names.not.mpr hn.2), h.refuse.2 hn.1]
  · by_cases hy : NamesEntry es' e false x
    · exact h'.bid.1 (h.names.mpr hy)
    · rw [h'.bid.2 (h.names.not.mpr hy)]
      exact h.bid.1 ((namesEntry_append.mp hn).resolve_right hy)
  · rw [namesEntry_append, not_or] at hn
    rw [h'.bid.2 (h.names.not.mpr hn.2), h.bid.2 hn.1]
  · by_cases hx : NamesEntry es e false x
    · obtain ⟨hstate, hreason, haward⟩ := h.lost ⟨hx, hbids⟩
      obtain ⟨hstate', hreason', haward'⟩ := h'.kept fun hlost => by
        rw [hstate] at hlost
        exact absurd hlost.2 (by decide)
      exact ⟨hstate'.trans hstate, hreason'.trans hreason, haward'.trans haward⟩
    · obtain ⟨hstate, -, -⟩ := h.kept fun hlost => hx hlost.1
      exact h'.lost ⟨h.names.mpr ((namesEntry_append.mp hn).resolve_left hx), by rwa [hstate]⟩
  · rw [namesEntry_append, or_and_right, not_or] at hn
    obtain ⟨hstate, hreason, haward⟩ := h.kept hn.1
    obtain ⟨hstate', hreason', haward'⟩ := h'.kept fun ⟨hlost, hbids⟩ => hn.2 ⟨h.names.mp hlost, by rwa [← hstate]⟩
    exact ⟨hstate'.trans hstate, hreason'.trans hreason, haward'.trans haward⟩

end

/-! The status and the attention controller. -/

/-- Some bid has ended between two states. -/
def BidHasEnded (s t : State) : Prop := ∃ e, (s.oft.entries.get e).state.bidding = true ∧ (t.oft.entries.get e).state.bidding = false

/-- The failures that the internal origins of a run of steps report (R156). -/
def stepDetails : FailStep → List Nat
  | .hears x g => originDetails x (.failed .reset) g
  | .call _ => []

/-- What a run of failures leaves of the offer table, the status and the attention controller. -/
structure OffersFailed (es : List FailStep) (s t : State) : Prop where
  rest : t.oft = { s.oft with entries := t.oft.entries }
  entry : ∀ e, EntryFailed e es (s.oft.entries.get e) (t.oft.entries.get e)
  status : t.dsc = { s.dsc with status := t.dsc.status }
  ended : BidHasEnded s t → s.dsc.status = .bidding → t.dsc.status = .available
  stays : ¬BidHasEnded s t ∨ s.dsc.status ≠ .bidding → t.dsc.status = s.dsc.status
  hears : ∃ j cs, Hears j (es.flatMap stepDetails) cs s t ∧ ∀ c, c ≠ .request →
    (c ∈ cs ↔ ((c = .fault ∨ c = .queue) ∧ es.flatMap stepDetails ≠ []) ∨ (c = .offerResult ∧ BidHasEnded s t))

section
variable {s t u : State} {es es' : List FailStep}

theorem bidHasEnded_trans (h : ∀ e, (s.oft.entries.get e).state.bidding = false → (t.oft.entries.get e).state.bidding = false)
    (h' : ∀ e, (t.oft.entries.get e).state.bidding = false → (u.oft.entries.get e).state.bidding = false) :
    BidHasEnded s u ↔ BidHasEnded s t ∨ BidHasEnded t u := by
  constructor
  · rintro ⟨e, hs, hu⟩
    by_cases ht : (t.oft.entries.get e).state.bidding = true
    · exact .inr ⟨e, ht, hu⟩
    · exact .inl ⟨e, hs, by simpa using ht⟩
  · rintro (⟨e, hs, ht⟩ | ⟨e, ht, hu⟩)
    · exact ⟨e, hs, h' e ht⟩
    · refine ⟨e, ?_, hu⟩
      by_contra hs
      rw [h e (by simpa using hs)] at ht
      exact absurd ht (by decide)

theorem OffersFailed.settled (h : OffersFailed es s t) (e : Fin 8) (hs : (s.oft.entries.get e).state.bidding = false) :
    (t.oft.entries.get e).state.bidding = false := (h.entry e).settled hs

theorem OffersFailed.trans (h : OffersFailed es s t) (h' : OffersFailed es' t u) : OffersFailed (es ++ es') s u := by
  have hended := bidHasEnded_trans h.settled h'.settled
  obtain ⟨j, cs, hh, hcs⟩ := h.hears
  obtain ⟨j', cs', hh', hcs'⟩ := h'.hears
  refine ⟨by rw [h'.rest, h.rest], fun e => (h.entry e).trans (h'.entry e), by rw [h'.status, h.status], fun hany hs => ?_,
    fun hno => ?_, j || j', cs ++ cs', by rw [List.flatMap_append]; exact hh.trans hh', fun c hc => ?_⟩
  · by_cases ht : BidHasEnded s t
    · have havailable := h.ended ht hs
      rw [h'.stays (.inr (by rw [havailable]; decide)), havailable]
    · have hsame := h.stays (.inl ht)
      exact h'.ended ((hended.mp hany).resolve_left ht) (by rw [hsame, hs])
  · rw [hended, not_or] at hno
    have hsame : t.dsc.status = s.dsc.status := h.stays (hno.imp (fun h => h.1) id)
    rw [h'.stays (hno.imp (fun h => h.2) (by rw [hsame]; exact id)), hsame]
  · rw [List.mem_append, hcs c hc, hcs' c hc, hended, List.flatMap_append]
    simp only [ne_eq, List.append_eq_nil_iff]
    tauto

theorem OffersFailed.of_hears {j : Bool} {cs : List Channel} (hoft : t.oft = s.oft) (hdsc : t.dsc = s.dsc)
    (hno : ∀ x e n, .hears x (.offer e n) ∉ es) (hh : Hears j (es.flatMap stepDetails) cs s t)
    (hcs : ∀ c, c ≠ .request → (c ∈ cs ↔ (c = .fault ∨ c = .queue) ∧ es.flatMap stepDetails ≠ [])) : OffersFailed es s t := by
  have hend : ¬BidHasEnded s t := by
    rintro ⟨e, hs, ht⟩
    rw [hoft, hs] at ht
    exact absurd ht (by decide)
  refine ⟨by rw [hoft], fun e => ?_, by rw [hdsc], fun h => absurd h hend, fun _ => by rw [hdsc], j, cs, hh, fun c hc => ?_⟩
  · rw [hoft]
    exact .of_unnamed fun b ⟨_, f, hf, _⟩ => hno f e _ hf
  · rw [hcs c hc]
    simp [hend]

/-- One entry has changed, and no bid has ended. -/
theorem OffersFailed.of_idle {e : Fin 8} {x : Frame} {n : Nat} {j : Bool} (honly : OnlyOffer e s t)
    (hother : ∀ y, y ≠ e → EntryFailed y [.hears x (.offer e n)] (s.oft.entries.get y) (s.oft.entries.get y))
    (hentry : EntryFailed e [.hears x (.offer e n)] (s.oft.entries.get e) (t.oft.entries.get e))
    (hstate : (t.oft.entries.get e).state = (s.oft.entries.get e).state) (hdsc : t.dsc = s.dsc) (hh : Hears j [] [] s t) :
    OffersFailed [.hears x (.offer e n)] s t := by
  obtain ⟨hrest, hothers⟩ := honly
  have hend : ¬BidHasEnded s t := by
    rintro ⟨y, hs, ht⟩
    by_cases hy : y = e
    · rw [hy] at hs ht
      rw [hstate, hs] at ht
      exact absurd ht (by decide)
    · rw [hothers y hy, hs] at ht
      exact absurd ht (by decide)
  refine ⟨hrest, fun y => ?_, by rw [hdsc], fun h => absurd h hend, fun _ => by rw [hdsc], j, [], hh,
    fun c _ => by simp [hend, stepDetails, originDetails]⟩
  by_cases hy : y = e
  · exact hy ▸ hentry
  · rw [hothers y hy]
    exact hother y hy

/-- An entry's hearing of the failure of its frame (R76). -/
theorem run_offer (x : Frame) (e : Fin 8) (n : Nat) (s : State) :
    OffersFailed [.hears x (.offer e n)] s ((FailStep.hears x (.offer e n)).run s) := by
  have hroute := routeToOffer_hears x.kind (.failed .reset) e n s
  have hrun : (FailStep.hears x (.offer e n)).run s = routeToOffer x.kind (.failed .reset) e n s := rfl
  rw [hrun]
  generalize routeToOffer x.kind (.failed .reset) e n s = t at hroute
  have hnames : ∀ y b entry, NamesEntry [.hears x (.offer e n)] y b entry ↔
      entry.state ≠ .empty ∧ y = e ∧ entry.number = n ∧ (x.kind == .refuse) = b := fun y b entry => by
    simp only [NamesEntry, List.mem_singleton, FailStep.hears.injEq, Origin.offer.injEq]
    constructor
    · rintro ⟨hne, f, ⟨rfl, rfl, rfl⟩, hb⟩
      exact ⟨hne, rfl, rfl, hb⟩
    · rintro ⟨hne, rfl, rfl, hb⟩
      exact ⟨hne, x, ⟨rfl, rfl, rfl⟩, hb⟩
  have hother : ∀ y, y ≠ e → EntryFailed y [.hears x (.offer e n)] (s.oft.entries.get y) (s.oft.entries.get y) := fun y hy =>
    .of_unnamed fun b hb => hy ((hnames y b _).mp hb).2.1
  have hupdated : ∀ g : OfferEntry → OfferEntry, EntryFailed e [.hears x (.offer e n)] (s.oft.entries.get e) (g (s.oft.entries.get e)) →
      (g (s.oft.entries.get e)).state = (s.oft.entries.get e).state → OffersFailed [.hears x (.offer e n)] s (updateOffer e g s) :=
    fun g hg hstate => by
      have honly := updateOffer_onlyOffer e g s
      have hentry := updateOffer_entry e g s
      exact .of_idle honly hother (by rw [hentry]; exact hg) (by rw [hentry]; exact hstate) (updateOffer_keeps e g s .dsc (by decide))
        (updateOffer_hears e g s)
  cases hroute with
  | gone hgone =>
    refine .of_idle ⟨rfl, fun _ _ => rfl⟩ hother (.of_unnamed fun b hb => ?_) rfl rfl (.refl s)
    obtain ⟨hne, -, hn, -⟩ := (hnames e b _).mp hb
    exact hgone.elim hne fun h => h hn
  | refuse hheld hkind =>
    obtain ⟨hne, hn⟩ := not_or.mp hheld
    have hrefuse : NamesEntry [.hears x (.offer e n)] e true (s.oft.entries.get e) :=
      (hnames ..).mpr ⟨hne, rfl, not_not.mp hn, by simp [hkind]⟩
    have hbid : ¬NamesEntry [.hears x (.offer e n)] e false (s.oft.entries.get e) := fun hb => by
      simpa [hkind] using ((hnames ..).mp hb).2.2.2
    exact hupdated _ ⟨rfl, Iff.rfl, ⟨fun _ => rfl, fun h => absurd hrefuse h⟩, ⟨fun h => absurd h hbid, fun _ => rfl⟩,
      fun h => absurd h.1 hbid, fun _ => ⟨rfl, rfl, rfl⟩⟩ rfl
  | forgets hheld hkind hover =>
    obtain ⟨hne, hn⟩ := not_or.mp hheld
    have hidle := hover.resolve_left (by simp)
    have hbid : NamesEntry [.hears x (.offer e n)] e false (s.oft.entries.get e) :=
      (hnames ..).mpr ⟨hne, rfl, not_not.mp hn, by simp [hkind]⟩
    have hrefuse : ¬NamesEntry [.hears x (.offer e n)] e true (s.oft.entries.get e) := fun hb => by
      simpa [hkind] using ((hnames ..).mp hb).2.2.2
    exact hupdated _ ⟨rfl, Iff.rfl, ⟨fun h => absurd h hrefuse, fun _ => rfl⟩, ⟨fun _ => rfl, fun h => absurd hbid h⟩,
      fun h => by rw [hidle] at h; exact absurd h.2 (by decide), fun _ => ⟨rfl, rfl, rfl⟩⟩ rfl
  | lost hheld hkind hbids reason ho =>
    obtain ⟨hne, hn⟩ := not_or.mp hheld
    have hreason : reason = .reset := (TxOutcome.failed.inj ho).symm
    subst hreason
    have hbid : NamesEntry [.hears x (.offer e n)] e false (s.oft.entries.get e) :=
      (hnames ..).mpr ⟨hne, rfl, not_not.mp hn, by simp [hkind]⟩
    have hrefuse : ¬NamesEntry [.hears x (.offer e n)] e true (s.oft.entries.get e) := fun hb => by
      simpa [hkind] using ((hnames ..).mp hb).2.2.2
    have hentry : (bidLost e .reset s).oft.entries.get e = { s.oft.entries.get e with
        bidFrame := .none, state := .lost, reason := .link, awardRemaining := 0 } := by
      rw [bidLost_entry, bidFailed, updateOffer_entry]
      rfl
    obtain ⟨hrest, hothers⟩ := (updateOffer_onlyOffer e _ s).of_oft (bidLost_entry e .reset s)
    have hend : BidHasEnded s (bidLost e .reset s) := ⟨e, hbids, by rw [hentry]; rfl⟩
    have hdsc := bidLost_dsc e .reset s
    refine ⟨hrest, fun y => ?_, by rw [hdsc], fun _ hs => by rw [hdsc, if_pos hs],
      fun hno => by rw [hdsc, if_neg (hno.resolve_left (not_not_intro hend))], true, [.offerResult], bidLost_hears e .reset s,
      fun c _ => by simp [hend, stepDetails, originDetails]⟩
    by_cases hy : y = e
    · subst hy
      rw [hentry]
      exact ⟨rfl, by simp [hne], ⟨fun h => absurd h hrefuse, fun _ => rfl⟩, ⟨fun _ => rfl, fun h => absurd hbid h⟩,
        fun _ => ⟨rfl, rfl, rfl⟩, fun h => absurd ⟨hbid, hbids⟩ h⟩
    · rw [hothers y hy]
      exact hother y hy

theorem steps_offersFailed (es : List FailStep) (h : CallAlone s) : OffersFailed es s (es.foldl (fun t e => e.run t) s) := by
  refine run_induct (R := OffersFailed) (fun s => ?_) ?_ OffersFailed.trans es h
  · exact .of_hears rfl rfl (fun _ _ _ => List.not_mem_nil) (.refl s) fun c _ => by simp
  · intro e s h
    cases e with
    | call x =>
      obtain ⟨hemc, -, -, hk⟩ := run_call (x := x) h
      refine .of_hears (j := false) (cs := []) (hk .oft (by decide)) (hk .dsc (by decide)) (by simp) (.of_atc (hk .atc (by decide))
        (hk .phase (by decide)) (by rw [hk .frc (by decide)]) (.of_mem (hk .mem (by decide)))
        (.of_keeps hk (by decide) (by decide) (by decide) (by decide) (by decide) (by rw [hemc]))) fun c _ => by simp [stepDetails]
    | hears x g =>
      by_cases hoffer : ∃ e n, g = .offer e n
      · obtain ⟨e, n, rfl⟩ := hoffer
        exact run_offer x e n s
      · obtain ⟨j, cs, hh, hcs⟩ := routeToOrigin_hears x (.failed .reset) g s
        have hk := run_hears_keeps x g s
        have hmine : Part.oft ∉ g.heardIn ∧ Part.dsc ∉ g.heardIn := by
          cases g <;> simp_all [Origin.heardIn]
        have hdetails : [FailStep.hears x g].flatMap stepDetails = originDetails x (.failed .reset) g := by simp [stepDetails]
        refine .of_hears (hk .oft hmine.1) (hk .dsc hmine.2) (fun y e n hy => ?_) (by rw [hdetails]; exact hh) fun c hc => ?_
        · simp only [List.mem_singleton, FailStep.hears.injEq] at hy
          exact hoffer ⟨e, n, hy.2.symm⟩
        · rw [hcs, hdetails]
          cases g <;> simp_all [OriginTells, originDetails]

end

end Sys2Proof.Machine
end

section
/-! SUPPORT. The records of text requests over a run of failures (R101, R103). -/

namespace Sys2Proof.Machine

/-- The request of a record is in work (R163). -/
def InWork (s : State) (x : Fin 16) : Prop := handField s x = 2#8 ∨ handField s x = 3#8

/-- Inbox entry `i` is READ before a run of steps first names record `x`. -/
def ReadBefore (i : Fin 24) (x : Fin 16) (es : List FailStep) (s : State) : Prop :=
  (s.mst.inbox.get i).state = .read ∨ ∀ pre f post, es = pre ++ .hears f (.record x) :: post → Names pre (.inbox i)

/-- The requests in work that a run of steps names are answered, and no other byte of window memory differs. -/
structure RecordsFailed (es : List FailStep) (s t : State) : Prop where
  wf : t.mem.Wf
  other : ∀ a, (∀ x, Names es (.record x) → InWork s x → ¬IsAnswerByte x a) → t.mem.read a = s.mem.read a
  answered : ∀ x, Names es (.record x) → InWork s x → ∃ word,
    Answered x .failed (if handField s x = 2#8 then 5#8 else 0x85#8) word t ∧ (kindByte s x ≠ 0x31#8 → word = 0) ∧
    ∀ i : Fin 24, kindByte s x = 0x31#8 → param8 s x 8 = i.val → ReadBefore i x es s → word = 2

section
variable {s t u : State} {es es' : List FailStep} {x y : Fin 16}

theorem isAnswerByte_inj {a : Nat} (h : IsAnswerByte x a) (hy : recordBase y ≤ a ∧ a < recordBase y + 64) : x = y := by
  have hx := x.isLt
  have hy' := y.isLt
  simp only [IsAnswerByte, recordBase] at h hy
  exact Fin.ext (by omega)

theorem IsAnswerByte.range {a : Nat} (h : IsAnswerByte x a) : recordBase x ≤ a ∧ a < recordBase x + 64 := by
  simp only [IsAnswerByte] at h
  omega

theorem Answered.of_bytes {z : Result} {d : Byte} {w : Nat} (h : Answered x z d w s)
    (hbytes : ∀ a, IsAnswerByte x a → t.mem.read a = s.mem.read a) : Answered x z d w t := by
  obtain ⟨hhand, hresult, hdetail, hword⟩ := h
  refine ⟨(hbytes _ (.inl rfl)).trans hhand, (hbytes _ (.inr ⟨by omega, by omega⟩)).trans hresult,
    (hbytes _ (.inr ⟨by omega, by omega⟩)).trans hdetail, ?_⟩
  rw [← hword]
  simp only [Memory.readBytes, hbytes _ (.inr ⟨by omega, by omega⟩ : IsAnswerByte x (recordBase x + 6)),
    hbytes _ (.inr ⟨by omega, by omega⟩ : IsAnswerByte x (recordBase x + 6 + 1))]

namespace RecordsFailed

/-- The record of a request that has not been answered is as it was. -/
theorem record (h : RecordsFailed es s t) (hno : ¬(Names es (.record x) ∧ InWork s x)) {a : Nat}
    (ha : recordBase x ≤ a ∧ a < recordBase x + 64) : t.mem.read a = s.mem.read a :=
  h.other a fun _ hn hw hbyte => hno (isAnswerByte_inj hbyte ha ▸ ⟨hn, hw⟩)

/-- A request still in work was in work, and has not been named. -/
theorem inWork (h : RecordsFailed es s t) (hx : InWork t x) : InWork s x ∧ ¬Names es (.record x) := by
  by_cases hno : Names es (.record x) ∧ InWork s x
  · obtain ⟨word, hanswered, -⟩ := h.answered x hno.1 hno.2
    rcases hx with hx | hx <;> rw [hanswered.1] at hx <;> exact absurd hx (by decide)
  · have hhand : handField t x = handField s x := h.record hno ⟨le_rfl, by omega⟩
    have hwork : InWork s x := by rwa [InWork, hhand] at hx
    exact ⟨hwork, fun hn => hno ⟨hn, hwork⟩⟩

theorem trans (hread : InboxRead es s t) (h : RecordsFailed es s t) (h' : RecordsFailed es' t u) :
    RecordsFailed (es ++ es') s u := by
  refine ⟨h'.wf, fun a ha => ?_, fun x hx hwork => ?_⟩
  · rw [h'.other a fun y hy hw => ha y (names_append.mpr (.inr hy)) (h.inWork hw).1,
      h.other a fun y hy hw => ha y (names_append.mpr (.inl hy)) hw]
  · by_cases hfirst : Names es (.record x)
    · obtain ⟨word, hanswered, hsent, hreply⟩ := h.answered x hfirst hwork
      refine ⟨word, hanswered.of_bytes fun a ha => h'.other a fun y hy hw hbyte => ?_, hsent, fun i hkind hi hbefore => hreply i hkind hi ?_⟩
      · have hyx : y = x := isAnswerByte_inj hbyte ha.range
        exact (h.inWork hw).2 (hyx ▸ hfirst)
      · exact hbefore.imp_right fun hall pre f post hes => hall pre f (post ++ es') (by rw [hes]; simp)
    · have hbytes : ∀ {a}, recordBase x ≤ a ∧ a < recordBase x + 64 → t.mem.read a = s.mem.read a :=
        fun ha => h.record (fun hno => hfirst hno.1) ha
      have hhand : handField t x = handField s x := hbytes ⟨le_rfl, by omega⟩
      have hkind : kindByte t x = kindByte s x := hbytes (a := recordBase x + 1) ⟨by omega, by omega⟩
      have hparam : param8 t x 8 = param8 s x 8 := congrArg BitVec.toNat (hbytes (a := recordBase x + 8) ⟨by omega, by omega⟩)
      obtain ⟨word, hanswered, hsent, hreply⟩ :=
        h'.answered x ((names_append.mp hx).resolve_left hfirst) (by rwa [InWork, hhand])
      rw [hhand] at hanswered
      rw [hkind] at hsent hreply
      rw [hparam] at hreply
      refine ⟨word, hanswered, hsent, fun i hk hi hbefore => hreply i hk hi ?_⟩
      obtain ⟨hin, hout⟩ := hread.entry i
      by_cases hi' : Names es (.inbox i)
      · exact .inl (by rw [hin hi'])
      · refine hbefore.imp (fun hs => by rw [hout hi']; exact hs) fun hall pre f post hes => ?_
        exact (names_append.mp (hall (es ++ pre) f post (by rw [hes]; simp))).resolve_left hi'

theorem of_same (hwf : s.mem.Wf) (hmem : t.mem = s.mem) (hno : ∀ x, ¬(Names es (.record x) ∧ InWork s x)) : RecordsFailed es s t :=
  ⟨by rwa [hmem], fun _ _ => by rw [hmem], fun x hx hw => absurd ⟨hx, hw⟩ (hno x)⟩

end RecordsFailed

theorem run_record (f : Frame) (x : Fin 16) (hwf : s.mem.Wf) :
    RecordsFailed [.hears f (.record x)] s ((FailStep.hears f (.record x)).run s) := by
  have hrun : (FailStep.hears f (.record x)).run s = routeToRecord (.failed .reset) x s := rfl
  rw [hrun]
  by_cases hwork : InWork s x
  · have hin : TextInWork x (kindByte s x) s := ⟨hwf, rfl, hwork⟩
    obtain ⟨honly, hanswered⟩ := routeToRecord_answered (o := .failed .reset) hin
    have hdetail : (BitVec.ofNat 8 FailReason.reset.code ||| if handField s x = 3#8 then 0x80#8 else 0#8) =
        if handField s x = 2#8 then 5#8 else 0x85#8 := by
      rcases hwork with h | h <;> rw [h] <;> decide
    have hanswered' : Answered x .failed (if handField s x = 2#8 then 5#8 else 0x85#8) (textAnswerWord s x)
        (routeToRecord (.failed .reset) x s) := hdetail ▸ hanswered
    refine ⟨?_, fun a ha => honly a (ha x (names_hears.mpr rfl) hwork), fun y hy _ => ?_⟩
    · rw [routeToRecord_eq, answerWork_inWork hwork, writeAnswer_mem]
      exact Memory.wf_write (Memory.wf_writeBytes hwf ..) _ _
    · have hyx : y = x := by simpa using names_hears.mp hy
      subst hyx
      refine ⟨_, hanswered', fun hkind => if_neg hkind, fun i hkind hi hbefore => ?_⟩
      rw [textAnswerWord_reply hkind hi, hbefore.resolve_right fun hall => names_nil (hall [] f [] rfl)]
      rfl
  · obtain ⟨h2, h3⟩ := not_or.mp hwork
    rw [routeToRecord_eq, answerWork_idle h2 h3]
    refine .of_same hwf rfl fun y ⟨hy, hw⟩ => hwork ?_
    have hyx : y = x := by simpa using names_hears.mp hy
    exact hyx ▸ hw

theorem steps_recordsFailed (es : List FailStep) (h : CallAlone s) (hwf : s.mem.Wf) :
    RecordsFailed es s (es.foldl (fun t e => e.run t) s) := by
  refine (run_induct (R := fun es s t => InboxRead es s t ∧ (s.mem.Wf → RecordsFailed es s t)) (fun s => ?_) (fun e s h => ?_)
    (fun h h' => ⟨h.1.trans h'.1, fun hwf => .trans h.1 (h.2 hwf) (h'.2 (h.2 hwf).wf)⟩) es h).2 hwf
  · exact ⟨.of_same rfl fun _ => names_nil, fun hwf => .of_same hwf rfl fun _ hn => names_nil hn.1⟩
  · refine ⟨steps_inboxRead [e] h, fun hwf => ?_⟩
    cases e with
    | call f =>
      obtain ⟨-, -, -, hk⟩ := run_call (x := f) h
      exact .of_same hwf (hk .mem (by decide)) fun _ hn => names_call hn.1
    | hears f g =>
      by_cases hrecord : ∃ x, g = .record x
      · obtain ⟨x, rfl⟩ := hrecord
        exact run_record f x hwf
      · have hmine : Part.mem ∉ g.heardIn := by
          cases g <;> simp_all [Origin.heardIn]
        exact .of_same hwf (run_hears_keeps f g s .mem hmine) fun x hn => hrecord ⟨x, (names_hears.mp hn.1).symm⟩

/-- Where every frame that names a record is the reply of an inbox entry, that entry is READ before the record is named. -/
theorem readBefore_of_replies {fs : List Frame} {i : Fin 24}
    (h : ∀ f ∈ fs, f.hasOrigin (.record x) = true → f.origins =
      [{ origin := .inbox i, detached := false }, { origin := .record x, detached := false }]) :
    ReadBefore i x (fs.flatMap failSteps) s := by
  refine .inr fun pre f post hes => ?_
  induction fs generalizing pre with
  | nil => simp at hes
  | cons g gs ih =>
    rw [List.flatMap_cons] at hes
    rcases List.append_eq_append_iff.mp hes with ⟨mid, hpre, hrest⟩ | ⟨mid, hsteps, hrest⟩
    · rw [hpre]
      exact names_append.mpr (.inr (ih (fun f hf => h f (List.mem_cons_of_mem g hf)) mid hrest))
    · cases mid with
      | nil =>
        rw [List.append_nil] at hsteps
        have hmine := ih (fun f hf => h f (List.mem_cons_of_mem g hf)) [] (by simpa using hrest.symm)
        exact absurd hmine names_nil
      | cons e mid =>
        have he : e = .hears f (.record x) := (List.cons.inj (by simpa using hrest.symm)).1
        subst he
        have hin : .hears f (.record x) ∈ failSteps g := by rw [hsteps]; simp
        obtain ⟨rfl, hcall, hg⟩ := mem_failSteps.mp hin
        have horigins := h f List.mem_cons_self hg
        have hall : failSteps f = [.hears f (.inbox i), .hears f (.record x)] := by
          rw [failSteps, if_neg (by rw [hcall]; decide), horigins]
          rfl
        rw [hall] at hsteps
        cases pre with
        | nil =>
          have := (List.cons.inj hsteps).1
          simp at this
        | cons e pre =>
          have := (List.cons.inj hsteps).1
          subst this
          exact ⟨f, List.mem_cons_self⟩

end

end Sys2Proof.Machine
end

section
/-! PROOF. RADIO_RESTART (O51). -/

namespace Sys2Proof.Machine

section
variable {s t u : State} {es : List FailStep}

/-! The queue after the run. -/

theorem callAlone_emptied (s : State) : CallAlone (modFrames (fun _ => []) s) := ⟨none, rfl⟩

theorem steps_callAlone (es : List FailStep) (h : CallAlone s) : CallAlone (es.foldl (fun t e => e.run t) s) := by
  induction es generalizing s with
  | nil => exact h
  | cons e es ih => exact ih (run_callAlone e h)

theorem CallAlone.waits (h : CallAlone s) : ∀ f ∈ s.txq.frames, f.cls = 0 ∧ f.inFlight = false := by
  obtain ⟨k, hframes⟩ := h
  rw [hframes]
  intro f hf
  obtain ⟨k', -, rfl⟩ := List.mem_map.mp hf
  exact ⟨askedFrame_cls k' s, (askedFrame_kind k' s).2⟩

theorem call_mem_failSteps {x y : Frame} : .call y ∈ failSteps x ↔ y = x ∧ x.hasOrigin .emergency = true := by
  unfold failSteps
  split_ifs with h <;> simp [h]

/-- Without a frame of its own the emergency controller hears nothing. -/
theorem no_call_of_filter {fs : List Frame} (h : fs.filter (fun f => f.hasOrigin .emergency) = []) (x : Frame) :
    .call x ∉ fs.flatMap failSteps := by
  intro hx
  obtain ⟨f, hf, hcall⟩ := List.mem_flatMap.mp hx
  exact List.filter_eq_nil_iff.mp h f hf (call_mem_failSteps.mp hcall).2

/-- One frame of its own, and it hears of that (R112, R115). -/
theorem steps_call {fs : List Frame} {g : Frame} (hone : fs.filter (fun f => f.hasOrigin .emergency) = [g])
    (hempty : s.txq.frames = []) :
    let t := (fs.flatMap failSteps).foldl (fun t e => e.run t) s
    t.txq.frames = askedFrames s (s.emc.owed.or (askedAfresh s g.kind)) ∧ t.emc = { s.emc with owed := none } := by
  intro t
  obtain ⟨pre, post, rfl, hpre, hg, hpost⟩ := List.filter_eq_cons_iff.mp hone
  let u := (pre.flatMap failSteps).foldl (fun t e => e.run t) s
  let v := (FailStep.call g).run u
  have hcalls : failSteps g = [.call g] := if_pos hg
  have ht : t = (post.flatMap failSteps).foldl (fun t e => e.run t) v := by
    simp only [t, List.flatMap_append, List.flatMap_cons, hcalls, List.foldl_append, List.foldl_cons, List.foldl_nil, v, u]
  have halone : CallAlone s := ⟨none, hempty⟩
  have hu := steps_leave (pre.flatMap failSteps) halone
  obtain ⟨huemc, hutxq⟩ := hu.quiet (no_call_of_filter (List.filter_eq_nil_iff.mpr hpre))
  have hualone := steps_callAlone (pre.flatMap failSteps) halone
  obtain ⟨hemc, htxq, -⟩ := callFailed_over (s := u) (rest := []) g.kind .reset none (by simp) (by simp)
    (by rw [show u.txq = s.txq from hutxq, hempty]; rfl)
  obtain ⟨htemc, httxq⟩ := (steps_leave (post.flatMap failSteps) (run_callAlone (.call g) hualone)).quiet (no_call_of_filter hpost)
  have hfrc : u.frc = s.frc := hu.keeps .frc (by decide)
  have hfresh : askedAfresh u g.kind = askedAfresh s g.kind := by rw [askedAfresh, show u.emc = s.emc from huemc]; rfl
  rw [ht]
  refine ⟨?_, htemc.trans (hemc.trans (by rw [show u.emc = s.emc from huemc]))⟩
  refine (congrArg Txq.frames (httxq.trans htxq)).trans ?_
  rw [List.append_nil, hfresh, show u.emc = s.emc from huemc, Option.or_none]
  exact List.map_congr_left fun k _ =>
    askedFrame_congr k (by rw [show u.emc = s.emc from huemc]) (by rw [show u.emc = s.emc from huemc]) (by rw [hfrc])

/-! The frames that name an origin, and the failures reported. -/

theorem names_iff_hasOrigin {o : Origin} : Names (s.txq.frames.flatMap failSteps) o ↔ HasOrigin o s := by
  simp only [Names, names_steps, HasOrigin]

theorem namesEntry_iff_hasOfferOrigin {e : Fin 8} {b : Bool} :
    NamesEntry (s.txq.frames.flatMap failSteps) e b (s.oft.entries.get e) ↔ HasOfferOrigin e b s := by
  simp only [NamesEntry, names_steps, HasOfferOrigin]
  refine and_congr_right fun _ => exists_congr fun f => ?_
  tauto

theorem stepDetails_eq_internalCodes (s : State) : (s.txq.frames.flatMap failSteps).flatMap stepDetails = internalCodes s := by
  rw [internalCodes, List.flatMap_assoc]
  refine congrArg (fun g => s.txq.frames.flatMap g) (funext fun f => ?_)
  unfold failSteps
  split_ifs with hcall
  · rfl
  · rw [List.flatMap_map]
    induction f.origins with
    | nil => rfl
    | cons l ls ih =>
      obtain ⟨o, d⟩ := l
      cases d
      · rw [List.filter_cons_of_pos (by rfl), List.flatMap_cons, ih]
        cases o <;> rfl
      · rw [List.filter_cons_of_neg (by simp), ih, List.filter_cons_of_neg (by simp)]

/-! The engine's restart. -/

/-- The engine is as it starts, and the link not yet judged (R140). -/
def engineReset (s : State) : State :=
  (endTransmission (txdAfterCut s) (dropAssignments s)).modAle fun a =>
    { a with receiver := .hunting, window := none, fadeExpiry := none, lossExpiry := none, cycleHeard := false, sequence := 0 }

theorem restartEngine_eq (s : State) : restartEngine s =
    if s.ale.link = .hunt then engineReset s else dropAssignments (linkMoved .hunt (engineReset s)) := rfl

theorem engineReset_keeps (s : State) : Keeps [.ale, .pins] s (engineReset s) :=
  ((((modAle_keeps _ s).trans (modAle_keeps _ _)).trans (modPins_keeps _ _)).trans (modAle_keeps _ _)).mono (by decide)

theorem engineReset_hears (s : State) : Hears false [] [] s (engineReset s) :=
  .of_atc rfl rfl rfl (.refl s) ⟨rfl, rfl, rfl, rfl, rfl, rfl, rfl⟩

theorem restartEngine_keeps (s : State) : Keeps [.ale, .atc, .pins] s (restartEngine s) := by
  rw [restartEngine_eq]
  split_ifs
  · exact (engineReset_keeps s).mono (by decide)
  · exact (((engineReset_keeps s).trans (linkMoved_keeps .hunt _)).trans (modAle_keeps _ _)).mono (by decide)

theorem restartEngine_ale (s : State) : (restartEngine s).ale = { s.ale with
    receiver := .hunting, window := none, link := .hunt, fadeExpiry := none, lossExpiry := none,
    cycleHeard := false, sequence := 0, assignments := [], transmission := none } := by
  rw [restartEngine_eq]
  split_ifs with hlink
  · rw [← hlink]
    rfl
  · have hale := linkMoved_ale .hunt (engineReset s)
    exact (congrArg (fun a : Ale => { a with assignments := [] }) hale).trans rfl

theorem restartEngine_pins (s : State) :
    (restartEngine s).pins = { s.pins with key := false, txd := s.ale.transmission.isNone && s.pins.txd } := by
  have hpins : (engineReset s).pins = { s.pins with key := false, txd := s.ale.transmission.isNone && s.pins.txd } := by
    show ({ s.pins with key := false, txd := s.ale.transmission == none && s.pins.txd } : Pins) = _
    cases s.ale.transmission <;> rfl
  rw [restartEngine_eq]
  split_ifs
  · exact hpins
  · exact (linkMoved_keeps .hunt (engineReset s) .pins (by decide)).trans hpins

theorem restartEngine_hears (s : State) : ∃ j cs, Hears j [] cs s (restartEngine s) ∧
    ∀ c, c ∈ cs ↔ c = .link ∧ s.ale.link ≠ .hunt := by
  rw [restartEngine_eq]
  split_ifs with hlink
  · exact ⟨false, [], engineReset_hears s, fun c => by simp [hlink]⟩
  · have hmoved : Hears true [] [.link] (engineReset s) (linkMoved .hunt (engineReset s)) :=
      .of_judged (linkMoved_attends .hunt _) (by rw [linkMoved_keeps .hunt (engineReset s) .frc (by decide)]) (linkMoved_matchesNow .hunt _)
    have hdropped : Hears false [] [] (linkMoved .hunt (engineReset s)) (dropAssignments (linkMoved .hunt (engineReset s))) :=
      .of_atc rfl rfl rfl (.refl _) ⟨rfl, rfl, rfl, rfl, rfl, rfl, rfl⟩
    exact ⟨_, _, ((engineReset_hears s).trans hmoved).trans hdropped, fun c => by simp [hlink]⟩

end

end Sys2Proof.Machine
end

section
/-! PROOF. RADIO_RESTART (O51): its parts together. -/

namespace Sys2Proof.Machine

section
variable (r : Fin 16) (rest : List (Fin 16)) (s : State)

/-- The request has left the list, and every frame has failed (R154). -/
def allFailed : State :=
  (s.txq.frames.flatMap failSteps).foldl (fun t e => e.run t) (modFrames (fun _ => []) (leaveList rest s))

/-- The engine has restarted, and the request is answered (R140). -/
def restarted : State := driveLines (answer r .done s.txq.frames.length (restartEngine (allFailed rest s)))

theorem ownRadioRestart_eq : driveLines (ownRadioRestart r (leaveList rest s)) = restarted r rest s := by
  rw [ownRadioRestart, failFrames_steps]
  rfl

theorem emptied_keeps : Keeps [.txq, .wpt] s (modFrames (fun _ => []) (leaveList rest s)) :=
  ((modWpt_keeps _ s).trans (modTxq_keeps _ _)).mono (by decide)

theorem allFailed_leaves : StepsLeave (s.txq.frames.flatMap failSteps) (modFrames (fun _ => []) (leaveList rest s)) (allFailed rest s) :=
  steps_leave _ (callAlone_emptied _)

theorem allFailed_offers :
    OffersFailed (s.txq.frames.flatMap failSteps) (modFrames (fun _ => []) (leaveList rest s)) (allFailed rest s) :=
  steps_offersFailed _ (callAlone_emptied _)

theorem restarted_last : Keeps [.mem, .ale, .atc, .pins] (allFailed rest s) (restarted r rest s) :=
  (((restartEngine_keeps _).trans (answer_keeps r .done _ _)).trans (driveLines_keeps _)).mono (by decide)

theorem allFailed_keeps : Keeps (.emc :: .txq :: .wpt :: heardParts) s (allFailed rest s) :=
  ((emptied_keeps rest s).trans (allFailed_leaves rest s).keeps).mono (by decide)

theorem restarted_ale : (restarted r rest s).ale = { s.ale with
    receiver := .hunting, window := none, link := .hunt, fadeExpiry := none, lossExpiry := none,
    cycleHeard := false, sequence := 0, assignments := [], transmission := none } := by
  have hlast : Keeps [.mem, .atc, .pins] (restartEngine (allFailed rest s)) (restarted r rest s) :=
    ((answer_keeps r .done _ _).trans (driveLines_keeps _)).mono (by decide)
  have hale : (allFailed rest s).ale = s.ale := allFailed_keeps rest s .ale (by decide)
  rw [show (restarted r rest s).ale = _ from hlast .ale (by decide), restartEngine_ale, hale]

theorem restarted_pins :
    PinsAre false (s.ale.transmission.isNone && s.pins.txd) s.pins.modemReady s (restarted r rest s) := by
  have hale : (allFailed rest s).ale = s.ale := allFailed_keeps rest s .ale (by decide)
  have hpins : (allFailed rest s).pins = s.pins := allFailed_keeps rest s .pins (by decide)
  refine driveLines_pinsAre (((answer_keeps r .done _ _) .pins (by decide)).trans ?_)
  rw [restartEngine_pins, hale, hpins]

theorem bidHasEnded_emptied {t : State} : BidHasEnded (modFrames (fun _ => []) (leaveList rest s)) t ↔ BidHasEnded s t := Iff.rfl

/-! The attention controller. -/

theorem answer_hears (x : Result) (w : Nat) (t : State) : Hears false [] [.request] t (driveLines (answer r x w t)) := by
  have hkept : Keeps [.mem, .atc] t (answer r x w t) := answer_keeps r x w t
  have hanswered : Hears false [] [.request] t (answer r x w t) :=
    .of_sets (writeAnswer_requests r x 0#8 w t) (by decide) (hkept .phase (by decide))
      (by rw [hkept .frc (by decide)]) (writeAnswer_settings r x 0#8 w t)
      (.of_keeps hkept (by decide) (by decide) (by decide) (by decide) (by decide)
        (by rw [hkept .emc (by decide)]))
  exact (hanswered.trans (driveLines_hears _)).congr fun c => by simp

theorem restarted_hears : ∃ j cs, Hears j (internalCodes s) cs s (restarted r rest s) ∧ ∀ c, c ∈ cs ↔ c = .request ∨
    (c = .link ∧ s.ale.link ≠ .hunt) ∨ ((c = .fault ∨ c = .queue) ∧ internalCodes s ≠ []) ∨
      (c = .offerResult ∧ BidHasEnded s (allFailed rest s)) := by
  obtain ⟨j, cs, hfailed, hcs⟩ := (allFailed_offers rest s).hears
  obtain ⟨j', cs', hengine, hcs'⟩ := restartEngine_hears (allFailed rest s)
  rw [stepDetails_eq_internalCodes] at hfailed hcs
  rw [show (allFailed rest s).ale = s.ale from allFailed_keeps rest s .ale (by decide)] at hcs'
  have hemptied : Hears false [] [] s (modFrames (fun _ => []) (leaveList rest s)) :=
    .of_atc rfl rfl rfl (.refl s) ⟨rfl, rfl, rfl, rfl, rfl, rfl, rfl⟩
  have hall := ((hemptied.trans hfailed).trans hengine).trans (answer_hears r .done s.txq.frames.length _)
  simp only [List.append_nil, List.nil_append] at hall
  refine ⟨_, _, hall, fun c => ?_⟩
  by_cases hc : c = .request
  · simp [hc]
  · have hcs := hcs c hc
    simp only [List.mem_append, hcs, hcs', hc, List.mem_singleton, bidHasEnded_emptied]
    tauto

/-! Window memory. -/

section
variable {r rest s}

theorem restarted_answered (hwf : s.mem.Wf) :
    Answered r .done 0#8 s.txq.frames.length (restarted r rest s) ∧ OnlyAnswerBytes r (allFailed rest s) (restarted r rest s) := by
  have hmem : (restartEngine (allFailed rest s)).mem = (allFailed rest s).mem := restartEngine_keeps _ .mem (by decide)
  have hfailed := (steps_recordsFailed (s.txq.frames.flatMap failSteps) (callAlone_emptied (leaveList rest s)) hwf).wf
  have hwf' : (restartEngine (allFailed rest s)).mem.Wf := hmem ▸ hfailed
  exact ⟨answer_answered hwf' r .done _, fun a ha => (answer_onlyAnswerBytes hwf' r .done _ a ha).trans (by rw [hmem])⟩

theorem bidEnded_iff {e : Fin 8} : ((s.oft.entries.get e).state.bidding = true ∧ ((allFailed rest s).oft.entries.get e).state.bidding = false) ↔
    HasOfferOrigin e false s ∧ (s.oft.entries.get e).state.bidding = true :=
  ((allFailed_offers rest s).entry e).ended_iff.trans (and_congr_left fun _ => namesEntry_iff_hasOfferOrigin)

theorem bidHasEnded_iff : BidHasEnded s (allFailed rest s) ↔
    ∃ e, HasOfferOrigin e false s ∧ (s.oft.entries.get e).state.bidding = true :=
  exists_congr fun _ => bidEnded_iff

end

end

/-- What a run of failures leaves of an entry, where it is known which frames name it. -/
theorem EntryFailed.shows {e : Fin 8} {es : List FailStep} {x y : OfferEntry} {refuse bid : Prop} (h : EntryFailed e es x y)
    (hrefuse : NamesEntry es e true x ↔ refuse) (hbid : NamesEntry es e false x ↔ bid) :
    y = { x with
      state := y.state, reason := y.reason, awardRemaining := y.awardRemaining, bidFrame := y.bidFrame,
      refusePending := y.refusePending } ∧
    (refuse → y.refusePending = false) ∧ (¬refuse → y.refusePending = x.refusePending) ∧
    (bid → y.bidFrame = .none) ∧ (¬bid → y.bidFrame = x.bidFrame) ∧
    (bid ∧ x.state.bidding = true → y.state = .lost ∧ y.reason = .link ∧ y.awardRemaining = 0) ∧
    (¬(bid ∧ x.state.bidding = true) → y.state = x.state ∧ y.reason = x.reason ∧ y.awardRemaining = x.awardRemaining) := by
  rw [← hrefuse, ← hbid]
  exact ⟨h.frame, h.refuse.1, h.refuse.2, h.bid.1, h.bid.2, h.lost, h.kept⟩

/-- Settles O51: the frames leave in one run of steps, of which each part of the state sees the steps that name it; what is left
to the emergency controller stands alone in the queue, and the restart of the engine and the answer follow. -/
theorem radioRestarts : Obligations.RadioRestarts := by
  unfold Obligations.RadioRestarts
  intro s r rest hwf hhead
  refine completes_request (work := ownRadioRestart r (leaveList rest s)) rfl hhead nofun rfl ?_
  rw [ownRadioRestart_eq]
  intro heard bidLost failures
  have halone := callAlone_emptied (leaveList rest s)
  have hleave := allFailed_leaves rest s
  have hkeeps := allFailed_keeps rest s
  have hlast := restarted_last r rest s
  have hoffers := allFailed_offers rest s
  have htrips : TripsUnsent (s.txq.frames.flatMap failSteps) (modFrames (fun _ => []) (leaveList rest s)) (allFailed rest s) :=
    steps_tripsUnsent _ halone
  have hinbox : InboxRead (s.txq.frames.flatMap failSteps) (modFrames (fun _ => []) (leaveList rest s)) (allFailed rest s) :=
    steps_inboxRead _ halone
  have hrecords : RecordsFailed (s.txq.frames.flatMap failSteps) (modFrames (fun _ => []) (leaveList rest s)) (allFailed rest s) :=
    steps_recordsFailed _ halone hwf
  have hqueue : (restarted r rest s).txq = (allFailed rest s).txq := hlast .txq (by decide)
  have hemc : (restarted r rest s).emc = (allFailed rest s).emc := hlast .emc (by decide)
  have hmtc : (restarted r rest s).mtc = (allFailed rest s).mtc := hlast .mtc (by decide)
  have hcps : (restarted r rest s).cps = (allFailed rest s).cps := hlast .cps (by decide)
  have hmst : (restarted r rest s).mst = (allFailed rest s).mst := hlast .mst (by decide)
  have hoft : (restarted r rest s).oft = (allFailed rest s).oft := hlast .oft (by decide)
  have hdsc : (restarted r rest s).dsc = (allFailed rest s).dsc := hlast .dsc (by decide)
  have hwpt : (restarted r rest s).wpt = { s.wpt with posted := rest } :=
    (hlast .wpt (by decide)).trans (hleave.keeps .wpt (by decide))
  have hended := (bidHasEnded_emptied rest s (t := allFailed rest s)).trans (bidHasEnded_iff (rest := rest))
  obtain ⟨hanswered, honly⟩ := restarted_answered (r := r) (rest := rest) hwf
  obtain ⟨j, cs, hhears, hcs⟩ := restarted_hears r rest s
  refine ⟨restarted_ale r rest s, ?_, ?_, hanswered, by rw [hwpt], by rw [OnlyList, hwpt], restarted_pins r rest s, fun hnone => ?_,
    ?_, fun e => ?_, fun hn => ?_, fun hn => ?_, fun hany => ?_, fun hno => ?_, ?_, fun i => ?_, ?_, fun e => ?_, fun hany hbids => ?_,
    fun hno => ?_, fun x hx => ?_, fun a hr ha => ?_, hhears.attends.atc, fun c hc => ?_, fun hno => ?_, fun g hone => ?_, ?_⟩
  · rw [hqueue]
    exact CallAlone.waits (steps_callAlone _ halone)
  · rw [hqueue]
    exact hleave.stray
  · have hfailed : allFailed rest s = modFrames (fun _ => []) (leaveList rest s) := by rw [allFailed, hnone]; rfl
    have htxq : (allFailed rest s).txq = s.txq := by
      rw [hfailed]
      exact congrArg (fun l => { s.txq with frames := l }) hnone.symm
    rw [hfailed] at honly hlast
    refine ⟨honly, fun p hp => ?_⟩
    by_cases hp' : p = .txq
    · exact hp' ▸ hqueue.trans htxq
    · exact ((emptied_keeps rest s).trans hlast) p (by simp_all)
  · rw [hmtc]
    exact htrips.mtc
  · rw [hmtc, ← names_iff_hasOrigin]
    exact htrips.entry e
  · rw [hmtc]
    exact htrips.shift.1 (names_iff_hasOrigin.mpr hn)
  · rw [hmtc]
    exact htrips.shift.2 (names_iff_hasOrigin.not.mpr hn)
  · rw [AsksCommit, hcps]
    exact htrips.asks (hany.imp fun e he => names_iff_hasOrigin.mpr he)
  · rw [hcps]
    exact htrips.quiet fun e => names_iff_hasOrigin.not.mpr (hno e)
  · rw [hmst]
    exact hinbox.mst
  · rw [hmst, ← names_iff_hasOrigin]
    exact hinbox.entry i
  · rw [hoft]
    exact hoffers.rest
  · intro entry y
    have hy : y = (allFailed rest s).oft.entries.get e := congrArg (fun o : Oft => o.entries.get e) hoft
    rw [hy]
    exact (hoffers.entry e).shows namesEntry_iff_hasOfferOrigin namesEntry_iff_hasOfferOrigin
  · have hstatus := hoffers.ended (hended.mpr hany) hbids
    exact (hdsc.trans hoffers.status).trans (congrArg (fun x => { s.dsc with status := x }) hstatus)
  · have hstatus := hoffers.stays (hno.imp_left fun h hany => not_exists.mpr h (hended.mp hany))
    exact (hdsc.trans hoffers.status).trans (congrArg (fun x => { s.dsc with status := x }) hstatus)
  · obtain ⟨hnamed, hother, hwork⟩ := hx
    obtain ⟨word, hfailed, hsent, hreply⟩ := hrecords.answered x (names_iff_hasOrigin.mpr hnamed) hwork
    refine ⟨word, hfailed.of_bytes fun a ha => honly a fun hr => hother (isAnswerByte_inj ha hr.range), hsent,
      fun i hkind hi horigins => hreply i hkind hi (readBefore_of_replies horigins)⟩
  · rw [honly a hr]
    refine hrecords.other a fun x hn hwork hbyte => ?_
    by_cases hxr : x = r
    · exact hr (hxr ▸ hbyte)
    · exact ha x ⟨names_iff_hasOrigin.mp hn, hxr, hwork⟩ hbyte
  · rw [hhears.attends.others c hc, hcs, bidHasEnded_iff]
    exact or_congr_right and_comm
  · obtain ⟨he, hq⟩ := hleave.quiet (no_call_of_filter hno)
    rw [hqueue, hemc]
    exact ⟨congrArg Txq.frames hq, he⟩
  · obtain ⟨hq, he⟩ := steps_call (s := modFrames (fun _ => []) (leaveList rest s)) hone rfl
    rw [hqueue, hemc]
    exact ⟨hq, he⟩
  · exact (hkeeps.trans hlast).mono (by decide)

end Sys2Proof.Machine
end

section
/-! SUPPORT. What a cycle does with the frame of the emergency controller that it finds IN_FLIGHT (R112, R114, R115, R121, R151,
R152). -/

namespace Sys2Proof.Machine

/-! The first element of a list that meets a test. -/

section
variable {p : Frame → Bool} {f : Frame} {l m : List Frame}

theorem find?_first (hl : ∀ g ∈ l, p g = false) (hf : p f = true) : (l ++ f :: m).find? p = some f := by
  rw [List.find?_append, List.find?_eq_none.mpr fun g hg => by simp [hl g hg], Option.none_or, List.find?_cons_of_pos hf]

theorem eraseP_first (hl : ∀ g ∈ l, p g = false) (hf : p f = true) : (l ++ f :: m).eraseP p = l ++ m := by
  rw [List.eraseP_append_right _ fun g hg => by simp [hl g hg], List.eraseP_cons_of_pos hf]

theorem modifyFirst_first (k : Frame → Frame) (hl : ∀ g ∈ l, p g = false) (hf : p f = true) :
    modifyFirst p k (l ++ f :: m) = l ++ k f :: m := by
  induction l with
  | nil => simp [modifyFirst, hf]
  | cons a l ih =>
    have ha : p a = false := hl a List.mem_cons_self
    simp [modifyFirst, ha, ih fun g hg => hl g (List.mem_cons_of_mem a hg)]

end

/-! What a cycle reads of the settings. -/

section
variable {s t : State} {c : Cycle} {g : Frame}

theorem ownAcks_congr (h : SameSettings s t) : ownAcks c t = ownAcks c s := by
  simp only [ownAcks, cabAddress, h.setting16_eq]

theorem attemptLimit_congr (h : SameSettings s t) : attemptLimit t = attemptLimit s := by
  simp only [attemptLimit, h.setting_eq]

theorem attemptFate_congr (h : SameSettings s t) : attemptFate c t g = attemptFate c s g := by
  simp only [attemptFate, ownAcks_congr h, attemptLimit_congr h]

theorem callEnds_congr (h : SameSettings s t) (hemc : t.emc.state = s.emc.state) : callEnds c t g = callEnds c s g := by
  simp only [callEnds, attemptFate_congr h, hemc]

theorem askedFrames_congr (k : Option EmergencyKind) (hemc : t.emc = s.emc) (hclock : t.frc.clock = s.frc.clock) :
    askedFrames t k = askedFrames s k :=
  List.map_congr_left fun k' _ => askedFrame_congr k' (by rw [hemc]) (by rw [hemc]) hclock

theorem leftOfCall_congr {r : Word16} (h : SameSettings s t) (hemc : t.emc = s.emc) (hclock : t.frc.clock = s.frc.clock) :
    leftOfCall c t r g = leftOfCall c s r g := by
  simp only [leftOfCall, attemptFate_congr h, callEnds_congr h (congrArg Emc.state hemc), askedFrames_congr _ hemc hclock,
    askedAfterFailure, hemc]

theorem emcAfterCycle_congr (h : SameSettings s t) (hemc : t.emc = s.emc) : emcAfterCycle c t g = emcAfterCycle c s g := by
  simp only [emcAfterCycle, attemptFate_congr h, callEnds_congr h (congrArg Emc.state hemc), hemc, h.setting16_eq]

end

/-! The frame is settled. -/

/-- What the settling of the emergency controller's frame leaves, by its fate at the cycle. -/
structure CallSettled (c : Cycle) (g : Frame) (rest : List Frame) (t u : State) : Prop where
  txq : u.txq = { t.txq with frames := leftOfCall c t t.ale.rng g ++ rest }
  emc : u.emc = emcAfterCycle c t g
  asks : callEnds c t g = true → AsksCommit t u
  keeps : Keeps ([.txq, .emc] ++ if callEnds c t g = true then [.atc, .cps] else []) t u
  hears : Hears (callEnds c t g) [] (if callEnds c t g = true then [.emergency] else []) t u

section
variable {c : Cycle} {g : Frame} {rest : List Frame} {t u : State}

/-- The settling of a frame that does not end the call. -/
theorem CallSettled.of_standing (hends : callEnds c t g = false) (htxq : u.txq = { t.txq with frames := leftOfCall c t t.ale.rng g ++ rest })
    (hemc : u.emc = emcAfterCycle c t g) (hstate : u.emc.state = t.emc.state) (hk : Keeps [.txq, .emc] t u) :
    CallSettled c g rest t u := by
  refine ⟨htxq, hemc, fun h => absurd h (by rw [hends]; decide), hk.mono (List.subset_append_left _ _), ?_⟩
  rw [hends]
  exact .of_atc (hk .atc (by decide)) (hk .phase (by decide)) (by rw [hk .frc (by decide)]) (.of_mem (hk .mem (by decide)))
    (.of_keeps hk (by decide) (by decide) (by decide) (by decide) (by decide) hstate)

/-- A frame in flight whose window is open and which no entry acknowledges stays. -/
theorem CallSettled.of_unanswered (h : attemptFate c t g = .unanswered) (hframes : t.txq.frames = g :: rest) :
    CallSettled c g rest t t := by
  refine .of_standing (by simp [callEnds, h]) ?_ (by simp [emcAfterCycle, h]) rfl ((Keeps.refl [] t).mono (by decide))
  have hleft : leftOfCall c t t.ale.rng g ++ rest = t.txq.frames := by simp [leftOfCall, h, hframes]
  rw [hleft]

/-- A frame of the emergency controller's that has left the queue acknowledged (R115, R121). -/
theorem callSettled_delivered (h : attemptFate c t g = .acknowledged) (hrest : ∀ f ∈ rest, f.cls ≠ 0)
    (hlen : rest.length < 16) :
    CallSettled c g rest t (queueOwed (emergencyOutcome g.kind .delivered (modFrames (fun _ => rest) t))) := by
  let v := modFrames (fun _ => rest) t
  have hv : Keeps [.txq] t v := modTxq_keeps _ t
  by_cases hends : callEnds c t g = true
  · obtain ⟨⟨-, hkind⟩, hstate⟩ : (attemptFate c t g = .acknowledged ∧ g.kind = .emergencyCancel) ∧ t.emc.state = .cancelling := by
      simpa [callEnds] using hends
    have hquiet : emergencyOutcome g.kind .delivered v = returnToQuiet v := by
      have hcancel : emergencyOutcome .emergencyCancel .delivered v = returnToQuiet v := by
        unfold emergencyOutcome
        rw [show v.emc.state = .cancelling from hstate]
      rw [hkind, hcancel]
    have hcount : countFrames v (fun f => f.cls == 0) ≤ 1 := by
      have hnone : rest.countP (fun f => f.cls == 0) = 0 := List.countP_eq_zero.mpr fun f hf => by simpa using hrest f hf
      exact le_of_eq_of_le hnone (Nat.zero_le 1)
    obtain ⟨hemc, htxq, hasks, hk, hatt, hnow⟩ := returnToQuiet_effect hcount
    rw [hquiet]
    have howed : queueOwed (returnToQuiet v) = returnToQuiet v := by rw [queueOwed, hemc]
    rw [howed]
    have hfilter : rest.filter (fun f => !(f.cls == 0 && !f.inFlight)) = rest :=
      List.filter_eq_self.mpr fun f hf => by simp [hrest f hf]
    refine ⟨htxq.trans ?_, ?_, fun _ => hasks, ?_, ?_⟩
    · rw [show leftOfCall c t t.ale.rng g = [] by simp [leftOfCall, h, hends], List.nil_append,
        show v.txq.frames = rest from rfl, hfilter]
      rfl
    · have hafter : emcAfterCycle c t g =
          { t.emc with state := .quiet, owed := none, updateTimer := none, wrongCodes := 0, duress := false } := by
        simp [emcAfterCycle, h, hends]
      rw [hafter]
      exact hemc
    · rw [if_pos hends]
      exact (hv.trans hk).mono (by decide)
    · rw [hends, if_pos rfl]
      exact ((modFrames_hears (fun _ => rest) t).trans (.of_judged hatt (by rw [hk .frc (by decide)]) hnow)).congr fun c => by simp
  · rw [Bool.not_eq_true] at hends
    let w := emergencyOutcome g.kind .delivered v
    have hw : w.emc = { t.emc with
          updateTimer := if g.kind == .emergency && t.emc.state == .alerting then some (clamp 10 300 (setting16 t 0x0C))
            else t.emc.updateTimer } ∧ w.txq = v.txq ∧ Keeps [.emc] v w := by
      by_cases halert : g.kind = .emergency ∧ t.emc.state = .alerting
      · have hstarts : w = startUpdateTimer v := by
          have halert' : emergencyOutcome .emergency .delivered v = startUpdateTimer v := by
            unfold emergencyOutcome
            rw [show v.emc.state = .alerting from halert.2]
          show emergencyOutcome g.kind .delivered v = _
          rw [halert.1, halert']
        rw [hstarts]
        refine ⟨?_, rfl, modEmc_keeps _ v⟩
        have hunlimited : (g.kind == .emergency && t.emc.state == .alerting) = true := by simp [halert]
        rw [hunlimited]
        rfl
      · have hsame : w = v := by
          have hno : ¬(g.kind = .emergencyCancel ∧ t.emc.state = .cancelling) := fun hcancel => by
            simp [callEnds, h, hcancel] at hends
          show emergencyOutcome g.kind .delivered v = v
          have hstate : v.emc.state = t.emc.state := rfl
          unfold emergencyOutcome
          rw [hstate]
          split <;> simp_all
        rw [hsame]
        refine ⟨?_, rfl, (Keeps.refl [] v).mono (by decide)⟩
        have hno : (g.kind == .emergency && t.emc.state == .alerting) = false := by simpa using halert
        rw [hno]
        rfl
    obtain ⟨hwemc, hwtxq, hwk⟩ := hw
    show CallSettled c g rest t (queueOwed w)
    have hframes : w.txq.frames = askedFrames w none ++ rest := congrArg Txq.frames hwtxq
    have hmade : ∀ k, askedFrames w k = askedFrames t k := fun k => List.map_congr_left fun k' _ =>
      askedFrame_congr k' (by rw [hwemc]) (by rw [hwemc]) (by rw [hwk .frc (by decide), hv .frc (by decide)])
    generalize w = w at *
    obtain ⟨hemc, htxq, hk⟩ := queueOwed_over none hrest hlen hframes
    have howed : w.emc.owed = t.emc.owed := by rw [hwemc]
    refine .of_standing hends ?_ ?_ ?_ (((hv.trans hwk).trans hk).mono (by decide))
    · rw [htxq, hmade, howed, Option.or_none, hwtxq]
      simp [leftOfCall, h, hends]
      rfl
    · rw [hemc, hwemc]
      simp [emcAfterCycle, h, hends]
    · rw [hemc, hwemc]

/-- A frame of the emergency controller's that has left the queue at the limit of its attempts (R112, R115, R152). -/
theorem callSettled_spent (h : attemptFate c t g = .spent) (hlimited : ¬(g.kind = .emergency ∧ t.emc.state = .alerting))
    (hrest : ∀ f ∈ rest, f.cls ≠ 0) (hlen : rest.length < 16) :
    CallSettled c g rest t (queueOwed (emergencyOutcome g.kind (.failed .noAck) (modFrames (fun _ => rest) t))) := by
  let v := modFrames (fun _ => rest) t
  have hv : Keeps [.txq] t v := modTxq_keeps _ t
  have hno : (g.kind == .emergency && t.emc.state == .alerting) = false := by simpa using hlimited
  obtain ⟨hemc, htxq, hk⟩ := callFailed_over (s := v) g.kind .noAck none hrest hlen rfl
  refine .of_standing (by simp [callEnds, h]) (htxq.trans ?_) ?_ ((congrArg Emc.state hemc).trans rfl) ((hv.trans hk).mono (by decide))
  · have hleft : leftOfCall c t t.ale.rng g = askedFrames t (t.emc.owed.or (askedAfresh t g.kind)) := by
      simp [leftOfCall, h, hno, askedAfterFailure, askedAfresh]
    rw [Option.or_none, hleft, ← askedFrames_congr (s := t) (t := v) _ rfl rfl]
    rfl
  · have hafter : emcAfterCycle c t g = { t.emc with owed := none } := by simp [emcAfterCycle, h, hno]
    rw [hafter]
    exact hemc

/-- A frame of the emergency controller's that waits for a retry (R114, R152). -/
theorem callSettled_retried {k : Frame → Frame} (h : attemptFate c t g = .failed ∨ attemptFate c t g = .spent)
    (hk : k g = if g.kind = .emergency ∧ t.emc.state = .alerting then { g.retried t.ale.rng with backoff := 0 }
      else g.retried t.ale.rng)
    (hlimited : attemptFate c t g = .spent → g.kind = .emergency ∧ t.emc.state = .alerting) :
    CallSettled c g rest t (modFrames (fun _ => k g :: rest) t) := by
  have hleft : leftOfCall c t t.ale.rng g = [k g] := by
    rw [hk]
    by_cases halert : g.kind = .emergency ∧ t.emc.state = .alerting
    · rcases h with h | h <;> simp [leftOfCall, h, halert]
    · have h' := h.resolve_right fun hspent => halert (hlimited hspent)
      have hno : (g.kind == .emergency && t.emc.state == .alerting) = false := by simpa using halert
      simp [leftOfCall, h', hno, halert]
  have hafter : emcAfterCycle c t g = t.emc := by
    rcases h with h | h
    · simp [emcAfterCycle, h]
    · simp [emcAfterCycle, h, hlimited h]
  refine .of_standing (by rcases h with h | h <;> simp [callEnds, h]) ?_ hafter.symm rfl ((modTxq_keeps _ t).mono (by decide))
  rw [hleft]
  rfl

/-! By an ack entry, and by a window that has closed. -/

theorem windowOpen_iff {n : Nat} {f : Frame} (hf : f.inFlight = true) :
    windowOpen n f = true ↔ (n + 256 - f.sendingCycle) % 256 ∈ [1, 2] := by
  simp [windowOpen, hf]

theorem attemptFate_acknowledged {q : Nat} (hf : windowOpen c.number g = true) (hs : g.sequence = some q) (hq : q ∈ ownAcks c t) :
    attemptFate c t g = .acknowledged := by
  have hflight : g.inFlight = true := by
    unfold windowOpen at hf
    exact (Bool.and_eq_true_iff.mp hf).1
  rw [attemptFate, if_pos ((windowOpen_iff hflight).mp hf), if_pos (by simp [hs, hq])]

theorem windowOpen_of_fate (hf : g.inFlight = true) :
    windowOpen c.number g = true ↔ attemptFate c t g = .unanswered ∨ attemptFate c t g = .acknowledged := by
  rw [windowOpen_iff hf]
  unfold attemptFate
  split_ifs <;> simp_all

theorem modFrames_congr {k k' : List Frame → List Frame} (h : k t.txq.frames = k' t.txq.frames) : modFrames k t = modFrames k' t := by
  rw [modFrames, modFrames, State.modTxq, State.modTxq, h]

/-- An ack entry takes the frame that its sequence names (R151). -/
theorem takeAck_eq {n q : Nat} {before after : List Frame} (hframes : t.txq.frames = before ++ g :: after)
    (hbefore : ∀ f ∈ before, (f.sequence == some q && windowOpen n f) = false) (hs : g.sequence = some q)
    (hopen : windowOpen n g = true) : takeAck n q t = deliverOutcome g .delivered (modFrames (fun _ => before ++ after) t) := by
  have hmine : (g.sequence == some q && windowOpen n g) = true := by simp [hs, hopen]
  have hfind : t.txq.frames.find? (fun f => f.sequence == some q && windowOpen n f) = some g := by
    rw [hframes, find?_first hbefore hmine]
  have herase : t.txq.frames.eraseP (fun f => f.sequence == some q && windowOpen n f) = before ++ after := by
    rw [hframes, eraseP_first hbefore hmine]
  rw [takeAck, hfind]
  exact congrArg (deliverOutcome g .delivered) (modFrames_congr herase)

theorem deliverOutcome_call {o : TxOutcome} (h : g.origins = [{ origin := .emergency, detached := false }]) :
    deliverOutcome g o t = queueOwed (emergencyOutcome g.kind o t) := by
  have hmine : g.hasOrigin .emergency = true := by simp [Frame.hasOrigin, h]
  rw [deliverOutcome, if_pos hmine]

theorem takeAck_call {q : Nat} (hframes : t.txq.frames = g :: rest) (horigins : g.origins = [{ origin := .emergency, detached := false }])
    (hopen : windowOpen c.number g = true) (hs : g.sequence = some q) (hq : q ∈ ownAcks c t) (hrest : ∀ f ∈ rest, f.cls ≠ 0)
    (hlen : rest.length < 16) : CallSettled c g rest t (takeAck c.number q t) := by
  rw [takeAck_eq (before := []) hframes (fun f hf => absurd hf List.not_mem_nil) hs hopen, List.nil_append, deliverOutcome_call horigins]
  exact callSettled_delivered (attemptFate_acknowledged hopen hs hq) hrest hlen

/-- The frame as a retry leaves it (R152). -/
def retryWith (a backoff : Nat) (f : Frame) : Frame := { f with attempts := a, backoff := backoff, inFlight := false }

/-- An attempt that has failed: what becomes of the frame (R152). -/
theorem failAttempt_eq {before after : List Frame} (hframes : t.txq.frames = before ++ g :: after)
    (hbefore : ∀ f ∈ before, inFlightWith g.sequence f = false) (hf : g.inFlight = true) :
    let a := min 255 (g.attempts + 1)
    let gone := modFrames (fun _ => before ++ after) t
    failAttempt g.sequence t =
      if g.kind = .emergency ∧ t.emc.state = .alerting then modFrames (fun _ => before ++ retryWith a 0 g :: after) t
      else if g.orphaned = true then gone
      else if attemptLimit t ≤ a then deliverOutcome g (.failed .noAck) gone
      else if (g.kind = .status ∨ g.kind = .pollReply) ∧ kindWaiting t g.kind = true then gone
      else modFrames (fun _ => before ++ retryWith a (t.ale.rng.toNat % (min (2 ^ a - 1) 15 + 1)) g :: after) t := by
  intro a gone
  have hmine : inFlightWith g.sequence g = true := by simp [inFlightWith, hf]
  have hfind : t.txq.frames.find? (inFlightWith g.sequence) = some g := by rw [hframes, find?_first hbefore hmine]
  have herase : modFrames (fun fs => fs.eraseP (inFlightWith g.sequence)) t = gone :=
    modFrames_congr (by rw [hframes, eraseP_first hbefore hmine])
  have hretry : ∀ b, modFrames (modifyFirst (inFlightWith g.sequence) (retryWith a b)) t =
      modFrames (fun _ => before ++ retryWith a b g :: after) t := fun b =>
    modFrames_congr (by rw [hframes, modifyFirst_first _ hbefore hmine])
  rw [← hretry, ← hretry, ← herase, failAttempt, hfind]
  rfl

theorem failAttempt_call (hframes : t.txq.frames = g :: rest) (horigins : g.origins = [{ origin := .emergency, detached := false }])
    (hf : g.inFlight = true) (hcls : g.kind.cls = 0) (hfate : attemptFate c t g = .failed ∨ attemptFate c t g = .spent)
    (hrest : ∀ f ∈ rest, f.cls ≠ 0) (hlen : rest.length < 16) : CallSettled c g rest t (failAttempt g.sequence t) := by
  rw [failAttempt_eq (before := []) hframes (fun f hf => absurd hf List.not_mem_nil) hf]
  have horphan : ¬g.orphaned = true := by simp [Frame.orphaned, horigins]
  have hlive : ¬((g.kind = .status ∨ g.kind = .pollReply) ∧ kindWaiting t g.kind = true) := by
    rintro ⟨hkind | hkind, -⟩ <;> rw [hkind] at hcls <;> exact absurd hcls (by decide)
  have hspent : attemptFate c t g = .spent ↔ attemptLimit t ≤ min 255 (g.attempts + 1) := by
    have hclosed : ¬(c.number + 256 - g.sendingCycle) % 256 ∈ [1, 2] := fun hopen => by
      have hopen' := (windowOpen_of_fate (c := c) (t := t) hf).mp ((windowOpen_iff hf).mpr hopen)
      rcases hfate with h | h <;> rw [h] at hopen' <;> simp at hopen'
    rw [attemptFate, if_neg hclosed]
    split_ifs with h <;> simp [h]
  rw [if_neg horphan, if_neg hlive]
  split_ifs with halert hlimit
  · exact callSettled_retried (k := fun f => retryWith _ 0 f) hfate (by rw [if_pos halert]; rfl) fun _ => halert
  · rw [deliverOutcome_call horigins]
    exact callSettled_spent (hspent.mpr hlimit) halert hrest hlen
  · exact callSettled_retried (k := fun f => retryWith _ _ f) hfate (by rw [if_neg halert]; rfl) fun h => absurd (hspent.mp h) hlimit

end

end Sys2Proof.Machine
end

section
/-! SUPPORT. What a cycle does with the frame of the other classes that it finds IN_FLIGHT (R147, R151, R152, R156). -/

namespace Sys2Proof.Machine

/-- What the settling of a frame outside class 0 leaves, by its fate at the cycle; `left` stands in the queue. -/
structure OtherSettled (c : Cycle) (g : Frame) (left : List Frame) (t u : State) : Prop where
  txq : u.txq = { t.txq with frames := left }
  keeps : Keeps (.txq :: if outcomeAt c t g = none then [] else g.heardIn) t u
  settings : SameSettings t u
  asks : u.cps = t.cps ∨ AsksCommit t u
  quiet : outcomeAt c t g = none → Hears false [] [] t u
  heard : ∀ o, outcomeAt c t g = some o → HeardWith (fun j ds cs => Hears j ds cs t u) g o t u

section
variable {c : Cycle} {g : Frame} {left before after : List Frame} {t u : State} {o : TxOutcome}

/-- A commit asked for once more, or for the first time. -/
theorem asks_after {s t u : State} (h : t.cps = s.cps ∨ AsksCommit s t) (h' : AsksCommit t u) : AsksCommit s u := by
  rcases h with h | h
  · rwa [AsksCommit, h] at h'
  · rw [AsksCommit, h', h]
    simp only [commit_idem]

theorem asks_then {s t u : State} (h : AsksCommit s t) (h' : u.cps = t.cps ∨ AsksCommit t u) : AsksCommit s u := by
  rcases h' with h' | h'
  · rwa [AsksCommit, h']
  · exact asks_after (.inr h) h'

theorem asksCommit_trans {s t u : State} (h : t.cps = s.cps ∨ AsksCommit s t) (h' : u.cps = t.cps ∨ AsksCommit t u) :
    u.cps = s.cps ∨ AsksCommit s u := by
  rcases h' with h' | h'
  · rwa [AsksCommit, h']
  · exact .inr (asks_after h h')

theorem routeOutcome_asks (x : Frame) (o : TxOutcome) (s : State) :
    (routeOutcome x o s).cps = s.cps ∨ AsksCommit s (routeOutcome x o s) := by
  rw [routeOutcome]
  generalize x.origins = ls
  induction ls generalizing s with
  | nil => exact .inl rfl
  | cons l ls ih =>
    rw [List.foldl_cons]
    refine asksCommit_trans ?_ (ih _)
    split_ifs
    · exact .inl rfl
    · have hk := routeToOrigin_keeps (x := x) o l.origin s
      cases hg : l.origin with
      | trip e => exact .inr rfl
      | record _ | inbox _ | offer _ _ | lastShift | emergency | dispatch | receipts | refusals =>
        rw [hg] at hk
        exact .inl (hk .cps (by simp [Origin.heardIn]))

theorem routeOutcome_orphaned (h : g.orphaned = true) : routeOutcome g o t = t := by
  rw [routeOutcome]
  rw [Frame.orphaned] at h
  generalize g.origins = ls at h
  induction ls with
  | nil => rfl
  | cons l ls ih =>
    rw [List.all_cons, Bool.and_eq_true] at h
    rw [List.foldl_cons, if_pos h.1]
    exact ih h.2

theorem OtherSettled.of_routed (hits : g.HasItsOrigins) (hout : outcomeAt c t g = some o) :
    OtherSettled c g left t (routeOutcome g o (modFrames (fun _ => left) t)) := by
  let v := modFrames (fun _ => left) t
  let u := routeOutcome g o v
  have hv : Keeps [.txq] t v := modTxq_keeps _ t
  have hk : Keeps g.heardIn v u := routeOutcome_keeps g o v
  have hleaves : Keeps heardParts v u := routeOutcome_leaves g o v
  have hhears := modFrames_hears (fun _ => left) t
  have hasks : u.cps = t.cps ∨ AsksCommit t u := routeOutcome_asks g o v
  refine ⟨hleaves .txq (by decide), ?_, routeOutcome_settings g o v, hasks, fun h => absurd (hout.symm.trans h) (by simp),
    fun o' ho => ?_⟩
  · rw [if_neg (by rw [hout]; simp)]
    exact hv.trans hk
  · obtain rfl := Option.some.inj (hout.symm.trans ho)
    exact (routeOutcome_heard hits (o := o) (s := v)).imp hits (fun j ds cs h => by simpa using hhears.trans h) ⟨rfl, rfl⟩ ⟨rfl, rfl⟩
      ⟨rfl, rfl⟩ id fun _ _ _ => ⟨⟨rfl, rfl⟩, rfl, rfl⟩

theorem OtherSettled.of_left (hout : outcomeAt c t g = none) : OtherSettled c g left t (modFrames (fun _ => left) t) :=
  ⟨rfl, (modTxq_keeps _ t).mono (by simp), .refl t, .inl rfl, fun _ => modFrames_hears _ t, fun o ho => absurd (hout.symm.trans ho) (by simp)⟩

theorem OtherSettled.of_unanswered (h : attemptFate c t g = .unanswered) (hframes : t.txq.frames = left) : OtherSettled c g left t t :=
  ⟨by rw [← hframes], (Keeps.refl [] t).mono (by simp), .refl t, .inl rfl, fun _ => .refl t, fun o ho => by simp [outcomeAt, h] at ho⟩

theorem Frame.HasItsOrigins.noCall (h : g.HasItsOrigins) : g.hasOrigin .emergency = false ∧ g.kind.cls ≠ 0 := by
  constructor
  · obtain ⟨o, gone, hx, hcall, -⟩ | ⟨i, r, gone, hx⟩ := h.shape
    · simp [Frame.hasOrigin, hx, hcall]
    · simp [Frame.hasOrigin, hx]
  · unfold Frame.HasItsOrigins at h
    intro hcls
    cases hkind : g.kind <;> rw [hkind] at hcls h <;> simp_all [UplinkKind.cls]

theorem deliverOutcome_other (h : g.HasItsOrigins) : deliverOutcome g o t = routeOutcome g o t :=
  if_neg (by rw [h.noCall.1]; decide)

theorem takeAck_other {q : Nat} (hframes : t.txq.frames = before ++ g :: after)
    (hbefore : ∀ f ∈ before, (f.sequence == some q && windowOpen c.number f) = false) (hits : g.HasItsOrigins)
    (hopen : windowOpen c.number g = true) (hs : g.sequence = some q) (hq : q ∈ ownAcks c t) :
    OtherSettled c g (before ++ after) t (takeAck c.number q t) := by
  rw [takeAck_eq hframes hbefore hs hopen, deliverOutcome_other hits]
  exact .of_routed hits (by simp [outcomeAt, attemptFate_acknowledged hopen hs hq])

theorem hasHearer_iff : g.hasHearer = false ↔ g.orphaned = true := by
  simp [Frame.hasHearer, Frame.orphaned]

theorem failAttempt_other (hframes : t.txq.frames = before ++ g :: after) (hbefore : ∀ f ∈ before, inFlightWith g.sequence f = false)
    (hits : g.HasItsOrigins) (hf : g.inFlight = true) (hfate : attemptFate c t g = .failed ∨ attemptFate c t g = .spent) :
    OtherSettled c g (before ++ leftOfOther c t t.ale.rng g ++ after) t (failAttempt g.sequence t) := by
  rw [failAttempt_eq hframes hbefore hf]
  have hcall : ¬(g.kind = .emergency ∧ t.emc.state = .alerting) := fun h => hits.noCall.2 (by rw [h.1]; rfl)
  have hspent : attemptFate c t g = .spent ↔ attemptLimit t ≤ min 255 (g.attempts + 1) := by
    have hclosed : ¬(c.number + 256 - g.sendingCycle) % 256 ∈ [1, 2] := fun hopen => by
      have hopen' := (windowOpen_of_fate (c := c) (t := t) hf).mp ((windowOpen_iff hf).mpr hopen)
      rcases hfate with h | h <;> rw [h] at hopen' <;> simp at hopen'
    rw [attemptFate, if_neg hclosed]
    split_ifs with h <;> simp [h]
  have hlive : kindWaiting t g.kind = true ↔ ∃ f ∈ t.txq.frames, f.kind = g.kind ∧ f.inFlight = false := by
    simp [kindWaiting]
  rw [if_neg hcall]
  by_cases hlimit : attemptLimit t ≤ min 255 (g.attempts + 1)
  · have hout : outcomeAt c t g = some (.failed .noAck) := by simp [outcomeAt, hspent.mpr hlimit]
    have hleft : leftOfOther c t t.ale.rng g = [] := by simp [leftOfOther, hspent.mpr hlimit]
    rw [if_pos hlimit, deliverOutcome_other hits, hleft, List.append_nil]
    have hsame : (if g.orphaned = true then modFrames (fun _ => before ++ after) t
        else routeOutcome g (.failed .noAck) (modFrames (fun _ => before ++ after) t)) =
          routeOutcome g (.failed .noAck) (modFrames (fun _ => before ++ after) t) := by
      split_ifs with horphan
      · rw [routeOutcome_orphaned horphan]
      · rfl
    rw [hsame]
    exact .of_routed hits hout
  · have hfailed : attemptFate c t g = .failed := hfate.resolve_right fun h => hlimit (hspent.mp h)
    have hout : outcomeAt c t g = none := by simp [outcomeAt, hfailed]
    rw [if_neg hlimit]
    by_cases hgone : g.orphaned = true ∨ ((g.kind = .status ∨ g.kind = .pollReply) ∧ kindWaiting t g.kind = true)
    · have hleft : leftOfOther c t t.ale.rng g = [] := by
        simp only [leftOfOther, hfailed]
        exact if_pos (by rw [hasHearer_iff, ← hlive]; exact hgone)
      have hall : ∀ w : State, (if g.orphaned = true then modFrames (fun _ => before ++ after) t else
          if (g.kind = .status ∨ g.kind = .pollReply) ∧ kindWaiting t g.kind = true then modFrames (fun _ => before ++ after) t else w) =
            modFrames (fun _ => before ++ after) t := fun w => by
        split_ifs <;> simp_all
      rw [hall, hleft, List.append_nil]
      exact .of_left hout
    · have hleft : leftOfOther c t t.ale.rng g = [g.retried t.ale.rng] := by
        simp only [leftOfOther, hfailed]
        exact if_neg (by rw [hasHearer_iff, ← hlive]; exact hgone)
      obtain ⟨horphan, hwait⟩ := not_or.mp hgone
      rw [if_neg horphan, if_neg hwait, hleft, List.append_assoc, List.singleton_append]
      exact .of_left hout

end

end Sys2Proof.Machine
end

section
/-! SUPPORT. A cycle in the midst of its settling: what stands once it has settled the frame of the emergency controller, the
frame of the other classes, or both (R151, R152). -/

namespace Sys2Proof.Machine

/-- The frames of the emergency controller, before the cycle has settled them and after. -/
def callLeft (c : Cycle) (b : State) (x : Option Frame) (done : Bool) : List Frame :=
  if done = true then x.toList.flatMap (leftOfCall c b b.ale.rng) else x.toList

/-- The emergency controller, before and after. -/
def callEmc (c : Cycle) (b : State) (x : Option Frame) (done : Bool) : Emc :=
  if done = true then x.elim b.emc (emcAfterCycle c b) else b.emc

/-- The cycle has ended the call. -/
def callOver (c : Cycle) (b : State) (x : Option Frame) (done : Bool) : Bool := done && x.any (callEnds c b)

/-- The channel of a call that has ended. -/
def callChannels (c : Cycle) (b : State) (x : Option Frame) (done : Bool) : List Channel :=
  if callOver c b x done = true then [.emergency] else []

/-- The frame of the other classes, before and after. -/
def otherLeft (c : Cycle) (b : State) (y : Option Frame) (done : Bool) : List Frame :=
  if done = true then y.toList.flatMap (leftOfOther c b b.ale.rng) else y.toList

/-- The frame of the other classes with the outcome that its origins have heard. -/
def otherHeard (c : Cycle) (b : State) (y : Option Frame) (done : Bool) : Option (Frame × TxOutcome) :=
  if done = true then y.bind fun g => (outcomeAt c b g).map fun o => (g, o) else none

/-- The parts that a cycle has changed by its settling. -/
def midParts (c : Cycle) (b : State) (x y : Option Frame) (i j : Bool) : List Part :=
  [.txq] ++ (if x = none then [] else [.emc]) ++ (if callOver c b x i = true then [.atc, .cps] else []) ++
    (otherHeard c b y j).toList.flatMap fun p => p.1.heardIn

theorem mem_midParts {c : Cycle} {b : State} {x y : Option Frame} {i j : Bool} {p : Part} : p ∈ midParts c b x y i j ↔
    p = .txq ∨ (x ≠ none ∧ p = .emc) ∨ (callOver c b x i = true ∧ (p = .atc ∨ p = .cps)) ∨
      ∃ q ∈ otherHeard c b y j, p ∈ q.1.heardIn := by
  simp only [midParts, List.mem_append, List.mem_flatMap, Option.mem_toList, List.mem_singleton]
  have hx : p ∈ (if x = none then [] else [Part.emc]) ↔ x ≠ none ∧ p = .emc := by split_ifs with h <;> simp [h]
  have hover : p ∈ (if callOver c b x i = true then [Part.atc, .cps] else []) ↔ callOver c b x i = true ∧ (p = .atc ∨ p = .cps) := by
    split_ifs with h <;> simp [h]
  rw [hx, hover, or_assoc, or_assoc]
  rfl

/-- What stands in the midst of a cycle that found the state `b`: `f` is what has become of the frames it passes over, `i` says
that the emergency controller's frame has been settled, `j` that the other has, and `n` ack entries have been stray. -/
structure CycleMid (c : Cycle) (b : State) (x y : Option Frame) (before after : List Frame) (f : Frame → Frame) (i j : Bool) (n : Nat)
    (t : State) : Prop where
  txq : t.txq = { b.txq with
    frames := callLeft c b x i ++ before.map f ++ otherLeft c b y j ++ after.map f, stray := n }
  emc : t.emc = callEmc c b x i
  keeps : Keeps (midParts c b x y i j) b t
  settings : SameSettings b t
  asks : t.cps = b.cps ∨ AsksCommit b t
  asked : callOver c b x i = true → AsksCommit b t
  quiet : otherHeard c b y j = none → Hears (callOver c b x i) [] (callChannels c b x i) b t
  heard : ∀ p ∈ otherHeard c b y j,
    HeardWith (fun judged ds cs => Hears (judged || callOver c b x i) ds (cs ++ callChannels c b x i) b t) p.1 p.2 b t

namespace CycleMid

section
variable {c : Cycle} {b t u : State} {x y : Option Frame} {before after : List Frame} {f : Frame → Frame} {i j : Bool} {n : Nat} {g : Frame}

theorem leaves (h : CycleMid c b x y before after f i j n t) : Keeps (.txq :: .emc :: heardParts) b t := by
  refine h.keeps.mono fun p hp => ?_
  rcases mem_midParts.mp hp with rfl | ⟨-, rfl⟩ | ⟨-, rfl | rfl⟩ | ⟨q, -, hq⟩
  · decide
  · decide
  · decide
  · decide
  · exact List.mem_cons_of_mem _ (List.mem_cons_of_mem _ (Frame.heardIn_subset _ hq))

theorem unheard (h : CycleMid c b x y before after f i false n t) : Keeps [.txq, .emc, .atc, .cps] b t := by
  refine h.keeps.mono fun p hp => ?_
  rcases mem_midParts.mp hp with rfl | ⟨-, rfl⟩ | ⟨-, rfl | rfl⟩ | ⟨q, hq, -⟩
  · decide
  · decide
  · decide
  · decide
  · cases hq

theorem start (hframes : b.txq.frames = x.toList ++ before ++ y.toList ++ after) :
    CycleMid c b x y before after id false false b.txq.stray b := by
  refine ⟨?_, rfl, (Keeps.refl [] b).mono (List.nil_subset _), .refl b, .inl rfl, fun h => absurd h (by simp [callOver]), fun _ => .refl b,
    fun p hp => by simp [otherHeard] at hp⟩
  have hsame : callLeft c b x false ++ before.map id ++ otherLeft c b y false ++ after.map id = b.txq.frames := by
    simp [callLeft, otherLeft, hframes]
  rw [hsame]

/-- The frame whose outcome has been heard names its origins. -/
theorem hits_of_heard (hits : ∀ g ∈ y, g.HasItsOrigins) {p : Frame × TxOutcome} (hp : p ∈ otherHeard c b y j) : p.1.HasItsOrigins := by
  unfold otherHeard at hp
  split_ifs at hp
  · obtain ⟨g, hg, hp⟩ := Option.bind_eq_some_iff.mp hp
    obtain ⟨o, -, rfl⟩ := Option.map_eq_some_iff.mp hp
    exact hits g hg
  · cases hp

/-- Work that the origins of the other frame do not see. -/
theorem heard_then (h : CycleMid c b x y before after f i j n t) (hits : ∀ g ∈ y, g.HasItsOrigins) {k : Bool} {cs : List Channel}
    (hh : Hears k [] cs t u) {over' : Bool} {cs' : List Channel} (hover : over' = (callOver c b x i || k))
    (hcs : ∀ d, d ∈ cs' ↔ d ∈ callChannels c b x i ∨ d ∈ cs)
    (hk : Keeps [.txq, .emc, .atc, .cps] t u) (hasks : u.cps = t.cps ∨ AsksCommit t u) :
    (otherHeard c b y j = none → Hears over' [] cs' b u) ∧ ∀ p ∈ otherHeard c b y j,
      HeardWith (fun judged ds l => Hears (judged || over') ds (l ++ cs') b u) p.1 p.2 b u := by
  refine ⟨fun hno => ?_, fun p hp => ?_⟩
  · rw [hover]
    exact ((h.quiet hno).trans hh).congr fun d => by rw [List.mem_append, hcs]
  · refine (h.heard p hp).imp (hits_of_heard hits hp) (fun judged ds l hl => ?_) ⟨rfl, hk .mem (by decide)⟩ ⟨rfl, hk .mst (by decide)⟩
      ⟨rfl, hk .mtc (by decide)⟩ (fun ha => ?_) fun _ _ _ => ⟨⟨rfl, hk .oft (by decide)⟩, rfl, hk .dsc (by decide)⟩
    · rw [hover, ← Bool.or_assoc]
      have hboth := (hl.trans hh).congr (cs' := l ++ cs') fun d => by simp only [List.mem_append, hcs, or_assoc]
      rwa [List.append_nil] at hboth
    · exact asks_then ha hasks

/-- Work on the queue alone. -/
theorem then_queue (h : CycleMid c b x y before after f i j n t) (hits : ∀ g ∈ y, g.HasItsOrigins) {f' : Frame → Frame} {m : Nat}
    (htxq : u.txq = { b.txq with
      frames := callLeft c b x i ++ before.map f' ++ otherLeft c b y j ++ after.map f', stray := m })
    (hk : Keeps [.txq] t u) : CycleMid c b x y before after f' i j m u := by
  have hh : Hears false [] [] t u := .of_atc (hk .atc (by decide)) (hk .phase (by decide)) (by rw [hk .frc (by decide)])
    (.of_mem (hk .mem (by decide)))
    (.of_keeps hk (by decide) (by decide) (by decide) (by decide) (by decide) (by rw [hk .emc (by decide)]))
  have hcps : u.cps = t.cps := hk .cps (by decide)
  obtain ⟨hquiet, hheard⟩ := h.heard_then hits hh (over' := callOver c b x i) (cs' := callChannels c b x i) (by simp) (by simp)
    (hk.mono (by decide)) (.inl hcps)
  refine ⟨htxq, (hk .emc (by decide)).trans h.emc, (h.keeps.trans hk).mono fun p hp => ?_, h.settings.trans (.of_mem (hk .mem (by decide))),
    by rw [AsksCommit, hcps]; exact h.asks, fun ha => by rw [AsksCommit, hcps]; exact h.asked ha, hquiet, hheard⟩
  rcases List.mem_append.mp hp with hp | hp
  · exact hp
  · exact mem_midParts.mpr (.inl (List.mem_singleton.mp hp))

theorem callOver_false : callOver c b x false = false := rfl

theorem callOver_true : callOver c b x true = x.any (callEnds c b) := by simp [callOver]

/-- The frame of the emergency controller is settled. -/
theorem settle_call {rest : List Frame} (h : CycleMid c b x y before after f false j n t) (hits : ∀ g ∈ y, g.HasItsOrigins) (hx : x = some g)
    (hs : CallSettled c g rest t u) (hrest : rest = before.map f ++ otherLeft c b y j ++ after.map f) :
    CycleMid c b x y before after f true j n u := by
  have hl := h.leaves
  have hemc : t.emc = b.emc := h.emc
  have hclock : t.frc.clock = b.frc.clock := by rw [hl .frc (by decide)]
  have hends : callEnds c t g = callEnds c b g := callEnds_congr h.settings (by rw [hemc])
  have hover : callOver c b x true = callEnds c b g := by rw [callOver_true, hx]; rfl
  have hasks : u.cps = t.cps ∨ AsksCommit t u := by
    cases hend : callEnds c t g with
    | true => exact .inr (hs.asks hend)
    | false =>
      have hk := hs.keeps
      rw [hend] at hk
      exact .inl (hk .cps (by decide))
  have hchannels : callChannels c b x true = if callEnds c t g = true then [Channel.emergency] else [] := by
    rw [callChannels, hover, hends]
  have hwide : Keeps [.txq, .emc, .atc, .cps] t u := hs.keeps.mono (by split_ifs <;> decide)
  obtain ⟨hquiet, hheard⟩ := h.heard_then hits hs.hears (over' := callOver c b x true) (cs' := callChannels c b x true)
    (by rw [hover, hends, callOver_false, Bool.false_or]) (fun d => by rw [hchannels]; simp [callChannels, callOver_false]) hwide hasks
  refine ⟨?_, ?_, (h.keeps.trans hs.keeps).mono fun p hp => ?_, h.settings.trans hs.hears.attends.settings, asksCommit_trans h.asks hasks,
    fun ha => ?_, hquiet, hheard⟩
  · rw [hs.txq, h.txq, hrest, leftOfCall_congr h.settings hemc hclock, hl .ale (by decide)]
    simp [callLeft, hx]
  · rw [hs.emc, emcAfterCycle_congr h.settings hemc, hx]
    rfl
  · rw [mem_midParts, hover, hx]
    rcases List.mem_append.mp hp with hp | hp
    · rcases mem_midParts.mp hp with hp | ⟨-, hp⟩ | ⟨hno, -⟩ | hp
      · exact .inl hp
      · exact .inr (.inl ⟨by simp, hp⟩)
      · simp [callOver] at hno
      · exact .inr (.inr (.inr hp))
    · rw [hends] at hp
      split_ifs at hp with hend <;> simp only [List.mem_append, List.mem_cons, List.not_mem_nil, or_false] at hp
      · rcases hp with (rfl | rfl) | hp
        · exact .inl rfl
        · exact .inr (.inl ⟨by simp, rfl⟩)
        · exact .inr (.inr (.inl ⟨hend, hp⟩))
      · rcases hp with rfl | rfl
        · exact .inl rfl
        · exact .inr (.inl ⟨by simp, rfl⟩)
  · have hfirst := hs.asks (by rw [hends, ← hover]; exact ha)
    exact asks_after h.asks hfirst

/-- The frame of the other classes is settled. -/
theorem settle_other {left : List Frame} (h : CycleMid c b x y before after f i false n t) (hits : ∀ g ∈ y, g.HasItsOrigins) (hy : y = some g)
    (hs : OtherSettled c g left t u)
    (hleft : left = callLeft c b x i ++ before.map f ++ leftOfOther c b b.ale.rng g ++ after.map f) :
    CycleMid c b x y before after f i true n u := by
  have hout : outcomeAt c t g = outcomeAt c b g := by simp only [outcomeAt, attemptFate_congr h.settings]
  have hheard : otherHeard c b y true = (outcomeAt c b g).map fun o => (g, o) := by simp [otherHeard, hy]
  have hnone : otherHeard c b y false = none := rfl
  have hl := h.leaves
  have hwide : Keeps (.txq :: heardParts) t u := hs.keeps.mono (List.cons_subset_cons _ (by
    split_ifs
    · exact List.nil_subset _
    · exact g.heardIn_subset))
  have hsofar := h.quiet hnone
  refine ⟨?_, (hwide .emc (by decide)).trans h.emc, (h.keeps.trans hs.keeps).mono fun p hp => ?_, h.settings.trans hs.settings,
    asksCommit_trans h.asks hs.asks, fun ha => ?_, fun hno => ?_, fun p hp => ?_⟩
  · rw [hs.txq, h.txq, hleft]
    simp [otherLeft, hy]
  · rw [mem_midParts, hheard]
    rcases List.mem_append.mp hp with hp | hp
    · rcases mem_midParts.mp hp with hp | hp | hp | ⟨q, hq, -⟩
      · exact .inl hp
      · exact .inr (.inl hp)
      · exact .inr (.inr (.inl hp))
      · rw [hnone] at hq
        cases hq
    · rcases List.mem_cons.mp hp with hp | hp
      · exact .inl hp
      · split_ifs at hp with hno
        · cases hp
        · obtain ⟨o, ho⟩ := Option.ne_none_iff_exists'.mp hno
          exact .inr (.inr (.inr ⟨(g, o), by rw [← hout, ho]; rfl, hp⟩))
  · exact asks_then (h.asked ha) hs.asks
  · rw [hheard, Option.map_eq_none_iff, ← hout] at hno
    simpa using hsofar.trans (hs.quiet hno)
  · rw [hheard] at hp
    obtain ⟨o, ho, rfl⟩ := Option.map_eq_some_iff.mp hp
    have hk := h.unheard
    refine (hs.heard o (hout.trans ho)).imp (hits g hy) (fun judged ds l hl => ?_) ⟨(hk .mem (by decide)).symm, rfl⟩
      ⟨(hk .mst (by decide)).symm, rfl⟩ ⟨(hk .mtc (by decide)).symm, rfl⟩ (fun ha => ?_)
      fun _ _ _ => ⟨⟨(hk .oft (by decide)).symm, rfl⟩, (hk .dsc (by decide)).symm, rfl⟩
    · have hboth := (hsofar.trans hl).congr (cs' := l ++ callChannels c b x i) fun d => by simp only [List.mem_append, or_comm]
      rw [Bool.or_comm]
      exact hboth
    · exact asks_after h.asks ha

end

end CycleMid

end Sys2Proof.Machine
end

section
/-! SUPPORT. The ack entries and the closed windows of a cycle, one after another (R151, R152). -/

namespace Sys2Proof.Machine

/-- What a cycle finds in the queue: at most one frame of the emergency controller and at most one other that it settles; any
frame besides is WAITING or unanswered. -/
structure CycleFinds (c : Cycle) (b : State) (x y : Option Frame) (before after : List Frame) : Prop where
  frames : b.txq.frames = x.toList ++ before ++ y.toList ++ after
  call : ∀ g ∈ x, g.inFlight = true ∧ g.kind.cls = 0 ∧ g.origins = [{ origin := .emergency, detached := false }] ∧
    b.txq.frames.length ≤ 16 ∧ ∀ h ∈ before ++ y.toList ++ after, h.kind.cls ≠ 0
  other : ∀ g ∈ y, g.inFlight = true ∧ g.HasItsOrigins
  sequences : ∀ g ∈ x.toList ++ y.toList, ∃ q ≤ 15, g.sequence = some q
  distinct : x = none ∨ x.bind Frame.sequence ≠ y.bind Frame.sequence
  passed : ∀ g ∈ before ++ after, g.inFlight = true → attemptFate c b g = .unanswered ∧
    ∀ h ∈ x.toList ++ y.toList, g.sequence ≠ h.sequence

/-- An ack entry names a frame whose window is open (R151). -/
def takes (c : Cycle) (q : Nat) (g : Frame) : Bool := g.sequence == some q && windowOpen c.number g

section
variable {c : Cycle} {b t : State} {x y : Option Frame} {before after : List Frame} {f : Frame → Frame} {i j : Bool} {n q : Nat} {g : Frame}

theorem takes_waiting (h : g.inFlight = false) : takes c q g = false := by simp [takes, windowOpen, h]

theorem takes_unanswered (h : g.inFlight = true → attemptFate c b g = .unanswered) (hq : q ∈ ownAcks c b) : takes c q g = false := by
  by_contra htakes
  rw [Bool.not_eq_false, takes, Bool.and_eq_true, beq_iff_eq] at htakes
  have hflight : g.inFlight = true := by
    have hopen := htakes.2
    unfold windowOpen at hopen
    exact (Bool.and_eq_true_iff.mp hopen).1
  have hacked := attemptFate_acknowledged htakes.2 htakes.1 hq
  rw [h hflight] at hacked
  cases hacked

/-- The frames that stand for a call's frame acknowledged are new ones. -/
theorem leftOfCall_acknowledged {r : Word16} (h : attemptFate c b g = .acknowledged) :
    ∀ f ∈ leftOfCall c b r g, f.inFlight = false ∧ f.backoff = 0 := by
  intro f hf
  simp only [leftOfCall, h] at hf
  split_ifs at hf
  · cases hf
  · obtain ⟨k, -, rfl⟩ := List.mem_map.mp hf
    cases k <;> exact ⟨rfl, rfl⟩

theorem leftOfOther_acknowledged {r : Word16} (h : attemptFate c b g = .acknowledged) : leftOfOther c b r g = [] := by
  simp [leftOfOther, h]

/-- The frames of the emergency controller that an ack entry may yet take. -/
theorem callLeft_takes (hi : i = true → ∀ g ∈ x, attemptFate c b g = .acknowledged) (hno : i = false → x.any (takes c q) = false) :
    ∀ f ∈ callLeft c b x i, takes c q f = false := by
  intro f hf
  cases i with
  | true =>
    obtain ⟨g, hg, hf⟩ := List.mem_flatMap.mp hf
    exact takes_waiting (leftOfCall_acknowledged (hi rfl g (Option.mem_toList.mp hg)) f hf).1
  | false =>
    have hx : x = some f := Option.mem_toList.mp hf
    have := hno rfl
    rwa [hx] at this

theorem otherLeft_takes (hj : j = true → ∀ g ∈ y, attemptFate c b g = .acknowledged) (hno : j = false → y.any (takes c q) = false) :
    ∀ f ∈ otherLeft c b y j, takes c q f = false := by
  intro f hf
  cases j with
  | true =>
    obtain ⟨g, hg, hf⟩ := List.mem_flatMap.mp hf
    rw [leftOfOther_acknowledged (hj rfl g (Option.mem_toList.mp hg))] at hf
    cases hf
  | false =>
    have hy : y = some f := Option.mem_toList.mp hf
    have := hno rfl
    rwa [hy] at this

namespace CycleFinds

theorem passes (hq : CycleFinds c b x y before after) (hmine : q ∈ ownAcks c b) : ∀ g ∈ before ++ after, takes c q g = false :=
  fun g hg => takes_unanswered (fun hflight => (hq.passed g hg hflight).1) hmine

theorem rest_cls (hq : CycleFinds c b x y before after) (hx : x = some g) {f : Frame → Frame} (hf : ∀ h, (f h).kind = h.kind) :
    ∀ h ∈ before.map f ++ otherLeft c b y j ++ after.map f, h.cls ≠ 0 := by
  obtain ⟨-, -, -, -, hcls⟩ := hq.call g hx
  have hother : ∀ h ∈ otherLeft c b y j, h.cls ≠ 0 := fun h hh => by
    cases j with
    | false => exact hcls h (by simp [show h ∈ y.toList from hh])
    | true =>
      obtain ⟨g', hg', hh⟩ := List.mem_flatMap.mp hh
      have hmine := hcls g' (by simp [hg'])
      have hkind : h.kind = g'.kind := by
        unfold leftOfOther at hh
        split at hh
        · rw [List.mem_singleton.mp hh]
        · cases hh
        · cases hh
        · split_ifs at hh
          · cases hh
          · rw [List.mem_singleton.mp hh]
            rfl
      rw [Frame.cls, hkind]
      exact hmine
  intro h hh
  simp only [List.mem_append, List.mem_map] at hh
  rcases hh with (⟨g', hg', rfl⟩ | hh) | ⟨g', hg', rfl⟩
  · rw [Frame.cls, hf]
    exact hcls g' (by simp [hg'])
  · exact hother h hh
  · rw [Frame.cls, hf]
    exact hcls g' (by simp [hg'])

theorem rest_length (hq : CycleFinds c b x y before after) (hx : x = some g) {f : Frame → Frame} :
    (before.map f ++ otherLeft c b y j ++ after.map f).length < 16 := by
  obtain ⟨-, -, -, hlen, -⟩ := hq.call g hx
  have hother : (otherLeft c b y j).length ≤ y.toList.length := by
    cases j with
    | false => exact le_rfl
    | true =>
      cases y with
      | none => exact le_rfl
      | some g' =>
        simp only [otherLeft, if_true, Option.toList_some, List.flatMap_cons, List.flatMap_nil, List.append_nil, List.length_singleton]
        unfold leftOfOther
        split <;> try split_ifs
        all_goals simp
  rw [hq.frames, hx] at hlen
  simp only [List.length_append, List.length_map, Option.toList_some, List.length_singleton] at hlen ⊢
  omega

theorem hits (hq : CycleFinds c b x y before after) : ∀ g ∈ y, g.HasItsOrigins := fun g hg => (hq.other g hg).2

end CycleFinds

/-- How many of two marks stand. -/
def marks (i j : Bool) : Nat := i.toNat + j.toNat

/-- An ack entry takes a frame, or is stray (R151). -/
theorem takeAck_mid (hq : CycleFinds c b x y before after) (hmine : q ∈ ownAcks c b) (h : CycleMid c b x y before after id i j n t)
    (hi : i = true → ∀ g ∈ x, attemptFate c b g = .acknowledged) (hj : j = true → ∀ g ∈ y, attemptFate c b g = .acknowledged) :
    ∃ m, CycleMid c b x y before after id (i || x.any (takes c q)) (j || y.any (takes c q)) m (takeAck c.number q t) ∧
      ((m = n ∧ marks (i || x.any (takes c q)) (j || y.any (takes c q)) = marks i j + 1) ∨
        (m = min 65535 (n + 1) ∧ marks (i || x.any (takes c q)) (j || y.any (takes c q)) = marks i j)) := by
  have hacks : q ∈ ownAcks c t := by rwa [ownAcks_congr h.settings]
  have hframes : t.txq.frames = callLeft c b x i ++ before ++ otherLeft c b y j ++ after := by simp [h.txq]
  have hpasses := hq.passes hmine
  by_cases hcall : i = false ∧ x.any (takes c q) = true
  · obtain ⟨rfl, htakes⟩ := hcall
    obtain ⟨g, hx, hg⟩ := (Option.any_eq_true ..).mp htakes
    have hsequence : g.sequence = some q ∧ windowOpen c.number g = true := by simpa [takes] using hg
    obtain ⟨-, -, horigins, -, -⟩ := hq.call g hx
    have hy : (j || y.any (takes c q)) = j := by
      have hno : y.any (takes c q) = false := by
        by_contra hany
        obtain ⟨g', hy, hg'⟩ := (Option.any_eq_true ..).mp (by simpa using hany)
        have hsequence' : g'.sequence = some q ∧ windowOpen c.number g' = true := by simpa [takes] using hg'
        rcases hq.distinct with hnone | hne
        · rw [hnone] at hx
          cases hx
        · rw [hx, hy] at hne
          exact hne (hsequence.1.trans hsequence'.1.symm)
      rw [hno, Bool.or_false]
    have hsettled := takeAck_call (c := c) (rest := before.map id ++ otherLeft c b y j ++ after.map id)
      (by rw [hframes, callLeft, if_neg (by decide), hx]; simp) horigins hsequence.2 hsequence.1 hacks
      (hq.rest_cls hx fun _ => rfl) (hq.rest_length hx)
    rw [htakes, hy]
    exact ⟨n, h.settle_call hq.hits hx hsettled rfl, .inl ⟨rfl, by simp [marks]; omega⟩⟩
  · have hcall' : i = false → x.any (takes c q) = false := fun hi' => by simpa [hi'] using hcall
    have hi' : (i || x.any (takes c q)) = i := by
      cases i with
      | true => rfl
      | false => exact hcall' rfl
    have hfront : ∀ f ∈ callLeft c b x i ++ before, takes c q f = false := fun f hf => by
      rcases List.mem_append.mp hf with hf | hf
      · exact callLeft_takes hi hcall' f hf
      · exact hpasses f (List.mem_append_left _ hf)
    rw [hi']
    by_cases hother : j = false ∧ y.any (takes c q) = true
    · obtain ⟨rfl, htakes⟩ := hother
      obtain ⟨g, hy, hg⟩ := (Option.any_eq_true ..).mp htakes
      have hsequence : g.sequence = some q ∧ windowOpen c.number g = true := by simpa [takes] using hg
      have hsettled := takeAck_other (c := c) (g := g) (before := callLeft c b x i ++ before) (after := after)
        (by rw [hframes, otherLeft, if_neg (by decide), hy]; simp) hfront (hq.hits g hy) hsequence.2 hsequence.1 hacks
      rw [htakes]
      refine ⟨n, h.settle_other hq.hits hy hsettled ?_, .inl ⟨rfl, by simp [marks]⟩⟩
      rw [leftOfOther_acknowledged (attemptFate_acknowledged hsequence.2 hsequence.1 hmine)]
      simp
    · have hother' : j = false → y.any (takes c q) = false := fun hj' => by simpa [hj'] using hother
      have hj' : (j || y.any (takes c q)) = j := by
        cases j with
        | true => rfl
        | false => exact hother' rfl
      have hfind : t.txq.frames.find? (fun f => f.sequence == some q && windowOpen c.number f) = none := by
        refine List.find?_eq_none.mpr fun f hf => ?_
        rw [hframes] at hf
        have hno : takes c q f = false := by
          rcases List.mem_append.mp hf with hf | hf
          · rcases List.mem_append.mp hf with hf | hf
            · exact hfront f hf
            · exact otherLeft_takes hj hother' f hf
          · exact hpasses f (List.mem_append_right _ hf)
        simpa [takes] using hno
      have hstray : takeAck c.number q t = t.modTxq fun q => { q with stray := min 65535 (n + 1) } := by
        have hcount : satAdd u16Max t.txq.stray 1 = min 65535 (n + 1) := by
          rw [h.txq]
          rfl
        rw [takeAck, hfind]
        exact congrArg (fun m => t.modTxq fun q => { q with stray := m }) hcount
      rw [hj', hstray]
      refine ⟨_, h.then_queue hq.hits ?_ (modTxq_keeps _ t), .inr ⟨rfl, rfl⟩⟩
      show ({ t.txq with stray := min 65535 (n + 1) } : Txq) = _
      rw [h.txq]

/-- The ack entries, in list order. -/
theorem takeAcks_mid (hq : CycleFinds c b x y before after) (qs : List Nat) (hmine : ∀ q ∈ qs, q ∈ ownAcks c b)
    (h : CycleMid c b x y before after id i j (min 65535 n) t)
    (hi : i = true → ∀ g ∈ x, attemptFate c b g = .acknowledged) (hj : j = true → ∀ g ∈ y, attemptFate c b g = .acknowledged) :
    ∃ m, CycleMid c b x y before after id (i || x.any fun g => qs.any (takes c · g)) (j || y.any fun g => qs.any (takes c · g))
        (min 65535 (n + m)) (qs.foldl (fun t q => takeAck c.number q t) t) ∧
      m + marks (i || x.any fun g => qs.any (takes c · g)) (j || y.any fun g => qs.any (takes c · g)) = qs.length + marks i j := by
  induction qs generalizing i j n t with
  | nil => exact ⟨0, by simpa using h, by simp⟩
  | cons q qs ih =>
    have hq' := hmine q List.mem_cons_self
    have hacked : ∀ (z : Option Frame), z.any (takes c q) = true → ∀ g ∈ z, attemptFate c b g = .acknowledged := fun z hz g hg => by
      rw [show z = some g from hg] at hz
      have hsequence : g.sequence = some q ∧ windowOpen c.number g = true := by simpa [takes] using hz
      exact attemptFate_acknowledged hsequence.2 hsequence.1 hq'
    obtain ⟨m, hmid, hm⟩ := takeAck_mid hq hq' h hi hj
    have hany : ∀ z : Option Frame, (z.any fun g => (q :: qs).any (takes c · g)) = (z.any (takes c q) || z.any fun g => qs.any (takes c · g)) :=
      fun z => by cases z <;> simp
    have hi' : (i || x.any (takes c q)) = true → ∀ g ∈ x, attemptFate c b g = .acknowledged := fun ha =>
      (Bool.or_eq_true_iff.mp ha).elim hi (hacked x)
    have hj' : (j || y.any (takes c q)) = true → ∀ g ∈ y, attemptFate c b g = .acknowledged := fun ha =>
      (Bool.or_eq_true_iff.mp ha).elim hj (hacked y)
    rw [List.foldl_cons, List.length_cons, hany, hany, ← Bool.or_assoc, ← Bool.or_assoc]
    rcases hm with ⟨rfl, hmarks⟩ | ⟨rfl, hmarks⟩
    · obtain ⟨m', hend, hcount⟩ := ih (fun q hq => hmine q (List.mem_cons_of_mem _ hq)) hmid hi' hj'
      exact ⟨m', hend, by omega⟩
    · have hsame : min 65535 (min 65535 n + 1) = min 65535 (n + 1) := by omega
      rw [hsame] at hmid
      obtain ⟨m', hend, hcount⟩ := ih (fun q hq => hmine q (List.mem_cons_of_mem _ hq)) hmid hi' hj'
      exact ⟨m' + 1, by rwa [show n + (m' + 1) = n + 1 + m' by omega], by omega⟩

/-! The windows that have closed. -/

/-- The attempt of a frame has failed (R152). -/
def failing (c : Cycle) (f : Frame) : Bool := f.inFlight && !windowOpen c.number f

theorem failing_iff (hf : g.inFlight = true) :
    failing c g = true ↔ attemptFate c b g = .failed ∨ attemptFate c b g = .spent := by
  have hopen := (windowOpen_of_fate (c := c) (t := b) hf).not
  rw [failing, hf, Bool.true_and, Bool.not_eq_true', ← Bool.not_eq_true, hopen]
  cases attemptFate c b g <;> simp

/-- A call's frame that is not there, or stays unanswered, is settled as it is. -/
theorem idle_call (h : CycleMid c b x y before after f false j n t) (hq : CycleFinds c b x y before after)
    (hno : ∀ g ∈ x, attemptFate c b g = .unanswered) : CycleMid c b x y before after f true j n t := by
  cases hx : x with
  | none =>
    subst hx
    exact ⟨h.txq, h.emc, h.keeps, h.settings, h.asks, fun ha => absurd ha (by simp [callOver]), h.quiet, h.heard⟩
  | some g =>
    have hfate : attemptFate c t g = .unanswered := by rw [attemptFate_congr h.settings, hno g hx]
    have hframes : t.txq.frames = g :: (before.map f ++ otherLeft c b y j ++ after.map f) := by
      rw [h.txq, callLeft, if_neg (by decide), hx]
      simp
    rw [← hx]
    exact h.settle_call hq.hits hx (.of_unanswered hfate hframes) rfl

theorem idle_other (h : CycleMid c b x y before after f i false n t) (hq : CycleFinds c b x y before after)
    (hno : ∀ g ∈ y, attemptFate c b g = .unanswered) : CycleMid c b x y before after f i true n t := by
  cases hy : y with
  | none =>
    subst hy
    exact ⟨h.txq, h.emc, h.keeps, h.settings, h.asks, h.asked, h.quiet, h.heard⟩
  | some g =>
    have hfate : attemptFate c t g = .unanswered := by rw [attemptFate_congr h.settings, hno g hy]
    have hleft : leftOfOther c b b.ale.rng g = [g] := by simp [leftOfOther, hno g hy]
    rw [← hy]
    refine h.settle_other hq.hits hy (.of_unanswered hfate rfl) ?_
    rw [h.txq, otherLeft, if_neg (by decide), hleft, hy]
    rfl

/-- The attempt of the call's frame, if it has failed. -/
theorem fail_call (h : CycleMid c b x y before after f i j n t) (hq : CycleFinds c b x y before after) (hf : ∀ g, (f g).kind = g.kind)
    (hi : i = x.any fun g => attemptFate c b g == .acknowledged) :
    CycleMid c b x y before after f true j n
      (((x.toList.filter (failing c)).map Frame.sequence).foldl (fun t q => failAttempt q t) t) := by
  cases hx : x with
  | none =>
    subst hx
    obtain rfl : i = false := hi
    exact idle_call h hq (fun g hg => by cases hg)
  | some g =>
    obtain ⟨hflight, hcls, horigins, -, -⟩ := hq.call g hx
    have hfails := failing_iff (c := c) (b := b) hflight
    have hi' : i = (attemptFate c b g == .acknowledged) := by rw [hi, hx]; rfl
    by_cases hfailing : failing c g = true
    · have hfate := hfails.mp hfailing
      have hi'' : i = false := by rw [hi']; rcases hfate with h | h <;> rw [h] <;> rfl
      subst hi''
      have hframes : t.txq.frames = g :: (before.map f ++ otherLeft c b y j ++ after.map f) := by
        rw [h.txq, callLeft, if_neg (by decide), hx]
        simp
      have hsettled := failAttempt_call (c := c) hframes horigins hflight hcls (by rwa [attemptFate_congr h.settings])
        (hq.rest_cls hx hf) (hq.rest_length hx)
      have hwork := h.settle_call hq.hits hx hsettled rfl
      simpa [hfailing, hx] using hwork
    · have hnone : [g].filter (failing c) = [] := by simp [hfailing]
      rw [Option.toList_some, hnone, ← hx]
      show CycleMid c b x y before after f true j n t
      cases i with
      | true => exact h
      | false =>
        refine idle_call h hq fun g' hg' => ?_
        obtain rfl : g = g' := Option.some.inj (hx.symm.trans hg')
        have hacked : attemptFate c b g ≠ .acknowledged := by simpa using hi'.symm
        rw [hfails, not_or] at hfailing
        cases hfate : attemptFate c b g <;> simp_all

theorem leftOfOther_congr {r : Word16} (h : SameSettings b t) (hwait : ∀ k : UplinkKind, k = .status ∨ k = .pollReply →
      ((∃ f ∈ t.txq.frames, f.kind = k ∧ f.inFlight = false) ↔ ∃ f ∈ b.txq.frames, f.kind = k ∧ f.inFlight = false)) :
    leftOfOther c t r g = leftOfOther c b r g := by
  have hgone : (g.hasHearer = false ∨ ((g.kind = .status ∨ g.kind = .pollReply) ∧ ∃ f ∈ t.txq.frames, f.kind = g.kind ∧ f.inFlight = false)) ↔
      g.hasHearer = false ∨ ((g.kind = .status ∨ g.kind = .pollReply) ∧ ∃ f ∈ b.txq.frames, f.kind = g.kind ∧ f.inFlight = false) :=
    or_congr_right (and_congr_right fun hk => hwait _ hk)
  simp only [leftOfOther, attemptFate_congr h, hgone]

/-- What stands for the frame of the emergency controller is of class 0, and waits unless it is the frame unanswered. -/
theorem leftOfCall_mem {r : Word16} {h : Frame} (hcls : g.kind.cls = 0) (hh : h ∈ leftOfCall c b r g) :
    h.kind.cls = 0 ∧ (h = g ∨ h.inFlight = false) := by
  have hasked : ∀ k, h ∈ askedFrames b k → h.kind.cls = 0 ∧ (h = g ∨ h.inFlight = false) := fun k hk => by
    obtain ⟨k', -, rfl⟩ := List.mem_map.mp hk
    exact ⟨askedFrame_cls k' b, .inr (askedFrame_kind k' b).2⟩
  have hretried : ∀ m, h = { g.retried r with backoff := m } → h.kind.cls = 0 ∧ (h = g ∨ h.inFlight = false) := by
    rintro m rfl
    exact ⟨hcls, .inr rfl⟩
  cases hfate : attemptFate c b g <;> simp only [leftOfCall, hfate] at hh
  · rw [List.mem_singleton.mp hh]
    exact ⟨hcls, .inl rfl⟩
  all_goals split_ifs at hh
  · cases hh
  · exact hasked _ hh
  · exact hretried _ (List.mem_singleton.mp hh)
  · exact hretried _ (List.mem_singleton.mp hh)
  · exact hretried _ (List.mem_singleton.mp hh)
  · exact hasked _ hh

/-- What has become of a frame that is passed over keeps what names it. -/
structure Passing (f : Frame → Frame) : Prop where
  kind : ∀ g, (f g).kind = g.kind
  inFlight : ∀ g, (f g).inFlight = g.inFlight
  sequence : ∀ g, (f g).sequence = g.sequence

theorem passing_passedOver : Passing passedOver := by
  refine ⟨fun g => ?_, fun g => ?_, fun g => ?_⟩ <;> unfold passedOver <;> split_ifs <;> rfl

/-- No frame in front of the other classes' frame bears its sequence. -/
theorem front_inFlightWith (hq : CycleFinds c b x y before after) (hf : Passing f) (hy : y = some g) :
    ∀ h ∈ callLeft c b x true ++ before.map f, inFlightWith g.sequence h = false := by
  intro h hh
  by_contra hmine
  obtain ⟨hflight, hsequence⟩ : h.inFlight = true ∧ h.sequence = g.sequence := by simpa [inFlightWith] using hmine
  rcases List.mem_append.mp hh with hh | hh
  · obtain ⟨g', hg', hh⟩ := List.mem_flatMap.mp hh
    have hx : x = some g' := Option.mem_toList.mp hg'
    obtain ⟨-, hcls, -⟩ := hq.call g' hx
    rcases (leftOfCall_mem hcls hh).2 with rfl | hwaits
    · rcases hq.distinct with hnone | hne
      · rw [hnone] at hx
        cases hx
      · rw [hx, hy] at hne
        exact hne hsequence
    · rw [hwaits] at hflight
      cases hflight
  · obtain ⟨g', hg', rfl⟩ := List.mem_map.mp hh
    rw [hf.inFlight] at hflight
    rw [hf.sequence] at hsequence
    exact (hq.passed g' (List.mem_append_left _ hg') hflight).2 g (by simp [hy]) hsequence

/-- A frame of a kind of class 1 waits in the midst of the cycle where it waited before. -/
theorem waits_iff (hq : CycleFinds c b x y before after) (hf : Passing f) (h : CycleMid c b x y before after f true false n t)
    {k : UplinkKind} (hk : k.cls ≠ 0) :
    (∃ g ∈ t.txq.frames, g.kind = k ∧ g.inFlight = false) ↔ ∃ g ∈ b.txq.frames, g.kind = k ∧ g.inFlight = false := by
  have hmap : ∀ l : List Frame, (∃ g ∈ l.map f, g.kind = k ∧ g.inFlight = false) ↔ ∃ g ∈ l, g.kind = k ∧ g.inFlight = false := fun l => by
    constructor
    · rintro ⟨g, hg, hkind, hwaits⟩
      obtain ⟨g', hg', rfl⟩ := List.mem_map.mp hg
      exact ⟨g', hg', (hf.kind g').symm.trans hkind, (hf.inFlight g').symm.trans hwaits⟩
    · rintro ⟨g, hg, hkind, hwaits⟩
      exact ⟨f g, List.mem_map_of_mem hg, (hf.kind g).trans hkind, (hf.inFlight g).trans hwaits⟩
  have hcall : ¬∃ g ∈ callLeft c b x true, g.kind = k ∧ g.inFlight = false := by
    rintro ⟨h, hh, hkind, -⟩
    obtain ⟨g', hg', hh⟩ := List.mem_flatMap.mp hh
    obtain ⟨-, hcls, -⟩ := hq.call g' (Option.mem_toList.mp hg')
    exact hk (hkind ▸ (leftOfCall_mem hcls hh).1)
  have hcall' : ¬∃ g ∈ x.toList, g.kind = k ∧ g.inFlight = false := by
    rintro ⟨g', hg', hkind, -⟩
    obtain ⟨-, hcls, -⟩ := hq.call g' (Option.mem_toList.mp hg')
    exact hk (hkind ▸ hcls)
  have happend : ∀ l m : List Frame, (∃ g ∈ l ++ m, g.kind = k ∧ g.inFlight = false) ↔
      (∃ g ∈ l, g.kind = k ∧ g.inFlight = false) ∨ ∃ g ∈ m, g.kind = k ∧ g.inFlight = false := fun l m => by
    simp only [List.mem_append, or_and_right, exists_or]
  rw [h.txq, hq.frames]
  simp only [happend, hmap, hcall, hcall', false_or]
  rfl

/-- The attempt of the other frame, if it has failed. -/
theorem fail_other (h : CycleMid c b x y before after f true j n t) (hq : CycleFinds c b x y before after) (hf : Passing f)
    (hj : j = y.any fun g => attemptFate c b g == .acknowledged) :
    CycleMid c b x y before after f true true n
      (((y.toList.filter (failing c)).map Frame.sequence).foldl (fun t q => failAttempt q t) t) := by
  cases hy : y with
  | none =>
    subst hy
    obtain rfl : j = false := hj
    exact idle_other h hq (fun g hg => by cases hg)
  | some g =>
    obtain ⟨hflight, hits⟩ := hq.other g hy
    have hfails := failing_iff (c := c) (b := b) hflight
    have hj' : j = (attemptFate c b g == .acknowledged) := by rw [hj, hy]; rfl
    by_cases hfailing : failing c g = true
    · have hfate := hfails.mp hfailing
      have hj'' : j = false := by rw [hj']; rcases hfate with h | h <;> rw [h] <;> rfl
      subst hj''
      have hframes : t.txq.frames = (callLeft c b x true ++ before.map f) ++ g :: after.map f := by
        rw [h.txq, otherLeft, if_neg (by decide), hy]
        simp
      have hsettled := failAttempt_other (c := c) hframes (front_inFlightWith hq hf hy) hits hflight (by rwa [attemptFate_congr h.settings])
      have hleft : leftOfOther c t t.ale.rng g = leftOfOther c b b.ale.rng g := by
        rw [h.leaves .ale (by decide)]
        exact leftOfOther_congr h.settings fun k hk => waits_iff hq hf h (by rcases hk with rfl | rfl <;> decide)
      rw [hleft] at hsettled
      have hwork := h.settle_other hq.hits hy hsettled rfl
      simpa [hfailing, hy] using hwork
    · have hnone : [g].filter (failing c) = [] := by simp [hfailing]
      rw [Option.toList_some, hnone, ← hy]
      show CycleMid c b x y before after f true true n t
      cases j with
      | true => exact h
      | false =>
        refine idle_other h hq fun g' hg' => ?_
        obtain rfl : g = g' := Option.some.inj (hy.symm.trans hg')
        have hacked : attemptFate c b g ≠ .acknowledged := by simpa using hj'.symm
        rw [hfails, not_or] at hfailing
        cases hfate : attemptFate c b g <;> simp_all

/-! The whole of it. -/

theorem acknowledged_iff (hf : g.inFlight = true) :
    ((ownAcks c b).any (takes c · g)) = (attemptFate c b g == .acknowledged) := by
  rw [Bool.eq_iff_iff, beq_iff_eq, List.any_eq_true]
  constructor
  · rintro ⟨q, hq, htakes⟩
    have hsequence : g.sequence = some q ∧ windowOpen c.number g = true := by simpa [takes] using htakes
    exact attemptFate_acknowledged hsequence.2 hsequence.1 hq
  · intro hfate
    have hopen := (windowOpen_of_fate (c := c) (t := b) hf).mpr (.inr hfate)
    rw [attemptFate, if_pos ((windowOpen_iff hf).mp hopen)] at hfate
    split_ifs at hfate with hacked
    · obtain ⟨q, hs, hq⟩ := (Option.any_eq_true ..).mp hacked
      exact ⟨q, by simpa using hq, by simp [takes, hs, hopen]⟩

theorem countBackoff_stays {f : Frame} (h : f.inFlight = true ∨ f.backoff = 0) : countBackoff f = f := by
  unfold countBackoff
  split_ifs with hflight
  · rfl
  · have hsame : f.backoff - 1 = f.backoff := by rw [h.resolve_left hflight]
    rw [hsame]

/-- The countdown of the backoffs (R151). -/
theorem count_mid (h : CycleMid c b x y before after id i j n t) (hq : CycleFinds c b x y before after)
    (hi : i = x.any fun g => attemptFate c b g == .acknowledged) (hj : j = y.any fun g => attemptFate c b g == .acknowledged) :
    CycleMid c b x y before after passedOver i j n (modFrames (fun fs => fs.map countBackoff) t) := by
  have hstays : ∀ l : List Frame, (∀ f ∈ l, f.inFlight = true ∨ f.backoff = 0) → l.map countBackoff = l := fun l hl =>
    (List.map_congr_left fun f hf => countBackoff_stays (hl f hf)).trans (List.map_id l)
  have hacked : ∀ z : Option Frame, (z.any fun g => attemptFate c b g == .acknowledged) = true → ∀ g ∈ z.toList, attemptFate c b g = .acknowledged :=
    fun z hz g hg => by
      rw [Option.mem_toList.mp hg] at hz
      simpa using hz
  have hcall : (callLeft c b x i).map countBackoff = callLeft c b x i := hstays _ fun f hf => by
    cases i with
    | false => exact .inl (hq.call f (Option.mem_toList.mp hf)).1
    | true =>
      obtain ⟨g, hg, hf⟩ := List.mem_flatMap.mp hf
      exact .inr (leftOfCall_acknowledged (hacked x hi.symm g hg) f hf).2
  have hother : (otherLeft c b y j).map countBackoff = otherLeft c b y j := hstays _ fun f hf => by
    cases j with
    | false => exact .inl (hq.other f (Option.mem_toList.mp hf)).1
    | true =>
      obtain ⟨g, hg, hf⟩ := List.mem_flatMap.mp hf
      rw [leftOfOther_acknowledged (hacked y hj.symm g hg)] at hf
      cases hf
  refine h.then_queue hq.hits ?_ (modTxq_keeps _ t)
  show ({ t.txq with frames := t.txq.frames.map countBackoff } : Txq) = _
  rw [h.txq]
  simp only [List.map_append, hcall, hother, List.map_id]
  rfl

/-- The frames whose attempts have failed are among those that the cycle settles. -/
theorem failing_frames (h : CycleMid c b x y before after id i j n t) (hq : CycleFinds c b x y before after)
    (hi : i = x.any fun g => attemptFate c b g == .acknowledged) (hj : j = y.any fun g => attemptFate c b g == .acknowledged) :
    t.txq.frames.filter (failing c) = x.toList.filter (failing c) ++ y.toList.filter (failing c) := by
  have hnot : ∀ l : List Frame, (∀ f ∈ l, failing c f = false) → l.filter (failing c) = [] := fun l hl =>
    List.filter_eq_nil_iff.mpr fun f hf => by simp [hl f hf]
  have hpassed : ∀ f ∈ before ++ after, failing c f = false := fun f hf => by
    by_contra hfails
    have hflight : f.inFlight = true := by
      rw [Bool.not_eq_false, failing, Bool.and_eq_true] at hfails
      exact hfails.1
    have hfate := (failing_iff (c := c) (b := b) hflight).mp (by simpa using hfails)
    rw [(hq.passed f hf hflight).1] at hfate
    simp at hfate
  have hacked : ∀ (z : Option Frame) (hz : ∀ g ∈ z, g.inFlight = true), (z.any fun g => attemptFate c b g == .acknowledged) = true →
      z.toList.filter (failing c) = [] := fun z hz hany => hnot _ fun g hg => by
    have hg' : g ∈ z := Option.mem_toList.mp hg
    rw [show z = some g from hg'] at hany
    have hfate : attemptFate c b g = .acknowledged := by simpa using hany
    by_contra hfails
    have := (failing_iff (c := c) (b := b) (hz g hg')).mp (by simpa using hfails)
    rw [hfate] at this
    simp at this
  have hcall : (callLeft c b x i).filter (failing c) = x.toList.filter (failing c) := by
    cases i with
    | false => rfl
    | true =>
      rw [hacked x (fun g hg => (hq.call g hg).1) hi.symm]
      refine hnot _ fun f hf => ?_
      obtain ⟨g, hg, hf⟩ := List.mem_flatMap.mp hf
      rw [Option.mem_toList.mp hg] at hi
      have hwaits := (leftOfCall_acknowledged (by simpa using hi.symm) f hf).1
      rw [failing, hwaits]
      rfl
  have hother : (otherLeft c b y j).filter (failing c) = y.toList.filter (failing c) := by
    cases j with
    | false => rfl
    | true =>
      rw [hacked y (fun g hg => (hq.other g hg).1) hj.symm]
      refine hnot _ fun f hf => ?_
      obtain ⟨g, hg, hf⟩ := List.mem_flatMap.mp hf
      rw [Option.mem_toList.mp hg] at hj
      rw [leftOfOther_acknowledged (by simpa using hj.symm)] at hf
      cases hf
  rw [h.txq]
  simp only [List.filter_append, List.map_id, hcall, hother, hnot _ fun f hf => hpassed f (List.mem_append_left _ hf),
    hnot _ fun f hf => hpassed f (List.mem_append_right _ hf), List.append_nil]

/-- The settling of a cycle: the ack entries, the countdown and the closed windows (R151, R152). -/
theorem takeCycleAcks_mid (hq : CycleFinds c b x y before after) (hstray : b.txq.stray ≤ 65535) :
    CycleMid c b x y before after passedOver true true
      (straysAfter c b ((x.toList ++ y.toList).countP fun g => attemptFate c b g == .acknowledged))
      (takeCycleAcks c.number (ownAcks c b) b) := by
  have hbegin : CycleMid c b x y before after id false false (min 65535 b.txq.stray) b := by
    rw [min_eq_right hstray]
    exact .start hq.frames
  obtain ⟨m, hacks, hcount⟩ := takeAcks_mid hq (ownAcks c b) (fun q hq => hq) hbegin (fun h => Bool.noConfusion h) fun h => Bool.noConfusion h
  have hall : ∀ z : Option Frame, (∀ g ∈ z, g.inFlight = true) → (false || z.any fun g => (ownAcks c b).any (takes c · g)) =
      z.any fun g => attemptFate c b g == .acknowledged := fun z hz => by
    rw [Bool.false_or]
    cases hz' : z with
    | none => rfl
    | some g => exact acknowledged_iff (hz g hz')
  rw [hall x fun g hg => (hq.call g hg).1, hall y fun g hg => (hq.other g hg).1] at hacks hcount
  have hheard : (x.toList ++ y.toList).countP (fun g => attemptFate c b g == .acknowledged) =
      marks (x.any fun g => attemptFate c b g == .acknowledged) (y.any fun g => attemptFate c b g == .acknowledged) := by
    have hone : ∀ z : Option Frame, z.toList.countP (fun g => attemptFate c b g == .acknowledged) =
        (z.any fun g => attemptFate c b g == .acknowledged).toNat := fun z => by
      cases z with
      | none => rfl
      | some g => cases hg : (attemptFate c b g == .acknowledged) <;> simp [hg]
    rw [List.countP_append, hone, hone, marks]
  have hm : m = (ownAcks c b).length - (x.toList ++ y.toList).countP fun g => attemptFate c b g == .acknowledged := by
    rw [hheard]
    simp only [marks, Bool.toNat_false] at hcount ⊢
    omega
  rw [hm] at hacks
  have hfailing := failing_frames hacks hq rfl rfl
  have hcounted := count_mid hacks hq rfl rfl
  have hcalled := fail_call hcounted hq passing_passedOver.kind rfl
  have hended := fail_other hcalled hq passing_passedOver rfl
  rw [← List.foldl_append, ← List.map_append, ← hfailing] at hended
  exact hended

end

end Sys2Proof.Machine
end

section
/-! SUPPORT. What a cycle sends: the slots, the hand-over and the first transmission of a bid (R148, R149, R150, R75). -/

namespace Sys2Proof.Machine

/-- A frame has been offered a slot, between the frames `l` and `m` (R150). -/
def sentOut (c : Cycle) (slot : Option Nat) (g : Frame) (l m : List Frame) (v : State) : State :=
  (modFrames (fun _ => l ++ handed c slot (sequenceTaken v.txq.frames v.ale.sequence g) g :: m) v).modAle fun a =>
    { a with
      assignments := a.assignments ++ assigned v slot (sequenceTaken v.txq.frames v.ale.sequence g),
      sequence := if slot ≠ none ∧ g.sequence = none then (sequenceTaken v.txq.frames v.ale.sequence g + 1) % 16 else a.sequence }

section
variable {c : Cycle} {v : State} {slot : Option Nat} {k : Nat} {g : Frame} {l m : List Frame}

theorem sentOut_keeps (c : Cycle) (slot : Option Nat) (g : Frame) (l m : List Frame) (v : State) :
    Keeps [.txq, .ale] v (sentOut c slot g l m v) := ((modTxq_keeps _ v).trans (modAle_keeps _ _)).mono (by decide)

theorem sentOut_hears (c : Cycle) (slot : Option Nat) (g : Frame) (l m : List Frame) (v : State) :
    Hears false [] [] v (sentOut c slot g l m v) := .of_atc rfl rfl rfl (.refl v) ⟨rfl, rfl, rfl, rfl, rfl, rfl, rfl⟩

theorem sentOut_ale (c : Cycle) (slot : Option Nat) (g : Frame) (l m : List Frame) (v : State) : (sentOut c slot g l m v).ale =
    { v.ale with
      assignments := v.ale.assignments ++ assigned v slot (sequenceTaken v.txq.frames v.ale.sequence g),
      sequence := if slot ≠ none ∧ g.sequence = none then (sequenceTaken v.txq.frames v.ale.sequence g + 1) % 16
        else v.ale.sequence } := rfl

theorem sentOut_none (hframes : v.txq.frames = l ++ g :: m) : sentOut c none g l m v = v := by
  have hsame : l ++ handed c none (sequenceTaken v.txq.frames v.ale.sequence g) g :: m = v.txq.frames := by
    rw [hframes]
    rfl
  rw [sentOut, hsame]
  simp [assigned, modFrames, State.modTxq, State.modAle]

theorem freeSequence_eq (v : State) (g : Frame) :
    g.sequence.getD (freeSequence v) = sequenceTaken v.txq.frames v.ale.sequence g := by
  rw [sequenceTaken, freeSequence]
  refine congrArg (fun p => g.sequence.getD ((List.find? p _).getD _)) (funext fun q => ?_)
  rw [List.not_any_eq_all_not]
  rfl

/-- A hand-over (R141, R150). -/
theorem handOver_eq {wanted : Frame → Bool} (hframes : v.txq.frames = l ++ g :: m) (hl : ∀ f ∈ l, wanted f = false)
    (hg : wanted g = true) (address : Nat) : handOver wanted k (layOutSlots c address) v =
      if g.sequence = none ∧ g.kind = .bid then reportFirstTransmission g (sentOut c (some k) g l m v)
      else sentOut c (some k) g l m v := by
  have hfind : v.txq.frames.find? wanted = some g := by rw [hframes, find?_first hl hg]
  rw [handOver, hfind]
  simp only [freeSequence_eq]
  have hmoved : modFrames (modifyFirst wanted fun f =>
        { f with inFlight := true, sendingCycle := (layOutSlots c address).number,
                 sequence := some (sequenceTaken v.txq.frames v.ale.sequence g) }) v =
      modFrames (fun _ => l ++ handed c (some k) (sequenceTaken v.txq.frames v.ale.sequence g) g :: m) v :=
    modFrames_congr (by rw [hframes, modifyFirst_first _ hl hg]; rfl)
  have hsent : ∀ u : State, u = modFrames (fun _ => l ++ handed c (some k) (sequenceTaken v.txq.frames v.ale.sequence g) g :: m) v →
      (u.modAle fun a => { a with
        assignments := a.assignments ++ [⟨k, k * slotLength v, sequenceTaken v.txq.frames v.ale.sequence g⟩],
        sequence := if g.sequence = none then (sequenceTaken v.txq.frames v.ale.sequence g + 1) % 16 else a.sequence }) =
          sentOut c (some k) g l m v := by
    rintro u rfl
    simp [sentOut, assigned]
  have hdone := hsent _ hmoved
  exact ite_congr rfl (fun _ => congrArg (reportFirstTransmission g) hdone) fun _ => hdone

/-! The slots. -/

theorem layOutSlots_contention {address : Nat} : (layOutSlots c address).contention = [] ↔ c.contention = 0 := by
  simp [layOutSlots]

theorem drawSlot_eq (h : c.contention ≠ 0) (v : State) (address : Nat) :
    drawSlot v (layOutSlots c address) = some (drawnSlot c v.ale.rng) := by
  have hlt : v.ale.rng.toNat % c.contention < c.contention := Nat.mod_lt _ (Nat.pos_of_ne_zero h)
  simp [drawSlot, layOutSlots, drawnSlot, hlt]

theorem layOutSlots_reserved (v : State) : (layOutSlots c (cabAddress v)).reserved = reservedSlot c v := rfl

theorem classZeroSlot_eq (v : State) (g : Frame) :
    classZeroSlot v (layOutSlots c (cabAddress v)) g = (firstSlot c v g v.ale.rng).map fun k => (k, !c.priority) := by
  have hover : backoffOver v g = true ↔ g.backoff = 0 ∨ (g.kind = .emergency ∧ v.emc.state = .alerting) := by
    simp [backoffOver]
  cases hp : c.priority with
  | true => simp [classZeroSlot, firstSlot, hp, layOutSlots]
  | false =>
    have hpriority : (layOutSlots c (cabAddress v)).priority = none := by simp [layOutSlots, hp]
    simp only [classZeroSlot, hpriority, firstSlot, hp, layOutSlots_reserved, hover, ne_eq, layOutSlots_contention, Bool.false_eq_true,
      if_false]
    split_ifs with h
    · rw [drawSlot_eq h.2]
      rfl
    · rfl

theorem headSlot_eq (v : State) (g : Frame) : headSlot v (layOutSlots c (cabAddress v)) g = otherSlot c v g v.ale.rng := by
  rw [headSlot, otherSlot, layOutSlots_reserved]
  cases reservedSlot c v with
  | some k => rfl
  | none =>
    rw [Option.none_or]
    simp only [ne_eq, layOutSlots_contention]
    split_ifs with h
    · exact drawSlot_eq h.2 v _
    · rfl

end

/-! The two sends. -/

/-- The queue that sends: the class 0 frame that waits, frames in flight, the head of the other classes, and the rest. -/
structure QueueSends (first head : Option Frame) (flying rest frames : List Frame) : Prop where
  frames : frames = first.toList ++ flying ++ head.toList ++ rest
  opens : ∀ g ∈ first, g.inFlight = false ∧ g.kind.cls = 0
  leads : ∀ g ∈ head, g.inFlight = false ∧ g.kind.cls ≠ 0
  flies : ∀ g ∈ flying, g.inFlight = true
  follows : ∀ g ∈ rest, g.inFlight = true ∨ g.kind.cls ≠ 0
  ends : head = none → rest = []

section
variable {c : Cycle} {v w : State} {first head : Option Frame} {flying rest : List Frame} {g : Frame}

/-- The class 0 frame has been offered its slot. -/
def firstSent (c : Cycle) (first head : Option Frame) (flying rest : List Frame) (v : State) : State :=
  first.elim v fun g => sentOut c (firstSlot c v g v.ale.rng) g [] (flying ++ head.toList ++ rest) v

theorem sendClassZero_eq (h : QueueSends first head flying rest v.txq.frames) :
    sendClassZero (layOutSlots c (cabAddress v)) v = (firstSent c first head flying rest v,
      decide (first.bind (fun g => firstSlot c v g v.ale.rng) ≠ none ∧ c.priority = false)) := by
  cases hfirst : first with
  | none =>
    have hfind : v.txq.frames.find? waitingClassZero = none := List.find?_eq_none.mpr fun f hf => by
      rw [h.frames, hfirst, Option.toList_none, List.nil_append] at hf
      simp only [waitingClassZero, Frame.cls, Bool.and_eq_true, beq_iff_eq, Bool.not_eq_true', not_and, Bool.not_eq_false]
      rcases List.mem_append.mp hf with hf | hf
      · rcases List.mem_append.mp hf with hf | hf
        · exact fun _ => h.flies f hf
        · exact fun hcls => absurd hcls (h.leads f (Option.mem_toList.mp hf)).2
      · exact fun hcls => (h.follows f hf).resolve_right (not_not_intro hcls)
    rw [sendClassZero, hfind]
    simp [firstSent]
  | some g =>
    obtain ⟨hwaits, hcls⟩ := h.opens g hfirst
    have hmine : waitingClassZero g = true := by simp [waitingClassZero, Frame.cls, hwaits, hcls]
    have hframes : v.txq.frames = [] ++ g :: (flying ++ head.toList ++ rest) := by simp [h.frames, hfirst]
    have hfind : v.txq.frames.find? waitingClassZero = some g := by rw [hframes, find?_first (by simp) hmine]
    rw [sendClassZero, hfind]
    simp only [classZeroSlot_eq]
    have hbid : ¬(g.sequence = none ∧ g.kind = .bid) := fun hb => by
      rw [hb.2] at hcls
      exact absurd hcls (by decide)
    cases hslot : firstSlot c v g v.ale.rng with
    | none =>
      rw [firstSent, Option.elim_some, hslot, sentOut_none hframes]
      simp [hslot]
    | some k =>
      rw [firstSent, Option.elim_some, hslot]
      simp only [Option.map_some, Option.bind_some, hslot]
      rw [handOver_eq hframes (by simp) hmine, if_neg hbid]
      cases c.priority <;> simp

/-- The head of the other classes has been offered its slot; a bid's first transmission is reported (R75). -/
def headSent (c : Cycle) (slot : Option Nat) (head : Option Frame) (l rest : List Frame) (w : State) : State :=
  head.elim w fun g => if slot ≠ none ∧ g.sequence = none ∧ g.kind = .bid then
    reportFirstTransmission g (sentOut c slot g l rest w) else sentOut c slot g l rest w

theorem sendHead_eq {l : List Frame} (hframes : w.txq.frames = l ++ head.toList ++ rest)
    (hl : ∀ f ∈ l, f.cls = 0 ∨ f.inFlight = true) (hhead : ∀ g ∈ head, g.inFlight = false ∧ g.kind.cls ≠ 0) (hends : head = none → rest = []) :
    sendHead (layOutSlots c (cabAddress w)) w = headSent c
      (if (w.txq.frames.any fun f => f.cls != 0 && f.inFlight) = true then none else head.bind fun g => otherSlot c w g w.ale.rng)
      head l rest w := by
  have hfront : ∀ f ∈ l, waitingOther f = false := fun f hf => by
    rcases hl f hf with h | h <;> simp [waitingOther, h]
  rw [sendHead]
  cases hh : head with
  | none =>
    have hfind : w.txq.frames.find? waitingOther = none := List.find?_eq_none.mpr fun f hf => by
      rw [hframes, hends hh, hh, Option.toList_none, List.append_nil, List.append_nil] at hf
      simp [hfront f hf]
    rw [hfind]
    simp [headSent]
  | some g =>
    obtain ⟨hwaits, hcls⟩ := hhead g hh
    have hmine : waitingOther g = true := by simp [waitingOther, Frame.cls, hwaits, hcls]
    have hframes' : w.txq.frames = l ++ g :: rest := by simp [hframes, hh]
    have hfind : w.txq.frames.find? waitingOther = some g := by rw [hframes', find?_first hfront hmine]
    rw [hfind]
    simp only [headSlot_eq, headSent, Option.elim_some, Option.bind_some]
    by_cases hback : (w.txq.frames.any fun f => f.cls != 0 && f.inFlight) = true
    · rw [if_pos hback, if_pos hback, sentOut_none hframes']
      simp
    · rw [if_neg hback, if_neg hback]
      cases hslot : otherSlot c w g w.ale.rng with
      | none =>
        rw [sentOut_none hframes']
        simp
      | some k =>
        simp only [handOver_eq hframes' hfront hmine, ne_eq, reduceCtorEq, not_false_eq_true, true_and]

end

end Sys2Proof.Machine
end

section
/-! SUPPORT. The sends of a cycle together (R148, R149). -/

namespace Sys2Proof.Machine

section
variable {c : Cycle} {s v : State} {first head : Option Frame} {flying rest : List Frame} {g : Frame}

/-- The slot of the class 0 frame that waits. -/
def slotFirst (c : Cycle) (first : Option Frame) (v : State) : Option Nat := first.bind fun g => firstSlot c v g v.ale.rng

/-- Its sequence. -/
def sequenceFirst (first : Option Frame) (v : State) : Nat := (first.map (sequenceTaken v.txq.frames v.ale.sequence)).getD 0

/-- The sequence counter after it. -/
def counterFirst (c : Cycle) (first : Option Frame) (v : State) : Nat :=
  if slotFirst c first v ≠ none ∧ first.bind Frame.sequence = none then (sequenceFirst first v + 1) % 16 else v.ale.sequence

/-- The frames in front of the head of the other classes. -/
def ledFrames (c : Cycle) (first : Option Frame) (flying : List Frame) (v : State) : List Frame :=
  first.toList.map (handed c (slotFirst c first v) (sequenceFirst first v)) ++ flying

/-- The slot of the head of the other classes. -/
def slotHead (c : Cycle) (first head : Option Frame) (v : State) : Option Nat :=
  if headHeldBack v.txq.frames = true ∨ (slotFirst c first v ≠ none ∧ c.priority = false) then none
  else head.bind fun g => otherSlot c v g v.ale.rng

/-- Its sequence. -/
def sequenceHead (c : Cycle) (first head : Option Frame) (flying rest : List Frame) (v : State) : Nat :=
  (head.map (sequenceTaken (ledFrames c first flying v ++ head.toList ++ rest) (counterFirst c first v))).getD 0

/-- What the two sends leave, but for the report of a bid's first transmission. -/
def bothSent (c : Cycle) (first head : Option Frame) (flying rest : List Frame) (v : State) : State :=
  head.elim (firstSent c first head flying rest v) fun g =>
    sentOut c (slotHead c first head v) g (ledFrames c first flying v) rest (firstSent c first head flying rest v)

theorem firstSent_keeps : Keeps [.txq, .ale] v (firstSent c first head flying rest v) := by
  cases first with
  | none => exact (Keeps.refl [] v).mono (by decide)
  | some g => exact sentOut_keeps c _ g _ _ v

theorem firstSent_hears : Hears false [] [] v (firstSent c first head flying rest v) := by
  cases first with
  | none => exact .refl v
  | some g => exact sentOut_hears c _ g _ _ v

theorem bothSent_keeps : Keeps [.txq, .ale] v (bothSent c first head flying rest v) := by
  cases head with
  | none => exact firstSent_keeps
  | some g => exact (firstSent_keeps.trans (sentOut_keeps c _ g _ rest _)).mono (by decide)

theorem bothSent_hears : Hears false [] [] v (bothSent c first head flying rest v) := by
  cases head with
  | none => exact firstSent_hears
  | some g => exact firstSent_hears.trans (sentOut_hears c _ g _ rest _)

theorem firstSent_txq (h : QueueSends first head flying rest v.txq.frames) : (firstSent c first head flying rest v).txq =
    { v.txq with frames := ledFrames c first flying v ++ head.toList ++ rest } := by
  cases hfirst : first with
  | none =>
    have hsame : ledFrames c none flying v ++ head.toList ++ rest = v.txq.frames := by rw [h.frames, hfirst]; rfl
    rw [hsame]
    rfl
  | some g =>
    simp only [firstSent, Option.elim_some, ledFrames, slotFirst, sequenceFirst, Option.toList_some, List.map_cons, List.map_nil,
      Option.bind_some, Option.map_some, Option.getD_some, List.append_assoc]
    rfl

theorem firstSent_ale : (firstSent c first head flying rest v).ale =
    { v.ale with
      assignments := v.ale.assignments ++ assigned v (slotFirst c first v) (sequenceFirst first v),
      sequence := counterFirst c first v } := by
  cases hfirst : first with
  | none => simp [firstSent, slotFirst, counterFirst, assigned]
  | some g => rfl

theorem bothSent_txq (h : QueueSends first head flying rest v.txq.frames) : (bothSent c first head flying rest v).txq =
    { v.txq with frames := ledFrames c first flying v ++
        head.toList.map (handed c (slotHead c first head v) (sequenceHead c first head flying rest v)) ++ rest } := by
  have hfirst := firstSent_txq (c := c) h
  have hale := firstSent_ale (c := c) (v := v) (first := first) (head := head) (flying := flying) (rest := rest)
  cases hhead : head with
  | none =>
    rw [hhead] at hfirst
    exact hfirst
  | some g =>
    rw [hhead] at hfirst hale
    rw [bothSent, Option.elim_some]
    show ({ (firstSent c first (some g) flying rest v).txq with frames := _ } : Txq) = _
    rw [hfirst, hale]
    simp [sequenceHead]

theorem bothSent_ale (h : QueueSends first head flying rest v.txq.frames) : (bothSent c first head flying rest v).ale =
    { v.ale with
      assignments := v.ale.assignments ++ assigned v (slotFirst c first v) (sequenceFirst first v) ++
        assigned v (slotHead c first head v) (sequenceHead c first head flying rest v),
      sequence := if slotHead c first head v ≠ none ∧ head.bind Frame.sequence = none then
        (sequenceHead c first head flying rest v + 1) % 16 else counterFirst c first v } := by
  have hfirst := firstSent_txq (c := c) h
  have hale := firstSent_ale (c := c) (v := v) (first := first) (head := head) (flying := flying) (rest := rest)
  have hkeeps : Keeps [.txq, .ale] v (firstSent c first head flying rest v) := firstSent_keeps
  cases hhead : head with
  | none =>
    rw [hhead] at hale
    have hslot : slotHead c first none v = none := by unfold slotHead; split_ifs <;> rfl
    rw [bothSent, Option.elim_none, hale, hslot]
    simp [assigned]
  | some g =>
    rw [hhead] at hfirst hale hkeeps
    have hmem : (firstSent c first (some g) flying rest v).mem = v.mem := hkeeps .mem (by decide)
    have hassigned : ∀ slot q, assigned (firstSent c first (some g) flying rest v) slot q = assigned v slot q := fun slot q => by
      simp only [assigned, slotLength, setting16, hmem]
    rw [bothSent, Option.elim_some, sentOut_ale, hassigned, hfirst, hale]
    simp [sequenceHead]

/-- The queue answers a slot map (R148, R149). -/
theorem offerSlots_eq (h : QueueSends first head flying rest v.txq.frames) :
    offerSlots (layOutSlots c (cabAddress v)) v =
      headSent c (slotHead c first head v) head (ledFrames c first flying v) rest (firstSent c first head flying rest v) := by
  let w := firstSent c first head flying rest v
  have hw : w.txq.frames = ledFrames c first flying v ++ head.toList ++ rest := congrArg Txq.frames (firstSent_txq h)
  have hkeeps : Keeps [.txq, .ale] v w := firstSent_keeps
  have hmem : w.mem = v.mem := hkeeps .mem (by decide)
  have haddress : cabAddress w = cabAddress v := by simp only [cabAddress, setting16, hmem]
  have hrng : w.ale.rng = v.ale.rng := by rw [show w.ale = _ from firstSent_ale]
  have hsend : sendClassZero (layOutSlots c (cabAddress v)) v = (w, decide (slotFirst c first v ≠ none ∧ c.priority = false)) :=
    sendClassZero_eq h
  have hfront : ∀ f ∈ ledFrames c first flying v, f.cls = 0 ∨ f.inFlight = true := fun f hf => by
    rcases List.mem_append.mp hf with hf | hf
    · obtain ⟨g, hg, rfl⟩ := List.mem_map.mp hf
      left
      have hcls := (h.opens g (Option.mem_toList.mp hg)).2
      unfold handed
      split_ifs <;> exact hcls
    · exact .inr (h.flies f hf)
  rw [offerSlots, hsend]
  show (if decide (slotFirst c first v ≠ none ∧ c.priority = false) = true then w else sendHead (layOutSlots c (cabAddress v)) w) =
    headSent c (slotHead c first head v) head (ledFrames c first flying v) rest w
  by_cases hused : slotFirst c first v ≠ none ∧ c.priority = false
  · have hslot : slotHead c first head v = none := if_pos (.inr hused)
    rw [if_pos (decide_eq_true hused), hslot]
    cases hhead : head with
    | none => rfl
    | some g =>
      rw [headSent, Option.elim_some, if_neg fun hno => hno.1 rfl]
      refine (sentOut_none ?_).symm
      rw [hw, hhead]
      simp
  · have hback : (w.txq.frames.any fun f => f.cls != 0 && f.inFlight) = headHeldBack v.txq.frames := by
      have hled : ∀ l : List Frame, (∀ f ∈ l, f.cls = 0) → (l.any fun f => f.cls != 0 && f.inFlight) = false := fun l hl =>
        List.any_eq_false.mpr fun f hf => by simp [hl f hf]
      have hopens : ∀ f ∈ first.toList, f.cls = 0 := fun f hf => (h.opens f (Option.mem_toList.mp hf)).2
      have hopens' : ∀ f ∈ first.toList.map (handed c (slotFirst c first v) (sequenceFirst first v)), f.cls = 0 := fun f hf => by
        obtain ⟨g, hg, rfl⟩ := List.mem_map.mp hf
        have hcls := hopens g hg
        unfold handed
        split_ifs <;> exact hcls
      have hcomm : headHeldBack v.txq.frames = v.txq.frames.any fun f => f.cls != 0 && f.inFlight := by
        simp only [headHeldBack, Bool.and_comm]
      rw [hcomm, hw, h.frames, ledFrames]
      simp only [List.any_append, hled _ hopens, hled _ hopens']
    have hother : ∀ g, otherSlot c w g w.ale.rng = otherSlot c v g v.ale.rng := fun g => by
      rw [hrng]
      simp only [otherSlot, reservedSlot, haddress]
    rw [if_neg (decide_eq_true_iff.not.mpr hused), ← haddress]
    refine (sendHead_eq hw hfront h.leads h.ends).trans ?_
    have hslot : slotHead c first head v = if (w.txq.frames.any fun f => f.cls != 0 && f.inFlight) = true then none
        else head.bind fun g => otherSlot c w g w.ale.rng := by
      simp only [slotHead, hback, hother, hused, or_false]
    rw [hslot]

end

end Sys2Proof.Machine
end

section
/-! SUPPORT. A cycle from its arrival to the end of its settling (R133, R138, R142). -/

namespace Sys2Proof.Machine

theorem randomNext_eq {a r : Word16} (h : RandomNext a r) : r = stepRng a := by
  obtain ⟨htop, hrest⟩ := h
  obtain ⟨htop', hrest'⟩ := Tests.witness_CycleSendsAndSettles_random a
  refine BitVec.eq_of_getLsbD_eq fun i hi => ?_
  rcases Nat.lt_or_ge i 15 with h | h
  · rw [hrest i h, hrest' i h]
  · obtain rfl : i = 15 := by omega
    rw [htop, htop']

/-- The part once a cycle has been marked, before it settles (R133). -/
def cycleBegun (c : Cycle) (s : State) : State := cycleMarked c (linkChange .up (watched (resumeHunting s)))

/-- The part once a cycle has settled (R151, R152), MODEM_READY as the cycle finds it. -/
def cycleSettled (c : Cycle) (ready : Bool) (s : State) : State :=
  (if addressGood (cycleBegun c s) = true then takeCycleAcks c.number (ownAcks c (cycleBegun c s)) (cycleBegun c s)
    else cycleBegun c s).modPins fun p => { p with modemReady := ready }

theorem takeCycle_settled (c : Cycle) (ready : Bool) (s : State) : takeCycle c ready (resumeHunting s) =
    if ready = true then
      if addressGood (cycleSettled c ready s) = true then
        offerSlots (layOutSlots c (cabAddress (cycleSettled c ready s))) (cycleSettled c ready s)
      else cycleSettled c ready s
    else recordFault .modemNotReady 0 (cycleSettled c ready s) := rfl

/-- No report is due at a change to UP (R42, R54). -/
def NoReportDue (s : State) : Prop :=
  s.ale.link ≠ .up → s.dsc.upSeen = true ∧ s.mtc.totals.reportState ≠ .unsent ∧ ∀ e, (s.mtc.tripLog.get e).sendState ≠ .unsent

/-- The channel of a change to UP. -/
def linkChannels (s : State) : List Channel := if s.ale.link = .up then [] else [.link]

section
variable {c : Cycle} {s t b : State}

theorem linkChange_up (h : NoReportDue s) : linkChange .up (watched (resumeHunting s)) =
    if s.ale.link = .up then watched (resumeHunting s) else cycleUp s := by
  split_ifs with hlink
  · exact if_pos hlink
  · obtain ⟨hseen, hshift, htrips⟩ := h hlink
    obtain ⟨hk, -, -, -⟩ := cycleUp_stands s
    have hmtc : (cycleUp s).mtc = s.mtc := hk .mtc (by decide)
    have hdsc : (cycleUp s).dsc = s.dsc := hk .dsc (by decide)
    have hno : upOrderShows (cycleUp s) = false := by simp [upOrderShows, hdsc, hseen]
    have hreports : requeueReports (cycleUp s) = cycleUp s :=
      requeueReports_settled (by rw [hmtc]; exact hshift) (by rw [hmtc]; exact htrips)
    have hchange : linkChange .up (watched (resumeHunting s)) = reportUp (cycleUp s) := if_neg hlink
    rw [hchange, reportUp_plain hno, hreports, reportFirstUp_seen (by rw [hdsc]; exact hseen)]

/-- What stands once a cycle has been marked. -/
structure Begun (c : Cycle) (r : Word16) (s b : State) : Prop where
  keeps : Keeps [.ale, .atc] s b
  ale : b.ale = { s.ale with
    receiver := .hunting, window := none, link := .up, rng := r, fadeExpiry := some (3 * cyclePeriod s),
    lossExpiry := some (10 * cyclePeriod s), lastCycle := c.number, cycleHeard := true, assignments := [] }
  hears : Hears (decide (s.ale.link ≠ .up)) [] (linkChannels s) s b
  still : s.ale.link = .up → b.atc = s.atc

theorem cycleBegun_begun (h : NoReportDue s) : Begun c (stepRng s.ale.rng) s (cycleBegun c s) := by
  have hu : Keeps [.ale] s (watched (resumeHunting s)) :=
    ((resumeHunting_keeps s).trans ((modAle_keeps (fun a => { a with rng := stepRng a.rng }) _).trans (modAle_keeps _ _))).mono
      (by decide)
  rw [cycleBegun, linkChange_up h]
  by_cases hlink : s.ale.link = .up
  · rw [if_pos hlink]
    refine ⟨(hu.trans (modAle_keeps _ _)).mono (by decide), ?_, ?_, fun _ => rfl⟩
    · rw [← hlink]
      rfl
    · rw [linkChannels, if_pos hlink, decide_eq_false (not_not_intro hlink)]
      exact .of_atc rfl rfl rfl (.refl s) ⟨rfl, rfl, rfl, rfl, rfl, rfl, rfl⟩
  · rw [if_neg hlink]
    obtain ⟨hk, hale, hatt, hnow⟩ := cycleUp_stands s
    refine ⟨(hk.trans (modAle_keeps _ _)).mono (by decide), ?_, ?_, fun h => absurd h hlink⟩
    · exact (congrArg (fun a : Ale => { a with lastCycle := c.number, cycleHeard := true, assignments := [] }) hale).trans rfl
    · rw [linkChannels, if_neg hlink, decide_eq_true hlink]
      have hmarked : Hears false [] [] (cycleUp s) (cycleMarked c (cycleUp s)) :=
        .of_atc rfl rfl rfl (.refl _) ⟨rfl, rfl, rfl, rfl, rfl, rfl, rfl⟩
      exact ((Hears.of_judged hatt (by rw [hk .frc (by decide)]) hnow).trans hmarked).congr fun c => by simp

/-! What is said of the state that the cycle found. -/

/-- The cycle has ended the call. -/
def callEnded (c : Cycle) (s : State) (x : Option Frame) : Bool := x.any (callEnds c s)

/-- The other frame and its outcome. -/
def outcomeHeardAt (c : Cycle) (s : State) (y : Option Frame) : Option (Frame × TxOutcome) :=
  y.bind fun g => (outcomeAt c s g).map fun o => (g, o)

/-- The channels that a cycle sets whatever the outcome of the other frame. -/
def cycleChannels (c : Cycle) (s : State) (x : Option Frame) : List Channel :=
  linkChannels s ++ if callEnded c s x = true then [.emergency] else []

/-- What a cycle has done to the call, and what the origins of the other frame have heard. -/
structure CycleDone (c : Cycle) (s : State) (x y : Option Frame) (t : State) : Prop where
  emc : ∀ g ∈ x, t.emc = emcAfterCycle c s g
  idle : x = none → t.emc = s.emc
  asks : callEnded c s x = true → AsksCommit s t
  quiet : outcomeHeardAt c s y = none →
    Hears (decide (s.ale.link ≠ .up) || callEnded c s x) [] (cycleChannels c s x) s t
  heard : ∀ p ∈ outcomeHeardAt c s y, HeardWith (fun judged ds l =>
    Hears (judged || (decide (s.ale.link ≠ .up) || callEnded c s x)) ds (l ++ cycleChannels c s x) s t) p.1 p.2 s t

theorem Begun.settings {r : Word16} (h : Begun c r s b) : SameSettings s b := h.hears.attends.settings

section
variable {x y : Option Frame} {before after : List Frame} {f : Frame → Frame} {n : Nat} {r : Word16}

theorem Begun.over (h : Begun c r s b) : callOver c b x true = callEnded c s x := by
  have hemc : b.emc = s.emc := h.keeps .emc (by decide)
  rw [CycleMid.callOver_true]
  cases x with
  | none => rfl
  | some g => exact callEnds_congr h.settings (by rw [hemc])

theorem Begun.outcome (h : Begun c r s b) : otherHeard c b y true = outcomeHeardAt c s y := by
  simp only [otherHeard, if_true, outcomeHeardAt, outcomeAt, attemptFate_congr h.settings]

/-- The settling, seen from the cycle's arrival. -/
theorem CycleMid.done (hb : Begun c r s b) (h : CycleMid c b x y before after f true true n t) (hits : ∀ g ∈ y, g.HasItsOrigins) :
    CycleDone c s x y t := by
  have hemc : b.emc = s.emc := hb.keeps .emc (by decide)
  have hcps : b.cps = s.cps := hb.keeps .cps (by decide)
  have hover : callOver c b x true = callEnded c s x := hb.over
  have hout : otherHeard c b y true = outcomeHeardAt c s y := hb.outcome
  have hchannels : ∀ d, d ∈ linkChannels s ++ callChannels c b x true ↔ d ∈ cycleChannels c s x := fun d => by
    rw [callChannels, hover, cycleChannels]
  refine ⟨fun g hg => ?_, fun hx => ?_, fun ha => ?_, fun hno => ?_, fun p hp => ?_⟩
  · rw [h.emc, callEmc, if_pos rfl, show x = some g from hg]
    exact emcAfterCycle_congr hb.settings hemc
  · rw [h.emc, callEmc, if_pos rfl, hx]
    exact hemc
  · rw [← hover] at ha
    have hasks := h.asked ha
    rwa [AsksCommit, hcps] at hasks
  · have hq := h.quiet (hout.trans hno)
    rw [hover] at hq
    exact (hb.hears.trans hq).congr fun d => hchannels d
  · rw [← hout] at hp
    have hall := h.heard p hp
    refine hall.imp (CycleMid.hits_of_heard hits hp) (fun judged ds l hl => ?_) ⟨(hb.keeps .mem (by decide)).symm, rfl⟩
      ⟨(hb.keeps .mst (by decide)).symm, rfl⟩ ⟨(hb.keeps .mtc (by decide)).symm, rfl⟩ (fun ha => by rwa [AsksCommit, hcps] at ha)
      fun _ _ _ => ⟨⟨(hb.keeps .oft (by decide)).symm, rfl⟩, (hb.keeps .dsc (by decide)).symm, rfl⟩
    rw [hover] at hl
    have hboth := (hb.hears.trans hl).congr (cs' := l ++ cycleChannels c s x) fun d => by
      have hd := hchannels d
      simp only [List.mem_append] at hd ⊢
      tauto
    rw [List.nil_append, Bool.or_left_comm] at hboth
    exact hboth

end

end

end Sys2Proof.Machine
end

section
/-! SUPPORT. The first transmission of a bid within a cycle (R75). -/

namespace Sys2Proof.Machine

/-- A bid's entry once its frame has gone out, with this award wait (R75). -/
def entrySent (wait : Nat) (x : OfferEntry) : OfferEntry :=
  { x with state := .bidSent, bidFrame := .transmitted, awardRemaining := wait }

/-- The offer table then. -/
def tableSent (e : Fin 8) (wait : Nat) (o : Oft) : Oft :=
  { o with entries := o.entries.set e.val (entrySent wait (o.entries.get e)) e.isLt }

section
variable {e z : Fin 8} {wait n : Nat} {s t u : State} {o : TxOutcome} {y : Frame}

theorem tableSent_self (e : Fin 8) (wait : Nat) (o : Oft) : (tableSent e wait o).entries.get e = entrySent wait (o.entries.get e) := by
  simp [tableSent, Vector.get_eq_getElem]

theorem tableSent_ne (h : z ≠ e) (wait : Nat) (o : Oft) : (tableSent e wait o).entries.get z = o.entries.get z := by
  have hne : e.val ≠ z.val := fun he => h (Fin.ext he.symm)
  simp [tableSent, Vector.get_eq_getElem, Vector.getElem_set_ne, hne]

theorem bidSent_oft (e : Fin 8) (s : State) : (bidSent e s).oft = tableSent e (clamp 5 120 (setting s 0x0A)) s.oft := rfl

/-- The change of one entry does not depend on the report. -/
theorem onlyOffer_tableSent (h : OnlyOffer z s u) {s' : State} (hs : s'.oft = tableSent e wait s.oft) (ht : t.oft = tableSent e wait u.oft) :
    OnlyOffer z s' t := by
  obtain ⟨hrest, hothers⟩ := h
  refine ⟨?_, fun x hx => ?_⟩
  · rw [ht, hs]
    exact congrArg (fun o : Oft => { o with entries := (tableSent e wait u.oft).entries }) hrest
  · rw [ht, hs]
    by_cases hxe : x = e
    · rw [hxe, tableSent_self, tableSent_self, hothers e (hxe ▸ hx)]
    · rw [tableSent_ne hxe, tableSent_ne hxe, hothers x hx]

/-- A frame that names an offer entry is a bid or a refusal. -/
theorem Frame.HasItsOrigins.refuse_of_offer (hits : y.HasItsOrigins) {m : Nat} (hy : y.origins = [⟨.offer e m, false⟩])
    (hbid : y.kind = .bid → ∀ l ∈ y.origins, ∀ m, l.origin ≠ .offer e m) : y.kind = .refuse := by
  have hno : y.kind ≠ .bid := fun hkind => hbid hkind _ (by rw [hy]; exact List.mem_cons_self) m rfl
  unfold Frame.HasItsOrigins at hits
  rw [hy] at hits
  cases hkind : y.kind <;> simp_all

/-- What the origins of another frame have heard does not depend on the report. -/
theorem HeardWith.bidSent {att : Bool → List Nat → List Channel → Prop} (h : HeardWith att y o s u) (hits : y.HasItsOrigins)
    (hstate : (s.oft.entries.get e).state = .bidQueued)
    (hbid : y.kind = .bid → ∀ l ∈ y.origins, ∀ m, l.origin ≠ .offer e m) (hoft : t.oft = tableSent e (clamp 5 120 (setting s 0x0A)) u.oft)
    (hk : Keeps [.oft, .atc, .pins] u t) : HeardWith att y o (bidSent e s) t := by
  have hs := bidSent_oft e s
  by_cases hoffer : ∃ z m, y.origins = [⟨.offer z m, false⟩]
  · obtain ⟨z, m, hy⟩ := hoffer
    have hdsc : t.dsc = u.dsc := hk .dsc (by decide)
    simp only [HeardWith, hy] at h ⊢
    have hsdsc : (Machine.bidSent e s).dsc = s.dsc := rfl
    rw [hdsc, hsdsc]
    by_cases hze : z = e
    · subst hze
      have hrefuse := hits.refuse_of_offer hy hbid
      have hentry : (Machine.bidSent z s).oft.entries.get z = entrySent (clamp 5 120 (setting s 0x0A)) (s.oft.entries.get z) := by
        rw [hs, tableSent_self]
      have hheld : (s.oft.entries.get z).state ≠ .empty := by rw [hstate]; decide
      rw [hentry]
      by_cases hnumber : (s.oft.entries.get z).number = m
      · rw [if_neg (by simp [entrySent, hnumber]), if_pos hrefuse]
        rw [if_neg (by simp [hheld, hnumber]), if_pos hrefuse] at h
        obtain ⟨honly, hafter, hlast⟩ := h
        refine ⟨onlyOffer_tableSent honly hs hoft, ?_, hlast⟩
        rw [hoft, tableSent_self, hafter]
        rfl
      · rw [if_pos (.inr hnumber)]
        rw [if_pos (.inr hnumber)] at h
        refine ⟨?_, h.2⟩
        rw [hoft, hs, h.1]
    · have hentry : (Machine.bidSent e s).oft.entries.get z = s.oft.entries.get z := by rw [hs, tableSent_ne hze]
      have hafter : t.oft.entries.get z = u.oft.entries.get z := by rw [hoft, tableSent_ne hze]
      rw [hentry, hafter]
      exact ite_of_ite h (fun ⟨hsame, hlast⟩ => ⟨by rw [hoft, hs, hsame], hlast⟩)
        fun ⟨honly, hlast⟩ => ⟨onlyOffer_tableSent honly hs hoft, hlast⟩
  · exact h.imp hits (fun _ _ _ h => h) ⟨rfl, hk .mem (by decide)⟩ ⟨rfl, hk .mst (by decide)⟩ ⟨rfl, hk .mtc (by decide)⟩
      (fun ha => by rw [AsksCommit, hk .cps (by decide)]; exact ha) fun z m hy => absurd ⟨z, m, hy⟩ hoffer

/-- The entry of a bid that goes out has heard of no frame that would have changed its state. -/
theorem HeardWith.keeps_bid {att : Bool → List Nat → List Channel → Prop} (h : HeardWith att y o s u) (hits : y.HasItsOrigins)
    (hbid : y.kind = .bid → ∀ l ∈ y.origins, ∀ m, l.origin ≠ .offer e m) (hk : .oft ∉ y.heardIn → u.oft = s.oft) :
    (u.oft.entries.get e).state = (s.oft.entries.get e).state ∧ (u.oft.entries.get e).number = (s.oft.entries.get e).number := by
  by_cases hoffer : ∃ z m, y.origins = [⟨.offer z m, false⟩]
  · obtain ⟨z, m, hy⟩ := hoffer
    simp only [HeardWith, hy] at h
    by_cases hgone : (s.oft.entries.get z).state = .empty ∨ (s.oft.entries.get z).number ≠ m
    · rw [if_pos hgone] at h
      rw [h.1]
      exact ⟨rfl, rfl⟩
    · rw [if_neg hgone] at h
      obtain ⟨⟨-, hothers⟩, h⟩ := h
      by_cases hze : e = z
      · subst hze
        have hrefuse := hits.refuse_of_offer hy hbid
        rw [if_pos hrefuse] at h
        rw [h.1]
        exact ⟨rfl, rfl⟩
      · rw [hothers e hze]
        exact ⟨rfl, rfl⟩
  · have hno : .oft ∉ y.heardIn := by
      intro hin
      rw [y.heardIn_eq] at hin
      obtain ⟨l, hl, hin⟩ := List.mem_flatMap.mp hin
      split_ifs at hin with hgone
      · cases hin
      · cases horigin : l.origin with
        | offer z m =>
          have hlink : l = ⟨.offer z m, false⟩ := by
            obtain ⟨lo, ld⟩ := l
            simp_all
          refine hoffer ⟨z, m, ?_⟩
          obtain ⟨g, gone, hx, -, -⟩ | ⟨i, r, gone, hx⟩ := hits.shape
          · rw [hx, List.mem_singleton] at hl
            rw [hx, ← hl, hlink]
          · rw [hx] at hl
            simp [hlink] at hl
        | record _ | inbox _ | trip _ | lastShift | emergency | dispatch | receipts | refusals =>
          rw [horigin] at hin
          simp [Origin.heardIn] at hin
    rw [hk hno]
    exact ⟨rfl, rfl⟩

/-- The report of a first transmission (R75). -/
theorem reportFirstTransmission_bid (hy : y.origins = [{ origin := .offer e n, detached := false }])
    (hstate : (u.oft.entries.get e).state = .bidQueued) (hnumber : (u.oft.entries.get e).number = n) :
    reportFirstTransmission y u = updateOffer e (entrySent (awardWait u)) u := by
  rw [reportFirstTransmission, hy, List.foldl_cons, List.foldl_nil]
  exact if_pos ⟨hstate, hnumber⟩

theorem updateOffer_sent (e : Fin 8) (wait : Nat) (u : State) : (updateOffer e (entrySent wait) u).oft = tableSent e wait u.oft :=
  rejudge_keeps _ .oft (by decide)

end

end Sys2Proof.Machine
end

section
/-! SUPPORT. The cycle once it has settled, as O48 says it. -/

namespace Sys2Proof.Machine

/-- What the settling leaves in the queue (R151, R152). -/
def cycleLeft (c : Cycle) (s : State) (r : Word16) (x y : Option Frame) (before after : List Frame) : List Frame :=
  x.toList.flatMap (leftOfCall c s r) ++ before.map passedOver ++ y.toList.flatMap (leftOfOther c s r) ++ after.map passedOver

/-- How many ack entries have acknowledged a frame (R151). -/
def cycleHeardCount (c : Cycle) (s : State) (x y : Option Frame) : Nat :=
  (x.toList ++ y.toList).countP fun g => attemptFate c s g == .acknowledged

/-- The parts that a cycle may change. -/
def cycleParts (c : Cycle) (s : State) (x y : Option Frame) : List Part :=
  [.txq, .ale, .pins] ++ (if x = none then [] else [.emc]) ++ (if cycleChannels c s x = [] then [] else [.atc]) ++
    (if callEnded c s x = true then [.cps] else []) ++ (outcomeHeardAt c s y).toList.flatMap fun o => o.1.heardIn

/-- The receiver and the link after a cycle (R133, R138). -/
def cycleAle (c : Cycle) (s : State) (r : Word16) (assignments : List Assignment) (sequence : Nat) : Ale :=
  { s.ale with
    receiver := .hunting, window := none, link := .up, rng := r, fadeExpiry := some (3 * cyclePeriod s),
    lossExpiry := some (10 * cyclePeriod s), lastCycle := c.number, cycleHeard := true,
    assignments := assignments, sequence := sequence }

section
variable {c : Cycle} {s t u v b : State} {x y : Option Frame} {before after : List Frame} {r : Word16} {p : Part}

theorem mem_cycleParts : p ∈ cycleParts c s x y ↔ (p = .txq ∨ p = .ale ∨ p = .pins) ∨ (x ≠ none ∧ p = .emc) ∨
    (cycleChannels c s x ≠ [] ∧ p = .atc) ∨ (callEnded c s x = true ∧ p = .cps) ∨
      ∃ o ∈ outcomeHeardAt c s y, p ∈ o.1.heardIn := by
  have hx : p ∈ (if x = none then [] else [Part.emc]) ↔ x ≠ none ∧ p = .emc := by split_ifs with h <;> simp [h]
  have hatc : p ∈ (if cycleChannels c s x = [] then [] else [Part.atc]) ↔ cycleChannels c s x ≠ [] ∧ p = .atc := by
    split_ifs with h <;> simp [h]
  have hcps : p ∈ (if callEnded c s x = true then [Part.cps] else []) ↔ callEnded c s x = true ∧ p = .cps := by
    split_ifs with h <;> simp [h]
  simp only [cycleParts, List.mem_append, List.mem_flatMap, Option.mem_toList, hx, hatc, hcps, or_assoc, List.mem_cons,
    List.not_mem_nil, or_false]
  rfl

/-- Whether the matches have been judged, and which channels that says. -/
theorem cycleChannels_ne : (decide (s.ale.link ≠ .up) || callEnded c s x) = true ↔ cycleChannels c s x ≠ [] := by
  simp only [cycleChannels, linkChannels, Bool.or_eq_true, decide_eq_true_eq]
  split_ifs <;> simp_all

/-- What is heard beside what the command itself sets. -/
theorem Hears.asBeside {j k : Bool} {ds : List Nat} {l channels : List Channel} (h : Hears (j || k) ds (l ++ channels) s t)
    (hk : k = true ↔ channels ≠ []) :
    HeardAs (if channels = [] then none else some channels) j (ringAfterFailures s ds) l s t := by
  split_ifs with hnone
  · have hk' : k = false := by simpa [hnone] using hk
    rw [hk', Bool.or_false, hnone, List.append_nil] at h
    exact h.alone
  · rw [hk.mpr hnone, Bool.or_true] at h
    exact h.besides

theorem same_trans (h : p.Same s t) (h' : p.Same t u) : p.Same s u := by
  cases p <;> exact Eq.trans h' h

namespace CycleDone

/-- Work on the queue, the receiver and the pins alone. -/
theorem then_sends (h : CycleDone c s x y t) (hits : ∀ g ∈ y, g.HasItsOrigins) (hk : Keeps [.txq, .ale, .pins] t u)
    (hh : Hears false [] [] t u) : CycleDone c s x y u := by
  refine ⟨fun g hg => (hk .emc (by decide)).trans (h.emc g hg), fun hx => (hk .emc (by decide)).trans (h.idle hx),
    fun ha => by rw [AsksCommit, hk .cps (by decide)]; exact h.asks ha, fun hno => by simpa using (h.quiet hno).trans hh, fun p hp => ?_⟩
  have hmine : p.1.HasItsOrigins := by
    obtain ⟨g, hg, hp⟩ := Option.bind_eq_some_iff.mp hp
    obtain ⟨o, -, rfl⟩ := Option.map_eq_some_iff.mp hp
    exact hits g hg
  refine (h.heard p hp).imp hmine (fun judged ds l hl => by simpa using hl.trans hh) ⟨rfl, hk .mem (by decide)⟩ ⟨rfl, hk .mst (by decide)⟩
    ⟨rfl, hk .mtc (by decide)⟩ (fun ha => by rw [AsksCommit, hk .cps (by decide)]; exact ha)
    fun _ _ _ => ⟨⟨rfl, hk .oft (by decide)⟩, rfl, hk .dsc (by decide)⟩

theorem hits_of_outcome (hits : ∀ g ∈ y, g.HasItsOrigins) {q : Frame × TxOutcome} (hq : q ∈ outcomeHeardAt c s y) :
    q.1.HasItsOrigins := by
  obtain ⟨g, hg, hq⟩ := Option.bind_eq_some_iff.mp hq
  obtain ⟨o, -, rfl⟩ := Option.map_eq_some_iff.mp hq
  exact hits g hg

/-- What is said of the call, and of the origins of the other frame. -/
theorem shows (h : CycleDone c s x y t) (hits : ∀ g ∈ y, g.HasItsOrigins) :
    let beside := if cycleChannels c s x = [] then none else some (cycleChannels c s x)
    (∀ g ∈ x, t.emc = emcAfterCycle c s g) ∧ (callEnded c s x = true → AsksCommit s t) ∧
      (outcomeHeardAt c s y = none → HeardAs beside false s.atc [] s t) ∧
      ∀ o ∈ outcomeHeardAt c s y, OutcomeHeard beside o.1 o.2 s t := by
  intro beside
  refine ⟨h.emc, h.asks, fun hno => ?_, fun o ho => outcomeHeard_iff.mpr ?_⟩
  · have hq : Hears (false || (decide (s.ale.link ≠ .up) || callEnded c s x)) [] ([] ++ cycleChannels c s x) s t := by
      simpa using h.quiet hno
    exact hq.asBeside cycleChannels_ne
  · exact (h.heard o ho).imp (hits_of_outcome hits ho) (fun judged ds l hl => hl.asBeside cycleChannels_ne) ⟨rfl, rfl⟩ ⟨rfl, rfl⟩ ⟨rfl, rfl⟩ id
      fun _ _ _ => ⟨⟨rfl, rfl⟩, rfl, rfl⟩

end CycleDone

/-- What the cycle finds, seen from its arrival. -/
theorem CycleFinds.begun (hb : Begun c r s b) (h : CycleFinds c s x y before after) : CycleFinds c b x y before after := by
  have htxq : b.txq = s.txq := hb.keeps .txq (by decide)
  refine ⟨by rw [htxq]; exact h.frames, by rw [htxq]; exact h.call, h.other, h.sequences, h.distinct, fun g hg hf => ?_⟩
  rw [attemptFate_congr hb.settings]
  exact h.passed g hg hf

/-- The part once a cycle has settled. -/
theorem cycleSettled_stands {ready : Bool} (hgood : addressGood s = true) (hstray : s.txq.stray ≤ 65535) (hdue : NoReportDue s)
    (hr : RandomNext s.ale.rng r) (hq : CycleFinds c s x y before after) :
    let v := cycleSettled c ready s
    v.txq = { s.txq with frames := cycleLeft c s r x y before after, stray := straysAfter c s (cycleHeardCount c s x y) } ∧
      v.ale = cycleAle c s r [] s.ale.sequence ∧ CycleDone c s x y v ∧ Keeps (cycleParts c s x y) s v ∧
      v.pins = { s.pins with modemReady := ready } ∧ SameSettings s v := by
  intro v
  have hb : Begun c r s (cycleBegun c s) := by
    rw [randomNext_eq hr]
    exact cycleBegun_begun hdue
  have hmem : (cycleBegun c s).mem = s.mem := hb.keeps .mem (by decide)
  have hgood' : addressGood (cycleBegun c s) = true := by rw [addressGood_congr hmem, hgood]
  have htxq : (cycleBegun c s).txq = s.txq := hb.keeps .txq (by decide)
  have hemc : (cycleBegun c s).emc = s.emc := hb.keeps .emc (by decide)
  have hclock : (cycleBegun c s).frc.clock = s.frc.clock := by rw [hb.keeps .frc (by decide)]
  have hrng : (cycleBegun c s).ale.rng = r := by rw [hb.ale]
  have hv : v = (takeCycleAcks c.number (ownAcks c (cycleBegun c s)) (cycleBegun c s)).modPins fun p => { p with modemReady := ready } := by
    show cycleSettled c ready s = _
    rw [cycleSettled, if_pos hgood']
  have hmid := takeCycleAcks_mid (hq.begun hb) (by rw [htxq]; exact hstray)
  have hover : callOver c (cycleBegun c s) x true = callEnded c s x := hb.over
  have hout : otherHeard c (cycleBegun c s) y true = outcomeHeardAt c s y := hb.outcome
  have hleft : callLeft c (cycleBegun c s) x true ++ before.map passedOver ++ otherLeft c (cycleBegun c s) y true ++ after.map passedOver =
      cycleLeft c s r x y before after := by
    have hcall : ∀ g, leftOfCall c (cycleBegun c s) r g = leftOfCall c s r g := fun g => leftOfCall_congr hb.settings hemc hclock
    have hother : ∀ g, leftOfOther c (cycleBegun c s) r g = leftOfOther c s r g := fun g =>
      leftOfOther_congr hb.settings fun k _ => by rw [htxq]
    simp only [callLeft, otherLeft, if_true, hrng, cycleLeft, funext hcall, funext hother]
  have hstrays : ∀ n, straysAfter c (cycleBegun c s) n = straysAfter c s n := fun n => by
    rw [straysAfter, straysAfter, htxq, ownAcks_congr hb.settings]
  have hcount : (x.toList ++ y.toList).countP (fun g => attemptFate c (cycleBegun c s) g == .acknowledged) = cycleHeardCount c s x y := by
    simp only [attemptFate_congr hb.settings]
    rfl
  rw [hcount, hstrays] at hmid
  generalize takeCycleAcks c.number (ownAcks c (cycleBegun c s)) (cycleBegun c s) = w at hmid hv
  have hwide := hmid.leaves
  have hdone := hmid.done hb hq.hits
  have hpins : Keeps [.pins] w v := by
    rw [hv]
    exact modPins_keeps _ w
  have hhears : Hears false [] [] w v := by
    rw [hv]
    exact .of_atc rfl rfl rfl (.refl w) ⟨rfl, rfl, rfl, rfl, rfl, rfl, rfl⟩
  refine ⟨?_, ?_, hdone.then_sends hq.hits (hpins.mono (by decide)) hhears, fun p hp => ?_, ?_, ?_⟩
  · rw [show v.txq = w.txq from hpins .txq (by decide), hmid.txq, htxq, hleft]
  · rw [show v.ale = w.ale from hpins .ale (by decide), show w.ale = (cycleBegun c s).ale from hwide .ale (by decide), hb.ale]
    rfl
  · simp only [mem_cycleParts, not_or] at hp
    obtain ⟨⟨hptxq, hpale, hppins⟩, hcall, hatc, hcps, hheard⟩ := hp
    have hmidparts : p ∉ midParts c (cycleBegun c s) x y true true := by
      rw [mem_midParts, hover, hout]
      rintro (h | h | ⟨hended, h | h⟩ | h)
      · exact hptxq h
      · exact hcall h
      · refine hatc ⟨cycleChannels_ne.mp ?_, h⟩
        rw [hended, Bool.or_true]
      · exact hcps ⟨hended, h⟩
      · exact hheard h
    have hbegun : p.Same s (cycleBegun c s) := by
      by_cases hpatc : p = .atc
      · subst hpatc
        have hnone : cycleChannels c s x = [] := by
          by_contra hne
          exact hatc ⟨hne, rfl⟩
        have hlink : s.ale.link = .up := by
          by_contra hne
          exact cycleChannels_ne.mp (by rw [decide_eq_true hne, Bool.true_or]) hnone
        exact hb.still hlink
      · exact hb.keeps p (by simp [hpale, hpatc])
    exact same_trans (same_trans hbegun (hmid.keeps p hmidparts)) (hpins p (by simpa using hppins))
  · rw [hv, show (w.modPins fun p => { p with modemReady := ready }).pins = { w.pins with modemReady := ready } from rfl,
      show w.pins = (cycleBegun c s).pins from hwide .pins (by decide), show (cycleBegun c s).pins = s.pins from hb.keeps .pins (by decide)]
  · exact (hb.settings.trans hmid.settings).trans (.of_mem (hpins .mem (by decide)))

end

end Sys2Proof.Machine
end

section
/-! PROOF. A CYCLE that settles and sends (O48). -/

namespace Sys2Proof.Machine

section
variable {c : Cycle} {s t u v : State} {x y first head : Option Frame} {before after flying rest : List Frame} {r : Word16} {g : Frame}

/-! What the sends read of the state that the settling left. -/

theorem emcAfterCycle_alerting : (emcAfterCycle c s g).state = .alerting ↔ s.emc.state = .alerting := by
  cases hfate : attemptFate c s g with
  | acknowledged =>
    by_cases hends : callEnds c s g = true
    · have hstate : s.emc.state = .cancelling := by
        have hends' := hends
        unfold callEnds at hends'
        simpa using (Bool.and_eq_true_iff.mp hends').2
      simp [emcAfterCycle, hfate, hends, hstate]
    · simp [emcAfterCycle, hfate, hends]
  | spent =>
    simp only [emcAfterCycle, hfate]
    split_ifs <;> rfl
  | unanswered => simp [emcAfterCycle, hfate]
  | failed => simp [emcAfterCycle, hfate]

theorem CycleDone.alerting (h : CycleDone c s x y v) : v.emc.state = .alerting ↔ s.emc.state = .alerting := by
  cases hx : x with
  | none => rw [h.idle hx]
  | some g =>
    rw [h.emc g hx]
    exact emcAfterCycle_alerting

theorem reservedSlot_congr (h : SameSettings s v) : reservedSlot c v = reservedSlot c s := by
  simp only [reservedSlot, cabAddress, h.setting16_eq]

theorem firstSlot_congr (h : SameSettings s v) (halert : v.emc.state = .alerting ↔ s.emc.state = .alerting) :
    firstSlot c v g r = firstSlot c s g r := by
  simp only [firstSlot, reservedSlot_congr h, halert]

theorem otherSlot_congr (h : SameSettings s v) : otherSlot c v g r = otherSlot c s g r := by
  simp only [otherSlot, reservedSlot_congr h]

theorem assigned_congr (h : SameSettings s v) (slot : Option Nat) (q : Nat) : assigned v slot q = assigned s slot q := by
  simp only [assigned, slotLength, h.setting16_eq]

theorem addressGood_settings (h : SameSettings s v) : addressGood v = addressGood s := by
  rw [addressGood, cabAddress, h.setting16_eq]
  rfl

/-- What a cycle does, but for what it hands over. -/
structure CycleStands (c : Cycle) (s : State) (r : Word16) (x y : Option Frame) (left : List Frame) (v : State) : Prop where
  txq : v.txq = { s.txq with frames := left, stray := straysAfter c s (cycleHeardCount c s x y) }
  ale : v.ale = cycleAle c s r [] s.ale.sequence
  done : CycleDone c s x y v
  keeps : Keeps (cycleParts c s x y) s v
  pins : v.pins = { s.pins with modemReady := true }
  settings : SameSettings s v

variable {left : List Frame}

theorem keeps_within {l m : List Part} (h : Keeps l s v) (h' : Keeps m v t) (hm : m ⊆ l) : Keeps l s t :=
  (h.trans h').mono fun _ hp => (List.mem_append.mp hp).elim id fun hp => hm hp

theorem sendParts_subset : [Part.txq, .ale, .pins] ⊆ cycleParts c s x y := fun _ hp => by
  rw [mem_cycleParts]
  left
  simpa using hp

theorem CycleStands.slotFirst_eq (h : CycleStands c s r x y left v) :
    slotFirst c first v = first.bind fun g => firstSlot c s g r := by
  have hrng : v.ale.rng = r := by rw [h.ale]; rfl
  simp only [slotFirst, hrng, firstSlot_congr h.settings h.done.alerting]

theorem CycleStands.slotHead_eq (h : CycleStands c s r x y left v) : slotHead c first head v =
    if headHeldBack left = true ∨ ((first.bind fun g => firstSlot c s g r) ≠ none ∧ c.priority = false) then none
    else head.bind fun g => otherSlot c s g r := by
  have hrng : v.ale.rng = r := by rw [h.ale]; rfl
  have hframes : v.txq.frames = left := by rw [h.txq]
  rw [slotHead, h.slotFirst_eq, hframes, hrng]
  simp only [otherSlot_congr h.settings]

theorem CycleStands.sequenceFirst_eq (h : CycleStands c s r x y left v) :
    sequenceFirst first v = (first.map (sequenceTaken left s.ale.sequence)).getD 0 := by
  have hframes : v.txq.frames = left := by rw [h.txq]
  have hsequence : v.ale.sequence = s.ale.sequence := by rw [h.ale]; rfl
  rw [sequenceFirst, hframes, hsequence]

theorem CycleStands.counterFirst_eq (h : CycleStands c s r x y left v) : counterFirst c first v =
    if (first.bind fun g => firstSlot c s g r) ≠ none ∧ first.bind Frame.sequence = none then
      ((first.map (sequenceTaken left s.ale.sequence)).getD 0 + 1) % 16 else s.ale.sequence := by
  have hsequence : v.ale.sequence = s.ale.sequence := by rw [h.ale]; rfl
  rw [counterFirst, h.slotFirst_eq, h.sequenceFirst_eq, hsequence]

/-! The queue and the receiver after the sends, as O48 says them. -/

theorem CycleStands.sent_txq (h : CycleStands c s r x y left v) (hq : QueueSends first head flying rest left) :
    let slot := first.bind fun g => firstSlot c s g r
    let slot' := if headHeldBack left = true ∨ (slot ≠ none ∧ c.priority = false) then none else head.bind fun g => otherSlot c s g r
    let q := (first.map (sequenceTaken left s.ale.sequence)).getD 0
    let counter := if slot ≠ none ∧ first.bind Frame.sequence = none then (q + 1) % 16 else s.ale.sequence
    let led := first.toList.map (handed c slot q) ++ flying
    let p := (head.map (sequenceTaken (led ++ head.toList ++ rest) counter)).getD 0
    (bothSent c first head flying rest v).txq = { s.txq with
        frames := led ++ head.toList.map (handed c slot' p) ++ rest, stray := straysAfter c s (cycleHeardCount c s x y) } ∧
      (bothSent c first head flying rest v).ale = cycleAle c s r (assigned s slot q ++ assigned s slot' p)
        (if slot' ≠ none ∧ head.bind Frame.sequence = none then (p + 1) % 16 else counter) := by
  intro slot slot' q counter led p
  have hframes : v.txq.frames = left := by rw [h.txq]
  have hq' : QueueSends first head flying rest v.txq.frames := by rwa [hframes]
  have hslot : slotFirst c first v = slot := h.slotFirst_eq
  have hslot' : slotHead c first head v = slot' := h.slotHead_eq
  have hsequence : sequenceFirst first v = q := h.sequenceFirst_eq
  have hcounter : counterFirst c first v = counter := h.counterFirst_eq
  have hled : ledFrames c first flying v = led := by rw [ledFrames, hslot, hsequence]
  have hp : sequenceHead c first head flying rest v = p := by rw [sequenceHead, hled, hcounter]
  rw [bothSent_txq hq', bothSent_ale hq', hslot, hslot', hsequence, hcounter, hled, hp, h.txq, h.ale, assigned_congr h.settings,
    assigned_congr h.settings]
  exact ⟨rfl, rfl⟩

/-! The end of the command. -/

theorem headSent_plain {l : List Frame} {slot : Option Nat} {w : State}
    (h : slot = none ∨ ∀ g ∈ head, g.kind ≠ .bid ∨ g.sequence ≠ none) : headSent c slot head l rest w =
      head.elim w fun g => sentOut c slot g l rest w := by
  cases hhead : head with
  | none => rfl
  | some g =>
    refine if_neg fun ⟨hslot, hfirst, hkind⟩ => ?_
    rcases h with h | h
    · exact hslot h
    · exact (h g hhead).elim (fun h => h hkind) fun h => h hfirst

/-- What the command leaves where it hands over no bid for the first time. -/
theorem CycleStands.plain (h : CycleStands c s r x y left v) (hits : ∀ g ∈ y, g.HasItsOrigins) :
    let t := driveLines (bothSent c first head flying rest v)
    CycleDone c s x y t ∧ Keeps (cycleParts c s x y) s t ∧ PinsAre s.pins.key s.pins.txd true s t := by
  intro t
  let u := bothSent c first head flying rest v
  have hu : Keeps [.txq, .ale] v u := bothSent_keeps
  have hk : Keeps [.txq, .ale, .pins] v t := (hu.trans (driveLines_keeps _)).mono (by decide)
  refine ⟨h.done.then_sends hits hk (bothSent_hears.trans (driveLines_hears _)), keeps_within h.keeps hk sendParts_subset,
    driveLines_pinsAre ?_⟩
  rw [hu .pins (by decide), h.pins]

/-- What the command leaves where it hands over a bid for the first time. -/
theorem CycleStands.bid {e : Fin 8} {n : Nat} (h : CycleStands c s r x y left v) (hits : ∀ g ∈ y, g.HasItsOrigins)
    (horigins : g.origins = [{ origin := .offer e n, detached := false }]) (hstate : (s.oft.entries.get e).state = .bidQueued)
    (hnumber : (s.oft.entries.get e).number = n)
    (hother : ∀ o ∈ outcomeHeardAt c s y, o.1.kind = .bid → ∀ l ∈ o.1.origins, ∀ m, l.origin ≠ .offer e m) :
    let u := bothSent c first head flying rest v
    let t := driveLines (reportFirstTransmission g u)
    (t.txq = u.txq ∧ t.ale = u.ale ∧ t.emc = v.emc ∧ t.cps = v.cps) ∧
      (outcomeHeardAt c s y = none → HeardAs (some (cycleChannels c s x)) false s.atc [] (bidSent e s) t) ∧
      (∀ o ∈ outcomeHeardAt c s y, OutcomeHeard (some (cycleChannels c s x)) o.1 o.2 (bidSent e s) t) ∧
      Keeps (.atc :: cycleParts c s x y) (bidSent e s) t ∧ PinsAre s.pins.key s.pins.txd true s t := by
  intro u t
  have hu : Keeps [.txq, .ale] v u := bothSent_keeps
  have hsettings : SameSettings s u := h.settings.trans (.of_mem (hu .mem (by decide)))
  have hdone := h.done.then_sends hits (hu.mono (by decide)) bothSent_hears
  have hkeeps : Keeps (cycleParts c s x y) s u := keeps_within h.keeps hu fun p hp => sendParts_subset (by
    rcases List.mem_cons.mp hp with rfl | hp
    · decide
    · rw [List.mem_singleton.mp hp]
      decide)
  have hkept : (u.oft.entries.get e).state = (s.oft.entries.get e).state ∧ (u.oft.entries.get e).number = (s.oft.entries.get e).number := by
    by_cases hno : outcomeHeardAt c s y = none
    · have hoft : u.oft = s.oft := hkeeps .oft fun hin => by
        rcases mem_cycleParts.mp hin with h | h | h | h | ⟨o, ho, -⟩ <;> simp_all
      rw [hoft]
      exact ⟨rfl, rfl⟩
    · obtain ⟨o, ho⟩ := Option.ne_none_iff_exists'.mp hno
      refine (hdone.heard o ho).keeps_bid (CycleDone.hits_of_outcome hits ho) (hother o ho) fun hin => hkeeps .oft fun hin' => ?_
      rcases mem_cycleParts.mp hin' with h | h | h | h | ⟨o', ho', h⟩
      · simp at h
      · simp at h
      · simp at h
      · simp at h
      · rw [show outcomeHeardAt c s y = some o' from ho'] at ho
        obtain rfl := Option.some.inj ho
        exact hin h
  have hwait : awardWait u = clamp 5 120 (setting s 0x0A) := by rw [awardWait, hsettings.setting_eq]
  have ht : t = driveLines (updateOffer e (entrySent (clamp 5 120 (setting s 0x0A))) u) := by
    show driveLines (reportFirstTransmission g u) = _
    rw [reportFirstTransmission_bid horigins (hkept.1.trans hstate) (hkept.2.trans hnumber), hwait]
  have hlast : Keeps [.oft, .atc, .pins] u t := by
    rw [ht]
    exact ((updateOffer_keeps e _ u).trans (driveLines_keeps _)).mono (by decide)
  have hoft : t.oft = tableSent e (clamp 5 120 (setting s 0x0A)) u.oft := by
    rw [ht]
    exact updateOffer_sent e _ u
  have hhears : Hears true [] [] u t := by
    rw [ht]
    exact (updateOffer_hears e _ u).trans (driveLines_hears _)
  have hfrom : ∀ {ds l}, Hears true ds l s t → Hears true ds l (bidSent e s) t := fun hl =>
    ⟨hl.attends.rebase (s' := bidSent e s) rfl rfl (.refl s), hl.clock, fun _ => hl.now (.inl rfl), fun hno => Bool.noConfusion hno⟩
  refine ⟨⟨hlast .txq (by decide), hlast .ale (by decide), (hlast .emc (by decide)).trans (hu .emc (by decide)),
    (hlast .cps (by decide)).trans (hu .cps (by decide))⟩, fun hno => ?_, fun o ho => outcomeHeard_iff.mpr ?_, fun p hp => ?_, ?_⟩
  · have hall := (hdone.quiet hno).trans hhears
    simp only [Bool.or_true, List.append_nil] at hall
    exact (hfrom hall).besides (l := cycleChannels c s x) (cs := []) (j := false)
  · have hmine := CycleDone.hits_of_outcome hits ho
    refine ((hdone.heard o ho).imp (att' := fun judged ds l =>
      HeardAs (some (cycleChannels c s x)) judged (ringAfterFailures s ds) l (bidSent e s) t) hmine (fun judged ds l hl => ?_)
      ⟨rfl, rfl⟩ ⟨rfl, rfl⟩ ⟨rfl, rfl⟩ id fun _ _ _ => ⟨⟨rfl, rfl⟩, rfl, rfl⟩).bidSent hmine hstate (hother o ho) hoft hlast
    have hall := hl.trans hhears
    simp only [Bool.or_true, List.append_nil] at hall
    exact (hfrom hall).besides
  · obtain ⟨hpatc, hp⟩ : p ≠ .atc ∧ p ∉ cycleParts c s x y := by simpa using hp
    have hpins : p ≠ .pins := fun h => hp (sendParts_subset (by simp [h]))
    by_cases hpoft : p = .oft
    · subst hpoft
      have hsame : u.oft = s.oft := hkeeps .oft hp
      show t.oft = tableSent e (clamp 5 120 (setting s 0x0A)) s.oft
      rw [hoft, hsame]
    · have hfirst : p.Same (bidSent e s) u := by
        have hsame := hkeeps p hp
        cases p <;> first | exact hsame | exact absurd rfl hpoft
      exact same_trans hfirst (hlast p (by simp [hpoft, hpatc, hpins]))
  · rw [ht]
    refine driveLines_pinsAre ?_
    rw [updateOffer_keeps e _ u .pins (by decide), hu .pins (by decide), h.pins]

/-- The work of a cycle that hands over slots. -/
theorem CycleStands.work (h : CycleStands c s r x y left (cycleSettled c true s)) (hgood : addressGood s = true)
    (hq : QueueSends first head flying rest left) : takeCycle c true (resumeHunting s) =
      headSent c (slotHead c first head (cycleSettled c true s)) head (ledFrames c first flying (cycleSettled c true s)) rest
        (firstSent c first head flying rest (cycleSettled c true s)) := by
  have hframes : (cycleSettled c true s).txq.frames = left := by rw [h.txq]
  rw [takeCycle_settled, if_pos rfl, if_pos (by rw [addressGood_settings h.settings, hgood]), offerSlots_eq (by rwa [hframes])]

end

/-- A cycle while the cab address is bad: the queue stands still (R131, R151). -/
theorem cycle_badAddress {s : State} {f : RxFrame} {how : Addressing} (hf : Accepted 0x01 f how s) (hlink : s.ale.link = .up)
    (hbad : addressGood s = false) (ready : Bool) : Completes (.cycleFrame f ready) s fun t =>
      CycleTaken (parseCycle f.body) s t ∧ PinsAre s.pins.key s.pins.txd ready s t ∧ (ready = true → t.atc = s.atc) ∧
      (ready = false → Records .modemNotReady 0 [] s t) ∧ Keeps [.ale, .atc, .pins] s t := by
  let c := parseCycle f.body
  let u := watched (resumeHunting s)
  have hu : Keeps [.ale] s u :=
    ((resumeHunting_keeps s).trans ((modAle_keeps (fun a => { a with rng := stepRng a.rng }) _).trans (modAle_keeps _ _))).mono
      (by decide)
  have hup : linkChange .up u = u := if_pos hlink
  have hale : u.ale = { u.ale with link := .up } := by
    rw [← hlink]
    rfl
  have hbad' : ¬addressGood u = true := by
    rw [addressGood_congr (hu .mem (by decide)), hbad]
    decide
  have hsettled : cycleSettled c ready s = cycleCounted c ready u := by
    have hbegun : cycleBegun c s = cycleMarked c u := congrArg (cycleMarked c) hup
    rw [cycleSettled, hbegun, cycleCounted, if_neg hbad']
    exact congrArg (fun w : State => w.modPins fun p => { p with modemReady := ready }) (if_neg hbad')
  have hstrays : straysHeard c s = s.txq.stray := if_neg (by rw [hbad]; decide)
  have hqueue : ∀ t, CycleHeard c ready s t → Keeps [.ale, .atc, .pins] s t := fun t ⟨_, _, htxq, hk⟩ p hp => by
    by_cases hpt : p = .txq
    · subst hpt
      exact htxq.trans (by rw [hstrays])
    · exact hk p (by simp_all)
  cases ready with
  | true =>
    have hbad'' : ¬addressGood (cycleCounted c true u) = true := by
      have hk : Keeps [.ale, .txq, .pins] u (cycleCounted c true u) := cycleCounted_keeps
      rwa [addressGood_congr (hk .mem (by decide))]
    have hwork : takeCycle c true (resumeHunting s) = cycleCounted c true u := by
      rw [takeCycle_settled, hsettled, if_pos rfl, if_neg hbad'']
    have hmine : Keeps [.ale, .txq, .pins] u (cycleCounted c true u) := cycleCounted_keeps
    have hheard := cycleCounted_heard (c := c) (ready := true) (hu.mono (by decide)) hale
    refine completes_cycle hf hwork ⟨hheard.1, hheard.2.1, fun _ => ?_, fun h => Bool.noConfusion h, hqueue _ hheard⟩
    exact (hu.trans hmine) .atc (by decide)
  | false =>
    have hwork : takeCycle c false (resumeHunting s) = recordFault .modemNotReady 0 (cycleCounted c false u) := by
      rw [takeCycle_settled, hsettled, if_neg Bool.false_ne_true]
    obtain ⟨hheard, hrecords⟩ := cycleCounted_recorded (c := c) (ready := false) hu hale
    exact completes_cycle hf hwork ⟨hheard.1, hheard.2.1, fun h => Bool.noConfusion h, fun _ => hrecords, hqueue _ hheard⟩

/-- Settles O48: the settling is followed entry by entry and window by window from the state that the cycle marks, the two sends
follow it, and what the origins have heard is carried to the end of the command. -/
theorem cycleSendsAndSettles : Obligations.CycleSendsAndSettles := by
  refine ⟨fun s f how hf hlink hbad ready => cycle_badAddress hf hlink hbad ready, ?_⟩
  intro s f how hf hgood hstray hdue c x y before after r hframes hr hcall hother hsequences hdistinct hpassed
    left ended outcome heard channels beside parts effect
  have hfinds : CycleFinds c s x y before after := ⟨hframes, hcall, hother, hsequences, hdistinct, hpassed⟩
  have hstands := fun ready => cycleSettled_stands (ready := ready) hgood hstray hdue hr hfinds
  have hhits := hfinds.hits
  refine ⟨?_, ?_⟩
  · obtain ⟨htxq, hale, hdone, hkeeps, hpins, -⟩ := hstands false
    have hwork : takeCycle c false (resumeHunting s) = recordFault .modemNotReady 0 (cycleSettled c false s) := by
      rw [takeCycle_settled, if_neg Bool.false_ne_true]
    refine completes_cycle hf hwork ?_
    generalize cycleSettled c false s = v at *
    have hrecord : Keeps [.atc] v (recordFault .modemNotReady 0 v) := keeps_of_atc (recordFault_eq ..)
    have hrecords := recordFault_records .modemNotReady 0 v
    obtain ⟨hemc, hasks, hquiet, houtcome⟩ := hdone.shows hhits
    refine ⟨⟨v, ⟨htxq, hale, hemc, hasks, hquiet, houtcome⟩, hkeeps, ?_, (hrecord.trans (driveLines_keeps _)).mono (by decide)⟩,
      driveLines_pinsAre ?_⟩
    · exact Sets.rebase (t' := driveLines (recordFault .modemNotReady 0 v)) hrecords rfl rfl (.refl v)
    · rw [hrecord .pins (by decide), hpins]
  · intro first head flying rest hleft hfirst hhead hflying hrest hends slot slot' q counter led p sends
    obtain ⟨htxq, hale, hdone, hkeeps, hpins, hsettings⟩ := hstands true
    have hcycle : CycleStands c s r x y left (cycleSettled c true s) := ⟨htxq, hale, hdone, hkeeps, hpins, hsettings⟩
    have hqueue : QueueSends first head flying rest left := ⟨hleft, hfirst, hhead, hflying, hrest, hends⟩
    have hwork := hcycle.work hgood hqueue
    have hslot' : slotHead c first head (cycleSettled c true s) = slot' := hcycle.slotHead_eq
    obtain ⟨hsent, hsentAle⟩ := hcycle.sent_txq hqueue
    refine ⟨fun hplain => ?_, fun g e n hslot hg hkind hnew horigins hstate hnumber hothers => ?_⟩
    · have hboth : takeCycle c true (resumeHunting s) = bothSent c first head flying rest (cycleSettled c true s) :=
        hwork.trans (headSent_plain (by rw [hslot']; exact hplain))
      obtain ⟨hdone', hkeeps', hpins'⟩ := hcycle.plain (first := first) (head := head) (flying := flying) (rest := rest) hhits
      obtain ⟨hemc, hasks, hquiet, houtcome⟩ := hdone'.shows hhits
      exact completes_cycle hf hboth ⟨⟨⟨hsent, hsentAle, hemc, hasks, hquiet, houtcome⟩, hpins'⟩, hkeeps'⟩
    · have hboth : takeCycle c true (resumeHunting s) =
          reportFirstTransmission g (bothSent c first head flying rest (cycleSettled c true s)) := by
        rw [hwork, headSent, bothSent, hg, Option.elim_some, Option.elim_some]
        exact if_pos ⟨by rw [← hg, hslot']; exact hslot, hnew, hkind⟩
      obtain ⟨⟨hlastTxq, hlastAle, hlastEmc, hlastCps⟩, hquiet, houtcome, hkeeps', hpins'⟩ :=
        hcycle.bid (first := first) (head := head) (flying := flying) (rest := rest) hhits horigins hstate hnumber hothers
      refine completes_cycle hf hboth ⟨⟨⟨hlastTxq.trans hsent, hlastAle.trans hsentAle, fun g hg => hlastEmc.trans (hdone.emc g hg),
        fun ha => ?_, hquiet, houtcome⟩, hpins'⟩, hkeeps'⟩
      rw [AsksCommit, hlastCps]
      exact hdone.asks ha

end Sys2Proof.Machine
end
